-- ==== Sys2Proof/Word.lean ====
section
/-!
DEFINITION. The word types of the module: 32-bit registers and words (R4, R87), bytes, and the widths the manual uses beside them.
-/
namespace Sys2Proof

/-- A 32-bit register or word (R4). -/
abbrev Word := BitVec 32

/-- A byte of a frame, a record, a flash or a scan-local area. -/
abbrev Byte := BitVec 8

/-- A 64-bit value: a digest, a double register. -/
abbrev DWord := BitVec 64

/-- The content of one image element: a bit, a word or a 16-byte timer cell (R177), zero-extended. -/
abbrev CellV := BitVec 128

end Sys2Proof
end

