-- ==== Sys2Proof/Syntax.lean ====
section
/-!
DEFINITION. The commands of the block: one constructor per row of the table of operations and events, with the row's operands.
`t` is the instant of the time base, in TAI nanoseconds, at which the command comes (R386). An engine instruction carries
its engine, its guard and the fields of its format (R114) and takes the engine's next slot.
-/
namespace Sys2Proof

/-- The guard of an instruction (R106): the negate bit [31] and the guard predicate [30:27]. -/
structure Guard where
  neg : Bool
  p : Fin 16
  deriving DecidableEq, Repr

/-- Format A (R114): d, a, b and the variant x. -/
structure FmtA where
  d : Fin 64
  a : Fin 64
  b : Fin 64
  x : Fin 4
  deriving DecidableEq, Repr

/-- Format B: d, a and imm8. -/
structure FmtB where
  d : Fin 64
  a : Fin 64
  imm : BitVec 8
  deriving DecidableEq, Repr

/-- Format C: s and the target PC. -/
structure FmtC where
  s : Fin 64
  target : BitVec 14
  deriving DecidableEq, Repr

/-- Format D: r, a and off8. -/
structure FmtD where
  r : Fin 64
  a : Fin 64
  off : BitVec 8
  deriving DecidableEq, Repr

/-- Format E: the destination predicate pd, the fields a and b, and the field c. -/
structure FmtE where
  pd : Fin 16
  a : Fin 64
  b : Fin 64
  c : Fin 16
  deriving DecidableEq, Repr

/-- Format F: d and imm14. -/
structure FmtF where
  d : Fin 64
  imm : BitVec 14
  deriving DecidableEq, Repr


/-- A frame received on a lane of the partner link (R266, R267), without its type: LEN is the length of its payload, and `crc` its last four bytes. -/
structure LinkRx where
  lane : Fin 2
  flags : BitVec 8
  fseq : BitVec 32
  epoch : BitVec 32
  payload : List Byte
  crc : BitVec 32
  deriving DecidableEq, Repr


/-- A frame received on a bay bus (R325, R328): identifier, payload, and the start of frame its receive buffer captures (R353). -/
structure CanFrame where
  id : BitVec 11
  data : List Byte
  sof : Nat
  deriving DecidableEq, Repr


/-- The head of a frame received on a station port: the port, the source MAC, a valid redundancy trailer with its sequence number
and LAN (0 A, 1 B) where there is one (R367), and the stamp of its start of frame. -/
structure PortHead where
  port : Fin 2
  mac : BitVec 48
  rct : Option (BitVec 16 × Fin 2)
  sof : Nat
  deriving DecidableEq, Repr

/-- A PTP Announce (R369, R372): domain, source port identity, the grandmaster's data, stepsRemoved, logAnnounceInterval and the
UTC data. `ok` tells that the message is well formed and of version 2. -/
structure AnnounceMsg where
  ok : Bool
  domain : BitVec 8
  src : Nat
  prio1 : Nat
  cls : Nat
  acc : Nat
  var : Nat
  prio2 : Nat
  gm : BitVec 64
  steps : Nat
  logInterval : Int
  utc : Int
  utcValid : Bool
  leap61 : Bool
  leap59 : Bool
  deriving DecidableEq, Repr

/-- A PTP Sync or Follow_Up: domain, source port identity, sequence number, origin time and correction in nanoseconds, the
two-step flag and logSyncInterval. -/
structure SyncMsg where
  ok : Bool
  domain : BitVec 8
  src : Nat
  seq : BitVec 16
  twoStep : Bool
  origin : Nat
  corr : Int
  logInterval : Int
  deriving DecidableEq, Repr

/-- A peer delay message: sequence number, whether its requesting port identity is this port's, the time it carries, its
correction and the two-step flag. -/
structure PdelayMsg where
  ok : Bool
  domain : BitVec 8
  seq : BitVec 16
  own : Bool
  time : Nat
  corr : Int
  twoStep : Bool
  deriving DecidableEq, Repr

/-- A leaf of a GOOSE dataset (R374). -/
inductive GLeaf where
  | bool (b : Bool)
  | dbpos (v : BitVec 2)
  | int8 (v : BitVec 8)
  | int16 (v : BitVec 16)
  | int32 (v : BitVec 32)
  | uint32 (v : BitVec 32)
  | float32 (v : BitVec 32)
  | quality (v : BitVec 13)
  | utcTime
  | other
  deriving DecidableEq, Repr

/-- A GOOSE frame (R373–R378) with its dataset flattened; `ok` tells that its BER is correct and within the frame. -/
structure GooseMsg where
  ok : Bool
  dst : BitVec 48
  appid : BitVec 16
  gocbRef : List Byte
  datSet : List Byte
  tal : Nat
  stNum : BitVec 32
  sqNum : BitVec 32
  sim : Bool
  test : Bool
  confRev : Nat
  ndsCom : Bool
  leaves : List GLeaf
  deriving DecidableEq, Repr


/-- An IRIG-B frame as decoded (R397): marker sequence, parity of the extension, BCD seconds, minutes, hours and day of year, the year
of BCD_YEAR where the format has it, and the IEEE C37.118.1 control functions: year, leap second pending and its sign, daylight
saving pending and in force, local time offset in half-hours ahead of UTC, time quality. -/
structure IrigFrame where
  marks : Bool
  parity : Bool
  sec : Nat
  min : Nat
  hour : Nat
  day : Nat
  bcdYear : Option Nat
  extYear : Nat
  leapPending : Bool
  leapDelete : Bool
  dstPending : Bool
  dst : Bool
  local30 : Int
  qcode : Fin 16
  deriving DecidableEq, Repr


/-- What reading a key that answers finds (R469, R473): SFDP parameters that do not meet R469; parameters that do; or such, but a first header record, where
the key has none, does not verify. -/
inductive KeyRead where
  | unfit
  | fit
  | noHeader
  deriving DecidableEq, Repr

/-- A service message (R538): the port that received it, none for the maintenance UART; its sender, to which the answer goes (source
address and port of a datagram); and its bytes: those of the datagram, or those between the delimiters of the UART frame (R539). -/
structure SvcMsg where
  port : Option PortHead
  src : Nat
  bytes : List (BitVec 8)
  deriving DecidableEq, Repr

/-- The commands of the block, in the order of the table. -/
inductive Instr where
  /-- VSUP_START (R563) -/
  | vsupStart (t : Nat)
  /-- MODULE_RESET (R592) -/
  | moduleReset (t : Nat) (sideB : Bool) (fwOk : Bool)
  /-- LOADER_SECTOR (R489) -/
  | loaderSector (t : Nat) (ok : Bool)
  /-- CONFIG_LOAD (R478) -/
  | configLoad (t : Nat) (present : Bool) (sfdpOk : KeyRead) (jedec : BitVec 24)
  /-- TIME_SOURCE_WAIT_END (R394) -/
  | timeSourceWaitEnd (t : Nat)
  /-- HOLDUP_OK_REACHED (R562) -/
  | holdupOkReached (t : Nat)
  /-- POWER_FAIL_WARNING (R564) -/
  | powerFailWarning (t : Nat)
  /-- RIDE_THROUGH (R565) -/
  | rideThrough (t : Nat)
  /-- SAVE_ENTRY (R568) -/
  | saveEntry (t : Nat)
  /-- SAVE_COMPLETE (R569) -/
  | saveComplete (t : Nat) (vsup : Bool)
  /-- QUAD_POWER_UP_REQUEST (R24) -/
  | quadPowerUpRequest (t : Nat) (k : Fin 32)
  /-- QUAD_POWER_UP (R11) -/
  | quadPowerUp (t : Nat) (q : Fin 4)
  /-- QUAD_POWER_DOWN (R560) -/
  | quadPowerDown (t : Nat) (q : Fin 4)
  /-- SNAPSHOT_LEAD (R24) -/
  | snapshotLead (t : Nat) (k : Fin 32)
  /-- BOUNDARY (R48) -/
  | boundary (t : Nat) (k : Fin 32)
  /-- SEGMENT_START (R21) -/
  | segmentStart (t : Nat) (e : Fin 16)
  /-- HALT_INSTANT (R104) -/
  | haltInstant (t : Nat) (e : Fin 16)
  /-- APPLICATION_START (R39) -/
  | applicationStart (t : Nat)
  /-- APPLICATION_COMPLETE (R36) -/
  | applicationComplete (t : Nat)
  /-- TIMER_EXPIRY (R199) -/
  | timerExpiry (t : Nat)
  /-- HELD_CHANGE_RELEASE (R31) -/
  | heldChangeRelease (t : Nat)
  /-- ENGINE_FAULT (R123) -/
  | engineFault (t : Nat) (e : Fin 16) (code : Fin 64) (pc : BitVec 14)
  /-- NOP (R131) -/
  | nop (e : Fin 16) (gd : Guard) (f : FmtA)
  /-- ADD (R131) -/
  | add (e : Fin 16) (gd : Guard) (f : FmtA)
  /-- SUB (R131) -/
  | sub (e : Fin 16) (gd : Guard) (f : FmtA)
  /-- ADDI (R131) -/
  | addi (e : Fin 16) (gd : Guard) (f : FmtB)
  /-- MUL (R131) -/
  | mul (e : Fin 16) (gd : Guard) (f : FmtA)
  /-- MULH (R131) -/
  | mulh (e : Fin 16) (gd : Guard) (f : FmtA)
  /-- DIV (R132) -/
  | div (e : Fin 16) (gd : Guard) (f : FmtA)
  /-- REM (R132) -/
  | rem (e : Fin 16) (gd : Guard) (f : FmtA)
  /-- MOVI (R131) -/
  | movi (e : Fin 16) (gd : Guard) (f : FmtF)
  /-- MOVHI (R131) -/
  | movhi (e : Fin 16) (gd : Guard) (f : FmtF)
  /-- INSM (R131) -/
  | insm (e : Fin 16) (gd : Guard) (f : FmtF)
  /-- ORI (R131) -/
  | ori (e : Fin 16) (gd : Guard) (f : FmtB)
  /-- SHL (R131) -/
  | shl (e : Fin 16) (gd : Guard) (f : FmtA)
  /-- SHR (R131) -/
  | shr (e : Fin 16) (gd : Guard) (f : FmtA)
  /-- SRA (R131) -/
  | sra (e : Fin 16) (gd : Guard) (f : FmtA)
  /-- SHLI (R131) -/
  | shli (e : Fin 16) (gd : Guard) (f : FmtB)
  /-- SHRI (R131) -/
  | shri (e : Fin 16) (gd : Guard) (f : FmtB)
  /-- SRAI (R131) -/
  | srai (e : Fin 16) (gd : Guard) (f : FmtB)
  /-- POPC (R131) -/
  | popc (e : Fin 16) (gd : Guard) (f : FmtA)
  /-- EXT (R131) -/
  | ext (e : Fin 16) (gd : Guard) (f : FmtA)
  /-- AND (R134) -/
  | and (e : Fin 16) (gd : Guard) (f : FmtA)
  /-- OR (R134) -/
  | or (e : Fin 16) (gd : Guard) (f : FmtA)
  /-- XOR (R134) -/
  | xor (e : Fin 16) (gd : Guard) (f : FmtA)
  /-- ANDN (R134) -/
  | andn (e : Fin 16) (gd : Guard) (f : FmtA)
  /-- NOR (R134) -/
  | nor (e : Fin 16) (gd : Guard) (f : FmtA)
  /-- XNOR (R134) -/
  | xnor (e : Fin 16) (gd : Guard) (f : FmtA)
  /-- LMUX (R134) -/
  | lmux (e : Fin 16) (gd : Guard) (f : FmtA)
  /-- PSPR (R134) -/
  | pspr (e : Fin 16) (gd : Guard) (f : FmtA)
  /-- CMPEQ (R135) -/
  | cmpeq (e : Fin 16) (gd : Guard) (f : FmtE)
  /-- CMPNE (R135) -/
  | cmpne (e : Fin 16) (gd : Guard) (f : FmtE)
  /-- CMPLT (R135) -/
  | cmplt (e : Fin 16) (gd : Guard) (f : FmtE)
  /-- CMPLTU (R135) -/
  | cmpltu (e : Fin 16) (gd : Guard) (f : FmtE)
  /-- CMPLE (R135) -/
  | cmple (e : Fin 16) (gd : Guard) (f : FmtE)
  /-- CMPLEU (R135) -/
  | cmpleu (e : Fin 16) (gd : Guard) (f : FmtE)
  /-- CMPEQI (R135) -/
  | cmpeqi (e : Fin 16) (gd : Guard) (f : FmtE)
  /-- CMPLTI (R135) -/
  | cmplti (e : Fin 16) (gd : Guard) (f : FmtE)
  /-- TSTB (R135) -/
  | tstb (e : Fin 16) (gd : Guard) (f : FmtE)
  /-- ANY (R135) -/
  | any (e : Fin 16) (gd : Guard) (f : FmtE)
  /-- ALL (R135) -/
  | all (e : Fin 16) (gd : Guard) (f : FmtE)
  /-- PAND (R135) -/
  | pand (e : Fin 16) (gd : Guard) (f : FmtE)
  /-- POR (R135) -/
  | por (e : Fin 16) (gd : Guard) (f : FmtE)
  /-- PXOR (R135) -/
  | pxor (e : Fin 16) (gd : Guard) (f : FmtE)
  /-- PANDN (R135) -/
  | pandn (e : Fin 16) (gd : Guard) (f : FmtE)
  /-- PNOR (R135) -/
  | pnor (e : Fin 16) (gd : Guard) (f : FmtE)
  /-- LDB (R137) -/
  | ldb (e : Fin 16) (gd : Guard) (f : FmtD)
  /-- LDBS (R137) -/
  | ldbs (e : Fin 16) (gd : Guard) (f : FmtD)
  /-- LDH (R137) -/
  | ldh (e : Fin 16) (gd : Guard) (f : FmtD)
  /-- LDHS (R137) -/
  | ldhs (e : Fin 16) (gd : Guard) (f : FmtD)
  /-- LDW (R137) -/
  | ldw (e : Fin 16) (gd : Guard) (f : FmtD)
  /-- STB (R137) -/
  | stb (e : Fin 16) (gd : Guard) (f : FmtD)
  /-- STH (R137) -/
  | sth (e : Fin 16) (gd : Guard) (f : FmtD)
  /-- STW (R137) -/
  | stw (e : Fin 16) (gd : Guard) (f : FmtD)
  /-- LIB (R138) -/
  | lib (e : Fin 16) (gd : Guard) (f : FmtD)
  /-- LQB (R138) -/
  | lqb (e : Fin 16) (gd : Guard) (f : FmtD)
  /-- LMB (R138) -/
  | lmb (e : Fin 16) (gd : Guard) (f : FmtD)
  /-- LIW (R138) -/
  | liw (e : Fin 16) (gd : Guard) (f : FmtD)
  /-- LQW (R138) -/
  | lqw (e : Fin 16) (gd : Guard) (f : FmtD)
  /-- LMW (R138) -/
  | lmw (e : Fin 16) (gd : Guard) (f : FmtD)
  /-- LDQ (R138) -/
  | ldq (e : Fin 16) (gd : Guard) (f : FmtD)
  /-- LWW (R138) -/
  | lww (e : Fin 16) (gd : Guard) (f : FmtD)
  /-- SQB (R138) -/
  | sqb (e : Fin 16) (gd : Guard) (f : FmtD)
  /-- SMB (R138) -/
  | smb (e : Fin 16) (gd : Guard) (f : FmtD)
  /-- SQW (R138) -/
  | sqw (e : Fin 16) (gd : Guard) (f : FmtD)
  /-- SMW (R138) -/
  | smw (e : Fin 16) (gd : Guard) (f : FmtD)
  /-- SWW (R138) -/
  | sww (e : Fin 16) (gd : Guard) (f : FmtD)
  /-- BGTH (R119) -/
  | bgth (e : Fin 16) (gd : Guard) (f : FmtD)
  /-- BGTHQ (R120) -/
  | bgthq (e : Fin 16) (gd : Guard) (f : FmtD)
  /-- BSCT (R121) -/
  | bsct (e : Fin 16) (gd : Guard) (f : FmtD)
  /-- TON (R146) -/
  | ton (e : Fin 16) (gd : Guard) (f : FmtD)
  /-- TOF (R146) -/
  | tof (e : Fin 16) (gd : Guard) (f : FmtD)
  /-- TP (R146) -/
  | tp (e : Fin 16) (gd : Guard) (f : FmtD)
  /-- TPX (R146) -/
  | tpx (e : Fin 16) (gd : Guard) (f : FmtD)
  /-- TONR (R146) -/
  | tonr (e : Fin 16) (gd : Guard) (f : FmtD)
  /-- TRST (R150) -/
  | trst (e : Fin 16) (gd : Guard) (f : FmtD)
  /-- TPRE (R150) -/
  | tpre (e : Fin 16) (gd : Guard) (f : FmtD)
  /-- TRD (R150) -/
  | trd (e : Fin 16) (gd : Guard) (f : FmtD)
  /-- CTU (R151) -/
  | ctu (e : Fin 16) (gd : Guard) (f : FmtD)
  /-- CTD (R151) -/
  | ctd (e : Fin 16) (gd : Guard) (f : FmtD)
  /-- CTUD (R151) -/
  | ctud (e : Fin 16) (gd : Guard) (f : FmtD)
  /-- CCHN (R152) -/
  | cchn (e : Fin 16) (gd : Guard) (f : FmtD)
  /-- CLDC (R151) -/
  | cldc (e : Fin 16) (gd : Guard) (f : FmtD)
  /-- EDR (R151) -/
  | edr (e : Fin 16) (gd : Guard) (f : FmtD)
  /-- EDF (R151) -/
  | edf (e : Fin 16) (gd : Guard) (f : FmtD)
  /-- EDB (R151) -/
  | edb (e : Fin 16) (gd : Guard) (f : FmtD)
  /-- BR (R153) -/
  | br (e : Fin 16) (gd : Guard) (f : FmtC)
  /-- CALL (R153) -/
  | call (e : Fin 16) (gd : Guard) (f : FmtC)
  /-- RET (R153) -/
  | ret (e : Fin 16) (gd : Guard) (f : FmtC)
  /-- LPB (R153) -/
  | lpb (e : Fin 16) (gd : Guard) (f : FmtC)
  /-- MTLK (R153) -/
  | mtlk (e : Fin 16) (gd : Guard) (f : FmtC)
  /-- MTLP (R153) -/
  | mtlp (e : Fin 16) (gd : Guard) (f : FmtC)
  /-- MFS (R153) -/
  | mfs (e : Fin 16) (gd : Guard) (f : FmtA)
  /-- HALT (R104) -/
  | halt (e : Fin 16) (gd : Guard) (f : FmtA)
  /-- WDCK (R155) -/
  | wdck (e : Fin 16) (gd : Guard) (f : FmtA)
  /-- MVRQ (R156) -/
  | mvrq (e : Fin 16) (gd : Guard) (f : FmtF)
  /-- SRD (R157) -/
  | srd (e : Fin 16) (gd : Guard) (f : FmtF)
  /-- SWR_PERFCTL (R158) -/
  | swrPerfctl (e : Fin 16) (gd : Guard) (f : FmtF)
  /-- SWR_SCANMAX (R158) -/
  | swrScanmax (e : Fin 16) (gd : Guard) (d : Fin 64)
  /-- SWR_RESPMAX (R158) -/
  | swrRespmax (e : Fin 16) (gd : Guard) (d : Fin 64)
  /-- CUSTOM_INSTRUCTION (R160) -/
  | customInstruction (e : Fin 16) (gd : Guard) (n : Fin 16) (w : BitVec 20)
  /-- RESERVED_OPCODE (R160) -/
  | reservedOpcode (e : Fin 16) (gd : Guard) (w : BitVec 27)
  /-- DI_TRANSITION_ACCEPTED (R210) -/
  | diTransitionAccepted (t : Nat) (ins : List (Fin 64 × Nat))
  /-- CHATTER_RELEASE (R215) -/
  | chatterRelease (t : Nat) (i : Fin 4352)
  /-- READBACK_TRANSITION (R316) -/
  | readbackTransition (t : Nat) (n : Fin 32) (first : Nat)
  /-- WIRE_BREAK_MEASUREMENT (R304) -/
  | wireBreakMeasurement (t : Nat) (n : Fin 64) (cur : Nat)
  /-- WIRE_BREAK_DECLARATION (R305) -/
  | wireBreakDeclaration (t : Nat) (n : Fin 64)
  /-- INPUT_GROUP_ABSENT (R307) -/
  | inputGroupAbsent (t : Nat) (g : Fin 4)
  /-- INPUT_GROUP_RETURN (R307) -/
  | inputGroupReturn (t : Nat) (g : Fin 4) (levels : BitVec 16)
  /-- RETAINED_JOURNAL_FLUSH (R229) -/
  | retainedJournalFlush (t : Nat)
  /-- CLAMP_PHASE_END (R318) -/
  | clampPhaseEnd (t : Nat) (n : Fin 32)
  /-- CLAMP_LONG (R319) -/
  | clampLong (t : Nat) (n : Fin 32)
  /-- OVERLOAD (R313) -/
  | overload (t : Nat) (n : Fin 32)
  /-- OVER_TEMPERATURE (R313) -/
  | overTemperature (t : Nat) (n : Fin 32)
  /-- GROUP_OVERCURRENT (R313) -/
  | groupOvercurrent (t : Nat) (h : Fin 2)
  /-- OPEN_WIRE_ON_STATE (R313) -/
  | openWireOnState (t : Nat) (n : Fin 32)
  /-- OPEN_WIRE_OFF_STATE (R313) -/
  | openWireOffState (t : Nat) (n : Fin 32)
  /-- READBACK_MISSING (R313) -/
  | readbackMissing (t : Nat) (n : Fin 32)
  /-- EXTERNAL_FEED (R313) -/
  | externalFeed (t : Nat) (n : Fin 32)
  /-- FIELD_SUPPLY_ABSENT (R313) -/
  | fieldSupplyAbsent (t : Nat) (h : Fin 2)
  /-- FIELD_SUPPLY_PRESENT (R313) -/
  | fieldSupplyPresent (t : Nat) (h : Fin 2)
  /-- OVL_REARM (R314) -/
  | ovlRearm (t : Nat) (n : Fin 32)
  /-- OTMP_REARM (R314) -/
  | otmpRearm (t : Nat) (n : Fin 32)
  /-- GTRIP_REARM (R314) -/
  | gtripRearm (t : Nat) (h : Fin 2)
  /-- HEALTH_CONTACT_REFRESH (R321) -/
  | healthContactRefresh (t : Nat)
  /-- HEALTH_CONTACT_TIMEOUT (R321) -/
  | healthContactTimeout (t : Nat)
  /-- SYNC_SEND (R340) -/
  | syncSend (t : Nat) (c : Fin 2)
  /-- FOLLOW_UP_SEND (R340) -/
  | followUpSend (t : Nat) (c : Fin 2)
  /-- OUTR_REFRESH (R345) -/
  | outrRefresh (t : Nat) (c : Fin 2) (n : Fin 16)
  /-- EVT_FRAME (R342) -/
  | evtFrame (t : Nat) (c : Fin 2) (f : CanFrame)
  /-- STS_FRAME (R343) -/
  | stsFrame (t : Nat) (c : Fin 2) (f : CanFrame)
  /-- SVC_RESPONSE (R347) -/
  | svcResponse (t : Nat) (c : Fin 2) (f : CanFrame)
  /-- EXCHANGE_TIMEOUT (R595) -/
  | exchangeTimeout (t : Nat) (c : Fin 2) (n : Fin 16)
  /-- SYNC_WAIT_EXPIRY (R347) -/
  | syncWaitExpiry (t : Nat) (c : Fin 2) (n : Fin 16)
  /-- STATION_DROPOUT (R349) -/
  | stationDropout (t : Nat) (c : Fin 2) (n : Fin 16)
  /-- STATION_ISOLATION (R352) -/
  | stationIsolation (t : Nat) (c : Fin 2) (n : Fin 16)
  /-- ISOLATION_END (R347) -/
  | isolationEnd (t : Nat) (c : Fin 2) (n : Fin 16)
  /-- CONFIG_RETRY (R347) -/
  | configRetry (t : Nat) (c : Fin 2) (n : Fin 16)
  /-- BUS_OFF (R351) -/
  | busOff (t : Nat) (c : Fin 2)
  /-- BUS_OFF_RECOVERY (R325) -/
  | busOffRecovery (t : Nat) (c : Fin 2)
  /-- HEARTBEAT_FRAME (R331) -/
  | heartbeatFrame (t : Nat) (c : Fin 2) (f : CanFrame)
  /-- HEARTBEAT_SEND (R332) -/
  | heartbeatSend (t : Nat)
  /-- TX_REQUEST (R355) -/
  | txRequest (t : Nat) (c : Fin 2) (b : Fin 32)
  /-- TX_CANCEL (R355) -/
  | txCancel (t : Nat) (c : Fin 2) (b : Fin 32)
  /-- TX_FRAME_DONE (R355) -/
  | txFrameDone (t : Nat) (c : Fin 2) (sof : Nat)
  /-- BB_CHANNEL_EN (R356) -/
  | bbChannelEn (t : Nat) (c : Fin 2) (on : Bool)
  /-- GOOSE_FRAME (R376) -/
  | gooseFrame (t : Nat) (h : PortHead) (g : GooseMsg)
  /-- GOOSE_TAL_EXPIRY (R378) -/
  | gooseTalExpiry (t : Nat) (b : Fin 128)
  /-- GOOSE_RETRANSMISSION (R381) -/
  | gooseRetransmission (t : Nat) (b : Fin 32)
  /-- ANNOUNCE (R369) -/
  | announce (t : Nat) (h : PortHead) (a : AnnounceMsg)
  /-- SYNC (R371) -/
  | sync (t : Nat) (h : PortHead) (y : SyncMsg)
  /-- FOLLOW_UP (R371) -/
  | followUp (t : Nat) (h : PortHead) (y : SyncMsg)
  /-- PDELAY_REQ (R369) -/
  | pdelayReq (t : Nat) (h : PortHead) (d : PdelayMsg) (egress : Nat)
  /-- PDELAY_RESP (R369) -/
  | pdelayResp (t : Nat) (h : PortHead) (d : PdelayMsg)
  /-- PDELAY_RESP_FOLLOW_UP (R369) -/
  | pdelayRespFollowUp (t : Nat) (h : PortHead) (d : PdelayMsg)
  /-- PDELAY_REQ_SEND (R369) -/
  | pdelayReqSend (t : Nat) (p : Fin 2) (egress : Nat)
  /-- ANNOUNCE_RECEIPT_TIMEOUT (R370) -/
  | announceReceiptTimeout (t : Nat) (p : Fin 2)
  /-- PRP_SUPERVISION_SEND (R365) -/
  | prpSupervisionSend (t : Nat)
  /-- PRP_SUPERVISION_FRAME (R360) -/
  | prpSupervisionFrame (t : Nat) (h : PortHead)
  /-- PRP_NODE_TIMEOUT (R367) -/
  | prpNodeTimeout (t : Nat) (mac : BitVec 48)
  /-- PRP_LAN_SILENCE (R368) -/
  | prpLanSilence (t : Nat) (p : Fin 2)
  /-- ARP_REQUEST (R362) -/
  | arpRequest (t : Nat) (h : PortHead) (ip : BitVec 32)
  /-- ICMP_ECHO (R362) -/
  | icmpEcho (t : Nat) (h : PortHead) (ip : BitVec 32) (data : List (BitVec 8))
  /-- GRATUITOUS_ARP (R362) -/
  | gratuitousArp (t : Nat) (p : Fin 2)
  /-- PORT_LINK_UP (R359) -/
  | portLinkUp (t : Nat) (p : Fin 2) (speed : Fin 3)
  /-- PORT_LINK_DOWN (R359) -/
  | portLinkDown (t : Nat) (p : Fin 2)
  /-- SP_PORT_EN (R363) -/
  | spPortEn (t : Nat) (p : Fin 2) (on : Bool)
  /-- PORT_NEGOTIATION_RESTART (R363) -/
  | portNegotiationRestart (t : Nat) (p : Fin 2)
  /-- SOURCE_MEASUREMENT (R400) -/
  | sourceMeasurement (t : Nat)
  /-- SOURCE_UPGRADE_WAIT (R391) -/
  | sourceUpgradeWait (t : Nat)
  /-- IRIG_FRAME (R397) -/
  | irigFrame (t : Nat) (cap : Nat) (f : IrigFrame)
  /-- IRIG_TIMEOUT (R390) -/
  | irigTimeout (t : Nat)
  /-- PPS_EDGE (R390) -/
  | ppsEdge (t : Nat) (cap : Nat) (width : Nat)
  /-- HOLDOVER_LIMIT (R400) -/
  | holdoverLimit (t : Nat)
  /-- LEAP_SECOND (R403) -/
  | leapSecond (t : Nat)
  /-- CALENDAR_ROLLOVER (R404) -/
  | calendarRollover (t : Nat)
  /-- XO32_TRIM (R404) -/
  | xo32Trim (t : Nat) (trim : BitVec 12)
  /-- RTC_SEC_READ (R405) -/
  | rtcSecRead (t : Nat) (sub : Fin 32768)
  /-- RTC_COMMIT (R407) -/
  | rtcCommit (t : Nat) (busy : Bool)
  /-- BACKUP_SWITCH (R410) -/
  | backupSwitch (t : Nat) (onBak : Bool) (low : Bool)
  /-- AON_RESET (R411) -/
  | aonReset (t : Nat)
  /-- LOCKSTEP_MISMATCH (R421) -/
  | lockstepMismatch (t : Nat)
  /-- RAIL_CLOCK_FAULT (R421) -/
  | railClockFault (t : Nat) (xo32 : Bool)
  /-- FAULT_RESTART (R419) -/
  | faultRestart (t : Nat)
  /-- SRAM_SCRUB_PASS (R421) -/
  | sramScrubPass (t : Nat) (errs : List (Fin 6 × BitVec 28))
  /-- UNCORRECTABLE_ERROR (R422) -/
  | uncorrectableError (t : Nat) (r : Fin 8) (e : Fin 16) (pc : BitVec 14)
  /-- CODE_BANK_CHECK (R421) -/
  | codeBankCheck (t : Nat) (bad : List (Fin 16))
  /-- DRAM_SCRUB (R421) -/
  | dramScrub (t : Nat) (errs : List (BitVec 28)) (bad : Option (List (BitVec 32)))
  /-- FLASH_SCRUB (R421) -/
  | flashScrub (t : Nat) (errs : List (BitVec 28)) (bad : List Nat)
  /-- ENGINE_BIST (R423) -/
  | engineBist (t : Nat) (e : Fin 16) (res : Fin 3)
  /-- SPARE_SWAP (R428) -/
  | spareSwap (t : Nat)
  /-- AUDIT_START (R426) -/
  | auditStart (t : Nat)
  /-- AUDIT_COMPLETE (R427) -/
  | auditComplete (t : Nat) (digests : List (BitVec 64))
  /-- AUDIT_TIMEOUT (R425) -/
  | auditTimeout (t : Nat)
  /-- WATCHDOG_AMBER (R432) -/
  | watchdogAmber (t : Nat) (n : Fin 48)
  /-- WATCHDOG_SCARLET (R432) -/
  | watchdogScarlet (t : Nat)
  /-- WATCHDOG_CLOCK_FAIL (R435) -/
  | watchdogClockFail (t : Nat)
  /-- RC_OSCILLATOR_RESET (R435) -/
  | rcOscillatorReset (t : Nat)
  /-- SUSPENSION_CUT (R436) -/
  | suspensionCut (t : Nat)
  /-- WDG_START (R434) -/
  | wdgStart (t : Nat)
  /-- WDG_CLKSEL (R435) -/
  | wdgClksel (t : Nat) (sel : Bool)
  /-- WDG_LOCK (R439) -/
  | wdgLock (t : Nat)
  /-- WDG_RSTCNT_CLR (R433) -/
  | wdgRstcntClr (t : Nat)
  /-- DIAG_FCLR (R418) -/
  | diagFclr (t : Nat)
  /-- PERFCTL_CLR (R126) -/
  | perfctlClr (t : Nat) (e : Fin 16)
  /-- FSTAT_CLEAR (R86) -/
  | fstatClear (t : Nat)
  /-- FLT_CLEAR (R127) -/
  | fltClear (t : Nat) (e : Fin 16)
  /-- LO_REGISTER_READ (R55) -/
  | loRegisterRead (t : Nat) (a : BitVec 24)
  /-- REGISTER_WRITE (R555) -/
  | registerWrite (t : Nat) (a : BitVec 24) (mask : BitVec 32) (value : BitVec 32)
  /-- PERIODIC_SAVE (R454) -/
  | periodicSave (t : Nat)
  /-- RECLAIM (R451) -/
  | reclaim (t : Nat) (b : Fin 16)
  /-- SECTOR_ERASE_DONE (R448) -/
  | sectorEraseDone (t : Nat)
  /-- PARAM_STORE_COMPLETE (R460) -/
  | paramStoreComplete (t : Nat) (fail : Option (Fin 8))
  /-- STAGING_READBACK (R481) -/
  | stagingReadback (t : Nat) (ok : Bool)
  /-- KEY_ACTIVATION_DONE (R256) -/
  | keyActivationDone (t : Nat) (ok : Bool)
  /-- FW_DIGEST_CHECK (R486) -/
  | fwDigestCheck (t : Nat) (ok : Bool)
  /-- REQUEST_LINE (R497) -/
  | requestLine (t : Nat) (line : Fin 5)
  /-- BURST (R499) -/
  | burst (t : Nat) (bad : Option (Fin 64))
  /-- MOV_CH_EN (R506) -/
  | movChEn (t : Nat) (c : Fin 16) (on : Bool)
  /-- MOV_CH_ABORT (R506) -/
  | movChAbort (t : Nat) (c : Fin 16) (keep : Bool)
  /-- MOV_ERR_RESTART (R505) -/
  | movErrRestart (t : Nat) (c : Fin 16)
  /-- DSP_ENABLE (R515) -/
  | dspEnable (t : Nat)
  /-- DSP_DISABLE (R516) -/
  | dspDisable (t : Nat)
  /-- RAILS_READY (R515) -/
  | railsReady (t : Nat)
  /-- DISCHARGE_COMPLETE (R516) -/
  | dischargeComplete (t : Nat)
  /-- PANEL_FRAME (R513) -/
  | panelFrame (t : Nat)
  /-- DISPLAY_POLL (R530) -/
  | displayPoll (t : Nat)
  /-- THERMISTOR_MEASUREMENT (R518) -/
  | thermistorMeasurement (t : Nat) (temp : Int)
  /-- RAIL_FAULT (R517) -/
  | railFault (t : Nat) (ok : Fin 32)
  /-- RAIL_RETRY (R517) -/
  | railRetry (t : Nat)
  /-- RENEWAL (R272) -/
  | renewal (t : Nat)
  /-- FENCE (R275) -/
  | fence (t : Nat)
  /-- TOKEN_TAKE (R293) -/
  | tokenTake (t : Nat)
  /-- HELLO (R290) -/
  | hello (t : Nat) (f : LinkRx)
  /-- HELLO_SEND (R287) -/
  | helloSend (t : Nat)
  /-- RENEW (R273) -/
  | renew (t : Nat) (f : LinkRx)
  /-- LINK_YIELD (R292) -/
  | linkYield (t : Nat) (f : LinkRx)
  /-- TAKEN (R292) -/
  | taken (t : Nat) (f : LinkRx)
  /-- TAKEN_TIMEOUT (R292) -/
  | takenTimeout (t : Nat)
  /-- ACK (R281) -/
  | ack (t : Nat) (f : LinkRx)
  /-- AGREEMENT_TIMEOUT (R281) -/
  | agreementTimeout (t : Nat)
  /-- RETX (R270) -/
  | retx (t : Nat) (f : LinkRx)
  /-- GAP_TIMEOUT (R270) -/
  | gapTimeout (t : Nat)
  /-- NOTICE (R280) -/
  | notice (t : Nat) (f : LinkRx)
  /-- TIME_LEAD (R285) -/
  | timeLead (t : Nat) (f : LinkRx)
  /-- DELAY_REQUEST (R285) -/
  | delayRequest (t : Nat) (f : LinkRx)
  /-- DELAY_RESPONSE (R285) -/
  | delayResponse (t : Nat) (f : LinkRx)
  /-- TIME_SEND (R285) -/
  | timeSend (t : Nat)
  /-- DELAY_MEASURE (R285) -/
  | delayMeasure (t : Nat)
  /-- STREAM (R280) -/
  | stream (t : Nat) (f : LinkRx)
  /-- SNAP_FRAME (R280) -/
  | snapFrame (t : Nat) (f : LinkRx)
  /-- COMMIT_FRAME (R282) -/
  | commitFrame (t : Nat) (f : LinkRx)
  /-- FOLLOWER_APPLY (R283) -/
  | followerApply (t : Nat)
  /-- DELREQ (R282) -/
  | delreq (t : Nat) (f : LinkRx)
  /-- DELTA (R289) -/
  | delta (t : Nat) (f : LinkRx)
  /-- GSTN (R381) -/
  | gstn (t : Nat) (f : LinkRx)
  /-- XREQ (R289) -/
  | xreq (t : Nat) (f : LinkRx)
  /-- XBLK (R288) -/
  | xblk (t : Nat) (f : LinkRx)
  /-- XDONE (R289) -/
  | xdone (t : Nat) (f : LinkRx)
  /-- TRANSFER_STEP (R288) -/
  | transferStep (t : Nat) (n : Fin 64)
  /-- TRANSFER_RESTART (R289) -/
  | transferRestart (t : Nat)
  /-- OLC_FRAME (R258) -/
  | olcFrame (t : Nat) (f : LinkRx)
  /-- IDLE (R269) -/
  | idle (t : Nat) (f : LinkRx)
  /-- IDLE_SEND (R269) -/
  | idleSend (t : Nat)
  /-- LANE_DOWN (R269) -/
  | laneDown (t : Nat) (l : Fin 2)
  /-- LANE_UP (R269) -/
  | laneUp (t : Nat) (l : Fin 2)
  /-- LISTEN_EXPIRY (R286) -/
  | listenExpiry (t : Nat)
  /-- JOINWAIT_EXPIRY (R286) -/
  | joinwaitExpiry (t : Nat)
  /-- OLC_LOAD_STEP (R236) -/
  | olcLoadStep (t : Nat)
  /-- DRAIN_START (R247) -/
  | drainStart (t : Nat)
  /-- DRAIN_COMPLETE (R249) -/
  | drainComplete (t : Nat)
  /-- SWAP_COMMIT (R250) -/
  | swapCommit (t : Nat)
  /-- OLC_ABANDON (R254) -/
  | olcAbandon (t : Nat)
  /-- SERVICE_MESSAGE_DISCARD (R556) -/
  | serviceMessageDiscard (t : Nat) (msg : SvcMsg)
  /-- IDENT (R550) -/
  | ident (t : Nat) (msg : SvcMsg)
  /-- STATUS (R550) -/
  | status (t : Nat) (msg : SvcMsg)
  /-- REG_READ (R550) -/
  | regRead (t : Nat) (msg : SvcMsg)
  /-- REG_WRITE (R555) -/
  | regWrite (t : Nat) (msg : SvcMsg)
  /-- IMG_READ (R550) -/
  | imgRead (t : Nat) (msg : SvcMsg)
  /-- JOURNAL_READ (R552) -/
  | journalRead (t : Nat) (msg : SvcMsg)
  /-- MODE (R550) -/
  | mode (t : Nat) (msg : SvcMsg)
  /-- RESTART (R550) -/
  | restart (t : Nat) (msg : SvcMsg)
  /-- YIELD (R292) -/
  | yield (t : Nat) (msg : SvcMsg)
  /-- FAULT_CLEAR (R418) -/
  | faultClear (t : Nat) (msg : SvcMsg)
  /-- PKG_DOWNLOAD (R481) -/
  | pkgDownload (t : Nat) (msg : SvcMsg) (keyOk : Bool)
  /-- PKG_ACTIVATE (R483) -/
  | pkgActivate (t : Nat) (msg : SvcMsg) (keyOk : Bool)
  /-- OLC_LOAD (R236) -/
  | olcLoad (t : Nat) (msg : SvcMsg)
  /-- OLC_SWAP (R246) -/
  | olcSwap (t : Nat) (msg : SvcMsg)
  /-- OLC_CANCEL (R236) -/
  | olcCancel (t : Nat) (msg : SvcMsg)
  /-- PARAM_STORE (R460) -/
  | paramStore (t : Nat) (msg : SvcMsg) (img : List (BitVec 8))
  /-- PARAM_LOAD (R462) -/
  | paramLoad (t : Nat) (msg : SvcMsg)
  /-- PROTECT (R459) -/
  | protect (t : Nat) (msg : SvcMsg)
  /-- PROT_LEVEL_WRITE (R459) -/
  | protLevelWrite (t : Nat) (l : Fin 4)
  /-- FW_UPDATE (R486) -/
  | fwUpdate (t : Nat) (msg : SvcMsg)
  /-- FW_COMMIT (R487) -/
  | fwCommit (t : Nat) (msg : SvcMsg)
  /-- FW_STATUS (R550) -/
  | fwStatus (t : Nat) (msg : SvcMsg)
  /-- PBUF_READ (R550) -/
  | pbufRead (t : Nat) (msg : SvcMsg)
  /-- STEP (R552) -/
  | step (t : Nat) (msg : SvcMsg) (keyOk : Bool)
  /-- PROGRESS (R553) -/
  | progress (t : Nat) (msg : SvcMsg)
  /-- ABORT (R553) -/
  | abort (t : Nat) (msg : SvcMsg)
  /-- HANDLE_IDLE_TIMEOUT (R551) -/
  | handleIdleTimeout (t : Nat) (h : BitVec 16)
  /-- HANDLE_CLOSE (R553) -/
  | handleClose (t : Nat) (h : BitVec 16)
  /-- PARTNER_HEARTBEAT_TIMEOUT (R265) -/
  | partnerHeartbeatTimeout (t : Nat)
  /-- HOLDUP_OK_LOST (R562) -/
  | holdupOkLost (t : Nat)
  /-- BANK_EXHAUSTED (R566) -/
  | bankExhausted (t : Nat)
  /-- XO32_RESTART (R421) -/
  | xo32Restart (t : Nat)
  /-- QUAD_POWER_DOWN_COMPLETE (R560) -/
  | quadPowerDownComplete (t : Nat) (q : Fin 4)
  /-- SWITCH_TRANSITION_END (R593) -/
  | switchTransitionEnd (t : Nat) (n : Fin 32) (load : Bool)
  /-- OPEN_WIRE_CLEARED (R313) -/
  | openWireCleared (t : Nat) (n : Fin 32) (on : Bool)
  /-- SYSTEM_SLOT_CHECK_IN (R430) -/
  | systemSlotCheckIn (t : Nat) (n : Fin 16)
  /-- RECORD_WRITE_COMPLETE (R446) -/
  | recordWriteComplete (t : Nat) (seq : Nat) (fail : Bool)
  /-- SNAPSHOT_HOLD_QUIET (R31) -/
  | snapshotHoldQuiet (t : Nat)
  /-- PTP_OFFSET_TIMEOUT (R371) -/
  | ptpOffsetTimeout (t : Nat) (p : Fin 2)
  /-- MALFORMED_FRAME (R351) -/
  | malformedFrame (t : Nat) (c : Fin 2) (foreign : Bool) (f : CanFrame)
  /-- FOREIGN_TRANSMITTER (R351) -/
  | foreignTransmitter (t : Nat) (c : Fin 2) (f : CanFrame)
  /-- BIT_STUFF_CRC_FORM_ERROR (R351) -/
  | bitStuffCrcFormError (t : Nat) (c : Fin 2) (tx : Bool)
  /-- DISCARDED_PORT_FRAME (R383) -/
  | discardedPortFrame (t : Nat) (h : PortHead) (why : Fin 4)
  /-- MALFORMED_LINK_FRAME (R271) -/
  | malformedLinkFrame (t : Nat) (ty : BitVec 8) (f : LinkRx)
  deriving DecidableEq, Repr

end Sys2Proof
end

