-- ==== Sys2Proof/WellFormed.lean ====
section
/-!
DEFINITION. Well-formed commands: operands that the wires, frames and messages of the manual can carry.
-/
namespace Sys2Proof

/-- An instant or a span of the time base is a 64-bit count of nanoseconds (R386). -/
def wfTime (t : Nat) : Bool := decide (t < 2 ^ 64)

/-- The payload lengths of a CAN FD or classical frame (R325). -/
def canLengths : List Nat := [0, 1, 2, 3, 4, 5, 6, 7, 8, 12, 16, 20, 24, 32, 48, 64]

/-- A frame of a bay bus. -/
def CanFrame.wf (f : CanFrame) : Bool := canLengths.contains f.data.length && wfTime f.sof

/-- A frame of the partner link, with a payload of at most `n` bytes (R267). -/
def wfLink (n : Nat) (f : LinkRx) : Bool := decide (f.payload.length ≤ n)

/-- The head of a frame of a station port. -/
def PortHead.wf (h : PortHead) : Bool := wfTime h.sof

/-- A PTP Announce: fields of the widths of IEEE 1588 (R369). -/
def AnnounceMsg.wf (a : AnnounceMsg) : Bool :=
  decide (a.src < 2 ^ 80 ∧ a.prio1 < 2 ^ 8 ∧ a.cls < 2 ^ 8 ∧ a.acc < 2 ^ 8 ∧ a.var < 2 ^ 16 ∧ a.prio2 < 2 ^ 8 ∧ a.steps < 2 ^ 16 ∧
    -128 ≤ a.logInterval ∧ a.logInterval ≤ 127 ∧ -32768 ≤ a.utc ∧ a.utc ≤ 32767)

/-- A PTP Sync or Follow_Up: 48 bits of seconds with nanoseconds, and a correction of 48 bits of nanoseconds (R369). -/
def SyncMsg.wf (y : SyncMsg) : Bool :=
  decide (y.src < 2 ^ 80 ∧ y.origin < 2 ^ 48 * 1000000000 ∧ -(2 ^ 47) ≤ y.corr ∧ y.corr < 2 ^ 47 ∧ -128 ≤ y.logInterval ∧ y.logInterval ≤ 127)

/-- A peer delay message (R370). -/
def PdelayMsg.wf (d : PdelayMsg) : Bool := decide (d.time < 2 ^ 48 * 1000000000 ∧ -(2 ^ 47) ≤ d.corr ∧ d.corr < 2 ^ 47)

/-- A GOOSE frame: its names and leaves fit one Ethernet frame, its numbers 32 bits (R373). -/
def GooseMsg.wf (g : GooseMsg) : Bool :=
  decide (g.gocbRef.length + g.datSet.length + g.leaves.length ≤ 1500 ∧ g.tal < 2 ^ 32 ∧ g.confRev < 2 ^ 32)

/-- An IRIG-B frame: BCD digits of the places the code has, in range or not (R397, R399). -/
def IrigFrame.wf (f : IrigFrame) : Bool :=
  decide (f.sec ≤ 85 ∧ f.min ≤ 85 ∧ f.hour ≤ 45 ∧ f.day ≤ 465 ∧ f.bcdYear.getD 0 ≤ 165 ∧ f.extYear ≤ 165 ∧ -31 ≤ f.local30 ∧ f.local30 ≤ 31)

/-- A service message: a datagram of a port's sender (address and port) with at most the bytes of R538, or the bytes of a UART frame, no delimiter
among them (R539). -/
def SvcMsg.wf (m : SvcMsg) : Bool :=
  decide (m.src < 2 ^ 48) && (match m.port with
    | some h => decide (m.bytes.length ≤ 1472) && h.wf
    | none => decide (m.bytes.length ≤ 65536) && !m.bytes.contains 0x7E)

/-- Transitions accepted together: at least one, each of another input (R305). -/
def wfIns (ins : List (Fin 64 × Nat)) : Bool :=
  !ins.isEmpty && decide (ins.map (·.1)).Nodup && ins.all (fun x => wfTime x.2)

/-- Is every operand of a command one that its wires, frame or message can carry? -/
def Instr.wf (i : Instr) : Bool :=
  match i with
  | .vsupStart t => wfTime t
  | .moduleReset t _ _ => wfTime t
  | .loaderSector t _ => wfTime t
  | .configLoad t _ _ _ => wfTime t
  | .timeSourceWaitEnd t => wfTime t
  | .holdupOkReached t => wfTime t
  | .powerFailWarning t => wfTime t
  | .rideThrough t => wfTime t
  | .saveEntry t => wfTime t
  | .saveComplete t _ => wfTime t
  | .quadPowerUpRequest t _ => wfTime t
  | .quadPowerUp t _ => wfTime t
  | .quadPowerDown t _ => wfTime t
  | .snapshotLead t _ => wfTime t
  | .boundary t _ => wfTime t
  | .segmentStart t _ => wfTime t
  | .haltInstant t _ => wfTime t
  | .applicationStart t => wfTime t
  | .applicationComplete t => wfTime t
  | .timerExpiry t => wfTime t
  | .heldChangeRelease t => wfTime t
  | .engineFault t _ _ _ => wfTime t
  | .nop _ _ _ => true
  | .add _ _ _ => true
  | .sub _ _ _ => true
  | .addi _ _ _ => true
  | .mul _ _ _ => true
  | .mulh _ _ _ => true
  | .div _ _ _ => true
  | .rem _ _ _ => true
  | .movi _ _ _ => true
  | .movhi _ _ _ => true
  | .insm _ _ _ => true
  | .ori _ _ _ => true
  | .shl _ _ _ => true
  | .shr _ _ _ => true
  | .sra _ _ _ => true
  | .shli _ _ _ => true
  | .shri _ _ _ => true
  | .srai _ _ _ => true
  | .popc _ _ _ => true
  | .ext _ _ _ => true
  | .and _ _ _ => true
  | .or _ _ _ => true
  | .xor _ _ _ => true
  | .andn _ _ _ => true
  | .nor _ _ _ => true
  | .xnor _ _ _ => true
  | .lmux _ _ _ => true
  | .pspr _ _ _ => true
  | .cmpeq _ _ _ => true
  | .cmpne _ _ _ => true
  | .cmplt _ _ _ => true
  | .cmpltu _ _ _ => true
  | .cmple _ _ _ => true
  | .cmpleu _ _ _ => true
  | .cmpeqi _ _ _ => true
  | .cmplti _ _ _ => true
  | .tstb _ _ _ => true
  | .any _ _ _ => true
  | .all _ _ _ => true
  | .pand _ _ _ => true
  | .por _ _ _ => true
  | .pxor _ _ _ => true
  | .pandn _ _ _ => true
  | .pnor _ _ _ => true
  | .ldb _ _ _ => true
  | .ldbs _ _ _ => true
  | .ldh _ _ _ => true
  | .ldhs _ _ _ => true
  | .ldw _ _ _ => true
  | .stb _ _ _ => true
  | .sth _ _ _ => true
  | .stw _ _ _ => true
  | .lib _ _ _ => true
  | .lqb _ _ _ => true
  | .lmb _ _ _ => true
  | .liw _ _ _ => true
  | .lqw _ _ _ => true
  | .lmw _ _ _ => true
  | .ldq _ _ _ => true
  | .lww _ _ _ => true
  | .sqb _ _ _ => true
  | .smb _ _ _ => true
  | .sqw _ _ _ => true
  | .smw _ _ _ => true
  | .sww _ _ _ => true
  | .bgth _ _ _ => true
  | .bgthq _ _ _ => true
  | .bsct _ _ _ => true
  | .ton _ _ _ => true
  | .tof _ _ _ => true
  | .tp _ _ _ => true
  | .tpx _ _ _ => true
  | .tonr _ _ _ => true
  | .trst _ _ _ => true
  | .tpre _ _ _ => true
  | .trd _ _ _ => true
  | .ctu _ _ _ => true
  | .ctd _ _ _ => true
  | .ctud _ _ _ => true
  | .cchn _ _ _ => true
  | .cldc _ _ _ => true
  | .edr _ _ _ => true
  | .edf _ _ _ => true
  | .edb _ _ _ => true
  | .br _ _ _ => true
  | .call _ _ _ => true
  | .ret _ _ _ => true
  | .lpb _ _ _ => true
  | .mtlk _ _ _ => true
  | .mtlp _ _ _ => true
  | .mfs _ _ _ => true
  | .halt _ _ _ => true
  | .wdck _ _ _ => true
  | .mvrq _ _ _ => true
  | .srd _ _ _ => true
  | .swrPerfctl _ _ f => f.imm != 0x1001 && f.imm != 0x1002
  | .swrScanmax _ _ _ => true
  | .swrRespmax _ _ _ => true
  | .customInstruction _ _ _ _ => true
  | .reservedOpcode _ _ w => (w >>> 24) == 7
  | .diTransitionAccepted t ins => wfTime t && wfIns ins
  | .chatterRelease t _ => wfTime t
  | .readbackTransition t _ first => wfTime t && wfTime first
  | .wireBreakMeasurement t _ cur => wfTime t && decide (cur < 2 ^ 16)
  | .wireBreakDeclaration t _ => wfTime t
  | .inputGroupAbsent t _ => wfTime t
  | .inputGroupReturn t _ _ => wfTime t
  | .retainedJournalFlush t => wfTime t
  | .clampPhaseEnd t _ => wfTime t
  | .clampLong t _ => wfTime t
  | .overload t _ => wfTime t
  | .overTemperature t _ => wfTime t
  | .groupOvercurrent t _ => wfTime t
  | .openWireOnState t _ => wfTime t
  | .openWireOffState t _ => wfTime t
  | .readbackMissing t _ => wfTime t
  | .externalFeed t _ => wfTime t
  | .fieldSupplyAbsent t _ => wfTime t
  | .fieldSupplyPresent t _ => wfTime t
  | .ovlRearm t _ => wfTime t
  | .otmpRearm t _ => wfTime t
  | .gtripRearm t _ => wfTime t
  | .healthContactRefresh t => wfTime t
  | .healthContactTimeout t => wfTime t
  | .syncSend t _ => wfTime t
  | .followUpSend t _ => wfTime t
  | .outrRefresh t _ _ => wfTime t
  | .evtFrame t _ f => wfTime t && f.wf
  | .stsFrame t _ f => wfTime t && f.wf
  | .svcResponse t _ f => wfTime t && f.wf
  | .exchangeTimeout t _ _ => wfTime t
  | .syncWaitExpiry t _ _ => wfTime t
  | .stationDropout t _ _ => wfTime t
  | .stationIsolation t _ _ => wfTime t
  | .isolationEnd t _ _ => wfTime t
  | .configRetry t _ _ => wfTime t
  | .busOff t _ => wfTime t
  | .busOffRecovery t _ => wfTime t
  | .heartbeatFrame t _ f => wfTime t && f.wf
  | .heartbeatSend t => wfTime t
  | .txRequest t _ _ => wfTime t
  | .txCancel t _ _ => wfTime t
  | .txFrameDone t _ sof => wfTime t && wfTime sof
  | .bbChannelEn t _ _ => wfTime t
  | .gooseFrame t h g => wfTime t && h.wf && g.wf
  | .gooseTalExpiry t _ => wfTime t
  | .gooseRetransmission t _ => wfTime t
  | .announce t h a => wfTime t && h.wf && a.wf
  | .sync t h y => wfTime t && h.wf && y.wf
  | .followUp t h y => wfTime t && h.wf && y.wf
  | .pdelayReq t h d egress => wfTime t && h.wf && d.wf && wfTime egress
  | .pdelayResp t h d => wfTime t && h.wf && d.wf
  | .pdelayRespFollowUp t h d => wfTime t && h.wf && d.wf
  | .pdelayReqSend t _ egress => wfTime t && wfTime egress
  | .announceReceiptTimeout t _ => wfTime t
  | .prpSupervisionSend t => wfTime t
  | .prpSupervisionFrame t h => wfTime t && h.wf
  | .prpNodeTimeout t _ => wfTime t
  | .prpLanSilence t _ => wfTime t
  | .arpRequest t h _ => wfTime t && h.wf
  | .icmpEcho t h _ data => wfTime t && h.wf && decide (data.length ≤ 1472)
  | .gratuitousArp t _ => wfTime t
  | .portLinkUp t _ _ => wfTime t
  | .portLinkDown t _ => wfTime t
  | .spPortEn t _ _ => wfTime t
  | .portNegotiationRestart t _ => wfTime t
  | .sourceMeasurement t => wfTime t
  | .sourceUpgradeWait t => wfTime t
  | .irigFrame t cap f => wfTime t && wfTime cap && f.wf
  | .irigTimeout t => wfTime t
  | .ppsEdge t cap width => wfTime t && wfTime cap && wfTime width
  | .holdoverLimit t => wfTime t
  | .leapSecond t => wfTime t
  | .calendarRollover t => wfTime t
  | .xo32Trim t _ => wfTime t
  | .rtcSecRead t _ => wfTime t
  | .rtcCommit t _ => wfTime t
  | .backupSwitch t _ _ => wfTime t
  | .aonReset t => wfTime t
  | .lockstepMismatch t => wfTime t
  | .railClockFault t _ => wfTime t
  | .faultRestart t => wfTime t
  | .sramScrubPass t _ => wfTime t
  | .uncorrectableError t _ _ _ => wfTime t
  | .codeBankCheck t bad => wfTime t && decide (bad.Nodup)
  | .dramScrub t _ _ => wfTime t
  | .flashScrub t _ bad => wfTime t && bad.all (fun s => decide (s < 2 ^ 32))
  | .engineBist t _ _ => wfTime t
  | .spareSwap t => wfTime t
  | .auditStart t => wfTime t
  | .auditComplete t digests => wfTime t && decide (digests.length ≤ 8)
  | .auditTimeout t => wfTime t
  | .watchdogAmber t _ => wfTime t
  | .watchdogScarlet t => wfTime t
  | .watchdogClockFail t => wfTime t
  | .rcOscillatorReset t => wfTime t
  | .suspensionCut t => wfTime t
  | .wdgStart t => wfTime t
  | .wdgClksel t _ => wfTime t
  | .wdgLock t => wfTime t
  | .wdgRstcntClr t => wfTime t
  | .diagFclr t => wfTime t
  | .perfctlClr t _ => wfTime t
  | .fstatClear t => wfTime t
  | .fltClear t _ => wfTime t
  | .loRegisterRead t _ => wfTime t
  | .registerWrite t _ _ _ => wfTime t
  | .periodicSave t => wfTime t
  | .reclaim t _ => wfTime t
  | .sectorEraseDone t => wfTime t
  | .paramStoreComplete t _ => wfTime t
  | .stagingReadback t _ => wfTime t
  | .keyActivationDone t _ => wfTime t
  | .fwDigestCheck t _ => wfTime t
  | .requestLine t _ => wfTime t
  | .burst t _ => wfTime t
  | .movChEn t _ _ => wfTime t
  | .movChAbort t _ _ => wfTime t
  | .movErrRestart t _ => wfTime t
  | .dspEnable t => wfTime t
  | .dspDisable t => wfTime t
  | .railsReady t => wfTime t
  | .dischargeComplete t => wfTime t
  | .panelFrame t => wfTime t
  | .displayPoll t => wfTime t
  | .thermistorMeasurement t temp => wfTime t && decide (-(2 ^ 63) ≤ temp ∧ temp < 2 ^ 63)
  | .railFault t _ => wfTime t
  | .railRetry t => wfTime t
  | .renewal t => wfTime t
  | .fence t => wfTime t
  | .tokenTake t => wfTime t
  | .hello t f => wfTime t && wfLink 128 f
  | .helloSend t => wfTime t
  | .renew t f => wfTime t && wfLink 128 f
  | .linkYield t f => wfTime t && wfLink 128 f
  | .taken t f => wfTime t && wfLink 128 f
  | .takenTimeout t => wfTime t
  | .ack t f => wfTime t && wfLink 128 f
  | .agreementTimeout t => wfTime t
  | .retx t f => wfTime t && wfLink 128 f
  | .gapTimeout t => wfTime t
  | .notice t f => wfTime t && wfLink 128 f
  | .timeLead t f => wfTime t && wfLink 128 f
  | .delayRequest t f => wfTime t && wfLink 128 f
  | .delayResponse t f => wfTime t && wfLink 128 f
  | .timeSend t => wfTime t
  | .delayMeasure t => wfTime t
  | .stream t f => wfTime t && wfLink 128 f
  | .snapFrame t f => wfTime t && wfLink 128 f
  | .commitFrame t f => wfTime t && wfLink 128 f
  | .followerApply t => wfTime t
  | .delreq t f => wfTime t && wfLink 128 f
  | .delta t f => wfTime t && wfLink 128 f
  | .gstn t f => wfTime t && wfLink 128 f
  | .xreq t f => wfTime t && wfLink 128 f
  | .xblk t f => wfTime t && wfLink 128 f
  | .xdone t f => wfTime t && wfLink 128 f
  | .transferStep t _ => wfTime t
  | .transferRestart t => wfTime t
  | .olcFrame t f => wfTime t && wfLink 128 f
  | .idle t f => wfTime t && wfLink 128 f
  | .idleSend t => wfTime t
  | .laneDown t _ => wfTime t
  | .laneUp t _ => wfTime t
  | .listenExpiry t => wfTime t
  | .joinwaitExpiry t => wfTime t
  | .olcLoadStep t => wfTime t
  | .drainStart t => wfTime t
  | .drainComplete t => wfTime t
  | .swapCommit t => wfTime t
  | .olcAbandon t => wfTime t
  | .serviceMessageDiscard t _ => wfTime t
  | .ident t msg => wfTime t && msg.wf
  | .status t msg => wfTime t && msg.wf
  | .regRead t msg => wfTime t && msg.wf
  | .regWrite t msg => wfTime t && msg.wf
  | .imgRead t msg => wfTime t && msg.wf
  | .journalRead t msg => wfTime t && msg.wf
  | .mode t msg => wfTime t && msg.wf
  | .restart t msg => wfTime t && msg.wf
  | .yield t msg => wfTime t && msg.wf
  | .faultClear t msg => wfTime t && msg.wf
  | .pkgDownload t msg _ => wfTime t && msg.wf
  | .pkgActivate t msg _ => wfTime t && msg.wf
  | .olcLoad t msg => wfTime t && msg.wf
  | .olcSwap t msg => wfTime t && msg.wf
  | .olcCancel t msg => wfTime t && msg.wf
  | .paramStore t msg img => wfTime t && msg.wf && decide (img.length ≤ 262144)
  | .paramLoad t msg => wfTime t && msg.wf
  | .protect t msg => wfTime t && msg.wf
  | .protLevelWrite t _ => wfTime t
  | .fwUpdate t msg => wfTime t && msg.wf
  | .fwCommit t msg => wfTime t && msg.wf
  | .fwStatus t msg => wfTime t && msg.wf
  | .pbufRead t msg => wfTime t && msg.wf
  | .step t msg _ => wfTime t && msg.wf
  | .progress t msg => wfTime t && msg.wf
  | .abort t msg => wfTime t && msg.wf
  | .handleIdleTimeout t _ => wfTime t
  | .handleClose t _ => wfTime t
  | .partnerHeartbeatTimeout t => wfTime t
  | .holdupOkLost t => wfTime t
  | .bankExhausted t => wfTime t
  | .xo32Restart t => wfTime t
  | .quadPowerDownComplete t _ => wfTime t
  | .switchTransitionEnd t _ _ => wfTime t
  | .openWireCleared t _ _ => wfTime t
  | .systemSlotCheckIn t _ => wfTime t
  | .recordWriteComplete t seq _ => wfTime t && decide (seq < 2 ^ 32)
  | .snapshotHoldQuiet t => wfTime t
  | .ptpOffsetTimeout t _ => wfTime t
  | .malformedFrame t _ _ f => wfTime t && f.wf
  | .foreignTransmitter t _ f => wfTime t && f.wf
  | .bitStuffCrcFormError t _ _ => wfTime t
  | .discardedPortFrame t h _ => wfTime t && h.wf
  | .malformedLinkFrame t _ f => wfTime t && wfLink 65535 f

end Sys2Proof
end

