-- ==== Sys2Proof/Decode.lean ====
section
/-!
DEFINITION. The engines' instruction words (R106, R114, R130): what a 32-bit word spells, the word of an instruction, and the command a
word of the table's kind spells.
-/
namespace Sys2Proof

/-! ### The fields of a word (R106, R114) -/

/-- `n` bits of a word from bit `lsb` on. -/
def wordBits (w : BitVec 32) (lsb n : Nat) : Nat := (w.toNat >>> lsb) % 2 ^ n

/-- A field of a word as one of `n` numbers. -/
def wordFin (w : BitVec 32) (lsb n : Nat) : Fin (2 ^ n) := ⟨wordBits w lsb n, Nat.mod_lt _ (Nat.two_pow_pos n)⟩

/-- Bit [31] negates the guard predicate of bits [30:27] (R106). -/
def wordGuard (w : BitVec 32) : Guard := ⟨w.getLsbD 31, wordFin w 27 4⟩

def wordA (w : BitVec 32) : FmtA := ⟨wordFin w 14 6, wordFin w 8 6, wordFin w 2 6, wordFin w 0 2⟩
def wordB (w : BitVec 32) : FmtB := ⟨wordFin w 14 6, wordFin w 8 6, BitVec.ofNat 8 (wordBits w 0 8)⟩
def wordC (w : BitVec 32) : FmtC := ⟨wordFin w 14 6, BitVec.ofNat 14 (wordBits w 0 14)⟩
def wordD (w : BitVec 32) : FmtD := ⟨wordFin w 14 6, wordFin w 8 6, BitVec.ofNat 8 (wordBits w 0 8)⟩
def wordE (w : BitVec 32) : FmtE := ⟨wordFin w 16 4, wordFin w 10 6, wordFin w 4 6, wordFin w 0 4⟩
def wordF (w : BitVec 32) : FmtF := ⟨wordFin w 14 6, BitVec.ofNat 14 (wordBits w 0 14)⟩

/-! ### The opcode map (R130) -/

/-- Opcodes 0x00–0x0F. -/
def decodeOp0 (e : Fin 16) (g : Guard) (w : BitVec 32) : Nat → Instr
  | 0 => .nop e g (wordA w)
  | 1 => .add e g (wordA w)
  | 2 => .sub e g (wordA w)
  | 3 => .addi e g (wordB w)
  | 4 => .mul e g (wordA w)
  | 5 => .mulh e g (wordA w)
  | 6 => .div e g (wordA w)
  | 7 => .rem e g (wordA w)
  | 8 => .movi e g (wordF w)
  | 9 => .movhi e g (wordF w)
  | 10 => .insm e g (wordF w)
  | 11 => .ori e g (wordB w)
  | 12 => .shl e g (wordA w)
  | 13 => .shr e g (wordA w)
  | 14 => .sra e g (wordA w)
  | _ => .shli e g (wordB w)

/-- Opcodes 0x10–0x1F. -/
def decodeOp1 (e : Fin 16) (g : Guard) (w : BitVec 32) : Nat → Instr
  | 0 => .shri e g (wordB w)
  | 1 => .srai e g (wordB w)
  | 2 => .popc e g (wordA w)
  | 3 => .ext e g (wordA w)
  | 4 => .and e g (wordA w)
  | 5 => .or e g (wordA w)
  | 6 => .xor e g (wordA w)
  | 7 => .andn e g (wordA w)
  | 8 => .nor e g (wordA w)
  | 9 => .xnor e g (wordA w)
  | 10 => .lmux e g (wordA w)
  | 11 => .pspr e g (wordA w)
  | 12 => .cmpeq e g (wordE w)
  | 13 => .cmpne e g (wordE w)
  | 14 => .cmplt e g (wordE w)
  | _ => .cmpltu e g (wordE w)

/-- Opcodes 0x20–0x2F. -/
def decodeOp2 (e : Fin 16) (g : Guard) (w : BitVec 32) : Nat → Instr
  | 0 => .cmple e g (wordE w)
  | 1 => .cmpleu e g (wordE w)
  | 2 => .cmpeqi e g (wordE w)
  | 3 => .cmplti e g (wordE w)
  | 4 => .tstb e g (wordE w)
  | 5 => .any e g (wordE w)
  | 6 => .all e g (wordE w)
  | 7 => .pand e g (wordE w)
  | 8 => .por e g (wordE w)
  | 9 => .pxor e g (wordE w)
  | 10 => .pandn e g (wordE w)
  | 11 => .pnor e g (wordE w)
  | 12 => .ldb e g (wordD w)
  | 13 => .ldbs e g (wordD w)
  | 14 => .ldh e g (wordD w)
  | _ => .ldhs e g (wordD w)

/-- Opcodes 0x30–0x3F. -/
def decodeOp3 (e : Fin 16) (g : Guard) (w : BitVec 32) : Nat → Instr
  | 0 => .ldw e g (wordD w)
  | 1 => .stb e g (wordD w)
  | 2 => .sth e g (wordD w)
  | 3 => .stw e g (wordD w)
  | 4 => .lib e g (wordD w)
  | 5 => .lqb e g (wordD w)
  | 6 => .lmb e g (wordD w)
  | 7 => .liw e g (wordD w)
  | 8 => .lqw e g (wordD w)
  | 9 => .lmw e g (wordD w)
  | 10 => .ldq e g (wordD w)
  | 11 => .lww e g (wordD w)
  | 12 => .sqb e g (wordD w)
  | 13 => .smb e g (wordD w)
  | 14 => .sqw e g (wordD w)
  | _ => .smw e g (wordD w)

/-- Opcodes 0x40–0x4F. -/
def decodeOp4 (e : Fin 16) (g : Guard) (w : BitVec 32) : Nat → Instr
  | 0 => .sww e g (wordD w)
  | 1 => .bgth e g (wordD w)
  | 2 => .bgthq e g (wordD w)
  | 3 => .bsct e g (wordD w)
  | 4 => .ton e g (wordD w)
  | 5 => .tof e g (wordD w)
  | 6 => .tp e g (wordD w)
  | 7 => .tpx e g (wordD w)
  | 8 => .tonr e g (wordD w)
  | 9 => .trst e g (wordD w)
  | 10 => .tpre e g (wordD w)
  | 11 => .trd e g (wordD w)
  | 12 => .ctu e g (wordD w)
  | 13 => .ctd e g (wordD w)
  | 14 => .ctud e g (wordD w)
  | _ => .cchn e g (wordD w)

/-- SWR by its selector (R158); a selector of no row stays with SWR_PERFCTL's command, which raises its fault (R159). -/
def decodeSwr (e : Fin 16) (g : Guard) (f : FmtF) : Instr :=
  if f.imm = 0x1001 then .swrScanmax e g f.d else if f.imm = 0x1002 then .swrRespmax e g f.d else .swrPerfctl e g f

/-- Opcodes 0x50–0x5F. -/
def decodeOp5 (e : Fin 16) (g : Guard) (w : BitVec 32) : Nat → Instr
  | 0 => .cldc e g (wordD w)
  | 1 => .edr e g (wordD w)
  | 2 => .edf e g (wordD w)
  | 3 => .edb e g (wordD w)
  | 4 => .br e g (wordC w)
  | 5 => .call e g (wordC w)
  | 6 => .ret e g (wordC w)
  | 7 => .lpb e g (wordC w)
  | 8 => .mtlk e g (wordC w)
  | 9 => .mtlp e g (wordC w)
  | 10 => .mfs e g (wordA w)
  | 11 => .halt e g (wordA w)
  | 12 => .wdck e g (wordA w)
  | 13 => .mvrq e g (wordF w)
  | 14 => .srd e g (wordF w)
  | _ => decodeSwr e g (wordF w)
/-- The instruction a word of engine `e` spells: the opcode in bits [26:20] picks it (R114, R130); 0x60–0x6F are custom, and 0x70–0x7F
reserved (R160). Log 8 (DESIGN CHOICE), 110 (DESIGN CHOICE). -/
def decodeWord (e : Fin 16) (w : BitVec 32) : Instr :=
  let g := wordGuard w
  match wordBits w 24 3 with
  | 0 => decodeOp0 e g w (wordBits w 20 4)
  | 1 => decodeOp1 e g w (wordBits w 20 4)
  | 2 => decodeOp2 e g w (wordBits w 20 4)
  | 3 => decodeOp3 e g w (wordBits w 20 4)
  | 4 => decodeOp4 e g w (wordBits w 20 4)
  | 5 => decodeOp5 e g w (wordBits w 20 4)
  | 6 => .customInstruction e g (wordFin w 20 4) (BitVec.ofNat 20 (wordBits w 0 20))
  | _ => .reservedOpcode e g (BitVec.ofNat 27 (wordBits w 0 27))

/-! ### The word of an instruction -/

/-- A word from its guard, its opcode and bits [19:0]. -/
def wordOf (g : Guard) (op low : Nat) : BitVec 32 :=
  BitVec.ofNat 32 (low % 2 ^ 20 + (op % 2 ^ 7) * 2 ^ 20 + g.p.val * 2 ^ 27 + g.neg.toNat * 2 ^ 31)

def FmtA.low (f : FmtA) : Nat := f.d.val * 2 ^ 14 + f.a.val * 2 ^ 8 + f.b.val * 2 ^ 2 + f.x.val
def FmtB.low (f : FmtB) : Nat := f.d.val * 2 ^ 14 + f.a.val * 2 ^ 8 + f.imm.toNat
def FmtC.low (f : FmtC) : Nat := f.s.val * 2 ^ 14 + f.target.toNat
def FmtD.low (f : FmtD) : Nat := f.r.val * 2 ^ 14 + f.a.val * 2 ^ 8 + f.off.toNat
def FmtE.low (f : FmtE) : Nat := f.pd.val * 2 ^ 16 + f.a.val * 2 ^ 10 + f.b.val * 2 ^ 4 + f.c.val
def FmtF.low (f : FmtF) : Nat := f.d.val * 2 ^ 14 + f.imm.toNat

/-- The word of an engine instruction, with the engine it runs on; none for every other command. -/
def encodeWord : Instr → Option (Fin 16 × BitVec 32)
  | .nop e g f => some (e, wordOf g 0x00 f.low)
  | .add e g f => some (e, wordOf g 0x01 f.low)
  | .sub e g f => some (e, wordOf g 0x02 f.low)
  | .addi e g f => some (e, wordOf g 0x03 f.low)
  | .mul e g f => some (e, wordOf g 0x04 f.low)
  | .mulh e g f => some (e, wordOf g 0x05 f.low)
  | .div e g f => some (e, wordOf g 0x06 f.low)
  | .rem e g f => some (e, wordOf g 0x07 f.low)
  | .movi e g f => some (e, wordOf g 0x08 f.low)
  | .movhi e g f => some (e, wordOf g 0x09 f.low)
  | .insm e g f => some (e, wordOf g 0x0A f.low)
  | .ori e g f => some (e, wordOf g 0x0B f.low)
  | .shl e g f => some (e, wordOf g 0x0C f.low)
  | .shr e g f => some (e, wordOf g 0x0D f.low)
  | .sra e g f => some (e, wordOf g 0x0E f.low)
  | .shli e g f => some (e, wordOf g 0x0F f.low)
  | .shri e g f => some (e, wordOf g 0x10 f.low)
  | .srai e g f => some (e, wordOf g 0x11 f.low)
  | .popc e g f => some (e, wordOf g 0x12 f.low)
  | .ext e g f => some (e, wordOf g 0x13 f.low)
  | .and e g f => some (e, wordOf g 0x14 f.low)
  | .or e g f => some (e, wordOf g 0x15 f.low)
  | .xor e g f => some (e, wordOf g 0x16 f.low)
  | .andn e g f => some (e, wordOf g 0x17 f.low)
  | .nor e g f => some (e, wordOf g 0x18 f.low)
  | .xnor e g f => some (e, wordOf g 0x19 f.low)
  | .lmux e g f => some (e, wordOf g 0x1A f.low)
  | .pspr e g f => some (e, wordOf g 0x1B f.low)
  | .cmpeq e g f => some (e, wordOf g 0x1C f.low)
  | .cmpne e g f => some (e, wordOf g 0x1D f.low)
  | .cmplt e g f => some (e, wordOf g 0x1E f.low)
  | .cmpltu e g f => some (e, wordOf g 0x1F f.low)
  | .cmple e g f => some (e, wordOf g 0x20 f.low)
  | .cmpleu e g f => some (e, wordOf g 0x21 f.low)
  | .cmpeqi e g f => some (e, wordOf g 0x22 f.low)
  | .cmplti e g f => some (e, wordOf g 0x23 f.low)
  | .tstb e g f => some (e, wordOf g 0x24 f.low)
  | .any e g f => some (e, wordOf g 0x25 f.low)
  | .all e g f => some (e, wordOf g 0x26 f.low)
  | .pand e g f => some (e, wordOf g 0x27 f.low)
  | .por e g f => some (e, wordOf g 0x28 f.low)
  | .pxor e g f => some (e, wordOf g 0x29 f.low)
  | .pandn e g f => some (e, wordOf g 0x2A f.low)
  | .pnor e g f => some (e, wordOf g 0x2B f.low)
  | .ldb e g f => some (e, wordOf g 0x2C f.low)
  | .ldbs e g f => some (e, wordOf g 0x2D f.low)
  | .ldh e g f => some (e, wordOf g 0x2E f.low)
  | .ldhs e g f => some (e, wordOf g 0x2F f.low)
  | .ldw e g f => some (e, wordOf g 0x30 f.low)
  | .stb e g f => some (e, wordOf g 0x31 f.low)
  | .sth e g f => some (e, wordOf g 0x32 f.low)
  | .stw e g f => some (e, wordOf g 0x33 f.low)
  | .lib e g f => some (e, wordOf g 0x34 f.low)
  | .lqb e g f => some (e, wordOf g 0x35 f.low)
  | .lmb e g f => some (e, wordOf g 0x36 f.low)
  | .liw e g f => some (e, wordOf g 0x37 f.low)
  | .lqw e g f => some (e, wordOf g 0x38 f.low)
  | .lmw e g f => some (e, wordOf g 0x39 f.low)
  | .ldq e g f => some (e, wordOf g 0x3A f.low)
  | .lww e g f => some (e, wordOf g 0x3B f.low)
  | .sqb e g f => some (e, wordOf g 0x3C f.low)
  | .smb e g f => some (e, wordOf g 0x3D f.low)
  | .sqw e g f => some (e, wordOf g 0x3E f.low)
  | .smw e g f => some (e, wordOf g 0x3F f.low)
  | .sww e g f => some (e, wordOf g 0x40 f.low)
  | .bgth e g f => some (e, wordOf g 0x41 f.low)
  | .bgthq e g f => some (e, wordOf g 0x42 f.low)
  | .bsct e g f => some (e, wordOf g 0x43 f.low)
  | .ton e g f => some (e, wordOf g 0x44 f.low)
  | .tof e g f => some (e, wordOf g 0x45 f.low)
  | .tp e g f => some (e, wordOf g 0x46 f.low)
  | .tpx e g f => some (e, wordOf g 0x47 f.low)
  | .tonr e g f => some (e, wordOf g 0x48 f.low)
  | .trst e g f => some (e, wordOf g 0x49 f.low)
  | .tpre e g f => some (e, wordOf g 0x4A f.low)
  | .trd e g f => some (e, wordOf g 0x4B f.low)
  | .ctu e g f => some (e, wordOf g 0x4C f.low)
  | .ctd e g f => some (e, wordOf g 0x4D f.low)
  | .ctud e g f => some (e, wordOf g 0x4E f.low)
  | .cchn e g f => some (e, wordOf g 0x4F f.low)
  | .cldc e g f => some (e, wordOf g 0x50 f.low)
  | .edr e g f => some (e, wordOf g 0x51 f.low)
  | .edf e g f => some (e, wordOf g 0x52 f.low)
  | .edb e g f => some (e, wordOf g 0x53 f.low)
  | .br e g f => some (e, wordOf g 0x54 f.low)
  | .call e g f => some (e, wordOf g 0x55 f.low)
  | .ret e g f => some (e, wordOf g 0x56 f.low)
  | .lpb e g f => some (e, wordOf g 0x57 f.low)
  | .mtlk e g f => some (e, wordOf g 0x58 f.low)
  | .mtlp e g f => some (e, wordOf g 0x59 f.low)
  | .mfs e g f => some (e, wordOf g 0x5A f.low)
  | .halt e g f => some (e, wordOf g 0x5B f.low)
  | .wdck e g f => some (e, wordOf g 0x5C f.low)
  | .mvrq e g f => some (e, wordOf g 0x5D f.low)
  | .srd e g f => some (e, wordOf g 0x5E f.low)
  | .swrPerfctl e g f => some (e, wordOf g 0x5F f.low)
  | .swrScanmax e g d => some (e, wordOf g 0x5F (d.val * 2 ^ 14 + 0x1001))
  | .swrRespmax e g d => some (e, wordOf g 0x5F (d.val * 2 ^ 14 + 0x1002))
  | .customInstruction e g n w => some (e, wordOf g (0x60 + n.val) w.toNat)
  | .reservedOpcode e g w => some (e, wordOf g (w.toNat / 2 ^ 20) w.toNat)
  | _ => none

/-- The command a word of `nbits` bits spells: a 32-bit word is an instruction word (R114), here of engine 0, since a word names no
engine; the rows of the table themselves give no bits. Log 6 (DEDUCED). -/
def decodeTableWord (nbits w : Nat) : Option Instr := if nbits = 32 then some (decodeWord 0 (BitVec.ofNat 32 w)) else none

end Sys2Proof
end

