-- ==== Sys2Proof/Machine/Bytes.lean ====
section
/-!
DEFINITION. Byte order, checks and digests: little-endian fields (R4), the CRC-32 of R162, the CRC-64 of R44, and SHA-256 with
its keyed form.
-/
namespace Sys2Proof.Machine
open Sys2Proof

/-- The `n` low bytes of a number, least significant first (R4). -/
def leBytes : Nat → Nat → List Byte
  | 0, _ => []
  | n + 1, v => BitVec.ofNat 8 v :: leBytes n (v / 256)

/-- The number whose bytes, least significant first, are given. -/
def leNat : List Byte → Nat
  | [] => 0
  | b :: bs => b.toNat + 256 * leNat bs

/-- The number whose bytes, most significant first, are given. -/
def beNat (bs : List Byte) : Nat := bs.foldl (fun a b => a * 256 + b.toNat) 0

/-- The `n` low bytes of a number, most significant first. -/
def beBytes (n v : Nat) : List Byte := (leBytes n v).reverse

/-- The little-endian field of `n` bytes at an offset; bytes beyond the end read 0. -/
def fieldAt (bs : List Byte) (off n : Nat) : Nat := leNat ((bs.drop off).take n)

/-- One byte at an offset; beyond the end it reads 0. -/
def byteAt (bs : List Byte) (off : Nat) : Nat := (bs.getD off 0).toNat

/-- A fixed number of bytes from an offset, padded with zeros. -/
def sliceAt (bs : List Byte) (off n : Nat) : List Byte :=
  let s := (bs.drop off).take n
  s ++ List.replicate (n - s.length) 0

/-- ASCII text as bytes. -/
def asciiBytes (s : String) : List Byte := s.toList.map (fun c => BitVec.ofNat 8 c.toNat)

/-! ### CRC-32 (R162): IEEE 802.3 polynomial, reflected, initial and final value 0xFFFF_FFFF -/

def crc32Bit (c : BitVec 32) : BitVec 32 :=
  if c.getLsbD 0 then (c >>> 1) ^^^ 0xEDB88320#32 else c >>> 1

def crc32Byte (c : BitVec 32) (b : Byte) : BitVec 32 :=
  crc32Bit (crc32Bit (crc32Bit (crc32Bit (crc32Bit (crc32Bit (crc32Bit (crc32Bit (c ^^^ b.setWidth 32))))))))

def crc32 (bs : List Byte) : BitVec 32 := bs.foldl crc32Byte 0xFFFFFFFF#32 ^^^ 0xFFFFFFFF#32

/-! ### CRC-64 (R44): polynomial 0x42F0_E1EB_A9EA_3693, initial value and final XOR all ones, no reflection -/

def crc64Bit (c : BitVec 64) : BitVec 64 :=
  if c.getLsbD 63 then (c <<< 1) ^^^ 0x42F0E1EBA9EA3693#64 else c <<< 1

def crc64Byte (c : BitVec 64) (b : Byte) : BitVec 64 :=
  crc64Bit (crc64Bit (crc64Bit (crc64Bit (crc64Bit (crc64Bit (crc64Bit (crc64Bit (c ^^^ (b.setWidth 64 <<< 56)))))))))

def crc64 (bs : List Byte) : BitVec 64 := bs.foldl crc64Byte 0xFFFFFFFFFFFFFFFF#64 ^^^ 0xFFFFFFFFFFFFFFFF#64

/-! ### SHA-256 (FIPS 180-4) and HMAC. -/

/-- The primes below 312. -/
def shaPrimes : List Nat :=
  (List.range 312).filter (fun n => decide (2 ≤ n) && (List.range 16).all (fun i => n == i + 2 || n % (i + 2) != 0))

/-- The largest number of at most `bits` bits above `base` whose power `e` is at most `n`. -/
def rootBelow (e n : Nat) : Nat → Nat → Nat
  | 0, base => base
  | bits + 1, base => rootBelow e n bits (if (base + 2 ^ bits) ^ e ≤ n then base + 2 ^ bits else base)

/-- The first 32 bits of the fraction of the root of degree `e` of a number. -/
def rootFraction (e p : Nat) : Word := BitVec.ofNat 32 (rootBelow e (p * 2 ^ (32 * e)) 37 0)

/-- Two rotations and a third term, added without carries. -/
def shaMix (x : Word) (r q : Nat) (z : Word) : Word := z ^^^ x.rotateRight r ^^^ x.rotateRight q

/-- The hash in progress: the last four words of each of the two sequences, newest first, and the sixteen message words that come next. -/
structure ShaState where
  upper : List Word
  lower : List Word
  next : List Word
  deriving DecidableEq, Repr

/-- One round with its constant. -/
def ShaState.round (x : ShaState) (k : Word) : ShaState :=
  match x.upper, x.lower, x.next with
  | [a, b, c, d], [e, f, g, h], w :: ws =>
    let t := w + k + h + (g ^^^ (e &&& (f ^^^ g))) + shaMix e 6 11 (e.rotateRight 25)
    let far := ws.getD 13 0
    let near := ws.getD 0 0
    { upper := [shaMix a 2 13 (a.rotateRight 22) + (a &&& (b ||| c) ||| (b &&& c)) + t, a, b, c]
      lower := [t + d, e, f, g]
      next := ws ++ [ws.getD 8 0 + w + shaMix near 7 18 (near >>> 3) + shaMix far 17 19 (far >>> 10)] }
  | _, _, _ => x

/-- The big-endian words of a byte list, `n` of them. -/
def beWords : Nat → List Byte → List Word
  | 0, _ => []
  | n + 1, bs => BitVec.ofNat 32 (beNat (bs.take 4)) :: beWords n (bs.drop 4)

/-- The eight words of the hash after `n` more blocks of 64 bytes. -/
def shaBlocks : Nat → List Word → List Byte → List Word
  | 0, hs, _ => hs
  | n + 1, hs, bs =>
    let r := (shaPrimes.map (rootFraction 3)).foldl ShaState.round ⟨hs.take 4, hs.drop 4, beWords 16 bs⟩
    shaBlocks n (List.zipWith (· + ·) hs (r.upper ++ r.lower)) (bs.drop 64)

/-- SHA-256 of a byte list. Log 13 (DESIGN CHOICE). -/
def sha256 (bs : List Byte) : List Byte :=
  let msg := bs ++ 0x80#8 :: List.replicate ((119 - bs.length % 64) % 64) 0 ++ beBytes 8 (bs.length * 8)
  let hs := shaBlocks (msg.length / 64) ((shaPrimes.take 8).map (rootFraction 2)) msg
  (List.range 8).flatMap (fun i => beBytes 4 (hs.getD i 0).toNat)

/-- HMAC-SHA-256 under a key of at most 64 bytes. Log 13 (DESIGN CHOICE). -/
def hmac256 (key msg : List Byte) : List Byte :=
  let k := key ++ List.replicate (64 - key.length) 0
  sha256 (k.map (· ^^^ 0x5C#8) ++ sha256 (k.map (· ^^^ 0x36#8) ++ msg))

end Sys2Proof.Machine
end

