-- ==== Sys2Proof/Config.lean ====
section
/-!
DEFINITION. What an implementation or a unit fixes, and the free values: constants without a body, so that nothing in Lean
can evaluate them and every statement holds whatever they are. Each is named in the assumption log.
-/
namespace Sys2Proof.Config

/-- ENGe.PC while the engine is not lit (R126): undefined, a fresh value at every read. Log 25 (DESIGN CHOICE). -/
opaque enginePc : Nat → BitVec 14

/-- The session number chosen at each start (R545): non-zero and otherwise unstated; the number is one more than this value. Log 101 (DEDUCED). -/
opaque entropy : Nat → Fin 4294967295

/-- Silicon revision of SYS.ID (R592, a unit value). Log 12 (DESIGN CHOICE). -/
opaque siliconRev : BitVec 8

/-- Own MAC address (STA.MAC_LO and STA.MAC_HI, unit values set at manufacture). Log 12 (DESIGN CHOICE). -/
opaque macLo : BitVec 32
opaque macHi : BitVec 16

/-- Ingress and egress stamp compensation of station port p (STA.SPp.DLY, a unit value). Log 12 (DESIGN CHOICE). -/
opaque spDelay : Nat → BitVec 32

/-- Module serial number (UPD.SERIAL0–3, unit values). Log 12 (DESIGN CHOICE). -/
opaque serial : Nat → BitVec 32

/-- Build and pair-protocol version of the firmware image the module leaves the factory with (UPD.FWBUILD, UPD.FWPVER). Log 12 (DESIGN CHOICE). -/
opaque fwBuild : BitVec 32
opaque fwPver : BitVec 16

/-- Boot ROM version (UPD.FWPVER, a ROM value). Log 12 (DESIGN CHOICE). -/
opaque romVersion : BitVec 16

/-- The LSDU size in the redundancy trailer of a frame pair, by its sequence number and instant (R365); the manual names the field and not how it
counts. -/
opaque lsduSize : Nat → Nat → BitVec 12

/-- The link-down time of IEEE 802.3 in nanoseconds (R363); the manual gives no figure. Log 67 (DESIGN CHOICE). -/
opaque linkDownTime : Nat

/-- The characters of a FLOAT32 value with a number of decimals (R529); the manual gives no rounding. Log 95 (DESIGN CHOICE). -/
opaque floatText : BitVec 32 → Nat → List Nat

/-- The grey level of a pixel of the alarm list's picture (R529); the manual gives no layout. Log 95 (DESIGN CHOICE). -/
opaque alarmPicture : Nat → Nat → BitVec 4

/-- Is the ECDSA P-256 signature (r, then s) over the SHA-256 of some bytes valid under the vendor key in boot ROM (R485)? Log 13 (DESIGN CHOICE). -/
opaque signatureOk : List (BitVec 8) → List (BitVec 8) → Bool

/-- The unit commissioning key, by byte (R544, a unit value). Log 12 (DESIGN CHOICE). -/
opaque commissioningKey : Nat → BitVec 8

/-- A word the manual states no value for, a fresh one at every use. Log 5 (DESIGN CHOICE). -/
opaque freeWord : Nat → BitVec 32

end Sys2Proof.Config
end

