-- ==== Sys2Proof/Machine/Map.lean ====
section
/-!
DEFINITION. Sparse data by key: a list of key and value pairs in one canonical form (keys strictly rising, no entry equal to
what an unlisted key reads as), with its read and its write. Every store of the module whose contents are addressed by a number
(the register map, the spaces of the process image, scan-local data, flashes) is one of these.
-/
namespace Sys2Proof.Machine

/-- Sparse data: the listed entries; an unlisted key reads as the default its owner gives. Log 11 (DESIGN CHOICE). -/
abbrev SMap (α : Type) := List (Nat × α)

/-- Read key `k`; `d` is what an unlisted key reads as. -/
def sget {α : Type} (d : α) : SMap α → Nat → α
  | [], _ => d
  | (k', v) :: rest, k => if k' == k then v else sget d rest k

/-- Remove every entry of key `k`. -/
def sdel {α : Type} (m : SMap α) (k : Nat) : SMap α := m.filter (fun e => !(e.1 == k))

/-- Insert an entry before the first entry with a larger key. -/
def sins {α : Type} (k : Nat) (v : α) : SMap α → SMap α
  | [] => [(k, v)]
  | (k', v') :: rest => if k < k' then (k, v) :: (k', v') :: rest else (k', v') :: sins k v rest

/-- Write `v` at key `k`; writing what an unlisted key reads as removes the entry. -/
def sset {α : Type} [DecidableEq α] (d : α) (m : SMap α) (k : Nat) (v : α) : SMap α :=
  if v = d then sdel m k else sins k v (sdel m k)

/-- Keys strictly rising from a lower bound. -/
def srising {α : Type} : Nat → SMap α → Bool
  | _, [] => true
  | n, (k, _) :: rest => decide (n ≤ k) && srising (k + 1) rest

/-- The canonical form: keys strictly rising, no entry equal to what an unlisted key of that number reads as. -/
def swf {α : Type} [DecidableEq α] (dflt : Nat → α) (m : SMap α) : Bool :=
  srising 0 m && m.all (fun e => decide (e.2 ≠ dflt e.1))

/-- Write a list of consecutive values from key `k` on. -/
def ssets {α : Type} [DecidableEq α] (d : α) (m : SMap α) (k : Nat) : List α → SMap α
  | [] => m
  | v :: vs => ssets d (sset d m k v) (k + 1) vs

/-- Read `n` consecutive values from key `k` on. -/
def sgets {α : Type} (d : α) (m : SMap α) (k n : Nat) : List α :=
  (List.range n).map (fun i => sget d m (k + i))

end Sys2Proof.Machine
end

