-- ==== Sys2Proof/Machine/RegTab.lean ====
section
/-!
DEFINITION. The register map: every register the chapters define, by field (R587, R588), with its access code (R5) and its reset value.
A `Fld` is one field of one register: the byte address of its register (R588), its lowest bit and its width.
The names are the manual's: BLOCK_REGISTER_FIELD, with the member numbers of an array as arguments.
`regRows` is the same map as a table, read by the register operations for the access codes and the reset values.
-/
namespace Sys2Proof.Machine

/-- One field of one register (R3, R587). -/
structure Fld where
  addr : Nat
  lsb : Nat
  width : Nat
  deriving DecidableEq, Repr

/-- The access codes of R5. -/
inductive Access where
  | ro | rw | wo | w1c | stk | rwl | otp
  deriving DecidableEq, Repr

/-- One row of a register's bit table: lowest bit, width, access code and reset value. -/
structure FieldRow where
  lsb : Nat
  width : Nat
  acc : Access
  rst : Nat
  deriving DecidableEq, Repr

/-- One register of the map, or one array of registers: the address of its first member, the strides and the counts of
its arrays with the longest stride first (R588), and its fields; a bit in no field is reserved (R6). -/
structure RegRow where
  base : Nat
  arr : List (Nat × Nat)
  fields : List FieldRow
  deriving DecidableEq, Repr

namespace R

def SYS_ID : Fld := ⟨0x0, 0, 32⟩
def SYS_ID_HWTYPE : Fld := ⟨0x0, 0, 16⟩
def SYS_ID_REV : Fld := ⟨0x0, 16, 8⟩
def SYS_SCRATCH : Fld := ⟨0x4, 0, 32⟩
def PWR_STAT : Fld := ⟨0x10000, 0, 32⟩
def PWR_STAT_VSUP_OK : Fld := ⟨0x10000, 0, 1⟩
def PWR_STAT_PFW : Fld := ⟨0x10000, 1, 1⟩
def PWR_STAT_RIDE : Fld := ⟨0x10000, 2, 1⟩
def PWR_STAT_HOLDUP_OK : Fld := ⟨0x10000, 3, 1⟩
def PWR_STAT_CHG : Fld := ⟨0x10000, 4, 1⟩
def PWR_STAT_SAVE : Fld := ⟨0x10000, 5, 1⟩
def PWR_STAT_AGED : Fld := ⟨0x10000, 6, 1⟩
def PWR_VSUP : Fld := ⟨0x10004, 0, 32⟩
def PWR_VSUP_VSUP : Fld := ⟨0x10004, 0, 16⟩
def PWR_VSUP_MIN : Fld := ⟨0x10004, 16, 16⟩
def PWR_HOLDUP : Fld := ⟨0x10008, 0, 32⟩
def PWR_HOLDUP_VBANK : Fld := ⟨0x10008, 0, 16⟩
def PWR_HOLDUP_CAP : Fld := ⟨0x10008, 16, 12⟩
def PWR_PFW : Fld := ⟨0x1000C, 0, 32⟩
def PWR_PFW_WARNINGS : Fld := ⟨0x1000C, 0, 16⟩
def PWR_PFW_RIDES : Fld := ⟨0x1000C, 16, 16⟩
def PWR_DOM : Fld := ⟨0x10010, 0, 32⟩
def PWR_DOM_ON : Fld := ⟨0x10010, 0, 12⟩
def PWR_DOM_ENPEND : Fld := ⟨0x10010, 16, 12⟩
def PWR_STARTDUR : Fld := ⟨0x10014, 0, 32⟩
def PWR_STARTDUR_TIME : Fld := ⟨0x10014, 0, 24⟩
def CLK_STAT : Fld := ⟨0x20000, 0, 32⟩
def CLK_STAT_REF25OK : Fld := ⟨0x20000, 0, 1⟩
def CLK_STAT_XO32OK : Fld := ⟨0x20000, 1, 1⟩
def CLK_STAT_PLLLOCK : Fld := ⟨0x20000, 2, 1⟩
def TB_NOW_LO : Fld := ⟨0x30000, 0, 32⟩
def TB_NOW_HI : Fld := ⟨0x30004, 0, 32⟩
def TB_UTC_OFFSET : Fld := ⟨0x30008, 0, 32⟩
def TB_UTC_OFFSET_VALUE : Fld := ⟨0x30008, 0, 16⟩
def TB_UTC_OFFSET_VALID : Fld := ⟨0x30008, 16, 1⟩
def TB_UTC_OFFSET_LEAPPEND : Fld := ⟨0x30008, 17, 1⟩
def TB_UTC_OFFSET_LEAPDEL : Fld := ⟨0x30008, 18, 1⟩
def TB_UTC_OFFSET_INLEAP : Fld := ⟨0x30008, 19, 1⟩
def TB_CFG : Fld := ⟨0x3000C, 0, 32⟩
def TB_CFG_PTPEN : Fld := ⟨0x3000C, 0, 1⟩
def TB_CFG_IRIGEN : Fld := ⟨0x3000C, 1, 1⟩
def TB_CFG_PPSEN : Fld := ⟨0x3000C, 2, 1⟩
def TB_CFG_IRIGEXT : Fld := ⟨0x3000C, 3, 1⟩
def TB_CFG_IRIGLOC : Fld := ⟨0x3000C, 4, 1⟩
def TB_CFG_SLEWMAX : Fld := ⟨0x3000C, 8, 8⟩
def TB_CFG_TC : Fld := ⟨0x3000C, 16, 6⟩
def TB_CFG_TWAIT : Fld := ⟨0x3000C, 24, 8⟩
def TB_CFG2 : Fld := ⟨0x30010, 0, 32⟩
def TB_CFG2_HOLDLIM : Fld := ⟨0x30010, 0, 12⟩
def TB_CFG2_UTCDEF : Fld := ⟨0x30010, 16, 16⟩
def TB_STAT : Fld := ⟨0x30014, 0, 32⟩
def TB_STAT_TQ : Fld := ⟨0x30014, 0, 2⟩
def TB_STAT_TSRC : Fld := ⟨0x30014, 2, 2⟩
def TB_STAT_AVAIL : Fld := ⟨0x30014, 4, 4⟩
def TB_STAT_GROSS : Fld := ⟨0x30014, 8, 1⟩
def TB_STAT_SLEWLIM : Fld := ⟨0x30014, 9, 1⟩
def TB_OFFSET : Fld := ⟨0x30018, 0, 32⟩
def TB_RATE : Fld := ⟨0x3001C, 0, 32⟩
def TB_LOCKT_LO : Fld := ⟨0x30020, 0, 32⟩
def TB_LOCKT_HI : Fld := ⟨0x30024, 0, 32⟩
def TB_IRIG : Fld := ⟨0x30028, 0, 32⟩
def TB_IRIG_QCODE : Fld := ⟨0x30028, 0, 4⟩
def TB_IRIG_YEAR : Fld := ⟨0x30028, 8, 8⟩
def TB_IRIG_ERRCNT : Fld := ⟨0x30028, 16, 16⟩
def TB_INDLY : Fld := ⟨0x3002C, 0, 32⟩
def TB_INDLY_IRIG : Fld := ⟨0x3002C, 0, 16⟩
def TB_INDLY_PPS : Fld := ⟨0x3002C, 16, 16⟩
def TB_PPSOUT : Fld := ⟨0x30030, 0, 32⟩
def TB_PPSOUT_EN : Fld := ⟨0x30030, 0, 1⟩
def TB_PPSOUT_QMIN : Fld := ⟨0x30030, 1, 2⟩
def TB_PPSOUT_WIDTH : Fld := ⟨0x30030, 16, 9⟩
def TB_CNT : Fld := ⟨0x30034, 0, 32⟩
def TB_CNT_SRCCHG : Fld := ⟨0x30034, 0, 16⟩
def TB_CNT_STEPS : Fld := ⟨0x30034, 16, 16⟩
def RTC_SEC : Fld := ⟨0x40000, 0, 32⟩
def RTC_SEC_SEC : Fld := ⟨0x40000, 0, 6⟩
def RTC_SEC_SUBSEC : Fld := ⟨0x40000, 8, 15⟩
def RTC_TIME : Fld := ⟨0x40004, 0, 32⟩
def RTC_TIME_MIN : Fld := ⟨0x40004, 0, 6⟩
def RTC_TIME_HOUR : Fld := ⟨0x40004, 8, 5⟩
def RTC_TIME_WDAY : Fld := ⟨0x40004, 16, 3⟩
def RTC_DATE : Fld := ⟨0x40008, 0, 32⟩
def RTC_DATE_DAY : Fld := ⟨0x40008, 0, 5⟩
def RTC_DATE_MON : Fld := ⟨0x40008, 8, 4⟩
def RTC_DATE_YEAR : Fld := ⟨0x40008, 16, 16⟩
def RTC_CMD : Fld := ⟨0x4000C, 0, 32⟩
def RTC_CMD_COMMIT : Fld := ⟨0x4000C, 0, 1⟩
def RTC_STAT : Fld := ⟨0x40010, 0, 32⟩
def RTC_STAT_VALID : Fld := ⟨0x40010, 0, 1⟩
def RTC_STAT_OSCSTOP : Fld := ⟨0x40010, 1, 1⟩
def RTC_STAT_BAK_LOW : Fld := ⟨0x40010, 2, 1⟩
def RTC_STAT_ONBAK : Fld := ⟨0x40010, 3, 1⟩
def RTC_STAT_ALM0 : Fld := ⟨0x40010, 4, 1⟩
def RTC_STAT_ALM1 : Fld := ⟨0x40010, 5, 1⟩
def RTC_STAT_CMTERR : Fld := ⟨0x40010, 6, 1⟩
def RTC_STAT_CMTREJ : Fld := ⟨0x40010, 7, 1⟩
def RTC_STAT_CMTBUSY : Fld := ⟨0x40010, 8, 1⟩
def RTC_CFG : Fld := ⟨0x40014, 0, 32⟩
def RTC_CFG_CHGEN : Fld := ⟨0x40014, 0, 1⟩
def RTC_CFG_CHGV : Fld := ⟨0x40014, 1, 2⟩
def RTC_CFG_CHGI : Fld := ⟨0x40014, 3, 2⟩
def RTC_CFG_SQWSEL : Fld := ⟨0x40014, 8, 3⟩
def RTC_TRIM : Fld := ⟨0x40018, 0, 32⟩
def RTC_TRIM_TRIM : Fld := ⟨0x40018, 0, 12⟩
def RTC_VBAK : Fld := ⟨0x4001C, 0, 32⟩
def RTC_VBAK_VBAK : Fld := ⟨0x4001C, 0, 12⟩
def RTC_VBAK_VAONM : Fld := ⟨0x4001C, 16, 12⟩
def RTC_ALM_MATCH (n : Nat) : Fld := ⟨0x40020 + 0x8 * n, 0, 32⟩
def RTC_ALM_MATCH_SEC (n : Nat) : Fld := ⟨0x40020 + 0x8 * n, 0, 6⟩
def RTC_ALM_MATCH_MIN (n : Nat) : Fld := ⟨0x40020 + 0x8 * n, 6, 6⟩
def RTC_ALM_MATCH_HOUR (n : Nat) : Fld := ⟨0x40020 + 0x8 * n, 12, 5⟩
def RTC_ALM_MATCH_DAY (n : Nat) : Fld := ⟨0x40020 + 0x8 * n, 17, 5⟩
def RTC_ALM_MATCH_MON (n : Nat) : Fld := ⟨0x40020 + 0x8 * n, 22, 4⟩
def RTC_ALM_MATCH_WDAY (n : Nat) : Fld := ⟨0x40020 + 0x8 * n, 26, 3⟩
def RTC_ALM_CTL (n : Nat) : Fld := ⟨0x40024 + 0x8 * n, 0, 32⟩
def RTC_ALM_CTL_EN (n : Nat) : Fld := ⟨0x40024 + 0x8 * n, 0, 1⟩
def RTC_ALM_CTL_MASK (n : Nat) : Fld := ⟨0x40024 + 0x8 * n, 1, 6⟩
def WDG_CTL : Fld := ⟨0x50000, 0, 32⟩
def WDG_CTL_START : Fld := ⟨0x50000, 0, 1⟩
def WDG_CTL_CLKSEL : Fld := ⟨0x50000, 1, 1⟩
def WDG_CTL_LOCK : Fld := ⟨0x50000, 2, 1⟩
def WDG_STAT : Fld := ⟨0x50004, 0, 32⟩
def WDG_STAT_RUN : Fld := ⟨0x50004, 0, 1⟩
def WDG_STAT_HW : Fld := ⟨0x50004, 1, 1⟩
def WDG_STAT_CLK : Fld := ⟨0x50004, 2, 1⟩
def WDG_STAT_CLKFAIL : Fld := ⟨0x50004, 3, 1⟩
def WDG_STAT_SUSP : Fld := ⟨0x50004, 4, 1⟩
def WDG_STAT_SUSPCUT : Fld := ⟨0x50004, 5, 1⟩
def WDG_STAT_HOLD : Fld := ⟨0x50004, 6, 1⟩
def WDG_OPT : Fld := ⟨0x50008, 0, 32⟩
def WDG_OPT_WDG_HW : Fld := ⟨0x50008, 0, 1⟩
def WDG_RSTCNT : Fld := ⟨0x5000C, 0, 32⟩
def WDG_RSTCNT_COUNT : Fld := ⟨0x5000C, 0, 16⟩
def WDG_RSTCNT_CLR : Fld := ⟨0x5000C, 31, 1⟩
def WDG_RSTCAUSE : Fld := ⟨0x50010, 0, 32⟩
def WDG_RSTCAUSE_CAUSE : Fld := ⟨0x50010, 0, 3⟩
def WDG_RSTCAUSE_SLOT : Fld := ⟨0x50010, 8, 6⟩
def WDG_RSTT_LO : Fld := ⟨0x50014, 0, 32⟩
def WDG_RSTT_HI : Fld := ⟨0x50018, 0, 32⟩
def WDG_SUSPMAX : Fld := ⟨0x5001C, 0, 32⟩
def WDG_SUSPMAX_MAX : Fld := ⟨0x5001C, 0, 16⟩
def WDG_SUSPMAX_COUNT : Fld := ⟨0x5001C, 16, 16⟩
def WDG_AMBER_LO : Fld := ⟨0x50020, 0, 32⟩
def WDG_AMBER_HI : Fld := ⟨0x50024, 0, 32⟩
def WDG_AMBER_HI_VALUE : Fld := ⟨0x50024, 0, 16⟩
def WDG_DBL_LO : Fld := ⟨0x50028, 0, 32⟩
def WDG_DBL_HI : Fld := ⟨0x5002C, 0, 32⟩
def WDG_DBL_HI_VALUE : Fld := ⟨0x5002C, 0, 16⟩
def WDG_SLOT_CFG (n : Nat) : Fld := ⟨0x50100 + 0x20 * n, 0, 32⟩
def WDG_SLOT_CFG_PERIOD (n : Nat) : Fld := ⟨0x50100 + 0x20 * n, 0, 18⟩
def WDG_SLOT_CFG_EN (n : Nat) : Fld := ⟨0x50100 + 0x20 * n, 31, 1⟩
def WDG_SLOT_REMAIN (n : Nat) : Fld := ⟨0x50104 + 0x20 * n, 0, 32⟩
def WDG_SLOT_REMAIN_VALUE (n : Nat) : Fld := ⟨0x50104 + 0x20 * n, 0, 18⟩
def WDG_SLOT_LAST_LO (n : Nat) : Fld := ⟨0x50108 + 0x20 * n, 0, 32⟩
def WDG_SLOT_LAST_HI (n : Nat) : Fld := ⟨0x5010C + 0x20 * n, 0, 32⟩
def WDG_SLOT_CNT (n : Nat) : Fld := ⟨0x50110 + 0x20 * n, 0, 32⟩
def WDG_SLOT_CNT_AMBERS (n : Nat) : Fld := ⟨0x50110 + 0x20 * n, 0, 16⟩
def WDG_SLOT_CNT_CHECKS (n : Nat) : Fld := ⟨0x50110 + 0x20 * n, 16, 16⟩
def ENG_STAT (e : Nat) : Fld := ⟨0x60000 + 0x1000 * e, 0, 32⟩
def ENG_STAT_STATE (e : Nat) : Fld := ⟨0x60000 + 0x1000 * e, 0, 2⟩
def ENG_STAT_ACTIVE (e : Nat) : Fld := ⟨0x60000 + 0x1000 * e, 2, 1⟩
def ENG_STAT_DRAIN (e : Nat) : Fld := ⟨0x60000 + 0x1000 * e, 3, 1⟩
def ENG_STAT_TASK (e : Nat) : Fld := ⟨0x60000 + 0x1000 * e, 4, 5⟩
def ENG_STAT_SEG (e : Nat) : Fld := ⟨0x60000 + 0x1000 * e, 9, 3⟩
def ENG_CFG (e : Nat) : Fld := ⟨0x60004 + 0x1000 * e, 0, 32⟩
def ENG_CFG_ROLE (e : Nat) : Fld := ⟨0x60004 + 0x1000 * e, 0, 2⟩
def ENG_CFG_BANK (e : Nat) : Fld := ⟨0x60004 + 0x1000 * e, 2, 1⟩
def ENG_CFG_PRESET (e : Nat) : Fld := ⟨0x60004 + 0x1000 * e, 8, 5⟩
def ENG_PC (e : Nat) : Fld := ⟨0x60008 + 0x1000 * e, 0, 32⟩
def ENG_PC_PC (e : Nat) : Fld := ⟨0x60008 + 0x1000 * e, 0, 14⟩
def ENG_PCCAP (e : Nat) : Fld := ⟨0x6000C + 0x1000 * e, 0, 32⟩
def ENG_PCCAP_PC (e : Nat) : Fld := ⟨0x6000C + 0x1000 * e, 0, 14⟩
def ENG_PCCAP_STATE (e : Nat) : Fld := ⟨0x6000C + 0x1000 * e, 14, 2⟩
def ENG_PCCAP_TASK (e : Nat) : Fld := ⟨0x6000C + 0x1000 * e, 16, 5⟩
def ENG_PCCAP_SEG (e : Nat) : Fld := ⟨0x6000C + 0x1000 * e, 21, 3⟩
def ENG_PCCAP_VALID (e : Nat) : Fld := ⟨0x6000C + 0x1000 * e, 31, 1⟩
def ENG_PCCAPT_LO (e : Nat) : Fld := ⟨0x60010 + 0x1000 * e, 0, 32⟩
def ENG_PCCAPT_HI (e : Nat) : Fld := ⟨0x60014 + 0x1000 * e, 0, 32⟩
def ENG_FLT (e : Nat) : Fld := ⟨0x60018 + 0x1000 * e, 0, 32⟩
def ENG_FLT_CODE (e : Nat) : Fld := ⟨0x60018 + 0x1000 * e, 0, 6⟩
def ENG_FLT_HW (e : Nat) : Fld := ⟨0x60018 + 0x1000 * e, 6, 1⟩
def ENG_FLT_REPEAT (e : Nat) : Fld := ⟨0x60018 + 0x1000 * e, 7, 1⟩
def ENG_FLT_PC (e : Nat) : Fld := ⟨0x60018 + 0x1000 * e, 8, 14⟩
def ENG_FLT_TASK (e : Nat) : Fld := ⟨0x60018 + 0x1000 * e, 22, 5⟩
def ENG_FLT_SEG (e : Nat) : Fld := ⟨0x60018 + 0x1000 * e, 27, 3⟩
def ENG_FLT_VALID (e : Nat) : Fld := ⟨0x60018 + 0x1000 * e, 31, 1⟩
def ENG_FLTCNT (e : Nat) : Fld := ⟨0x6001C + 0x1000 * e, 0, 32⟩
def ENG_FLTT_LO (e : Nat) : Fld := ⟨0x60020 + 0x1000 * e, 0, 32⟩
def ENG_FLTT_HI (e : Nat) : Fld := ⟨0x60024 + 0x1000 * e, 0, 32⟩
def ENG_SEG (e : Nat) (n : Nat) : Fld := ⟨0x60040 + 0x1000 * e + 0x4 * n, 0, 32⟩
def ENG_SEG_ENTRY (e : Nat) (n : Nat) : Fld := ⟨0x60040 + 0x1000 * e + 0x4 * n, 0, 14⟩
def ENG_SEG_VALID (e : Nat) (n : Nat) : Fld := ⟨0x60040 + 0x1000 * e + 0x4 * n, 14, 1⟩
def ENG_SEG_STEPLIM (e : Nat) (n : Nat) : Fld := ⟨0x60040 + 0x1000 * e + 0x4 * n, 16, 16⟩
def ENG_PERFCTL (e : Nat) : Fld := ⟨0x60100 + 0x1000 * e, 0, 32⟩
def ENG_PERFCTL_EN (e : Nat) : Fld := ⟨0x60100 + 0x1000 * e, 0, 1⟩
def ENG_PERFCTL_CLR (e : Nat) : Fld := ⟨0x60100 + 0x1000 * e, 1, 1⟩
def ENG_LITCYC (e : Nat) : Fld := ⟨0x60104 + 0x1000 * e, 0, 32⟩
def ENG_DIMTIME (e : Nat) : Fld := ⟨0x60108 + 0x1000 * e, 0, 32⟩
def ENG_ISSUED (e : Nat) : Fld := ⟨0x6010C + 0x1000 * e, 0, 32⟩
def ENG_GFALSE (e : Nat) : Fld := ⟨0x60110 + 0x1000 * e, 0, 32⟩
def ENG_DISCARD (e : Nat) : Fld := ⟨0x60114 + 0x1000 * e, 0, 32⟩
def ENG_EARLY (e : Nat) : Fld := ⟨0x60118 + 0x1000 * e, 0, 32⟩
def ENG_SEGSTART (e : Nat) : Fld := ⟨0x6011C + 0x1000 * e, 0, 32⟩
def ENG_SEGHALT (e : Nat) : Fld := ⟨0x60120 + 0x1000 * e, 0, 32⟩
def ENG_WAKEDIM (e : Nat) : Fld := ⟨0x60124 + 0x1000 * e, 0, 32⟩
def ENG_WAKEDARK (e : Nat) : Fld := ⟨0x60128 + 0x1000 * e, 0, 32⟩
def ENG_STEPMAX (e : Nat) : Fld := ⟨0x6012C + 0x1000 * e, 0, 32⟩
def TSK_CFG (k : Nat) : Fld := ⟨0x70000 + 0x80 * k, 0, 32⟩
def TSK_CFG_EN (k : Nat) : Fld := ⟨0x70000 + 0x80 * k, 0, 1⟩
def TSK_CFG_MODE (k : Nat) : Fld := ⟨0x70000 + 0x80 * k, 1, 1⟩
def TSK_CFG_TMRWAKE (k : Nat) : Fld := ⟨0x70000 + 0x80 * k, 2, 1⟩
def TSK_CFG_PRIO (k : Nat) : Fld := ⟨0x70000 + 0x80 * k, 8, 5⟩
def TSK_CFG_OVRLIM (k : Nat) : Fld := ⟨0x70000 + 0x80 * k, 16, 4⟩
def TSK_CFG_WDSLOT (k : Nat) : Fld := ⟨0x70000 + 0x80 * k, 24, 5⟩
def TSK_PERIOD (k : Nat) : Fld := ⟨0x70004 + 0x80 * k, 0, 32⟩
def TSK_PERIOD_PERIOD (k : Nat) : Fld := ⟨0x70004 + 0x80 * k, 0, 20⟩
def TSK_PHASE (k : Nat) : Fld := ⟨0x70008 + 0x80 * k, 0, 32⟩
def TSK_PHASE_PHASE (k : Nat) : Fld := ⟨0x70008 + 0x80 * k, 0, 20⟩
def TSK_BUDGET (k : Nat) : Fld := ⟨0x7000C + 0x80 * k, 0, 32⟩
def TSK_BUDGET_RSTBUD (k : Nat) : Fld := ⟨0x7000C + 0x80 * k, 0, 7⟩
def TSK_BUDGET_RSTLEFT (k : Nat) : Fld := ⟨0x7000C + 0x80 * k, 16, 7⟩
def TSK_SEGMAP (k : Nat) : Fld := ⟨0x70010 + 0x80 * k, 0, 32⟩
def TSK_SEGCFG (k : Nat) : Fld := ⟨0x70014 + 0x80 * k, 0, 32⟩
def TSK_SEGCFG_SEGCNT (k : Nat) : Fld := ⟨0x70014 + 0x80 * k, 0, 4⟩
def TSK_SEGDEP (k : Nat) : Fld := ⟨0x70018 + 0x80 * k, 0, 32⟩
def TSK_SEGDEP_DEP (k : Nat) : Fld := ⟨0x70018 + 0x80 * k, 0, 28⟩
def TSK_SENSGRP (k : Nat) (n : Nat) : Fld := ⟨0x70020 + 0x80 * k + 0x4 * n, 0, 32⟩
def TSK_SENSLST (k : Nat) : Fld := ⟨0x70030 + 0x80 * k, 0, 32⟩
def TSK_SENSLST_FIRST (k : Nat) : Fld := ⟨0x70030 + 0x80 * k, 0, 12⟩
def TSK_SENSLST_COUNT (k : Nat) : Fld := ⟨0x70030 + 0x80 * k, 16, 10⟩
def TSK_STAT (k : Nat) : Fld := ⟨0x70034 + 0x80 * k, 0, 32⟩
def TSK_STAT_RUN (k : Nat) : Fld := ⟨0x70034 + 0x80 * k, 0, 1⟩
def TSK_STAT_HELD (k : Nat) : Fld := ⟨0x70034 + 0x80 * k, 1, 1⟩
def TSK_STAT_ANCH (k : Nat) : Fld := ⟨0x70034 + 0x80 * k, 2, 1⟩
def TSK_STAT_OVRW (k : Nat) : Fld := ⟨0x70034 + 0x80 * k, 8, 1⟩
def TSK_STAT_OVRF (k : Nat) : Fld := ⟨0x70034 + 0x80 * k, 9, 1⟩
def TSK_STAT_CONSKIP (k : Nat) : Fld := ⟨0x70034 + 0x80 * k, 16, 4⟩
def TSK_SKIPS (k : Nat) : Fld := ⟨0x70038 + 0x80 * k, 0, 32⟩
def TSK_COMMITS (k : Nat) : Fld := ⟨0x7003C + 0x80 * k, 0, 32⟩
def TSK_SQUASHES (k : Nat) : Fld := ⟨0x70040 + 0x80 * k, 0, 32⟩
def TSK_RESTARTS (k : Nat) : Fld := ⟨0x70044 + 0x80 * k, 0, 32⟩
def TSK_ANCHORS (k : Nat) : Fld := ⟨0x70048 + 0x80 * k, 0, 32⟩
def TSK_LCSN_LO (k : Nat) : Fld := ⟨0x7004C + 0x80 * k, 0, 32⟩
def TSK_LCSN_HI (k : Nat) : Fld := ⟨0x70050 + 0x80 * k, 0, 32⟩
def TSK_LCSN_HI_CSN (k : Nat) : Fld := ⟨0x70050 + 0x80 * k, 0, 16⟩
def TSK_LSNAP_LO (k : Nat) : Fld := ⟨0x70054 + 0x80 * k, 0, 32⟩
def TSK_LSNAP_HI (k : Nat) : Fld := ⟨0x70058 + 0x80 * k, 0, 32⟩
def TSK_LCMT_LO (k : Nat) : Fld := ⟨0x7005C + 0x80 * k, 0, 32⟩
def TSK_LCMT_HI (k : Nat) : Fld := ⟨0x70060 + 0x80 * k, 0, 32⟩
def TSK_LDIG_LO (k : Nat) : Fld := ⟨0x70064 + 0x80 * k, 0, 32⟩
def TSK_LDIG_HI (k : Nat) : Fld := ⟨0x70068 + 0x80 * k, 0, 32⟩
def TSK_NBND_LO (k : Nat) : Fld := ⟨0x7006C + 0x80 * k, 0, 32⟩
def TSK_NBND_HI (k : Nat) : Fld := ⟨0x70070 + 0x80 * k, 0, 32⟩
def TSK_SCANMAX (k : Nat) : Fld := ⟨0x70074 + 0x80 * k, 0, 32⟩
def TSK_RESPMAX (k : Nat) : Fld := ⟨0x70078 + 0x80 * k, 0, 32⟩
def TSK_WDPER (k : Nat) : Fld := ⟨0x7007C + 0x80 * k, 0, 32⟩
def TSK_WDPER_PERIOD (k : Nat) : Fld := ⟨0x7007C + 0x80 * k, 0, 18⟩
def IMG_CSN_LO : Fld := ⟨0x80000, 0, 32⟩
def IMG_CSN_HI : Fld := ⟨0x80004, 0, 32⟩
def IMG_CSN_HI_CSN : Fld := ⟨0x80004, 0, 16⟩
def IMG_CMTSTAT : Fld := ⟨0x80008, 0, 32⟩
def IMG_CMTSTAT_BUSY : Fld := ⟨0x80008, 0, 1⟩
def IMG_CMTSTAT_TASK : Fld := ⟨0x80008, 8, 5⟩
def IMG_CMTSTAT_QUEUED : Fld := ⟨0x80008, 16, 6⟩
def IMG_CMTMAX : Fld := ⟨0x8000C, 0, 32⟩
def IMG_CMTMAX_APPMAX : Fld := ⟨0x8000C, 0, 16⟩
def IMG_CMTMAX_WAITMAX : Fld := ⟨0x8000C, 16, 16⟩
def IMG_SHD (n : Nat) : Fld := ⟨0x80040 + 0x4 * n, 0, 32⟩
def IMG_SHD_CUR (n : Nat) : Fld := ⟨0x80040 + 0x4 * n, 0, 12⟩
def IMG_SHD_FRM (n : Nat) : Fld := ⟨0x80040 + 0x4 * n, 12, 2⟩
def IMG_SHD_MAX (n : Nat) : Fld := ⟨0x80040 + 0x4 * n, 16, 12⟩
def IMG_SQCNT (n : Nat) : Fld := ⟨0x80080 + 0x4 * n, 0, 32⟩
def IMG_LCONF : Fld := ⟨0x800C0, 0, 32⟩
def IMG_LCONF_VICTIM : Fld := ⟨0x800C0, 0, 5⟩
def IMG_LCONF_WRITER : Fld := ⟨0x800C0, 8, 5⟩
def IMG_LCONF_SPACE : Fld := ⟨0x800C0, 16, 3⟩
def IMG_LCONF_VALID : Fld := ⟨0x800C0, 19, 1⟩
def IMG_LCONF_BLOCK : Fld := ⟨0x800C0, 20, 12⟩
def IMG_LCONFCSN : Fld := ⟨0x800C4, 0, 32⟩
def IMG_ANCH : Fld := ⟨0x800D0, 0, 32⟩
def IMG_ANCHWAIT : Fld := ⟨0x800D4, 0, 32⟩
def IMG_DEFER : Fld := ⟨0x800D8, 0, 32⟩
def IMG_DEFER_COUNT : Fld := ⟨0x800D8, 0, 6⟩
def IMG_FSTAT : Fld := ⟨0x800E0, 0, 32⟩
def IMG_FSTAT_SHDOVF : Fld := ⟨0x800E0, 0, 1⟩
def IMG_FSTAT_ENG : Fld := ⟨0x800E0, 8, 4⟩
def IMG_FSTAT_TASK : Fld := ⟨0x800E0, 16, 5⟩
def IMG_SNPSTAT : Fld := ⟨0x800E4, 0, 32⟩
def IMG_SNPSTAT_USED : Fld := ⟨0x800E4, 0, 13⟩
def IMG_SNPSTAT_HOLDS : Fld := ⟨0x800E4, 16, 16⟩
def IMG_SNPWAIT : Fld := ⟨0x800E8, 0, 32⟩
def IMG_RETLAY : Fld := ⟨0x80100, 0, 32⟩
def IMG_RETLAY_BYTES : Fld := ⟨0x80100, 0, 19⟩
def IMG_RETLAY_RANGES : Fld := ⟨0x80100, 20, 7⟩
def IMG_RETLAY_RESTORED : Fld := ⟨0x80100, 31, 1⟩
def IMG_RETDIG_LO : Fld := ⟨0x80104, 0, 32⟩
def IMG_RETDIG_HI : Fld := ⟨0x80108, 0, 32⟩
def IMG_TMRACT : Fld := ⟨0x8010C, 0, 32⟩
def IMG_TMRACT_COUNT : Fld := ⟨0x8010C, 0, 14⟩
def IMG_NEXP_LO : Fld := ⟨0x80110, 0, 32⟩
def IMG_NEXP_HI : Fld := ⟨0x80114, 0, 32⟩
def IMG_EXPCNT : Fld := ⟨0x80118, 0, 32⟩
def IMG_QCNT0 : Fld := ⟨0x8011C, 0, 32⟩
def IMG_QCNT0_INVAL : Fld := ⟨0x8011C, 0, 13⟩
def IMG_QCNT0_SUBST : Fld := ⟨0x8011C, 16, 13⟩
def IMG_QCNT1 : Fld := ⟨0x80120, 0, 32⟩
def IMG_QCNT1_QUEST : Fld := ⟨0x80120, 0, 13⟩
def IMG_OLCSTAT : Fld := ⟨0x80200, 0, 32⟩
def IMG_OLCSTAT_STATE : Fld := ⟨0x80200, 0, 3⟩
def IMG_OLCSTAT_KEYPEND : Fld := ⟨0x80200, 3, 1⟩
def IMG_OLCSTAT_PAIR : Fld := ⟨0x80200, 4, 1⟩
def IMG_OLCSTAT_RESULT : Fld := ⟨0x80200, 8, 8⟩
def IMG_OLCSTAT_REFUSED : Fld := ⟨0x80200, 16, 1⟩
def IMG_OLCSTAT_ABANDONED : Fld := ⟨0x80200, 17, 1⟩
def IMG_OLCENG : Fld := ⟨0x80204, 0, 32⟩
def IMG_OLCENG_AFFECTED : Fld := ⟨0x80204, 0, 16⟩
def IMG_OLCENG_LOADED : Fld := ⟨0x80204, 16, 16⟩
def IMG_OLCTSK : Fld := ⟨0x80208, 0, 32⟩
def IMG_OLCPROG : Fld := ⟨0x8020C, 0, 32⟩
def IMG_OLCPROG_DONE : Fld := ⟨0x8020C, 0, 16⟩
def IMG_OLCPROG_TOTAL : Fld := ⟨0x8020C, 16, 16⟩
def IMG_OLCCSN_LO : Fld := ⟨0x80210, 0, 32⟩
def IMG_OLCCSN_HI : Fld := ⟨0x80214, 0, 32⟩
def IMG_OLCCSN_HI_CSN : Fld := ⟨0x80214, 0, 16⟩
def IMG_OLCSWT_LO : Fld := ⟨0x80218, 0, 32⟩
def IMG_OLCSWT_HI : Fld := ⟨0x8021C, 0, 32⟩
def IMG_OLCWIN : Fld := ⟨0x80220, 0, 32⟩
def IMG_OLCCNT : Fld := ⟨0x80224, 0, 32⟩
def IMG_OLCCNT_SWAPS : Fld := ⟨0x80224, 0, 16⟩
def IMG_OLCCNT_ABANDONS : Fld := ⟨0x80224, 16, 16⟩
def IMG_OLCDRN_LO : Fld := ⟨0x80228, 0, 32⟩
def IMG_OLCDRN_HI : Fld := ⟨0x8022C, 0, 32⟩
def EVU_CFG : Fld := ⟨0x90000, 0, 32⟩
def EVU_CFG_CMTSEL : Fld := ⟨0x90000, 0, 2⟩
def EVU_CFG_RJSEL : Fld := ⟨0x90000, 8, 6⟩
def EVU_STAT : Fld := ⟨0x90004, 0, 32⟩
def EVU_STAT_FIFOLVL : Fld := ⟨0x90004, 0, 13⟩
def EVU_STAT_FIFOLOST : Fld := ⟨0x90004, 16, 1⟩
def EVU_STAT_RJLOST : Fld := ⟨0x90004, 17, 1⟩
def EVU_STAT_FLUSH : Fld := ⟨0x90004, 18, 1⟩
def EVU_SEQ : Fld := ⟨0x90008, 0, 32⟩
def EVU_LOSTFIFO : Fld := ⟨0x9000C, 0, 32⟩
def EVU_LOSTRJ : Fld := ⟨0x90010, 0, 32⟩
def EVU_RINGNEW : Fld := ⟨0x90014, 0, 32⟩
def EVU_RINGOLD : Fld := ⟨0x90018, 0, 32⟩
def EVU_RINGCNT : Fld := ⟨0x9001C, 0, 32⟩
def EVU_RINGCNT_COUNT : Fld := ⟨0x9001C, 0, 21⟩
def EVU_RJLAST : Fld := ⟨0x90020, 0, 32⟩
def EVU_RJPEND : Fld := ⟨0x90024, 0, 32⟩
def EVU_RJPEND_COUNT : Fld := ⟨0x90024, 0, 21⟩
def EVU_LASTSNAP_LO : Fld := ⟨0x90028, 0, 32⟩
def EVU_LASTSNAP_HI : Fld := ⟨0x9002C, 0, 32⟩
def EVU_DIDLY : Fld := ⟨0x90030, 0, 32⟩
def EVU_DIDLY_DELAY : Fld := ⟨0x90030, 0, 10⟩
def EVU_CHBLK : Fld := ⟨0x90034, 0, 32⟩
def EVU_CHBLK_POINTS : Fld := ⟨0x90034, 0, 13⟩
def EVU_CHBLK_TRANS : Fld := ⟨0x90034, 16, 16⟩
def EVU_FIFOMAX : Fld := ⟨0x90038, 0, 32⟩
def EVU_FIFOMAX_MAX : Fld := ⟨0x90038, 0, 13⟩
def EVU_WAKES : Fld := ⟨0x9003C, 0, 32⟩
def EVU_CHPRF_A (n : Nat) : Fld := ⟨0x90040 + 0x8 * n, 0, 32⟩
def EVU_CHPRF_A_N (n : Nat) : Fld := ⟨0x90040 + 0x8 * n, 0, 8⟩
def EVU_CHPRF_A_W (n : Nat) : Fld := ⟨0x90040 + 0x8 * n, 8, 16⟩
def EVU_CHPRF_B (n : Nat) : Fld := ⟨0x90044 + 0x8 * n, 0, 32⟩
def EVU_CHPRF_B_Q (n : Nat) : Fld := ⟨0x90044 + 0x8 * n, 0, 16⟩
def EVU_DI_CFG (n : Nat) : Fld := ⟨0x90100 + 0x4 * n, 0, 32⟩
def EVU_DI_CFG_FILTER (n : Nat) : Fld := ⟨0x90100 + 0x4 * n, 0, 16⟩
def EVU_DI_CFG_STAMP (n : Nat) : Fld := ⟨0x90100 + 0x4 * n, 16, 1⟩
def EVU_DI_CFG_CHEN (n : Nat) : Fld := ⟨0x90100 + 0x4 * n, 17, 1⟩
def EVU_DI_CFG_CHPRF (n : Nat) : Fld := ⟨0x90100 + 0x4 * n, 18, 3⟩
def EVU_DI_CFG_BLOCKED (n : Nat) : Fld := ⟨0x90100 + 0x4 * n, 24, 1⟩
def EVU_PTSEL : Fld := ⟨0x90200, 0, 32⟩
def EVU_PTSEL_INDEX : Fld := ⟨0x90200, 0, 13⟩
def EVU_PTDATA : Fld := ⟨0x90204, 0, 32⟩
def EVU_PTDATA_VALUE : Fld := ⟨0x90204, 0, 1⟩
def EVU_PTDATA_QUAL : Fld := ⟨0x90204, 1, 2⟩
def EVU_PTDATA_CHEN : Fld := ⟨0x90204, 3, 1⟩
def EVU_PTDATA_CHPRF : Fld := ⟨0x90204, 4, 3⟩
def EVU_PTDATA_BLOCKED : Fld := ⟨0x90204, 7, 1⟩
def EVU_PTWAKE : Fld := ⟨0x90208, 0, 32⟩
def EVU_SLSEL : Fld := ⟨0x9020C, 0, 32⟩
def EVU_SLSEL_ENTRY : Fld := ⟨0x9020C, 0, 12⟩
def EVU_SLDATA : Fld := ⟨0x90210, 0, 32⟩
def EVU_SLDATA_INDEX : Fld := ⟨0x90210, 0, 13⟩
def EVU_SLDATA_VALID : Fld := ⟨0x90210, 31, 1⟩
def FIO_CFG : Fld := ⟨0xA0000, 0, 32⟩
def FIO_CFG_HCMAJ : Fld := ⟨0xA0000, 0, 1⟩
def FIO_STAT : Fld := ⟨0xA0004, 0, 32⟩
def FIO_STAT_HC : Fld := ⟨0xA0004, 0, 1⟩
def FIO_STAT_DIGOK : Fld := ⟨0xA0004, 4, 4⟩
def FIO_STAT_VFLDOK : Fld := ⟨0xA0004, 8, 2⟩
def FIO_STAT_GTRIP : Fld := ⟨0xA0004, 10, 2⟩
def FIO_RBDLY : Fld := ⟨0xA0008, 0, 32⟩
def FIO_RBDLY_DELAY : Fld := ⟨0xA0008, 0, 10⟩
def FIO_WBEN_LO : Fld := ⟨0xA000C, 0, 32⟩
def FIO_WBEN_HI : Fld := ⟨0xA0010, 0, 32⟩
def FIO_WB_LO : Fld := ⟨0xA0014, 0, 32⟩
def FIO_WB_HI : Fld := ⟨0xA0018, 0, 32⟩
def FIO_DIG_CFG (n : Nat) : Fld := ⟨0xA0040 + 0x10 * n, 0, 32⟩
def FIO_DIG_CFG_PROFILE (n : Nat) : Fld := ⟨0xA0040 + 0x10 * n, 0, 1⟩
def FIO_DIG_STAT (n : Nat) : Fld := ⟨0xA0044 + 0x10 * n, 0, 32⟩
def FIO_DIG_STAT_OK (n : Nat) : Fld := ⟨0xA0044 + 0x10 * n, 0, 1⟩
def FIO_DIG_STAT_LOSSCNT (n : Nat) : Fld := ⟨0xA0044 + 0x10 * n, 16, 16⟩
def FIO_DOG_STAT (n : Nat) : Fld := ⟨0xA0080 + 0x10 * n, 0, 32⟩
def FIO_DOG_STAT_VFLDOK (n : Nat) : Fld := ⟨0xA0080 + 0x10 * n, 0, 1⟩
def FIO_DOG_STAT_GTRIP (n : Nat) : Fld := ⟨0xA0080 + 0x10 * n, 1, 1⟩
def FIO_DOG_STAT_VFLD (n : Nat) : Fld := ⟨0xA0080 + 0x10 * n, 8, 8⟩
def FIO_DOG_CUR (n : Nat) : Fld := ⟨0xA0084 + 0x10 * n, 0, 32⟩
def FIO_DOG_CUR_CUR (n : Nat) : Fld := ⟨0xA0084 + 0x10 * n, 0, 16⟩
def FIO_DOG_CUR_MAX (n : Nat) : Fld := ⟨0xA0084 + 0x10 * n, 16, 16⟩
def FIO_DISEL : Fld := ⟨0xA0100, 0, 32⟩
def FIO_DISEL_INPUT : Fld := ⟨0xA0100, 0, 6⟩
def FIO_DIMEAS : Fld := ⟨0xA0104, 0, 32⟩
def FIO_DIMEAS_CUR : Fld := ⟨0xA0104, 0, 12⟩
def FIO_DIMEAS_CLASS : Fld := ⟨0xA0104, 12, 2⟩
def FIO_DO_CFG (n : Nat) : Fld := ⟨0xA0200 + 0x10 * n, 0, 32⟩
def FIO_DO_CFG_STOPHOLD (n : Nat) : Fld := ⟨0xA0200 + 0x10 * n, 0, 1⟩
def FIO_DO_CFG_OWON (n : Nat) : Fld := ⟨0xA0200 + 0x10 * n, 1, 1⟩
def FIO_DO_CFG_OWOFF (n : Nat) : Fld := ⟨0xA0200 + 0x10 * n, 2, 1⟩
def FIO_DO_STAT (n : Nat) : Fld := ⟨0xA0204 + 0x10 * n, 0, 32⟩
def FIO_DO_STAT_CMD (n : Nat) : Fld := ⟨0xA0204 + 0x10 * n, 0, 1⟩
def FIO_DO_STAT_SW (n : Nat) : Fld := ⟨0xA0204 + 0x10 * n, 1, 1⟩
def FIO_DO_STAT_RB (n : Nat) : Fld := ⟨0xA0204 + 0x10 * n, 2, 1⟩
def FIO_DO_STAT_CLAMP (n : Nat) : Fld := ⟨0xA0204 + 0x10 * n, 3, 1⟩
def FIO_DO_STAT_ENPEND (n : Nat) : Fld := ⟨0xA0204 + 0x10 * n, 4, 1⟩
def FIO_DO_STAT_OVL (n : Nat) : Fld := ⟨0xA0204 + 0x10 * n, 8, 1⟩
def FIO_DO_STAT_OTMP (n : Nat) : Fld := ⟨0xA0204 + 0x10 * n, 9, 1⟩
def FIO_DO_STAT_OPENON (n : Nat) : Fld := ⟨0xA0204 + 0x10 * n, 10, 1⟩
def FIO_DO_STAT_OPENOFF (n : Nat) : Fld := ⟨0xA0204 + 0x10 * n, 11, 1⟩
def FIO_DO_STAT_RBERR (n : Nat) : Fld := ⟨0xA0204 + 0x10 * n, 12, 1⟩
def FIO_DO_STAT_RBFEED (n : Nat) : Fld := ⟨0xA0204 + 0x10 * n, 13, 1⟩
def FIO_DO_STAT_CLAMPLONG (n : Nat) : Fld := ⟨0xA0204 + 0x10 * n, 14, 1⟩
def FIO_DO_STAT_HIST (n : Nat) : Fld := ⟨0xA0204 + 0x10 * n, 15, 1⟩
def FIO_DO_CUR (n : Nat) : Fld := ⟨0xA0208 + 0x10 * n, 0, 32⟩
def FIO_DO_CUR_CUR (n : Nat) : Fld := ⟨0xA0208 + 0x10 * n, 0, 11⟩
def FIO_DO_CNT (n : Nat) : Fld := ⟨0xA020C + 0x10 * n, 0, 32⟩
def FIO_DO_CNT_ONS (n : Nat) : Fld := ⟨0xA020C + 0x10 * n, 0, 16⟩
def FIO_DO_CNT_TRIPS (n : Nat) : Fld := ⟨0xA020C + 0x10 * n, 16, 16⟩
def BB_CFG (c : Nat) : Fld := ⟨0xB0000 + 0x8000 * c, 0, 32⟩
def BB_CFG_EN (c : Nat) : Fld := ⟨0xB0000 + 0x8000 * c, 0, 1⟩
def BB_CFG_CONF (c : Nat) : Fld := ⟨0xB0000 + 0x8000 * c, 1, 1⟩
def BB_CFG_DBR (c : Nat) : Fld := ⟨0xB0000 + 0x8000 * c, 2, 2⟩
def BB_STAT (c : Nat) : Fld := ⟨0xB0004 + 0x8000 * c, 0, 32⟩
def BB_STAT_STATE (c : Nat) : Fld := ⟨0xB0004 + 0x8000 * c, 0, 2⟩
def BB_STAT_ENPEND (c : Nat) : Fld := ⟨0xB0004 + 0x8000 * c, 2, 1⟩
def BB_STAT_REFTX (c : Nat) : Fld := ⟨0xB0004 + 0x8000 * c, 3, 1⟩
def BB_ECR (c : Nat) : Fld := ⟨0xB0008 + 0x8000 * c, 0, 32⟩
def BB_ECR_TEC (c : Nat) : Fld := ⟨0xB0008 + 0x8000 * c, 0, 8⟩
def BB_ECR_REC (c : Nat) : Fld := ⟨0xB0008 + 0x8000 * c, 8, 7⟩
def BB_ECR_RP (c : Nat) : Fld := ⟨0xB0008 + 0x8000 * c, 15, 1⟩
def BB_ECR_BOFF (c : Nat) : Fld := ⟨0xB0008 + 0x8000 * c, 16, 16⟩
def BB_TIMING (c : Nat) : Fld := ⟨0xB000C + 0x8000 * c, 0, 32⟩
def BB_TIMING_TDROP (c : Nat) : Fld := ⟨0xB000C + 0x8000 * c, 0, 16⟩
def BB_TIMING_RFPER (c : Nat) : Fld := ⟨0xB000C + 0x8000 * c, 16, 16⟩
def BB_TXDLY (c : Nat) : Fld := ⟨0xB0010 + 0x8000 * c, 0, 32⟩
def BB_TXDLY_DELAY (c : Nat) : Fld := ⟨0xB0010 + 0x8000 * c, 0, 8⟩
def BB_RSEQ (c : Nat) : Fld := ⟨0xB0014 + 0x8000 * c, 0, 32⟩
def BB_RSEQ_RSEQ (c : Nat) : Fld := ⟨0xB0014 + 0x8000 * c, 0, 16⟩
def BB_VIOL (c : Nat) : Fld := ⟨0xB0018 + 0x8000 * c, 0, 32⟩
def BB_VIOL_MALF (c : Nat) : Fld := ⟨0xB0018 + 0x8000 * c, 0, 16⟩
def BB_VIOL_FOREIGN (c : Nat) : Fld := ⟨0xB0018 + 0x8000 * c, 16, 16⟩
def BB_RXCNT (c : Nat) : Fld := ⟨0xB001C + 0x8000 * c, 0, 32⟩
def BB_TXCNT (c : Nat) : Fld := ⟨0xB0020 + 0x8000 * c, 0, 32⟩
def BB_STA_STAT (c : Nat) (n : Nat) : Fld := ⟨0xB0100 + 0x8000 * c + 0x10 * n, 0, 32⟩
def BB_STA_STAT_STATE (c : Nat) (n : Nat) : Fld := ⟨0xB0100 + 0x8000 * c + 0x10 * n, 0, 3⟩
def BB_STA_STAT_SYNC (c : Nat) (n : Nat) : Fld := ⟨0xB0100 + 0x8000 * c + 0x10 * n, 3, 1⟩
def BB_STA_STAT_OUTEN (c : Nat) (n : Nat) : Fld := ⟨0xB0100 + 0x8000 * c + 0x10 * n, 4, 1⟩
def BB_STA_STAT_FAILSAFE (c : Nat) (n : Nat) : Fld := ⟨0xB0100 + 0x8000 * c + 0x10 * n, 5, 1⟩
def BB_STA_STAT_DROPS (c : Nat) (n : Nat) : Fld := ⟨0xB0100 + 0x8000 * c + 0x10 * n, 16, 16⟩
def BB_STA_ESEQ (c : Nat) (n : Nat) : Fld := ⟨0xB0104 + 0x8000 * c + 0x10 * n, 0, 32⟩
def BB_STA_ESEQ_LAST (c : Nat) (n : Nat) : Fld := ⟨0xB0104 + 0x8000 * c + 0x10 * n, 0, 16⟩
def BB_STA_ESEQ_DUP (c : Nat) (n : Nat) : Fld := ⟨0xB0104 + 0x8000 * c + 0x10 * n, 16, 16⟩
def BB_STA_ACSN (c : Nat) (n : Nat) : Fld := ⟨0xB0108 + 0x8000 * c + 0x10 * n, 0, 32⟩
def BB_STA_CFG (c : Nat) (n : Nat) : Fld := ⟨0xB010C + 0x8000 * c + 0x10 * n, 0, 32⟩
def BB_STA_CFG_APPLYDLY (c : Nat) (n : Nat) : Fld := ⟨0xB010C + 0x8000 * c + 0x10 * n, 0, 16⟩
def BB_STA_CFG_DISAG (c : Nat) (n : Nat) : Fld := ⟨0xB010C + 0x8000 * c + 0x10 * n, 16, 16⟩
def BB_RXBUF_CTRL (c : Nat) (n : Nat) : Fld := ⟨0xB1000 + 0x8000 * c + 0x60 * n, 0, 32⟩
def BB_RXBUF_CTRL_NEWDAT (c : Nat) (n : Nat) : Fld := ⟨0xB1000 + 0x8000 * c + 0x60 * n, 0, 1⟩
def BB_RXBUF_CTRL_OVR (c : Nat) (n : Nat) : Fld := ⟨0xB1000 + 0x8000 * c + 0x60 * n, 1, 1⟩
def BB_RXBUF_CTRL_FD (c : Nat) (n : Nat) : Fld := ⟨0xB1000 + 0x8000 * c + 0x60 * n, 2, 1⟩
def BB_RXBUF_CTRL_BRS (c : Nat) (n : Nat) : Fld := ⟨0xB1000 + 0x8000 * c + 0x60 * n, 3, 1⟩
def BB_RXBUF_CTRL_WCNT (c : Nat) (n : Nat) : Fld := ⟨0xB1000 + 0x8000 * c + 0x60 * n, 4, 4⟩
def BB_RXBUF_CTRL_LEN (c : Nat) (n : Nat) : Fld := ⟨0xB1000 + 0x8000 * c + 0x60 * n, 8, 7⟩
def BB_RXBUF_ID (c : Nat) (n : Nat) : Fld := ⟨0xB1004 + 0x8000 * c + 0x60 * n, 0, 32⟩
def BB_RXBUF_ID_ID (c : Nat) (n : Nat) : Fld := ⟨0xB1004 + 0x8000 * c + 0x60 * n, 0, 11⟩
def BB_RXBUF_TS_LO (c : Nat) (n : Nat) : Fld := ⟨0xB1008 + 0x8000 * c + 0x60 * n, 0, 32⟩
def BB_RXBUF_TS_HI (c : Nat) (n : Nat) : Fld := ⟨0xB100C + 0x8000 * c + 0x60 * n, 0, 32⟩
def BB_RXBUF_DATA (c : Nat) (n : Nat) (i : Nat) : Fld := ⟨0xB1010 + 0x8000 * c + 0x60 * n + 0x4 * i, 0, 32⟩
def BB_RXBUF_FILT (c : Nat) (n : Nat) : Fld := ⟨0xB1050 + 0x8000 * c + 0x60 * n, 0, 32⟩
def BB_RXBUF_FILT_ID (c : Nat) (n : Nat) : Fld := ⟨0xB1050 + 0x8000 * c + 0x60 * n, 0, 11⟩
def BB_RXBUF_FILT_MASK (c : Nat) (n : Nat) : Fld := ⟨0xB1050 + 0x8000 * c + 0x60 * n, 16, 11⟩
def BB_RXBUF_FILT_EN (c : Nat) (n : Nat) : Fld := ⟨0xB1050 + 0x8000 * c + 0x60 * n, 31, 1⟩
def BB_TXBUF_CTRL (c : Nat) (n : Nat) : Fld := ⟨0xB3000 + 0x8000 * c + 0x60 * n, 0, 32⟩
def BB_TXBUF_CTRL_REQ (c : Nat) (n : Nat) : Fld := ⟨0xB3000 + 0x8000 * c + 0x60 * n, 0, 1⟩
def BB_TXBUF_CTRL_CANCEL (c : Nat) (n : Nat) : Fld := ⟨0xB3000 + 0x8000 * c + 0x60 * n, 1, 1⟩
def BB_TXBUF_CTRL_BUSY (c : Nat) (n : Nat) : Fld := ⟨0xB3000 + 0x8000 * c + 0x60 * n, 2, 1⟩
def BB_TXBUF_CTRL_DONE (c : Nat) (n : Nat) : Fld := ⟨0xB3000 + 0x8000 * c + 0x60 * n, 3, 1⟩
def BB_TXBUF_CTRL_CNCL (c : Nat) (n : Nat) : Fld := ⟨0xB3000 + 0x8000 * c + 0x60 * n, 4, 1⟩
def BB_TXBUF_CTRL_LEN (c : Nat) (n : Nat) : Fld := ⟨0xB3000 + 0x8000 * c + 0x60 * n, 8, 7⟩
def BB_TXBUF_ID (c : Nat) (n : Nat) : Fld := ⟨0xB3004 + 0x8000 * c + 0x60 * n, 0, 32⟩
def BB_TXBUF_ID_ID (c : Nat) (n : Nat) : Fld := ⟨0xB3004 + 0x8000 * c + 0x60 * n, 0, 11⟩
def BB_TXBUF_TS_LO (c : Nat) (n : Nat) : Fld := ⟨0xB3008 + 0x8000 * c + 0x60 * n, 0, 32⟩
def BB_TXBUF_TS_HI (c : Nat) (n : Nat) : Fld := ⟨0xB300C + 0x8000 * c + 0x60 * n, 0, 32⟩
def BB_TXBUF_DATA (c : Nat) (n : Nat) (i : Nat) : Fld := ⟨0xB3010 + 0x8000 * c + 0x60 * n + 0x4 * i, 0, 32⟩
def STA_CFG : Fld := ⟨0xC0000, 0, 32⟩
def STA_CFG_MODE : Fld := ⟨0xC0000, 0, 1⟩
def STA_CFG_PTPEN : Fld := ⟨0xC0000, 1, 1⟩
def STA_CFG_DOMAIN : Fld := ⟨0xC0000, 8, 8⟩
def STA_STAT : Fld := ⟨0xC0004, 0, 32⟩
def STA_STAT_LINK0 : Fld := ⟨0xC0004, 0, 1⟩
def STA_STAT_LINK1 : Fld := ⟨0xC0004, 1, 1⟩
def STA_STAT_SPEED0 : Fld := ⟨0xC0004, 2, 2⟩
def STA_STAT_SPEED1 : Fld := ⟨0xC0004, 4, 2⟩
def STA_STAT_PTPOK : Fld := ⟨0xC0004, 6, 1⟩
def STA_STAT_PTPPORT : Fld := ⟨0xC0004, 7, 1⟩
def STA_STAT_ENPEND0 : Fld := ⟨0xC0004, 8, 1⟩
def STA_STAT_ENPEND1 : Fld := ⟨0xC0004, 9, 1⟩
def STA_IPADDR : Fld := ⟨0xC0008, 0, 32⟩
def STA_IPMASK : Fld := ⟨0xC000C, 0, 32⟩
def STA_MAC_LO : Fld := ⟨0xC0010, 0, 32⟩
def STA_MAC_HI : Fld := ⟨0xC0014, 0, 32⟩
def STA_MAC_HI_VALUE : Fld := ⟨0xC0014, 0, 16⟩
def STA_SP_CFG (n : Nat) : Fld := ⟨0xC0100 + 0x40 * n, 0, 32⟩
def STA_SP_CFG_EN (n : Nat) : Fld := ⟨0xC0100 + 0x40 * n, 0, 1⟩
def STA_SP_RXFRM (n : Nat) : Fld := ⟨0xC0104 + 0x40 * n, 0, 32⟩
def STA_SP_TXFRM (n : Nat) : Fld := ⟨0xC0108 + 0x40 * n, 0, 32⟩
def STA_SP_RXERR (n : Nat) : Fld := ⟨0xC010C + 0x40 * n, 0, 32⟩
def STA_SP_DROPTYPE (n : Nat) : Fld := ⟨0xC0110 + 0x40 * n, 0, 32⟩
def STA_SP_DROPRATE (n : Nat) : Fld := ⟨0xC0114 + 0x40 * n, 0, 32⟩
def STA_SP_DLY (n : Nat) : Fld := ⟨0xC0118 + 0x40 * n, 0, 32⟩
def STA_SP_DLY_ING (n : Nat) : Fld := ⟨0xC0118 + 0x40 * n, 0, 16⟩
def STA_SP_DLY_EGR (n : Nat) : Fld := ⟨0xC0118 + 0x40 * n, 16, 16⟩
def STA_PRP_NODES : Fld := ⟨0xC0200, 0, 32⟩
def STA_PRP_NODES_NODES : Fld := ⟨0xC0200, 0, 10⟩
def STA_PRP_DUP : Fld := ⟨0xC0204, 0, 32⟩
def STA_PRP_UNIQA : Fld := ⟨0xC0208, 0, 32⟩
def STA_PRP_UNIQB : Fld := ⟨0xC020C, 0, 32⟩
def STA_PRP_WRONGLAN : Fld := ⟨0xC0210, 0, 32⟩
def STA_PRP_WRONGLAN_SP0 : Fld := ⟨0xC0210, 0, 16⟩
def STA_PRP_WRONGLAN_SP1 : Fld := ⟨0xC0210, 16, 16⟩
def STA_PRP_NODEFULL : Fld := ⟨0xC0214, 0, 32⟩
def STA_PTP_OFFSET : Fld := ⟨0xC0280, 0, 32⟩
def STA_PTP_PDLY0 : Fld := ⟨0xC0284, 0, 32⟩
def STA_PTP_PDLY1 : Fld := ⟨0xC0288, 0, 32⟩
def STA_PTP_GMID_LO : Fld := ⟨0xC028C, 0, 32⟩
def STA_PTP_GMID_HI : Fld := ⟨0xC0290, 0, 32⟩
def STA_PTP_ANN : Fld := ⟨0xC0294, 0, 32⟩
def STA_PTP_ANN_CLASS : Fld := ⟨0xC0294, 0, 8⟩
def STA_PTP_ANN_STEPS : Fld := ⟨0xC0294, 8, 16⟩
def STA_PTP_CNT : Fld := ⟨0xC0298, 0, 32⟩
def STA_PTP_CNT_ANNTO : Fld := ⟨0xC0298, 0, 16⟩
def STA_PTP_CNT_BAD : Fld := ⟨0xC0298, 16, 16⟩
def STA_PTP_SYNCS : Fld := ⟨0xC029C, 0, 32⟩
def STA_GSUB_STAT (n : Nat) : Fld := ⟨0xC1000 + 0x10 * n, 0, 32⟩
def STA_GSUB_STAT_VALID (n : Nat) : Fld := ⟨0xC1000 + 0x10 * n, 0, 1⟩
def STA_GSUB_STAT_CONFERR (n : Nat) : Fld := ⟨0xC1000 + 0x10 * n, 1, 1⟩
def STA_GSUB_STAT_NDSCOM (n : Nat) : Fld := ⟨0xC1000 + 0x10 * n, 2, 1⟩
def STA_GSUB_STAT_CONF (n : Nat) : Fld := ⟨0xC1000 + 0x10 * n, 3, 1⟩
def STA_GSUB_STAT_MALF (n : Nat) : Fld := ⟨0xC1000 + 0x10 * n, 4, 12⟩
def STA_GSUB_STAT_EXPIRIES (n : Nat) : Fld := ⟨0xC1000 + 0x10 * n, 16, 16⟩
def STA_GSUB_STNUM (n : Nat) : Fld := ⟨0xC1004 + 0x10 * n, 0, 32⟩
def STA_GSUB_SQNUM (n : Nat) : Fld := ⟨0xC1008 + 0x10 * n, 0, 32⟩
def STA_GSUB_DISC (n : Nat) : Fld := ⟨0xC100C + 0x10 * n, 0, 32⟩
def STA_GSUB_DISC_DUP (n : Nat) : Fld := ⟨0xC100C + 0x10 * n, 0, 10⟩
def STA_GSUB_DISC_STALE (n : Nat) : Fld := ⟨0xC100C + 0x10 * n, 10, 10⟩
def STA_GSUB_DISC_TEST (n : Nat) : Fld := ⟨0xC100C + 0x10 * n, 20, 10⟩
def STA_GPUB_CFG (n : Nat) : Fld := ⟨0xC2000 + 0x10 * n, 0, 32⟩
def STA_GPUB_CFG_CONF (n : Nat) : Fld := ⟨0xC2000 + 0x10 * n, 0, 1⟩
def STA_GPUB_CFG_TMIN (n : Nat) : Fld := ⟨0xC2000 + 0x10 * n, 1, 7⟩
def STA_GPUB_CFG_TMAX (n : Nat) : Fld := ⟨0xC2000 + 0x10 * n, 8, 16⟩
def STA_GPUB_CFG_ACTIVE (n : Nat) : Fld := ⟨0xC2000 + 0x10 * n, 24, 1⟩
def STA_GPUB_STNUM (n : Nat) : Fld := ⟨0xC2004 + 0x10 * n, 0, 32⟩
def STA_GPUB_SQNUM (n : Nat) : Fld := ⟨0xC2008 + 0x10 * n, 0, 32⟩
def STA_GPUB_TXCNT (n : Nat) : Fld := ⟨0xC200C + 0x10 * n, 0, 32⟩
def PRT_CFG : Fld := ⟨0xD0000, 0, 32⟩
def PRT_CFG_PAIRED : Fld := ⟨0xD0000, 0, 1⟩
def PRT_CFG_TWIN : Fld := ⟨0xD0000, 1, 1⟩
def PRT_CFG_TAKEOVER_UNSYNC : Fld := ⟨0xD0000, 2, 1⟩
def PRT_CFG_LEASE : Fld := ⟨0xD0000, 8, 8⟩
def PRT_CFG_JOINWAIT : Fld := ⟨0xD0000, 16, 8⟩
def PRT_STAT : Fld := ⟨0xD0004, 0, 32⟩
def PRT_STAT_ROLE : Fld := ⟨0xD0004, 0, 2⟩
def PRT_STAT_SIDE : Fld := ⟨0xD0004, 2, 1⟩
def PRT_STAT_TOKEN : Fld := ⟨0xD0004, 3, 1⟩
def PRT_STAT_PLA_UP : Fld := ⟨0xD0004, 4, 1⟩
def PRT_STAT_PLB_UP : Fld := ⟨0xD0004, 5, 1⟩
def PRT_STAT_PHB : Fld := ⟨0xD0004, 6, 1⟩
def PRT_STAT_XFER : Fld := ⟨0xD0004, 7, 1⟩
def PRT_STAT_UNSR : Fld := ⟨0xD0004, 8, 4⟩
def PRT_STAT_FENCE : Fld := ⟨0xD0004, 12, 1⟩
def PRT_EPOCH : Fld := ⟨0xD0008, 0, 32⟩
def PRT_RNWTX : Fld := ⟨0xD000C, 0, 32⟩
def PRT_RNWRX : Fld := ⟨0xD0010, 0, 32⟩
def PRT_LEXP_LO : Fld := ⟨0xD0014, 0, 32⟩
def PRT_LEXP_HI : Fld := ⟨0xD0018, 0, 32⟩
def PRT_GUARD : Fld := ⟨0xD001C, 0, 32⟩
def PRT_GUARD_GUARD : Fld := ⟨0xD001C, 0, 16⟩
def PRT_LAT : Fld := ⟨0xD0020, 0, 32⟩
def PRT_LAT_CUR : Fld := ⟨0xD0020, 0, 16⟩
def PRT_LAT_MAX : Fld := ⟨0xD0020, 16, 16⟩
def PRT_AGR : Fld := ⟨0xD0024, 0, 32⟩
def PRT_AGR_MAX : Fld := ⟨0xD0024, 0, 16⟩
def PRT_AGR_TIMEOUTS : Fld := ⟨0xD0024, 16, 16⟩
def PRT_MISM : Fld := ⟨0xD0028, 0, 32⟩
def PRT_MISM_RECENT : Fld := ⟨0xD0028, 0, 2⟩
def PRT_MISM_TOTAL : Fld := ⟨0xD0028, 16, 16⟩
def PRT_MISMCSN : Fld := ⟨0xD002C, 0, 32⟩
def PRT_TDIFF : Fld := ⟨0xD0030, 0, 32⟩
def PRT_XFER : Fld := ⟨0xD0034, 0, 32⟩
def PRT_XFER_DONE : Fld := ⟨0xD0034, 0, 16⟩
def PRT_XFER_TOTAL : Fld := ⟨0xD0034, 16, 16⟩
def PRT_CNT : Fld := ⟨0xD0038, 0, 32⟩
def PRT_CNT_TAKES : Fld := ⟨0xD0038, 0, 16⟩
def PRT_CNT_YIELDS : Fld := ⟨0xD0038, 16, 16⟩
def PRT_PVER : Fld := ⟨0xD003C, 0, 32⟩
def PRT_PVER_OWN : Fld := ⟨0xD003C, 0, 16⟩
def PRT_PVER_PARTNER : Fld := ⟨0xD003C, 16, 16⟩
def PRT_PBUILD : Fld := ⟨0xD0040, 0, 32⟩
def PRT_PCMP : Fld := ⟨0xD0044, 0, 32⟩
def PRT_PCMP_PKG : Fld := ⟨0xD0044, 0, 1⟩
def PRT_PCMP_PVER : Fld := ⟨0xD0044, 1, 1⟩
def PRT_PCMP_PROG : Fld := ⟨0xD0044, 2, 1⟩
def PRT_PCMP_RETLAY : Fld := ⟨0xD0044, 3, 1⟩
def PRT_PCMP_SIDES : Fld := ⟨0xD0044, 4, 1⟩
def PRT_PCMP_BUILD : Fld := ⟨0xD0044, 5, 1⟩
def PRT_PCMP_VALID : Fld := ⟨0xD0044, 31, 1⟩
def PRT_STREAM : Fld := ⟨0xD0048, 0, 32⟩
def PRT_STREAM_LEVEL : Fld := ⟨0xD0048, 0, 13⟩
def PRT_STREAM_OLDEP : Fld := ⟨0xD0048, 16, 16⟩
def PRT_LANE_STAT (n : Nat) : Fld := ⟨0xD0080 + 0x10 * n, 0, 32⟩
def PRT_LANE_STAT_UP (n : Nat) : Fld := ⟨0xD0080 + 0x10 * n, 0, 1⟩
def PRT_LANE_STAT_DOWNS (n : Nat) : Fld := ⟨0xD0080 + 0x10 * n, 16, 16⟩
def PRT_LANE_RXFRM (n : Nat) : Fld := ⟨0xD0084 + 0x10 * n, 0, 32⟩
def PRT_LANE_CRCERR (n : Nat) : Fld := ⟨0xD0088 + 0x10 * n, 0, 32⟩
def PRT_LANE_RETX (n : Nat) : Fld := ⟨0xD008C + 0x10 * n, 0, 32⟩
def MOV_CFG : Fld := ⟨0xE0000, 0, 32⟩
def MOV_CFG_PROGCH : Fld := ⟨0xE0000, 8, 8⟩
def MOV_STAT : Fld := ⟨0xE0004, 0, 32⟩
def MOV_STAT_BUSY : Fld := ⟨0xE0004, 0, 16⟩
def MOV_STAT_HALT : Fld := ⟨0xE0004, 16, 16⟩
def MOV_PRESV : Fld := ⟨0xE0008, 0, 32⟩
def MOV_PRESV_CUR : Fld := ⟨0xE0008, 0, 10⟩
def MOV_PRESV_MAX : Fld := ⟨0xE0008, 16, 10⟩
def MOV_CH_CTRL (n : Nat) : Fld := ⟨0xE0100 + 0x40 * n, 0, 32⟩
def MOV_CH_CTRL_EN (n : Nat) : Fld := ⟨0xE0100 + 0x40 * n, 0, 1⟩
def MOV_CH_CTRL_ABORT (n : Nat) : Fld := ⟨0xE0100 + 0x40 * n, 1, 1⟩
def MOV_CH_CTRL_KEEPQ (n : Nat) : Fld := ⟨0xE0100 + 0x40 * n, 2, 1⟩
def MOV_CH_CTRL_NOOVL (n : Nat) : Fld := ⟨0xE0100 + 0x40 * n, 3, 1⟩
def MOV_CH_CTRL_LINE (n : Nat) : Fld := ⟨0xE0100 + 0x40 * n, 4, 3⟩
def MOV_CH_STAT (n : Nat) : Fld := ⟨0xE0104 + 0x40 * n, 0, 32⟩
def MOV_CH_STAT_STATE (n : Nat) : Fld := ⟨0xE0104 + 0x40 * n, 0, 2⟩
def MOV_CH_STAT_QLEN (n : Nat) : Fld := ⟨0xE0104 + 0x40 * n, 2, 5⟩
def MOV_CH_STAT_QOVF (n : Nat) : Fld := ⟨0xE0104 + 0x40 * n, 7, 1⟩
def MOV_CH_STAT_REQOVF (n : Nat) : Fld := ⟨0xE0104 + 0x40 * n, 8, 1⟩
def MOV_CH_STAT_REFUSED (n : Nat) : Fld := ⟨0xE0104 + 0x40 * n, 9, 1⟩
def MOV_CH_STAT_PEND (n : Nat) : Fld := ⟨0xE0104 + 0x40 * n, 10, 6⟩
def MOV_CH_DESC (n : Nat) : Fld := ⟨0xE0108 + 0x40 * n, 0, 32⟩
def MOV_CH_DESC_INDEX (n : Nat) : Fld := ⟨0xE0108 + 0x40 * n, 0, 14⟩
def MOV_CH_DESC_PROG (n : Nat) : Fld := ⟨0xE0108 + 0x40 * n, 14, 1⟩
def MOV_CH_RESID (n : Nat) : Fld := ⟨0xE010C + 0x40 * n, 0, 32⟩
def MOV_CH_RESID_BYTES (n : Nat) : Fld := ⟨0xE010C + 0x40 * n, 0, 24⟩
def MOV_CH_ROWSLEFT (n : Nat) : Fld := ⟨0xE0110 + 0x40 * n, 0, 32⟩
def MOV_CH_ROWSLEFT_ROWS (n : Nat) : Fld := ⟨0xE0110 + 0x40 * n, 0, 16⟩
def MOV_CH_ERRADDR (n : Nat) : Fld := ⟨0xE0114 + 0x40 * n, 0, 32⟩
def MOV_CH_ERRINFO (n : Nat) : Fld := ⟨0xE0118 + 0x40 * n, 0, 32⟩
def MOV_CH_ERRINFO_CODE (n : Nat) : Fld := ⟨0xE0118 + 0x40 * n, 0, 3⟩
def MOV_CH_ERRINFO_DIR (n : Nat) : Fld := ⟨0xE0118 + 0x40 * n, 3, 1⟩
def MOV_CH_ERRINFO_ERR (n : Nat) : Fld := ⟨0xE0118 + 0x40 * n, 4, 1⟩
def MOV_CH_DONE (n : Nat) : Fld := ⟨0xE011C + 0x40 * n, 0, 32⟩
def MOV_CH_BYTES (n : Nat) : Fld := ⟨0xE0120 + 0x40 * n, 0, 32⟩
def MOV_CH_DROP (n : Nat) : Fld := ⟨0xE0124 + 0x40 * n, 0, 32⟩
def MOV_CH_DROP_QFULL (n : Nat) : Fld := ⟨0xE0124 + 0x40 * n, 0, 16⟩
def MOV_CH_DROP_REFUSED (n : Nat) : Fld := ⟨0xE0124 + 0x40 * n, 16, 16⟩
def MOV_PDESC_SRC (n : Nat) : Fld := ⟨0xE4000 + 0x20 * n, 0, 32⟩
def MOV_PDESC_DST (n : Nat) : Fld := ⟨0xE4004 + 0x20 * n, 0, 32⟩
def MOV_PDESC_LEN (n : Nat) : Fld := ⟨0xE4008 + 0x20 * n, 0, 32⟩
def MOV_PDESC_LEN_LEN (n : Nat) : Fld := ⟨0xE4008 + 0x20 * n, 0, 24⟩
def MOV_PDESC_ROWS (n : Nat) : Fld := ⟨0xE400C + 0x20 * n, 0, 32⟩
def MOV_PDESC_ROWS_ROWS (n : Nat) : Fld := ⟨0xE400C + 0x20 * n, 0, 16⟩
def MOV_PDESC_STRIDE (n : Nat) : Fld := ⟨0xE4010 + 0x20 * n, 0, 32⟩
def MOV_PDESC_STRIDE_SSTRIDE (n : Nat) : Fld := ⟨0xE4010 + 0x20 * n, 0, 16⟩
def MOV_PDESC_STRIDE_DSTRIDE (n : Nat) : Fld := ⟨0xE4010 + 0x20 * n, 16, 16⟩
def MOV_PDESC_MODE (n : Nat) : Fld := ⟨0xE4014 + 0x20 * n, 0, 32⟩
def MOV_PDESC_MODE_MODE (n : Nat) : Fld := ⟨0xE4014 + 0x20 * n, 0, 8⟩
def MOV_PDESC_MODE_NEXT (n : Nat) : Fld := ⟨0xE4014 + 0x20 * n, 16, 16⟩
def MOV_PDESC_FILL (n : Nat) : Fld := ⟨0xE4018 + 0x20 * n, 0, 32⟩
def RET_CFG : Fld := ⟨0xF0000, 0, 32⟩
def RET_CFG_PSAVE : Fld := ⟨0xF0000, 0, 11⟩
def RET_STAT : Fld := ⟨0xF0004, 0, 32⟩
def RET_STAT_BUSY : Fld := ⟨0xF0004, 0, 1⟩
def RET_STAT_SAVING : Fld := ⟨0xF0004, 1, 1⟩
def RET_STAT_PSTORE : Fld := ⟨0xF0004, 2, 1⟩
def RET_STAT_RECLAIM : Fld := ⟨0xF0004, 3, 1⟩
def RET_STAT_RESTORED : Fld := ⟨0xF0004, 4, 1⟩
def RET_SCANT : Fld := ⟨0xF0008, 0, 32⟩
def RET_SCANT_TIME : Fld := ⟨0xF0008, 0, 16⟩
def RET_SCANT_VERDICTS : Fld := ⟨0xF0008, 16, 16⟩
def RET_GEN : Fld := ⟨0xF000C, 0, 32⟩
def RET_SAVET_LO : Fld := ⟨0xF0010, 0, 32⟩
def RET_SAVET_HI : Fld := ⟨0xF0014, 0, 32⟩
def RET_SAVEDUR : Fld := ⟨0xF0018, 0, 32⟩
def RET_SAVEDUR_LAST : Fld := ⟨0xF0018, 0, 16⟩
def RET_SAVEDUR_MAX : Fld := ⟨0xF0018, 16, 16⟩
def RET_DIRTY : Fld := ⟨0xF001C, 0, 32⟩
def RET_DIRTY_CHUNKS : Fld := ⟨0xF001C, 0, 11⟩
def RET_PSTAT : Fld := ⟨0xF0020, 0, 32⟩
def RET_PSTAT_RESULT : Fld := ⟨0xF0020, 0, 3⟩
def RET_PSTAT_HALF : Fld := ⟨0xF0020, 3, 1⟩
def RET_PSTAT_VALID : Fld := ⟨0xF0020, 4, 1⟩
def RET_PSTAT_LAYOUT : Fld := ⟨0xF0020, 5, 1⟩
def RET_PIMG : Fld := ⟨0xF0024, 0, 32⟩
def RET_PROT : Fld := ⟨0xF0028, 0, 32⟩
def RET_PROT_LEVEL : Fld := ⟨0xF0028, 0, 2⟩
def RET_WEAR : Fld := ⟨0xF002C, 0, 32⟩
def RET_WEAR_MAXERASE : Fld := ⟨0xF002C, 0, 17⟩
def RET_WEAR_RETIRED : Fld := ⟨0xF002C, 24, 8⟩
def RET_LINES_LO : Fld := ⟨0xF0030, 0, 32⟩
def RET_LINES_HI : Fld := ⟨0xF0034, 0, 32⟩
def RET_BANK (n : Nat) : Fld := ⟨0xF0100 + 0x4 * n, 0, 32⟩
def RET_BANK_APPEND (n : Nat) : Fld := ⟨0xF0100 + 0x4 * n, 0, 11⟩
def RET_BANK_OPEN (n : Nat) : Fld := ⟨0xF0100 + 0x4 * n, 11, 3⟩
def RET_BANK_ERASED (n : Nat) : Fld := ⟨0xF0100 + 0x4 * n, 14, 4⟩
def RET_BANK_USABLE (n : Nat) : Fld := ⟨0xF0100 + 0x4 * n, 18, 4⟩
def DSP_CTRL : Fld := ⟨0x100000, 0, 32⟩
def DSP_CTRL_EN : Fld := ⟨0x100000, 0, 1⟩
def DSP_STAT : Fld := ⟨0x100004, 0, 32⟩
def DSP_STAT_STATE : Fld := ⟨0x100004, 0, 3⟩
def DSP_STAT_ENPEND : Fld := ⟨0x100004, 3, 1⟩
def DSP_STAT_TEMPOUT : Fld := ⟨0x100004, 4, 1⟩
def DSP_STAT_LEDGSAT : Fld := ⟨0x100004, 5, 1⟩
def DSP_STAT_ACTIVE : Fld := ⟨0x100004, 8, 5⟩
def DSP_STAT_QUEUED : Fld := ⟨0x100004, 16, 6⟩
def DSP_CFG : Fld := ⟨0x100008, 0, 32⟩
def DSP_CFG_POLL : Fld := ⟨0x100008, 0, 10⟩
def DSP_CFG_LEDGLIM : Fld := ⟨0x100008, 16, 7⟩
def DSP_CFG_CORRMAX : Fld := ⟨0x100008, 24, 6⟩
def DSP_PANEL : Fld := ⟨0x10000C, 0, 32⟩
def DSP_PANEL_WIDTH : Fld := ⟨0x10000C, 0, 11⟩
def DSP_PANEL_HEIGHT : Fld := ⟨0x10000C, 16, 11⟩
def DSP_TIMING0 : Fld := ⟨0x100010, 0, 32⟩
def DSP_TIMING0_LSL : Fld := ⟨0x100010, 0, 8⟩
def DSP_TIMING0_LBL : Fld := ⟨0x100010, 8, 8⟩
def DSP_TIMING0_LEL : Fld := ⟨0x100010, 16, 8⟩
def DSP_TIMING0_SDDIV : Fld := ⟨0x100010, 24, 8⟩
def DSP_TIMING1 : Fld := ⟨0x100014, 0, 32⟩
def DSP_TIMING1_FSL : Fld := ⟨0x100014, 0, 8⟩
def DSP_TIMING1_FBL : Fld := ⟨0x100014, 8, 8⟩
def DSP_TIMING1_FEL : Fld := ⟨0x100014, 16, 8⟩
def DSP_VCOM : Fld := ⟨0x100018, 0, 32⟩
def DSP_VCOM_VCOM : Fld := ⟨0x100018, 0, 9⟩
def DSP_THERM : Fld := ⟨0x10001C, 0, 32⟩
def DSP_THERM_BVAL : Fld := ⟨0x10001C, 0, 16⟩
def DSP_THERM_RNOM : Fld := ⟨0x10001C, 16, 16⟩
def DSP_TEMP : Fld := ⟨0x100020, 0, 32⟩
def DSP_TEMP_TEMP : Fld := ⟨0x100020, 0, 16⟩
def DSP_TEMP_OPEN : Fld := ⟨0x100020, 16, 1⟩
def DSP_TEMP_BAND : Fld := ⟨0x100020, 24, 4⟩
def DSP_PAGE : Fld := ⟨0x100024, 0, 32⟩
def DSP_PAGE_SHOWN : Fld := ⟨0x100024, 0, 8⟩
def DSP_PAGE_NPAGES : Fld := ⟨0x100024, 8, 8⟩
def DSP_RAIL : Fld := ⟨0x100028, 0, 32⟩
def DSP_RAIL_OK : Fld := ⟨0x100028, 0, 5⟩
def DSP_RAIL_FAULTS : Fld := ⟨0x100028, 16, 16⟩
def DSP_CNT0 : Fld := ⟨0x10002C, 0, 32⟩
def DSP_CNT0_UPDATES : Fld := ⟨0x10002C, 0, 16⟩
def DSP_CNT0_PROMOTED : Fld := ⟨0x10002C, 16, 16⟩
def DSP_CNT1 : Fld := ⟨0x100030, 0, 32⟩
def DSP_CNT1_REFUSED : Fld := ⟨0x100030, 0, 16⟩
def DSP_CNT1_INTERRUPTED : Fld := ⟨0x100030, 16, 16⟩
def DSP_CNT2 : Fld := ⟨0x100034, 0, 32⟩
def DSP_CNT2_ALMLOST : Fld := ⟨0x100034, 0, 16⟩
def DSP_CNT2_MERGED : Fld := ⟨0x100034, 16, 16⟩
def DSP_REG_STAT (n : Nat) : Fld := ⟨0x100100 + 0x10 * n, 0, 32⟩
def DSP_REG_STAT_STATE (n : Nat) : Fld := ⟨0x100100 + 0x10 * n, 0, 2⟩
def DSP_REG_STAT_MODE (n : Nat) : Fld := ⟨0x100100 + 0x10 * n, 2, 2⟩
def DSP_REG_STAT_BAND (n : Nat) : Fld := ⟨0x100100 + 0x10 * n, 4, 4⟩
def DSP_REG_STAT_FRAME (n : Nat) : Fld := ⟨0x100100 + 0x10 * n, 8, 8⟩
def DSP_REG_STAT_PHASE (n : Nat) : Fld := ⟨0x100100 + 0x10 * n, 16, 2⟩
def DSP_REG_XY (n : Nat) : Fld := ⟨0x100104 + 0x10 * n, 0, 32⟩
def DSP_REG_XY_X (n : Nat) : Fld := ⟨0x100104 + 0x10 * n, 0, 11⟩
def DSP_REG_XY_Y (n : Nat) : Fld := ⟨0x100104 + 0x10 * n, 16, 11⟩
def DSP_REG_WH (n : Nat) : Fld := ⟨0x100108 + 0x10 * n, 0, 32⟩
def DSP_REG_WH_W (n : Nat) : Fld := ⟨0x100108 + 0x10 * n, 0, 11⟩
def DSP_REG_WH_H (n : Nat) : Fld := ⟨0x100108 + 0x10 * n, 16, 11⟩
def DSP_REG_LMAX (n : Nat) : Fld := ⟨0x10010C + 0x10 * n, 0, 32⟩
def DSP_REG_LMAX_LMAX (n : Nat) : Fld := ⟨0x10010C + 0x10 * n, 0, 7⟩
def UPD_KEYSTAT : Fld := ⟨0x110000, 0, 32⟩
def UPD_KEYSTAT_PRESENT : Fld := ⟨0x110000, 0, 1⟩
def UPD_KEYSTAT_SFDPOK : Fld := ⟨0x110000, 1, 1⟩
def UPD_KEYSTAT_ACTIVE : Fld := ⟨0x110000, 2, 2⟩
def UPD_KEYSTAT_RUNSLOT : Fld := ⟨0x110000, 4, 2⟩
def UPD_KEYSTAT_STATEA : Fld := ⟨0x110000, 6, 2⟩
def UPD_KEYSTAT_STATEB : Fld := ⟨0x110000, 8, 2⟩
def UPD_KEYSTAT_ACTPEND : Fld := ⟨0x110000, 10, 1⟩
def UPD_KEYID : Fld := ⟨0x110004, 0, 32⟩
def UPD_KEYID_VALUE : Fld := ⟨0x110004, 0, 24⟩
def UPD_HSEQ : Fld := ⟨0x110008, 0, 32⟩
def UPD_PKGSTAT : Fld := ⟨0x11000C, 0, 32⟩
def UPD_PKGSTAT_STATE : Fld := ⟨0x11000C, 0, 2⟩
def UPD_PKGSTAT_START : Fld := ⟨0x11000C, 2, 1⟩
def UPD_PKGSTAT_CODE : Fld := ⟨0x11000C, 8, 8⟩
def UPD_PKGDET : Fld := ⟨0x110010, 0, 32⟩
def UPD_PKGDET_SECT : Fld := ⟨0x110010, 0, 8⟩
def UPD_PKGDET_OFFSET : Fld := ⟨0x110010, 8, 24⟩
def UPD_PKGDET2 : Fld := ⟨0x110014, 0, 32⟩
def UPD_PKGDET2_ENTRY : Fld := ⟨0x110014, 0, 4⟩
def UPD_PKGDET2_UOP : Fld := ⟨0x110014, 8, 8⟩
def UPD_PKGDET2_RULE : Fld := ⟨0x110014, 16, 8⟩
def UPD_PKGDIG (n : Nat) : Fld := ⟨0x110020 + 0x4 * n, 0, 32⟩
def UPD_PROGDIG (n : Nat) : Fld := ⟨0x110040 + 0x4 * n, 0, 32⟩
def UPD_PKGLEN : Fld := ⟨0x110060, 0, 32⟩
def UPD_PKGREAD : Fld := ⟨0x110064, 0, 32⟩
def UPD_STGSTAT : Fld := ⟨0x110070, 0, 32⟩
def UPD_STGSTAT_STATE : Fld := ⟨0x110070, 0, 2⟩
def UPD_STGSTAT_SLOT : Fld := ⟨0x110070, 2, 1⟩
def UPD_STGSTAT_CODE : Fld := ⟨0x110070, 8, 8⟩
def UPD_STGPROG : Fld := ⟨0x110074, 0, 32⟩
def UPD_STGPROG_DONE : Fld := ⟨0x110074, 0, 16⟩
def UPD_STGPROG_TOTAL : Fld := ⟨0x110074, 16, 16⟩
def UPD_FWBUILD : Fld := ⟨0x110080, 0, 32⟩
def UPD_FWPVER : Fld := ⟨0x110084, 0, 32⟩
def UPD_FWPVER_PVER : Fld := ⟨0x110084, 0, 16⟩
def UPD_FWPVER_ROM : Fld := ⟨0x110084, 16, 16⟩
def UPD_SERIAL (n : Nat) : Fld := ⟨0x110090 + 0x4 * n, 0, 32⟩
def UPD_FWSTAT : Fld := ⟨0x1100A0, 0, 32⟩
def UPD_FWSTAT_STATE : Fld := ⟨0x1100A0, 0, 3⟩
def UPD_FWSTAT_CODE : Fld := ⟨0x1100A0, 8, 8⟩
def UPD_FWSTAT_SECTOR : Fld := ⟨0x1100A0, 16, 6⟩
def UPD_FWSBUILD : Fld := ⟨0x1100A4, 0, 32⟩
def UPD_FWCNT : Fld := ⟨0x1100A8, 0, 32⟩
def UPD_FWCNT_UPD : Fld := ⟨0x1100A8, 0, 16⟩
def UPD_FWCNT_RESUME : Fld := ⟨0x1100A8, 16, 16⟩
def DIAG_MSTATE : Fld := ⟨0x120000, 0, 32⟩
def DIAG_MSTATE_STATE : Fld := ⟨0x120000, 0, 3⟩
def DIAG_FSUM : Fld := ⟨0x120004, 0, 32⟩
def DIAG_FSUM_MINOR : Fld := ⟨0x120004, 0, 1⟩
def DIAG_FSUM_MAJOR : Fld := ⟨0x120004, 1, 1⟩
def DIAG_FSUM_DEGRADED : Fld := ⟨0x120004, 2, 1⟩
def DIAG_FSUM_NMINOR : Fld := ⟨0x120004, 8, 8⟩
def DIAG_FSUM_NMAJOR : Fld := ⟨0x120004, 16, 8⟩
def DIAG_FCLR : Fld := ⟨0x120008, 0, 32⟩
def DIAG_FCLR_CLR : Fld := ⟨0x120008, 0, 1⟩
def DIAG_CFG : Fld := ⟨0x12000C, 0, 32⟩
def DIAG_CFG_FRESTART : Fld := ⟨0x12000C, 0, 8⟩
def DIAG_CFG_AUDIT : Fld := ⟨0x12000C, 8, 1⟩
def DIAG_LFLT : Fld := ⟨0x120010, 0, 32⟩
def DIAG_LFLT_CODE : Fld := ⟨0x120010, 0, 16⟩
def DIAG_LFLT_CLASS : Fld := ⟨0x120010, 16, 2⟩
def DIAG_LFLT_VALID : Fld := ⟨0x120010, 31, 1⟩
def DIAG_LFLTT_LO : Fld := ⟨0x120014, 0, 32⟩
def DIAG_LFLTT_HI : Fld := ⟨0x120018, 0, 32⟩
def DIAG_AUD : Fld := ⟨0x120020, 0, 32⟩
def DIAG_AUD_ENG : Fld := ⟨0x120020, 0, 4⟩
def DIAG_AUD_INSVC : Fld := ⟨0x120020, 4, 1⟩
def DIAG_AUD_BUSY : Fld := ⟨0x120020, 5, 1⟩
def DIAG_AUD_TASK : Fld := ⟨0x120020, 8, 5⟩
def DIAG_AUDCNT : Fld := ⟨0x120024, 0, 32⟩
def DIAG_AUDMISM : Fld := ⟨0x120028, 0, 32⟩
def DIAG_AUDMISM_CONF : Fld := ⟨0x120028, 0, 16⟩
def DIAG_AUDMISM_SELF : Fld := ⟨0x120028, 16, 16⟩
def DIAG_AUDSKIP : Fld := ⟨0x12002C, 0, 32⟩
def DIAG_SPARE : Fld := ⟨0x120030, 0, 32⟩
def DIAG_SPARE_RETIRED : Fld := ⟨0x120030, 0, 16⟩
def DIAG_SPARE_FROM : Fld := ⟨0x120030, 16, 4⟩
def DIAG_SPARE_TO : Fld := ⟨0x120030, 20, 4⟩
def DIAG_BIST : Fld := ⟨0x120034, 0, 32⟩
def DIAG_BIST_LASTENG : Fld := ⟨0x120034, 0, 4⟩
def DIAG_BIST_FAIL : Fld := ⟨0x120034, 4, 1⟩
def DIAG_BIST_RUNS : Fld := ⟨0x120034, 16, 16⟩
def DIAG_ECCCOR (n : Nat) : Fld := ⟨0x120040 + 0x4 * n, 0, 32⟩
def DIAG_ECCUNC : Fld := ⟨0x120060, 0, 32⟩
def DIAG_ECCUNC_REGION : Fld := ⟨0x120060, 0, 8⟩
def DIAG_ECCADDR : Fld := ⟨0x120064, 0, 32⟩
def DIAG_ECCADDR_ADDR : Fld := ⟨0x120064, 0, 28⟩
def DIAG_ECCADDR_REGION : Fld := ⟨0x120064, 28, 3⟩

end R

/-- The registers of block SYS. -/
def regRowsSys : List RegRow := [
  ⟨0x0, [], [⟨0, 16, .ro, 0x6016⟩, ⟨16, 8, .ro, 0⟩]⟩,
  ⟨0x4, [], [⟨0, 32, .rw, 0⟩]⟩]

/-- The registers of block PWR. -/
def regRowsPwr : List RegRow := [
  ⟨0x10000, [], [⟨0, 1, .ro, 0⟩, ⟨1, 1, .ro, 0⟩, ⟨2, 1, .ro, 0⟩, ⟨3, 1, .ro, 0⟩, ⟨4, 1, .ro, 0⟩, ⟨5, 1, .ro, 0⟩, ⟨6, 1, .ro, 0⟩]⟩,
  ⟨0x10004, [], [⟨0, 16, .ro, 0⟩, ⟨16, 16, .rw, 0xffff⟩]⟩,
  ⟨0x10008, [], [⟨0, 16, .ro, 0⟩, ⟨16, 12, .ro, 0⟩]⟩,
  ⟨0x1000C, [], [⟨0, 16, .ro, 0⟩, ⟨16, 16, .ro, 0⟩]⟩,
  ⟨0x10010, [], [⟨0, 12, .ro, 3⟩, ⟨16, 12, .ro, 0⟩]⟩,
  ⟨0x10014, [], [⟨0, 24, .ro, 0⟩]⟩]

/-- The registers of block CLK. -/
def regRowsClk : List RegRow := [
  ⟨0x20000, [], [⟨0, 1, .ro, 0⟩, ⟨1, 1, .ro, 0⟩, ⟨2, 1, .ro, 0⟩]⟩]

/-- The registers of block TB. -/
def regRowsTb : List RegRow := [
  ⟨0x30000, [], [⟨0, 32, .ro, 0⟩]⟩,
  ⟨0x30004, [], [⟨0, 32, .ro, 0⟩]⟩,
  ⟨0x30008, [], [⟨0, 16, .ro, 0⟩, ⟨16, 1, .ro, 0⟩, ⟨17, 1, .ro, 0⟩, ⟨18, 1, .ro, 0⟩, ⟨19, 1, .ro, 0⟩]⟩,
  ⟨0x3000C, [], [⟨0, 1, .ro, 0⟩, ⟨1, 1, .ro, 0⟩, ⟨2, 1, .ro, 0⟩, ⟨3, 1, .ro, 0⟩, ⟨4, 1, .ro, 0⟩, ⟨8, 8, .ro, 0⟩, ⟨16, 6, .ro, 0⟩, ⟨24, 8, .ro, 0⟩]⟩,
  ⟨0x30010, [], [⟨0, 12, .ro, 0⟩, ⟨16, 16, .ro, 0⟩]⟩,
  ⟨0x30014, [], [⟨0, 2, .ro, 3⟩, ⟨2, 2, .ro, 3⟩, ⟨4, 4, .ro, 0⟩, ⟨8, 1, .ro, 0⟩, ⟨9, 1, .ro, 0⟩]⟩,
  ⟨0x30018, [], [⟨0, 32, .ro, 0⟩]⟩,
  ⟨0x3001C, [], [⟨0, 32, .ro, 0⟩]⟩,
  ⟨0x30020, [], [⟨0, 32, .ro, 0⟩]⟩,
  ⟨0x30024, [], [⟨0, 32, .ro, 0⟩]⟩,
  ⟨0x30028, [], [⟨0, 4, .ro, 0xf⟩, ⟨8, 8, .ro, 0⟩, ⟨16, 16, .ro, 0⟩]⟩,
  ⟨0x3002C, [], [⟨0, 16, .ro, 0⟩, ⟨16, 16, .ro, 0⟩]⟩,
  ⟨0x30030, [], [⟨0, 1, .ro, 0⟩, ⟨1, 2, .ro, 0⟩, ⟨16, 9, .ro, 0⟩]⟩,
  ⟨0x30034, [], [⟨0, 16, .ro, 0⟩, ⟨16, 16, .ro, 0⟩]⟩]

/-- The registers of block RTC. -/
def regRowsRtc : List RegRow := [
  ⟨0x40000, [], [⟨0, 6, .rw, 0⟩, ⟨8, 15, .ro, 0⟩]⟩,
  ⟨0x40004, [], [⟨0, 6, .rw, 0⟩, ⟨8, 5, .rw, 0⟩, ⟨16, 3, .ro, 0⟩]⟩,
  ⟨0x40008, [], [⟨0, 5, .rw, 1⟩, ⟨8, 4, .rw, 1⟩, ⟨16, 16, .rw, 0x7b2⟩]⟩,
  ⟨0x4000C, [], [⟨0, 1, .wo, 0⟩]⟩,
  ⟨0x40010, [], [⟨0, 1, .ro, 0⟩, ⟨1, 1, .stk, 1⟩, ⟨2, 1, .stk, 0⟩, ⟨3, 1, .ro, 0⟩, ⟨4, 1, .stk, 0⟩, ⟨5, 1, .stk, 0⟩, ⟨6, 1, .stk, 0⟩, ⟨7, 1, .stk, 0⟩, ⟨8, 1, .ro, 0⟩]⟩,
  ⟨0x40014, [], [⟨0, 1, .ro, 0⟩, ⟨1, 2, .ro, 0⟩, ⟨3, 2, .ro, 0⟩, ⟨8, 3, .ro, 0⟩]⟩,
  ⟨0x40018, [], [⟨0, 12, .ro, 0⟩]⟩,
  ⟨0x4001C, [], [⟨0, 12, .ro, 0⟩, ⟨16, 12, .ro, 0⟩]⟩,
  ⟨0x40020, [(0x8, 2)], [⟨0, 6, .rw, 0⟩, ⟨6, 6, .rw, 0⟩, ⟨12, 5, .rw, 0⟩, ⟨17, 5, .rw, 0⟩, ⟨22, 4, .rw, 0⟩, ⟨26, 3, .rw, 0⟩]⟩,
  ⟨0x40024, [(0x8, 2)], [⟨0, 1, .rw, 0⟩, ⟨1, 6, .rw, 0⟩]⟩]

/-- The registers of block WDG. -/
def regRowsWdg : List RegRow := [
  ⟨0x50000, [], [⟨0, 1, .rwl, 0⟩, ⟨1, 1, .rwl, 0⟩, ⟨2, 1, .rwl, 0⟩]⟩,
  ⟨0x50004, [], [⟨0, 1, .ro, 0⟩, ⟨1, 1, .ro, 0⟩, ⟨2, 1, .ro, 0⟩, ⟨3, 1, .stk, 0⟩, ⟨4, 1, .ro, 0⟩, ⟨5, 1, .stk, 0⟩, ⟨6, 1, .ro, 0⟩]⟩,
  ⟨0x50008, [], [⟨0, 1, .otp, 0⟩]⟩,
  ⟨0x5000C, [], [⟨0, 16, .ro, 0⟩, ⟨31, 1, .wo, 0⟩]⟩,
  ⟨0x50010, [], [⟨0, 3, .ro, 0⟩, ⟨8, 6, .ro, 0⟩]⟩,
  ⟨0x50014, [], [⟨0, 32, .ro, 0⟩]⟩,
  ⟨0x50018, [], [⟨0, 32, .ro, 0⟩]⟩,
  ⟨0x5001C, [], [⟨0, 16, .rw, 0⟩, ⟨16, 16, .ro, 0⟩]⟩,
  ⟨0x50020, [], [⟨0, 32, .ro, 0⟩]⟩,
  ⟨0x50024, [], [⟨0, 16, .ro, 0⟩]⟩,
  ⟨0x50028, [], [⟨0, 32, .stk, 0⟩]⟩,
  ⟨0x5002C, [], [⟨0, 16, .stk, 0⟩]⟩,
  ⟨0x50100, [(0x20, 48)], [⟨0, 18, .ro, 0⟩, ⟨31, 1, .ro, 0⟩]⟩,
  ⟨0x50104, [(0x20, 48)], [⟨0, 18, .ro, 0⟩]⟩,
  ⟨0x50108, [(0x20, 48)], [⟨0, 32, .ro, 0⟩]⟩,
  ⟨0x5010C, [(0x20, 48)], [⟨0, 32, .ro, 0⟩]⟩,
  ⟨0x50110, [(0x20, 48)], [⟨0, 16, .ro, 0⟩, ⟨16, 16, .ro, 0⟩]⟩]

/-- The registers of block ENG. -/
def regRowsEng : List RegRow := [
  ⟨0x60000, [(0x1000, 16)], [⟨0, 2, .ro, 0⟩, ⟨2, 1, .ro, 0⟩, ⟨3, 1, .ro, 0⟩, ⟨4, 5, .ro, 0⟩, ⟨9, 3, .ro, 0⟩]⟩,
  ⟨0x60004, [(0x1000, 16)], [⟨0, 2, .ro, 0⟩, ⟨2, 1, .ro, 0⟩, ⟨8, 5, .ro, 0⟩]⟩,
  ⟨0x60008, [(0x1000, 16)], [⟨0, 14, .ro, 0⟩]⟩,
  ⟨0x6000C, [(0x1000, 16)], [⟨0, 14, .ro, 0⟩, ⟨14, 2, .ro, 0⟩, ⟨16, 5, .ro, 0⟩, ⟨21, 3, .ro, 0⟩, ⟨31, 1, .stk, 0⟩]⟩,
  ⟨0x60010, [(0x1000, 16)], [⟨0, 32, .ro, 0⟩]⟩,
  ⟨0x60014, [(0x1000, 16)], [⟨0, 32, .ro, 0⟩]⟩,
  ⟨0x60018, [(0x1000, 16)], [⟨0, 6, .ro, 0⟩, ⟨6, 1, .ro, 0⟩, ⟨7, 1, .ro, 0⟩, ⟨8, 14, .ro, 0⟩, ⟨22, 5, .ro, 0⟩, ⟨27, 3, .ro, 0⟩, ⟨31, 1, .stk, 0⟩]⟩,
  ⟨0x6001C, [(0x1000, 16)], [⟨0, 32, .ro, 0⟩]⟩,
  ⟨0x60020, [(0x1000, 16)], [⟨0, 32, .ro, 0⟩]⟩,
  ⟨0x60024, [(0x1000, 16)], [⟨0, 32, .ro, 0⟩]⟩,
  ⟨0x60040, [(0x1000, 16), (0x4, 32)], [⟨0, 14, .ro, 0⟩, ⟨14, 1, .ro, 0⟩, ⟨16, 16, .ro, 0⟩]⟩,
  ⟨0x60100, [(0x1000, 16)], [⟨0, 1, .rw, 1⟩, ⟨1, 1, .wo, 0⟩]⟩,
  ⟨0x60104, [(0x1000, 16)], [⟨0, 32, .ro, 0⟩]⟩,
  ⟨0x60108, [(0x1000, 16)], [⟨0, 32, .ro, 0⟩]⟩,
  ⟨0x6010C, [(0x1000, 16)], [⟨0, 32, .ro, 0⟩]⟩,
  ⟨0x60110, [(0x1000, 16)], [⟨0, 32, .ro, 0⟩]⟩,
  ⟨0x60114, [(0x1000, 16)], [⟨0, 32, .ro, 0⟩]⟩,
  ⟨0x60118, [(0x1000, 16)], [⟨0, 32, .ro, 0⟩]⟩,
  ⟨0x6011C, [(0x1000, 16)], [⟨0, 32, .ro, 0⟩]⟩,
  ⟨0x60120, [(0x1000, 16)], [⟨0, 32, .ro, 0⟩]⟩,
  ⟨0x60124, [(0x1000, 16)], [⟨0, 32, .ro, 0⟩]⟩,
  ⟨0x60128, [(0x1000, 16)], [⟨0, 32, .ro, 0⟩]⟩,
  ⟨0x6012C, [(0x1000, 16)], [⟨0, 32, .rw, 0⟩]⟩]

/-- The registers of block TSK. -/
def regRowsTsk : List RegRow := [
  ⟨0x70000, [(0x80, 32)], [⟨0, 1, .ro, 0⟩, ⟨1, 1, .ro, 0⟩, ⟨2, 1, .ro, 0⟩, ⟨8, 5, .ro, 0⟩, ⟨16, 4, .ro, 0⟩, ⟨24, 5, .ro, 0⟩]⟩,
  ⟨0x70004, [(0x80, 32)], [⟨0, 20, .ro, 0⟩]⟩,
  ⟨0x70008, [(0x80, 32)], [⟨0, 20, .ro, 0⟩]⟩,
  ⟨0x7000C, [(0x80, 32)], [⟨0, 7, .ro, 0⟩, ⟨16, 7, .ro, 0⟩]⟩,
  ⟨0x70010, [(0x80, 32)], [⟨0, 32, .ro, 0⟩]⟩,
  ⟨0x70014, [(0x80, 32)], [⟨0, 4, .ro, 0⟩]⟩,
  ⟨0x70018, [(0x80, 32)], [⟨0, 28, .ro, 0⟩]⟩,
  ⟨0x70020, [(0x80, 32), (0x4, 4)], [⟨0, 32, .ro, 0⟩]⟩,
  ⟨0x70030, [(0x80, 32)], [⟨0, 12, .ro, 0⟩, ⟨16, 10, .ro, 0⟩]⟩,
  ⟨0x70034, [(0x80, 32)], [⟨0, 1, .ro, 0⟩, ⟨1, 1, .ro, 0⟩, ⟨2, 1, .ro, 0⟩, ⟨8, 1, .stk, 0⟩, ⟨9, 1, .stk, 0⟩, ⟨16, 4, .ro, 0⟩]⟩,
  ⟨0x70038, [(0x80, 32)], [⟨0, 32, .ro, 0⟩]⟩,
  ⟨0x7003C, [(0x80, 32)], [⟨0, 32, .ro, 0⟩]⟩,
  ⟨0x70040, [(0x80, 32)], [⟨0, 32, .ro, 0⟩]⟩,
  ⟨0x70044, [(0x80, 32)], [⟨0, 32, .ro, 0⟩]⟩,
  ⟨0x70048, [(0x80, 32)], [⟨0, 32, .ro, 0⟩]⟩,
  ⟨0x7004C, [(0x80, 32)], [⟨0, 32, .ro, 0⟩]⟩,
  ⟨0x70050, [(0x80, 32)], [⟨0, 16, .ro, 0⟩]⟩,
  ⟨0x70054, [(0x80, 32)], [⟨0, 32, .ro, 0⟩]⟩,
  ⟨0x70058, [(0x80, 32)], [⟨0, 32, .ro, 0⟩]⟩,
  ⟨0x7005C, [(0x80, 32)], [⟨0, 32, .ro, 0⟩]⟩,
  ⟨0x70060, [(0x80, 32)], [⟨0, 32, .ro, 0⟩]⟩,
  ⟨0x70064, [(0x80, 32)], [⟨0, 32, .ro, 0⟩]⟩,
  ⟨0x70068, [(0x80, 32)], [⟨0, 32, .ro, 0⟩]⟩,
  ⟨0x7006C, [(0x80, 32)], [⟨0, 32, .ro, 0⟩]⟩,
  ⟨0x70070, [(0x80, 32)], [⟨0, 32, .ro, 0⟩]⟩,
  ⟨0x70074, [(0x80, 32)], [⟨0, 32, .rw, 0⟩]⟩,
  ⟨0x70078, [(0x80, 32)], [⟨0, 32, .rw, 0⟩]⟩,
  ⟨0x7007C, [(0x80, 32)], [⟨0, 18, .ro, 0⟩]⟩]

/-- The registers of block IMG. -/
def regRowsImg : List RegRow := [
  ⟨0x80000, [], [⟨0, 32, .ro, 0⟩]⟩,
  ⟨0x80004, [], [⟨0, 16, .ro, 0⟩]⟩,
  ⟨0x80008, [], [⟨0, 1, .ro, 0⟩, ⟨8, 5, .ro, 0⟩, ⟨16, 6, .ro, 0⟩]⟩,
  ⟨0x8000C, [], [⟨0, 16, .rw, 0⟩, ⟨16, 16, .rw, 0⟩]⟩,
  ⟨0x80040, [(0x4, 16)], [⟨0, 12, .ro, 0⟩, ⟨12, 2, .ro, 0⟩, ⟨16, 12, .rw, 0⟩]⟩,
  ⟨0x80080, [(0x4, 8)], [⟨0, 32, .ro, 0⟩]⟩,
  ⟨0x800C0, [], [⟨0, 5, .ro, 0⟩, ⟨8, 5, .ro, 0⟩, ⟨16, 3, .ro, 0⟩, ⟨19, 1, .ro, 0⟩, ⟨20, 12, .ro, 0⟩]⟩,
  ⟨0x800C4, [], [⟨0, 32, .ro, 0⟩]⟩,
  ⟨0x800D0, [], [⟨0, 32, .ro, 0⟩]⟩,
  ⟨0x800D4, [], [⟨0, 32, .rw, 0⟩]⟩,
  ⟨0x800D8, [], [⟨0, 6, .ro, 0⟩]⟩,
  ⟨0x800E0, [], [⟨0, 1, .stk, 0⟩, ⟨8, 4, .ro, 0⟩, ⟨16, 5, .ro, 0⟩]⟩,
  ⟨0x800E4, [], [⟨0, 13, .ro, 0⟩, ⟨16, 16, .ro, 0⟩]⟩,
  ⟨0x800E8, [], [⟨0, 32, .rw, 0⟩]⟩,
  ⟨0x80100, [], [⟨0, 19, .ro, 0⟩, ⟨20, 7, .ro, 0⟩, ⟨31, 1, .ro, 0⟩]⟩,
  ⟨0x80104, [], [⟨0, 32, .ro, 0⟩]⟩,
  ⟨0x80108, [], [⟨0, 32, .ro, 0⟩]⟩,
  ⟨0x8010C, [], [⟨0, 14, .ro, 0⟩]⟩,
  ⟨0x80110, [], [⟨0, 32, .ro, 0⟩]⟩,
  ⟨0x80114, [], [⟨0, 32, .ro, 0⟩]⟩,
  ⟨0x80118, [], [⟨0, 32, .ro, 0⟩]⟩,
  ⟨0x8011C, [], [⟨0, 13, .ro, 0⟩, ⟨16, 13, .ro, 0⟩]⟩,
  ⟨0x80120, [], [⟨0, 13, .ro, 0⟩]⟩,
  ⟨0x80200, [], [⟨0, 3, .ro, 0⟩, ⟨3, 1, .ro, 0⟩, ⟨4, 1, .ro, 0⟩, ⟨8, 8, .ro, 0⟩, ⟨16, 1, .stk, 0⟩, ⟨17, 1, .stk, 0⟩]⟩,
  ⟨0x80204, [], [⟨0, 16, .ro, 0⟩, ⟨16, 16, .ro, 0⟩]⟩,
  ⟨0x80208, [], [⟨0, 32, .ro, 0⟩]⟩,
  ⟨0x8020C, [], [⟨0, 16, .ro, 0⟩, ⟨16, 16, .ro, 0⟩]⟩,
  ⟨0x80210, [], [⟨0, 32, .ro, 0⟩]⟩,
  ⟨0x80214, [], [⟨0, 16, .ro, 0⟩]⟩,
  ⟨0x80218, [], [⟨0, 32, .ro, 0⟩]⟩,
  ⟨0x8021C, [], [⟨0, 32, .ro, 0⟩]⟩,
  ⟨0x80220, [], [⟨0, 32, .ro, 0⟩]⟩,
  ⟨0x80224, [], [⟨0, 16, .ro, 0⟩, ⟨16, 16, .ro, 0⟩]⟩,
  ⟨0x80228, [], [⟨0, 32, .ro, 0⟩]⟩,
  ⟨0x8022C, [], [⟨0, 32, .ro, 0⟩]⟩]

/-- The registers of block EVU. -/
def regRowsEvu : List RegRow := [
  ⟨0x90000, [], [⟨0, 2, .ro, 0⟩, ⟨8, 6, .ro, 0⟩]⟩,
  ⟨0x90004, [], [⟨0, 13, .ro, 0⟩, ⟨16, 1, .stk, 0⟩, ⟨17, 1, .stk, 0⟩, ⟨18, 1, .ro, 0⟩]⟩,
  ⟨0x90008, [], [⟨0, 32, .ro, 0⟩]⟩,
  ⟨0x9000C, [], [⟨0, 32, .ro, 0⟩]⟩,
  ⟨0x90010, [], [⟨0, 32, .ro, 0⟩]⟩,
  ⟨0x90014, [], [⟨0, 32, .ro, 0⟩]⟩,
  ⟨0x90018, [], [⟨0, 32, .ro, 0⟩]⟩,
  ⟨0x9001C, [], [⟨0, 21, .ro, 0⟩]⟩,
  ⟨0x90020, [], [⟨0, 32, .ro, 0⟩]⟩,
  ⟨0x90024, [], [⟨0, 21, .ro, 0⟩]⟩,
  ⟨0x90028, [], [⟨0, 32, .ro, 0⟩]⟩,
  ⟨0x9002C, [], [⟨0, 32, .ro, 0⟩]⟩,
  ⟨0x90030, [], [⟨0, 10, .ro, 0x12c⟩]⟩,
  ⟨0x90034, [], [⟨0, 13, .ro, 0⟩, ⟨16, 16, .ro, 0⟩]⟩,
  ⟨0x90038, [], [⟨0, 13, .rw, 0⟩]⟩,
  ⟨0x9003C, [], [⟨0, 32, .ro, 0⟩]⟩,
  ⟨0x90040, [(0x8, 8)], [⟨0, 8, .ro, 0⟩, ⟨8, 16, .ro, 0⟩]⟩,
  ⟨0x90044, [(0x8, 8)], [⟨0, 16, .ro, 0⟩]⟩,
  ⟨0x90100, [(0x4, 64)], [⟨0, 16, .ro, 0⟩, ⟨16, 1, .ro, 0⟩, ⟨17, 1, .ro, 0⟩, ⟨18, 3, .ro, 0⟩, ⟨24, 1, .ro, 0⟩]⟩,
  ⟨0x90200, [], [⟨0, 13, .rw, 0⟩]⟩,
  ⟨0x90204, [], [⟨0, 1, .ro, 0⟩, ⟨1, 2, .ro, 0⟩, ⟨3, 1, .ro, 0⟩, ⟨4, 3, .ro, 0⟩, ⟨7, 1, .ro, 0⟩]⟩,
  ⟨0x90208, [], [⟨0, 32, .ro, 0⟩]⟩,
  ⟨0x9020C, [], [⟨0, 12, .rw, 0⟩]⟩,
  ⟨0x90210, [], [⟨0, 13, .ro, 0⟩, ⟨31, 1, .ro, 0⟩]⟩]

/-- The registers of block FIO. -/
def regRowsFio : List RegRow := [
  ⟨0xA0000, [], [⟨0, 1, .ro, 0⟩]⟩,
  ⟨0xA0004, [], [⟨0, 1, .ro, 0⟩, ⟨4, 4, .ro, 0⟩, ⟨8, 2, .ro, 0⟩, ⟨10, 2, .ro, 0⟩]⟩,
  ⟨0xA0008, [], [⟨0, 10, .ro, 0x64⟩]⟩,
  ⟨0xA000C, [], [⟨0, 32, .ro, 0⟩]⟩,
  ⟨0xA0010, [], [⟨0, 32, .ro, 0⟩]⟩,
  ⟨0xA0014, [], [⟨0, 32, .ro, 0⟩]⟩,
  ⟨0xA0018, [], [⟨0, 32, .ro, 0⟩]⟩,
  ⟨0xA0040, [(0x10, 4)], [⟨0, 1, .ro, 0⟩]⟩,
  ⟨0xA0044, [(0x10, 4)], [⟨0, 1, .ro, 0⟩, ⟨16, 16, .ro, 0⟩]⟩,
  ⟨0xA0080, [(0x10, 2)], [⟨0, 1, .ro, 0⟩, ⟨1, 1, .w1c, 0⟩, ⟨8, 8, .ro, 0⟩]⟩,
  ⟨0xA0084, [(0x10, 2)], [⟨0, 16, .ro, 0⟩, ⟨16, 16, .rw, 0⟩]⟩,
  ⟨0xA0100, [], [⟨0, 6, .rw, 0⟩]⟩,
  ⟨0xA0104, [], [⟨0, 12, .ro, 0⟩, ⟨12, 2, .ro, 3⟩]⟩,
  ⟨0xA0200, [(0x10, 32)], [⟨0, 1, .ro, 0⟩, ⟨1, 1, .ro, 0⟩, ⟨2, 1, .ro, 0⟩]⟩,
  ⟨0xA0204, [(0x10, 32)], [⟨0, 1, .ro, 0⟩, ⟨1, 1, .ro, 0⟩, ⟨2, 1, .ro, 0⟩, ⟨3, 1, .ro, 0⟩, ⟨4, 1, .ro, 0⟩, ⟨8, 1, .w1c, 0⟩, ⟨9, 1, .w1c, 0⟩, ⟨10, 1, .ro, 0⟩, ⟨11, 1, .ro, 0⟩, ⟨12, 1, .ro, 0⟩, ⟨13, 1, .ro, 0⟩, ⟨14, 1, .stk, 0⟩, ⟨15, 1, .stk, 0⟩]⟩,
  ⟨0xA0208, [(0x10, 32)], [⟨0, 11, .ro, 0⟩]⟩,
  ⟨0xA020C, [(0x10, 32)], [⟨0, 16, .ro, 0⟩, ⟨16, 16, .ro, 0⟩]⟩]

/-- The registers of block BB. -/
def regRowsBb : List RegRow := [
  ⟨0xB0000, [(0x8000, 2)], [⟨0, 1, .rw, 0⟩, ⟨1, 1, .ro, 0⟩, ⟨2, 2, .ro, 0⟩]⟩,
  ⟨0xB0004, [(0x8000, 2)], [⟨0, 2, .ro, 0⟩, ⟨2, 1, .ro, 0⟩, ⟨3, 1, .ro, 0⟩]⟩,
  ⟨0xB0008, [(0x8000, 2)], [⟨0, 8, .ro, 0⟩, ⟨8, 7, .ro, 0⟩, ⟨15, 1, .ro, 0⟩, ⟨16, 16, .ro, 0⟩]⟩,
  ⟨0xB000C, [(0x8000, 2)], [⟨0, 16, .ro, 0⟩, ⟨16, 16, .ro, 0⟩]⟩,
  ⟨0xB0010, [(0x8000, 2)], [⟨0, 8, .ro, 9⟩]⟩,
  ⟨0xB0014, [(0x8000, 2)], [⟨0, 16, .ro, 0⟩]⟩,
  ⟨0xB0018, [(0x8000, 2)], [⟨0, 16, .ro, 0⟩, ⟨16, 16, .ro, 0⟩]⟩,
  ⟨0xB001C, [(0x8000, 2)], [⟨0, 32, .ro, 0⟩]⟩,
  ⟨0xB0020, [(0x8000, 2)], [⟨0, 32, .ro, 0⟩]⟩,
  ⟨0xB0100, [(0x8000, 2), (0x10, 16)], [⟨0, 3, .ro, 0⟩, ⟨3, 1, .ro, 0⟩, ⟨4, 1, .ro, 0⟩, ⟨5, 1, .ro, 0⟩, ⟨16, 16, .ro, 0⟩]⟩,
  ⟨0xB0104, [(0x8000, 2), (0x10, 16)], [⟨0, 16, .ro, 0⟩, ⟨16, 16, .ro, 0⟩]⟩,
  ⟨0xB0108, [(0x8000, 2), (0x10, 16)], [⟨0, 32, .ro, 0⟩]⟩,
  ⟨0xB010C, [(0x8000, 2), (0x10, 16)], [⟨0, 16, .ro, 0⟩, ⟨16, 16, .ro, 0⟩]⟩,
  ⟨0xB1000, [(0x8000, 2), (0x60, 64)], [⟨0, 1, .w1c, 0⟩, ⟨1, 1, .w1c, 0⟩, ⟨2, 1, .ro, 0⟩, ⟨3, 1, .ro, 0⟩, ⟨4, 4, .ro, 0⟩, ⟨8, 7, .ro, 0⟩]⟩,
  ⟨0xB1004, [(0x8000, 2), (0x60, 64)], [⟨0, 11, .ro, 0⟩]⟩,
  ⟨0xB1008, [(0x8000, 2), (0x60, 64)], [⟨0, 32, .ro, 0⟩]⟩,
  ⟨0xB100C, [(0x8000, 2), (0x60, 64)], [⟨0, 32, .ro, 0⟩]⟩,
  ⟨0xB1010, [(0x8000, 2), (0x60, 64), (0x4, 16)], [⟨0, 32, .ro, 0⟩]⟩,
  ⟨0xB1050, [(0x8000, 2), (0x60, 64)], [⟨0, 11, .rw, 0⟩, ⟨16, 11, .rw, 0⟩, ⟨31, 1, .rw, 0⟩]⟩,
  ⟨0xB3000, [(0x8000, 2), (0x60, 32)], [⟨0, 1, .rw, 0⟩, ⟨1, 1, .wo, 0⟩, ⟨2, 1, .ro, 0⟩, ⟨3, 1, .w1c, 0⟩, ⟨4, 1, .w1c, 0⟩, ⟨8, 7, .rw, 0⟩]⟩,
  ⟨0xB3004, [(0x8000, 2), (0x60, 32)], [⟨0, 11, .rw, 0⟩]⟩,
  ⟨0xB3008, [(0x8000, 2), (0x60, 32)], [⟨0, 32, .ro, 0⟩]⟩,
  ⟨0xB300C, [(0x8000, 2), (0x60, 32)], [⟨0, 32, .ro, 0⟩]⟩,
  ⟨0xB3010, [(0x8000, 2), (0x60, 32), (0x4, 16)], [⟨0, 32, .rw, 0⟩]⟩]

/-- The registers of block STA. -/
def regRowsSta : List RegRow := [
  ⟨0xC0000, [], [⟨0, 1, .ro, 0⟩, ⟨1, 1, .ro, 0⟩, ⟨8, 8, .ro, 0⟩]⟩,
  ⟨0xC0004, [], [⟨0, 1, .ro, 0⟩, ⟨1, 1, .ro, 0⟩, ⟨2, 2, .ro, 0⟩, ⟨4, 2, .ro, 0⟩, ⟨6, 1, .ro, 0⟩, ⟨7, 1, .ro, 0⟩, ⟨8, 1, .ro, 0⟩, ⟨9, 1, .ro, 0⟩]⟩,
  ⟨0xC0008, [], [⟨0, 32, .ro, 0⟩]⟩,
  ⟨0xC000C, [], [⟨0, 32, .ro, 0⟩]⟩,
  ⟨0xC0010, [], [⟨0, 32, .ro, 0⟩]⟩,
  ⟨0xC0014, [], [⟨0, 16, .ro, 0⟩]⟩,
  ⟨0xC0100, [(0x40, 2)], [⟨0, 1, .rw, 1⟩]⟩,
  ⟨0xC0104, [(0x40, 2)], [⟨0, 32, .ro, 0⟩]⟩,
  ⟨0xC0108, [(0x40, 2)], [⟨0, 32, .ro, 0⟩]⟩,
  ⟨0xC010C, [(0x40, 2)], [⟨0, 32, .ro, 0⟩]⟩,
  ⟨0xC0110, [(0x40, 2)], [⟨0, 32, .ro, 0⟩]⟩,
  ⟨0xC0114, [(0x40, 2)], [⟨0, 32, .ro, 0⟩]⟩,
  ⟨0xC0118, [(0x40, 2)], [⟨0, 16, .ro, 0⟩, ⟨16, 16, .ro, 0⟩]⟩,
  ⟨0xC0200, [], [⟨0, 10, .ro, 0⟩]⟩,
  ⟨0xC0204, [], [⟨0, 32, .ro, 0⟩]⟩,
  ⟨0xC0208, [], [⟨0, 32, .ro, 0⟩]⟩,
  ⟨0xC020C, [], [⟨0, 32, .ro, 0⟩]⟩,
  ⟨0xC0210, [], [⟨0, 16, .ro, 0⟩, ⟨16, 16, .ro, 0⟩]⟩,
  ⟨0xC0214, [], [⟨0, 32, .ro, 0⟩]⟩,
  ⟨0xC0280, [], [⟨0, 32, .ro, 0⟩]⟩,
  ⟨0xC0284, [], [⟨0, 32, .ro, 0⟩]⟩,
  ⟨0xC0288, [], [⟨0, 32, .ro, 0⟩]⟩,
  ⟨0xC028C, [], [⟨0, 32, .ro, 0⟩]⟩,
  ⟨0xC0290, [], [⟨0, 32, .ro, 0⟩]⟩,
  ⟨0xC0294, [], [⟨0, 8, .ro, 0⟩, ⟨8, 16, .ro, 0⟩]⟩,
  ⟨0xC0298, [], [⟨0, 16, .ro, 0⟩, ⟨16, 16, .ro, 0⟩]⟩,
  ⟨0xC029C, [], [⟨0, 32, .ro, 0⟩]⟩,
  ⟨0xC1000, [(0x10, 128)], [⟨0, 1, .ro, 0⟩, ⟨1, 1, .ro, 0⟩, ⟨2, 1, .ro, 0⟩, ⟨3, 1, .ro, 0⟩, ⟨4, 12, .ro, 0⟩, ⟨16, 16, .ro, 0⟩]⟩,
  ⟨0xC1004, [(0x10, 128)], [⟨0, 32, .ro, 0⟩]⟩,
  ⟨0xC1008, [(0x10, 128)], [⟨0, 32, .ro, 0⟩]⟩,
  ⟨0xC100C, [(0x10, 128)], [⟨0, 10, .ro, 0⟩, ⟨10, 10, .ro, 0⟩, ⟨20, 10, .ro, 0⟩]⟩,
  ⟨0xC2000, [(0x10, 32)], [⟨0, 1, .ro, 0⟩, ⟨1, 7, .ro, 0⟩, ⟨8, 16, .ro, 0⟩, ⟨24, 1, .ro, 0⟩]⟩,
  ⟨0xC2004, [(0x10, 32)], [⟨0, 32, .ro, 0⟩]⟩,
  ⟨0xC2008, [(0x10, 32)], [⟨0, 32, .ro, 0⟩]⟩,
  ⟨0xC200C, [(0x10, 32)], [⟨0, 32, .ro, 0⟩]⟩]

/-- The registers of block PRT. -/
def regRowsPrt : List RegRow := [
  ⟨0xD0000, [], [⟨0, 1, .ro, 0⟩, ⟨1, 1, .ro, 0⟩, ⟨2, 1, .ro, 0⟩, ⟨8, 8, .ro, 0⟩, ⟨16, 8, .ro, 0⟩]⟩,
  ⟨0xD0004, [], [⟨0, 2, .ro, 0⟩, ⟨2, 1, .ro, 0⟩, ⟨3, 1, .ro, 0⟩, ⟨4, 1, .ro, 0⟩, ⟨5, 1, .ro, 0⟩, ⟨6, 1, .ro, 0⟩, ⟨7, 1, .ro, 0⟩, ⟨8, 4, .ro, 0⟩, ⟨12, 1, .ro, 0⟩]⟩,
  ⟨0xD0008, [], [⟨0, 32, .ro, 0⟩]⟩,
  ⟨0xD000C, [], [⟨0, 32, .ro, 0⟩]⟩,
  ⟨0xD0010, [], [⟨0, 32, .ro, 0⟩]⟩,
  ⟨0xD0014, [], [⟨0, 32, .ro, 0⟩]⟩,
  ⟨0xD0018, [], [⟨0, 32, .ro, 0⟩]⟩,
  ⟨0xD001C, [], [⟨0, 16, .ro, 0⟩]⟩,
  ⟨0xD0020, [], [⟨0, 16, .ro, 0⟩, ⟨16, 16, .rw, 0⟩]⟩,
  ⟨0xD0024, [], [⟨0, 16, .rw, 0⟩, ⟨16, 16, .ro, 0⟩]⟩,
  ⟨0xD0028, [], [⟨0, 2, .ro, 0⟩, ⟨16, 16, .ro, 0⟩]⟩,
  ⟨0xD002C, [], [⟨0, 32, .ro, 0⟩]⟩,
  ⟨0xD0030, [], [⟨0, 32, .ro, 0⟩]⟩,
  ⟨0xD0034, [], [⟨0, 16, .ro, 0⟩, ⟨16, 16, .ro, 0⟩]⟩,
  ⟨0xD0038, [], [⟨0, 16, .ro, 0⟩, ⟨16, 16, .ro, 0⟩]⟩,
  ⟨0xD003C, [], [⟨0, 16, .ro, 0⟩, ⟨16, 16, .ro, 0⟩]⟩,
  ⟨0xD0040, [], [⟨0, 32, .ro, 0⟩]⟩,
  ⟨0xD0044, [], [⟨0, 1, .ro, 0⟩, ⟨1, 1, .ro, 0⟩, ⟨2, 1, .ro, 0⟩, ⟨3, 1, .ro, 0⟩, ⟨4, 1, .ro, 0⟩, ⟨5, 1, .ro, 0⟩, ⟨31, 1, .ro, 0⟩]⟩,
  ⟨0xD0048, [], [⟨0, 13, .ro, 0⟩, ⟨16, 16, .ro, 0⟩]⟩,
  ⟨0xD0080, [(0x10, 2)], [⟨0, 1, .ro, 0⟩, ⟨16, 16, .ro, 0⟩]⟩,
  ⟨0xD0084, [(0x10, 2)], [⟨0, 32, .ro, 0⟩]⟩,
  ⟨0xD0088, [(0x10, 2)], [⟨0, 32, .ro, 0⟩]⟩,
  ⟨0xD008C, [(0x10, 2)], [⟨0, 32, .ro, 0⟩]⟩]

/-- The registers of block MOV. -/
def regRowsMov : List RegRow := [
  ⟨0xE0000, [], [⟨8, 8, .ro, 0⟩]⟩,
  ⟨0xE0004, [], [⟨0, 16, .ro, 0⟩, ⟨16, 16, .ro, 0⟩]⟩,
  ⟨0xE0008, [], [⟨0, 10, .ro, 0⟩, ⟨16, 10, .rw, 0⟩]⟩,
  ⟨0xE0100, [(0x40, 16)], [⟨0, 1, .rw, 0⟩, ⟨1, 1, .wo, 0⟩, ⟨2, 1, .wo, 0⟩, ⟨3, 1, .rw, 0⟩, ⟨4, 3, .ro, 0⟩]⟩,
  ⟨0xE0104, [(0x40, 16)], [⟨0, 2, .ro, 0⟩, ⟨2, 5, .ro, 0⟩, ⟨7, 1, .stk, 0⟩, ⟨8, 1, .stk, 0⟩, ⟨9, 1, .stk, 0⟩, ⟨10, 6, .ro, 0⟩]⟩,
  ⟨0xE0108, [(0x40, 16)], [⟨0, 14, .ro, 0⟩, ⟨14, 1, .ro, 0⟩]⟩,
  ⟨0xE010C, [(0x40, 16)], [⟨0, 24, .ro, 0⟩]⟩,
  ⟨0xE0110, [(0x40, 16)], [⟨0, 16, .ro, 0⟩]⟩,
  ⟨0xE0114, [(0x40, 16)], [⟨0, 32, .ro, 0⟩]⟩,
  ⟨0xE0118, [(0x40, 16)], [⟨0, 3, .ro, 0⟩, ⟨3, 1, .ro, 0⟩, ⟨4, 1, .w1c, 0⟩]⟩,
  ⟨0xE011C, [(0x40, 16)], [⟨0, 32, .ro, 0⟩]⟩,
  ⟨0xE0120, [(0x40, 16)], [⟨0, 32, .ro, 0⟩]⟩,
  ⟨0xE0124, [(0x40, 16)], [⟨0, 16, .ro, 0⟩, ⟨16, 16, .ro, 0⟩]⟩,
  ⟨0xE4000, [(0x20, 256)], [⟨0, 32, .ro, 0⟩]⟩,
  ⟨0xE4004, [(0x20, 256)], [⟨0, 32, .ro, 0⟩]⟩,
  ⟨0xE4008, [(0x20, 256)], [⟨0, 24, .ro, 0⟩]⟩,
  ⟨0xE400C, [(0x20, 256)], [⟨0, 16, .ro, 0⟩]⟩,
  ⟨0xE4010, [(0x20, 256)], [⟨0, 16, .ro, 0⟩, ⟨16, 16, .ro, 0⟩]⟩,
  ⟨0xE4014, [(0x20, 256)], [⟨0, 8, .ro, 0⟩, ⟨16, 16, .ro, 0⟩]⟩,
  ⟨0xE4018, [(0x20, 256)], [⟨0, 32, .ro, 0⟩]⟩]

/-- The registers of block RET. -/
def regRowsRet : List RegRow := [
  ⟨0xF0000, [], [⟨0, 11, .ro, 0⟩]⟩,
  ⟨0xF0004, [], [⟨0, 1, .ro, 1⟩, ⟨1, 1, .ro, 0⟩, ⟨2, 1, .ro, 0⟩, ⟨3, 1, .ro, 0⟩, ⟨4, 1, .ro, 0⟩]⟩,
  ⟨0xF0008, [], [⟨0, 16, .ro, 0⟩, ⟨16, 16, .ro, 0⟩]⟩,
  ⟨0xF000C, [], [⟨0, 32, .ro, 0⟩]⟩,
  ⟨0xF0010, [], [⟨0, 32, .ro, 0⟩]⟩,
  ⟨0xF0014, [], [⟨0, 32, .ro, 0⟩]⟩,
  ⟨0xF0018, [], [⟨0, 16, .ro, 0⟩, ⟨16, 16, .rw, 0⟩]⟩,
  ⟨0xF001C, [], [⟨0, 11, .ro, 0⟩]⟩,
  ⟨0xF0020, [], [⟨0, 3, .ro, 0⟩, ⟨3, 1, .ro, 0⟩, ⟨4, 1, .ro, 0⟩, ⟨5, 1, .ro, 0⟩]⟩,
  ⟨0xF0024, [], [⟨0, 32, .ro, 0⟩]⟩,
  ⟨0xF0028, [], [⟨0, 2, .rw, 0⟩]⟩,
  ⟨0xF002C, [], [⟨0, 17, .ro, 0⟩, ⟨24, 8, .ro, 0⟩]⟩,
  ⟨0xF0030, [], [⟨0, 32, .ro, 0⟩]⟩,
  ⟨0xF0034, [], [⟨0, 32, .ro, 0⟩]⟩,
  ⟨0xF0100, [(0x4, 16)], [⟨0, 11, .ro, 0⟩, ⟨11, 3, .ro, 0⟩, ⟨14, 4, .ro, 0⟩, ⟨18, 4, .ro, 0⟩]⟩]

/-- The registers of block DSP. -/
def regRowsDsp : List RegRow := [
  ⟨0x100000, [], [⟨0, 1, .rw, 0⟩]⟩,
  ⟨0x100004, [], [⟨0, 3, .ro, 0⟩, ⟨3, 1, .ro, 0⟩, ⟨4, 1, .ro, 0⟩, ⟨5, 1, .stk, 0⟩, ⟨8, 5, .ro, 0⟩, ⟨16, 6, .ro, 0⟩]⟩,
  ⟨0x100008, [], [⟨0, 10, .ro, 0⟩, ⟨16, 7, .ro, 0⟩, ⟨24, 6, .ro, 0⟩]⟩,
  ⟨0x10000C, [], [⟨0, 11, .ro, 0⟩, ⟨16, 11, .ro, 0⟩]⟩,
  ⟨0x100010, [], [⟨0, 8, .ro, 0⟩, ⟨8, 8, .ro, 0⟩, ⟨16, 8, .ro, 0⟩, ⟨24, 8, .ro, 0⟩]⟩,
  ⟨0x100014, [], [⟨0, 8, .ro, 0⟩, ⟨8, 8, .ro, 0⟩, ⟨16, 8, .ro, 0⟩]⟩,
  ⟨0x100018, [], [⟨0, 9, .ro, 0⟩]⟩,
  ⟨0x10001C, [], [⟨0, 16, .ro, 0⟩, ⟨16, 16, .ro, 0⟩]⟩,
  ⟨0x100020, [], [⟨0, 16, .ro, 0⟩, ⟨16, 1, .ro, 0⟩, ⟨24, 4, .ro, 0⟩]⟩,
  ⟨0x100024, [], [⟨0, 8, .ro, 0⟩, ⟨8, 8, .ro, 0⟩]⟩,
  ⟨0x100028, [], [⟨0, 5, .ro, 0⟩, ⟨16, 16, .ro, 0⟩]⟩,
  ⟨0x10002C, [], [⟨0, 16, .ro, 0⟩, ⟨16, 16, .ro, 0⟩]⟩,
  ⟨0x100030, [], [⟨0, 16, .ro, 0⟩, ⟨16, 16, .ro, 0⟩]⟩,
  ⟨0x100034, [], [⟨0, 16, .ro, 0⟩, ⟨16, 16, .ro, 0⟩]⟩,
  ⟨0x100100, [(0x10, 16)], [⟨0, 2, .ro, 0⟩, ⟨2, 2, .ro, 0⟩, ⟨4, 4, .ro, 0⟩, ⟨8, 8, .ro, 0⟩, ⟨16, 2, .ro, 0⟩]⟩,
  ⟨0x100104, [(0x10, 16)], [⟨0, 11, .ro, 0⟩, ⟨16, 11, .ro, 0⟩]⟩,
  ⟨0x100108, [(0x10, 16)], [⟨0, 11, .ro, 0⟩, ⟨16, 11, .ro, 0⟩]⟩,
  ⟨0x10010C, [(0x10, 16)], [⟨0, 7, .ro, 0⟩]⟩]

/-- The registers of block UPD. -/
def regRowsUpd : List RegRow := [
  ⟨0x110000, [], [⟨0, 1, .ro, 0⟩, ⟨1, 1, .ro, 0⟩, ⟨2, 2, .ro, 3⟩, ⟨4, 2, .ro, 3⟩, ⟨6, 2, .ro, 0⟩, ⟨8, 2, .ro, 0⟩, ⟨10, 1, .ro, 0⟩]⟩,
  ⟨0x110004, [], [⟨0, 24, .ro, 0⟩]⟩,
  ⟨0x110008, [], [⟨0, 32, .ro, 0⟩]⟩,
  ⟨0x11000C, [], [⟨0, 2, .ro, 0⟩, ⟨2, 1, .ro, 0⟩, ⟨8, 8, .ro, 0⟩]⟩,
  ⟨0x110010, [], [⟨0, 8, .ro, 0⟩, ⟨8, 24, .ro, 0⟩]⟩,
  ⟨0x110014, [], [⟨0, 4, .ro, 0⟩, ⟨8, 8, .ro, 0⟩, ⟨16, 8, .ro, 0⟩]⟩,
  ⟨0x110020, [(0x4, 8)], [⟨0, 32, .ro, 0⟩]⟩,
  ⟨0x110040, [(0x4, 8)], [⟨0, 32, .ro, 0⟩]⟩,
  ⟨0x110060, [], [⟨0, 32, .ro, 0⟩]⟩,
  ⟨0x110064, [], [⟨0, 32, .ro, 0⟩]⟩,
  ⟨0x110070, [], [⟨0, 2, .ro, 0⟩, ⟨2, 1, .ro, 0⟩, ⟨8, 8, .ro, 0⟩]⟩,
  ⟨0x110074, [], [⟨0, 16, .ro, 0⟩, ⟨16, 16, .ro, 0⟩]⟩,
  ⟨0x110080, [], [⟨0, 32, .ro, 0⟩]⟩,
  ⟨0x110084, [], [⟨0, 16, .ro, 0⟩, ⟨16, 16, .ro, 0⟩]⟩,
  ⟨0x110090, [(0x4, 4)], [⟨0, 32, .otp, 0⟩]⟩,
  ⟨0x1100A0, [], [⟨0, 3, .ro, 0⟩, ⟨8, 8, .ro, 0⟩, ⟨16, 6, .ro, 0⟩]⟩,
  ⟨0x1100A4, [], [⟨0, 32, .ro, 0⟩]⟩,
  ⟨0x1100A8, [], [⟨0, 16, .ro, 0⟩, ⟨16, 16, .ro, 0⟩]⟩]

/-- The registers of block DIAG. -/
def regRowsDiag : List RegRow := [
  ⟨0x120000, [], [⟨0, 3, .ro, 0⟩]⟩,
  ⟨0x120004, [], [⟨0, 1, .ro, 0⟩, ⟨1, 1, .ro, 0⟩, ⟨2, 1, .ro, 0⟩, ⟨8, 8, .ro, 0⟩, ⟨16, 8, .ro, 0⟩]⟩,
  ⟨0x120008, [], [⟨0, 1, .wo, 0⟩]⟩,
  ⟨0x12000C, [], [⟨0, 8, .ro, 0⟩, ⟨8, 1, .ro, 0⟩]⟩,
  ⟨0x120010, [], [⟨0, 16, .ro, 0⟩, ⟨16, 2, .ro, 0⟩, ⟨31, 1, .stk, 0⟩]⟩,
  ⟨0x120014, [], [⟨0, 32, .ro, 0⟩]⟩,
  ⟨0x120018, [], [⟨0, 32, .ro, 0⟩]⟩,
  ⟨0x120020, [], [⟨0, 4, .ro, 0⟩, ⟨4, 1, .ro, 0⟩, ⟨5, 1, .ro, 0⟩, ⟨8, 5, .ro, 0⟩]⟩,
  ⟨0x120024, [], [⟨0, 32, .ro, 0⟩]⟩,
  ⟨0x120028, [], [⟨0, 16, .ro, 0⟩, ⟨16, 16, .ro, 0⟩]⟩,
  ⟨0x12002C, [], [⟨0, 32, .ro, 0⟩]⟩,
  ⟨0x120030, [], [⟨0, 16, .ro, 0⟩, ⟨16, 4, .ro, 0⟩, ⟨20, 4, .ro, 0⟩]⟩,
  ⟨0x120034, [], [⟨0, 4, .ro, 0⟩, ⟨4, 1, .stk, 0⟩, ⟨16, 16, .ro, 0⟩]⟩,
  ⟨0x120040, [(0x4, 8)], [⟨0, 32, .ro, 0⟩]⟩,
  ⟨0x120060, [], [⟨0, 8, .stk, 0⟩]⟩,
  ⟨0x120064, [], [⟨0, 28, .ro, 0⟩, ⟨28, 3, .ro, 0⟩]⟩]

/-- The rows of the 64 KiB block with number `n` (R587, R588). -/
def regRows : Nat → List RegRow
  | 0x0 => regRowsSys
  | 0x1 => regRowsPwr
  | 0x2 => regRowsClk
  | 0x3 => regRowsTb
  | 0x4 => regRowsRtc
  | 0x5 => regRowsWdg
  | 0x6 => regRowsEng
  | 0x7 => regRowsTsk
  | 0x8 => regRowsImg
  | 0x9 => regRowsEvu
  | 0xA => regRowsFio
  | 0xB => regRowsBb
  | 0xC => regRowsSta
  | 0xD => regRowsPrt
  | 0xE => regRowsMov
  | 0xF => regRowsRet
  | 0x10 => regRowsDsp
  | 0x11 => regRowsUpd
  | 0x12 => regRowsDiag
  | _ => []

/-- Is `d` a multiple combination of the strides, each index below its count? -/
def arrMatch : List (Nat × Nat) → Nat → Bool
  | [], d => d == 0
  | (st, ct) :: rest, d => decide (d / st < ct) && arrMatch rest (d % st)

/-- The row an address belongs to, where a chapter lists it. -/
def regRow (a : Nat) : Option RegRow :=
  (regRows (a / 0x10000)).find? (fun r => decide (r.base ≤ a) && arrMatch r.arr (a - r.base))

/-- The fields of the register at an address; a reserved offset has none (R587). -/
def regFields (a : Nat) : List FieldRow :=
  match regRow a with
  | some r => r.fields
  | none => []

/-- The fixed part of a register's reset value: the sum of its fields' reset values at their places. -/
def regResetFixed (a : Nat) : Nat :=
  (regFields a).foldl (fun w f => w + f.rst * 2 ^ f.lsb) 0

/-- R587: an address outside the register map: not 4-byte aligned, at or above 0x13_0000, or in the BAY block beyond the
last offset listed for its channel. -/
def regOutside (a : Nat) : Bool :=
  a % 4 != 0 || decide (0x130000 ≤ a) ||
    (a / 0x10000 == 0xB && decide (0x3000 + 0x60 * 31 + 0x4C < a % 0x8000))

end Sys2Proof.Machine
end

