-- ==== Sys2Proof/Machine/State.lean ====
section
/-!
DEFINITION. The state of the module as plain data: every register, store, queue, mode and pin the manual gives it, and the
queue of the commands that are waiting. Structures first, chapter by chapter; then `Mach`, the module; then `State`, the
module with its queue, and `State.reset`.
-/
namespace Sys2Proof.Machine
open Sys2Proof


/-! ### Events and the journal (R209–R232) -/

/-- One entry of the sequence-of-events journal (R222): its five fields. -/
structure JEntry where
  time : Nat
  point : Nat
  kind : Nat
  flags : Nat
  seq : Nat
  deriving DecidableEq, Repr

/-- The event unit's record of one point of I space (R178): the image's value and quality, the source's own value and
quality (R188, without the chatter condition), the value last received from the source (R187), the instant of the last accepted transition, chatter blocking (R215, R216) and the wake mask (R220). -/
structure Pt where
  v : Bool
  q : Nat
  sv : Bool
  sq : Nat
  ever : Bool := false
  sAt : Nat := 0
  sUnsync : Bool := false
  rv : Bool := false
  chEn : Bool := false
  chPrf : Nat := 0
  blocked : Bool := false
  blkQ : Nat := 0
  trans : List Nat := []
  lastAcc : Nat := 0
  wake : Nat := 0
  deriving DecidableEq, Repr

/-- One point of a change: the I index, the new value and quality, the stamp, and whether the source reports itself
unsynchronised (R223). `subst`: the value is the package's substitute and was not received (R187). `kind` 3 or 4 marks the write of a chatter block or release, whose one entry is CHBLK or CHREL (R215). -/
structure PtChange where
  idx : Nat
  v : Bool
  q : Nat
  stamp : Nat
  unsync : Bool := false
  subst : Bool := false
  kind : Nat := 0
  deriving DecidableEq, Repr

/-- One indivisible change on its way into the image (R189, R213): its points and the GOOSE analogue words it brings (R182). -/
structure Change where
  pts : List PtChange
  words : List (Nat × Word) := []
  wordsAt : Nat := 0
  heldAt : Nat := 0
  deriving DecidableEq, Repr

/-- A value preserved for the open task snapshots (R30, R31): the point of I (`isW = false`) or the word of
W:258048–262143, and the write orders between which the value was current. -/
structure Preserved where
  isW : Bool
  idx : Nat
  hi : Nat
  deriving DecidableEq, Repr

/-! ### Tasks, snapshots and scans (R17–R86) -/

/-- A snapshot (R28, R29) with the scan constants fixed with it (R157). -/
structure Snap where
  time : Nat
  trig : Nat
  tidx : Nat
  scsn : Nat
  bndn : Nat
  utcoff : Nat
  period : Nat
  phase : Nat
  ord : Nat
  no : Nat := 0
  ivals : SMap Nat
  wvals : SMap Word
  deriving DecidableEq, Repr

/-- A deferred action of a segment (R155, R156): a check-in to a watchdog slot, or a request for a move-engine channel. -/
inductive Deferred where
  | wdck (slot : Nat)
  | mvrq (channel index : Nat)
  deriving DecidableEq, Repr

/-- The states of one segment of a scan (R20, R21). -/
inductive SegSt where
  | waiting | running | halted
  deriving DecidableEq, Repr

/-- One segment of a scan: its state, the engine whose frame it holds, the instant it became ready (R20) and its shade
frame (R59, R60): one entry per image key, and the deferred actions in the order of issue. -/
structure Seg where
  st : SegSt
  eng : Nat
  ready : Option Nat
  frame : SMap (Option (BitVec 128))
  deferred : List Deferred
  deriving DecidableEq, Repr

/-- A scan of a task (R56): its snapshot, its segments, its read-set (R72: space code and block), and its anchoring (R79, R82). -/
structure Scan where
  id : Nat
  snap : Snap
  segs : List Seg
  rset : List (Nat × Nat)
  anchored : Bool
  anchOrd : Nat
  started : Nat
  complete : Bool
  heldAt : Nat
  deferredAt : Option Nat
  waitFrom : Nat
  deriving DecidableEq, Repr

/-- What a task holds beside its registers: its scans by pipeline state (R57) and its boundary record (R48), with the instant of the last boundary or resume scan. -/
structure Task where
  snap : Option Scan := none
  run : Option Scan := none
  held : Option Scan := none
  inCommit : Bool := false
  anyTaken : Bool := false
  lastTaken : Nat := 0
  served : Bool := false
  bndAt : Option Nat := none
  lastSnap : Option Nat := none
  budgetLogged : Bool := false
  lastFault : Option (Nat × Nat) := none
  deriving DecidableEq, Repr

/-- The application in progress (R36): its task and scan, its CSN and the one applied before it, digest and merged entries (R37), the changed Q bits, the
victims of R75 (task, scan, space, block) and the deferred actions in digest order (R44). -/
structure App where
  task : Nat
  scan : Nat
  csn : Nat
  prev : Nat
  snapTime : Nat
  startAt : Nat
  doneAt : Nat
  entries : List (Nat × BitVec 128)
  qchg : List (Nat × Bool)
  digest : BitVec 64
  victims : List (Nat × Nat × Nat × Nat)
  deferred : List Deferred
  anchored : Bool
  snapNo : Nat
  deriving DecidableEq, Repr

/-! ### Logic engines (R87–R127) -/

/-- The engine states of R11, and the state of an engine taken out of dispatch (R125, R428). -/
inductive EngPower where
  | dark | dim | lit | heldOut
  deriving DecidableEq, Repr

/-- One write on its way to its completion stage (R95, R101). -/
inductive Wr where
  | g (n : Nat) (v : Word)
  | p (n : Nat) (v : Bool)
  | link (v : Nat)
  | loop (v : Word)
  | ldata (addr : Nat) (v : Byte)
  | shade (key : Nat) (v : BitVec 128)
  | act (d : Deferred)
  | perf (en clr : Bool)
  | tmax (resp : Bool) (k : Nat)
  deriving DecidableEq, Repr

/-- A write in flight: it is visible to every read in a cycle after `done`. -/
structure Flight where
  done : Nat
  w : Wr
  deriving DecidableEq, Repr

/-- An engine: its power state (R11), the segment in RUN on it, the architectural state of R87, the slot count and steps
(R113), the delay slots (R108), the writes in flight and the cycles in which the instructions in flight end (R105), the PC of the
instruction in DE (R126), a fault that a custom instruction in flight raises, with its cycle, code and PC (R171), scan-local data (R91) and its two code banks (R90). Log 8 (DESIGN CHOICE). -/
structure Eng where
  power : EngPower := .dark
  wantTill : Nat := 0
  wake : Bool := false
  act : Option (Nat × Nat) := none
  drain : Bool := false
  freeAt : Nat := 0
  litSince : Nat := 0
  pc : Nat := 0
  slot : Nat := 0
  steps : Nat := 0
  ds : Nat := 0
  tgt : Option Nat := none
  g : SMap Word := []
  p : SMap Bool := []
  link : Nat := 0
  loop : Word := 0
  flight : List Flight := []
  ends : List Nat := []
  de : Nat := 0
  flt : Option (Nat × Nat × Nat) := none
  ldata : SMap Byte := []
  preset : SMap Byte := []
  bank0 : SMap Word := []
  bank1 : SMap Word := []
  retired : Bool := false
  deriving DecidableEq, Repr

/-- Power of one engine quad (R11, R560): on, a wake request pending, and a power-down in progress. -/
structure Quad where
  on : Bool := false
  req : Bool := false
  down : Bool := false
  deriving DecidableEq, Repr


/-! ### Online change (R233–R261) -/

/-- What the map phase of an online change overwrote (R249, R254): image elements with their old content, and the preset areas of
engines with their sizes. -/
structure Overwritten where
  img : List (Nat × CellV)
  presets : List (Nat × SMap Byte × Nat)
  deriving DecidableEq, Repr

/-- An online change: the staged package it loads from, the loaded preset images by engine, L and M in nanoseconds, the tasks whose
first boundary in the window has been journalled, what the map phase overwrote, whether the map phase is complete, and whether a follower's lead
has drained. -/
structure Olc where
  pkg : List Byte := []
  eng : List (Nat × SMap Byte) := []
  len : Nat := 0
  est : Nat := 0
  skipped : List Nat := []
  saved : Option Overwritten := none
  mapped : Bool := false
  leadDone : Bool := false
  deriving DecidableEq, Repr

/-! ### The redundant pair (R262–R300) -/

/-- A frame of the partner link (R267): what its LEN and its CRC are computed from. -/
structure LinkFrame where
  ty : Nat
  flags : Nat
  fseq : Nat
  epoch : Nat
  payload : List Byte
  deriving DecidableEq, Repr

/-- A commit record received from the lead (R279). -/
structure CommitRec where
  csn : Nat
  task : Nat
  flags : Nat
  snapno : Nat
  cmtt : Nat
  digest : BitVec 64
  qchg : Nat
  deriving DecidableEq, Repr

/-- A forwarded snapshot a follower holds (R282). -/
structure FwdSnap where
  task : Nat
  snap : Snap
  deriving DecidableEq, Repr

/-- A gap in the frames received (R270): its first number, how many are missing, and the instant it was found. -/
structure Gap where
  first : Nat
  n : Nat
  since : Nat
  deriving DecidableEq, Repr

/-- The redundancy manager (R262–R298). `gaps` are the gaps not yet filled; `restart` is the lane and the HELLO that started the sequence received,
until its second copy comes. -/
structure Pair where
  txNext : Nat := 0
  sent : List LinkFrame := []
  rxNext : Option Nat := none
  rxHeld : List LinkFrame := []
  gaps : List Gap := []
  restart : Option (Nat × LinkFrame) := none
  laneRun : Nat × Nat := (0, 0)
  laneAt : Nat × Nat := (0, 0)
  txReset : Bool := true
  stream : List (List Byte) := []
  streaming : Bool := false
  ptnFollow : Bool := false
  ptnUnsync : Nat := 0
  deltaAll : Bool := false
  ackSeq : Option Nat := none
  snapNo : Nat := 0
  snapFseq : List (Nat × Nat) := []
  deltas : List (Nat × List Byte) := []
  ptnToken : Bool := false
  ptnHbAt : Option Nat := none
  cfgDis : Nat := 0
  alien : Bool := false
  rxCount : Option Nat := none
  rxLinkCount : Option Nat := none
  leaseAt : Option Nat := none
  lastRenew : Option Nat := none
  hbSent : Option Nat := none
  fenced : Bool := false
  yielding : Option Nat := none
  taking : Bool := false
  yieldWaits : Option Nat := none
  yieldCsn : Option Nat := none
  yieldSeq : Nat := 0
  yieldReason : Nat := 0
  fwd : List FwdSnap := []
  commits : List CommitRec := []
  deltaBuf : List (Nat × List Byte) := []
  deltaDone : List (Nat × List Byte) := []
  delReqs : List Nat := []
  snapTimes : List (Nat × Nat) := []
  mismatches : List Nat := []
  syncing : Bool := false
  xferItem : Nat := 0
  xferOff : Nat := 0
  xferAt : Option Nat := none
  xferStep : Option Nat := none
  xferCsn : Option Nat := none
  xferBuf : SMap Byte := []
  xferOwn : List Nat := []
  delaySent : Option Nat := none
  oneWay : Option Nat := none
  timeTaken : Bool := false
  ptnGstn : SMap Nat := []
  lastViol : Option Nat := none
  listenFrom : Option Nat := none
  readyFrom : Option Nat := none
  lastSeq : Nat := 0
  olc : Nat := 0
  olcDigs : List Byte := []
  deriving DecidableEq, Repr


/-! ### Field inputs and outputs (R301–R324) -/

/-- Wire-break detection of one on-board input (R304): the last current measured in µA, the class of the last measurement
(0 none, 1 broken, 2 intact), the measurements in a row in it, and the declared state (0 none yet, 1 intact, 2 broken). -/
structure Di where
  cur : Nat := 0
  cls : Nat := 0
  run : Nat := 0
  decl : Nat := 0
  deriving DecidableEq, Repr

/-- The field side: the commands at the drivers, the switches, the clamp phases (bit n for DOn), the instants a driver was
turned on and a clamp phase began, the commands as RUN was last left (R311), the health contact, its last refresh, and the instant from
which one of its paths is closed again (R320). -/
structure FieldIo where
  cmd : BitVec 32 := 0
  sw : BitVec 32 := 0
  clamp : BitVec 32 := 0
  onAt : SMap Nat := []
  clampAt : SMap Nat := []
  held : BitVec 32 := 0
  di : SMap Di := []
  hc : Bool := false
  hcAt : Nat := 0
  hcEnd : Nat := 0
  deriving DecidableEq, Repr


/-! ### The bay buses (R325–R358) -/

/-- An exchange with a station (R595): 0 IDENT, 1 SETPAR, 2 CFGEND, 3 the image, 4 ENABLE; its TAG, the instant of the attempt,
the attempts made, the items of a SETPAR in hand and those still to be sent. -/
structure Exch where
  kind : Nat
  tag : Nat
  since : Nat
  n : Nat
  items : List (Nat × Nat)
  left : List (Nat × Nat)
  deriving DecidableEq, Repr

/-- A station beside its registers (R347): whether the package configures it, its parameter items and substitutes (mask and
values), when it was last heard, whether its ESEQ is fixed and its inputs are written (R342), the exchange in hand, the image
CSN, the instant it entered its state, its violations, the end of a configuration retry wait, and its LATE count. -/
structure Station where
  conf : Bool := false
  items : List (Nat × Nat) := []
  subMask : BitVec 64 := 0
  subVal : BitVec 64 := 0
  heard : Option Nat := none
  seqFixed : Bool := false
  written : Bool := false
  exch : Option Exch := none
  image : Nat := 0
  since : Nat := 0
  viol : List Nat := []
  retryAt : Option Nat := none
  late : Nat := 0
  tag : Nat := 0
  deriving DecidableEq, Repr

/-- A channel beside its registers: frames waiting for a transmit buffer, the buffer whose frame is on the bus, whether that request
has been cancelled (R355), a switch-off that waits for it, the SYNC in hand with its captured start of frame, and the instants of the last events that are rate-limited. -/
structure Bay where
  txq : List (Nat × List Byte) := []
  bus : Option Nat := none
  cancel : Bool := false
  offPend : Bool := false
  sync : Option (Nat × Nat) := none
  malfAt : Option Nat := none
  unconfAt : Option Nat := none
  deriving DecidableEq, Repr


/-! ### Station ports (R359–R385) -/

/-- One member of a subscription entry (R373): its leaf type (R374, coded as `GLeaf.code`), its target I or W index, the member that
holds its quality, and its substitute value. -/
structure GMember where
  ty : Nat
  target : Nat
  qual : Option Nat
  subst : Option Nat
  deriving DecidableEq, Repr

/-- A subscription entry (R373). -/
structure GSub where
  mac : Nat
  appid : Nat
  gocbRef : List Byte
  datSet : List Byte
  confRev : Nat
  members : List GMember
  status : Option Nat
  acceptTest : Bool
  deriving DecidableEq, Repr

/-- One member of a publication entry (R379): 0 BOOLEAN from a Q bit, 1 Dbpos from two Q bits, 2 INT32, 3 INT32U, 4 FLOAT32 and 5
Quality from a W word, 6 UtcTime of the commit; the index of its source. -/
structure GPubMember where
  ty : Nat
  source : Nat
  deriving DecidableEq, Repr

/-- A publication entry (R379). -/
structure GPub where
  mac : Nat
  appid : Nat
  vlan : Nat
  gocbRef : List Byte
  datSet : List Byte
  goID : List Byte
  confRev : Nat
  members : List GPubMember
  deriving DecidableEq, Repr

/-- A published block in run: the values of the state, its commit time, stNum and sqNum of the frame that the interval follows, the
interval to the next frame and its instant, and whether a frame of the state has been sent. -/
structure GRun where
  vals : List Nat
  cmtT : Nat
  st : Nat
  sq : Nat
  interval : Nat
  nextAt : Nat
  sent : Bool
  deriving DecidableEq, Repr

/-- A foreign master as its last Announce shows it (R369): the announced data, when it came, the one before it, and the interval. -/
structure Foreign where
  ann : AnnounceMsg
  at_ : Nat
  before : Option Nat
  deriving DecidableEq, Repr

/-- A PTP port instance (R370, R371): its foreign masters, its master in state SLAVE, a Sync that waits for its Follow_Up, with its
ingress stamp and the instant it came, the last
Pdelay_Req with its stamps, requests unanswered in a row, the mean peer delay with its instant, the last Sync used, and whether
it delivers offsets. -/
structure PtpPort where
  foreign : List Foreign := []
  master : Option (Nat × Nat) := none
  sync : Option SyncMsg := none
  syncIn : Nat := 0
  syncAt : Nat := 0
  reqSeq : Nat := 0
  reqAt : Option Nat := none
  resp : Option (Int × Nat × Int) := none
  misses : Nat := 0
  delay : Option (Int × Nat) := none
  lastSync : Option (Nat × Nat) := none
  delivers : Bool := false
  offset : Int := 0
  deriving DecidableEq, Repr

/-- A source node of the PRP node table (R367): when it was last heard, and the frames of the last 400 ms: sequence number, port,
instant, and whether the copy from the other LAN came. -/
structure Node where
  seen : Nat
  recent : List (Nat × Nat × Nat × Bool)
  deriving DecidableEq, Repr

/-- A port beside its registers: the last frame received, the link-down instant of R363, a gratuitous ARP that is due, and the
supervisor's frames in the current second (R361). -/
structure Port where
  rxAt : Option Nat := none
  downAt : Option Nat := none
  garpAt : Option Nat := none
  rateFrom : Nat := 0
  rateCount : Nat := 0
  deriving DecidableEq, Repr

/-- The station ports: the ports, the PTP instances, the PRP node table and the next redundancy sequence number (R365), the
subscription entries with the end of each block's time-allowed-to-live and whether its stNum is recorded, the publication
entries with the blocks in run, and the last instants of the notes that are rate-limited. -/
structure Ports where
  ports : SMap Port := []
  ptp : SMap PtpPort := []
  nodes : SMap (Option Node) := []
  rct : Nat := 0
  subs : SMap (Option GSub) := []
  tal : SMap (Option Nat) := []
  known : List Nat := []
  pubs : SMap (Option GPub) := []
  runs : SMap (Option GRun) := []
  notes : SMap (Option Nat) := []
  deriving DecidableEq, Repr



/-! ### Time keeping (R386–R415) -/

/-- A calendar date and time (R404). -/
structure Cal where
  sec : Nat := 0
  min : Nat := 0
  hour : Nat := 0
  day : Nat := 1
  mon : Nat := 1
  year : Nat := 1970
  wday : Nat := 0
  deriving DecidableEq, Repr

/-- The time keeper: the sources 0–2 whose conditions hold (a mask) and since when, the sources judged gross (a mask), the last offset of
each source, those with one that is not measured yet (a mask), the PTP offsets to be averaged with their instants, and the learned
frequency error (R393); the checks of IRIG-B and PPS with their last instants, and the daylight-saving bits of IRIG-B; the instants
of the last NOTEs 0x308A and 0x308B, the run of measurements within 1 µs, whether the first measurement of a new source
decides LOCKED, the instant LOCKED was left, the TAI second of an announced leap and the source that announced it, the calendar
with the instant of its last roll-over and its holding sets (R405), a commit that waits for a roll-over, the offset of a commit in
RUN, the UTC offset of the last client commit, PD0's copy of the UTC offset and whether it is confirmed (R402), an AON reset that the
next start reports, alarms that fired on VBAK, the end of the wait of R394, and a RUN that waits for the time (R395). -/
structure TimeK where
  avail : Nat := 0
  since : SMap (Option Nat) := []
  gross : Nat := 0
  offs : SMap (Option Int) := []
  fresh : Nat := 0
  ptpOffs : List (Nat × Int) := []
  learned : Int := 0
  irigGood : Nat := 0
  irigPrev : Option Nat := none
  irig60 : Bool := false
  irigDst : Nat := 0
  irigAt : Nat := 0
  ppsGood : Nat := 0
  ppsBad : Nat := 0
  ppsPrev : Option Nat := none
  noteA : Option Nat := none
  noteB : Option Nat := none
  good : Nat := 0
  judge : Bool := false
  leftLock : Option Nat := none
  leapAt : Nat := 0
  leapSrc : Nat := 0
  calAt : Nat := 0
  cal : Cal := { wday := 4 }
  rd : Cal := {}
  rdSub : Nat := 0
  wr : Cal := {}
  cmtWait : Bool := false
  cmtOff : Option Int := none
  cliUtc : Option Int := none
  pd0Utc : Option Nat := none
  utcOk : Bool := false
  aonLost : Bool := true
  alarmBak : Nat := 0
  waitEnd : Option Nat := none
  runWaits : Bool := false
  tqLog : List (Nat × Nat) := []
  deriving DecidableEq, Repr



/-! ### Supervision and the watchdog (R416–R440) -/

/-- A commit selected for audit (R425): its task, its snapshot, the engine and the recorded digest of each segment, the
digests of the first audit, its start, the elements preserved before they were overwritten, and whether the audit runs. -/
structure Audit where
  task : Nat
  snap : Snap
  engs : List Nat
  digests : List (BitVec 64)
  first : Option (List (BitVec 64))
  since : Nat
  kept : SMap (Option (BitVec 128))
  running : Bool
  deriving DecidableEq, Repr

/-- The supervisor's own records: nanoseconds left in each watchdog slot (R430), the start-up debts of R432 (slots of the last
scarlet stage), the reset record of R420 in PD0, a reset that is due with its cause and instant, the entry to FAULT and its
hold, corrected errors (region, address, instants), the tasks committed since their last audit and the task last selected,
confirmed mismatches by engine, and an engine waiting for its segments to move (R428). -/
structure Sup where
  left : SMap Nat := []
  scarlet : List Nat := []
  resets : List Nat := []
  due : Option (Nat × Nat) := none
  faultAt : Option Nat := none
  noSave : Bool := false
  corrected : List (Nat × Nat × List Nat) := []
  audit : Option Audit := none
  audDone : List Nat := []
  audLast : Nat := 31
  confirmed : List (Nat × Nat) := []
  moving : Option (Nat × Nat × Nat) := none
  suspAt : Option Nat := none
  suspEnd : Option Nat := none
  deriving DecidableEq, Repr


/-! ### The retained store (R441–R468) -/

/-- A record of the store (R445, R446) with the CSN and the next event sequence number of its marker, its place, and whether its
marker line has been programmed. -/
structure Rec where
  ty : Nat
  arg : Nat
  seq : Nat
  key : Nat
  payload : List Byte
  csn : Nat
  next : Nat
  sector : Nat
  line : Nat
  done : Bool
  deriving DecidableEq, Repr

/-- A sector (R448, R466): its erase count, whether it holds a valid SECTOR record, the next line to be written, whether it
is retired, and the marker of its SECTOR record (R446). Log 10 (DESIGN CHOICE). -/
structure Sector where
  erases : Nat := 0
  opened : Bool := true
  top : Nat := 2
  retired : Bool := false
  mark : Option (Nat × Nat × Nat) := none
  deriving DecidableEq, Repr

/-- A parameter image (R450 PIMAGE, R460) with its array and the marker of its PIMAGE record (R446). -/
structure ParImage where
  num : Nat
  src : Nat
  digest : BitVec 64
  csn : Nat
  time : Nat
  level : Nat
  data : SMap Byte
  mark : Nat × Nat × Nat := (0, 0, 0)
  deriving DecidableEq, Repr

/-- A parameter store in progress (R460): its half, the sectors still to be erased, and the image. -/
structure ParStore where
  half : Nat
  sectors : List Nat
  image : ParImage
  deriving DecidableEq, Repr

/-- A retained save in progress (R453): kind, generation, REFT, CSN of its commit boundary, the chunks it covers, the records it
waits for, whether its RETCOMMIT is among them, its start, whether its display records have been written, and the chunks of it that an
application has made dirty again since. -/
structure Save where
  kind : Nat
  gen : Nat
  reft : Nat
  csn : Nat
  chunks : List Nat
  wait : List Nat
  commit : Bool
  since : Nat
  display : Bool
  again : List Nat := []
  deriving DecidableEq, Repr

/-- The retained store: its records in the order of their SEQ, its sectors, the open sector of each bank, the parameter halves,
operations in progress, the retained ranges and the parameter mapping of the package, the dirty chunks (R453), whether
the scan found a record of the newest save failing its check (R455), and what the last record told (R457). Log 10 (DESIGN CHOICE). -/
structure RetStore where
  recs : List Rec := []
  seq : Nat := 0
  sectors : SMap Sector := []
  opened : SMap Nat := []
  half0 : Option ParImage := none
  half1 : Option ParImage := none
  pstore : Option ParStore := none
  erase : Option Nat := none
  save : Option Save := none
  savePend : Option Nat := none
  gens : Nat := 0
  ranges : List (Nat × Nat × Nat) := []
  layout : BitVec 64 := 0
  parMap : List (Nat × Nat × Nat) := []
  parDigest : BitVec 64 := 0
  dirty : List Nat := []
  bad : Bool := false
  leftAt : Nat := 0
  recCsn : Nat := 0
  recSeq : Nat := 0
  rjLost : Nat := 0
  rjLostT : Nat := 0
  formed : Bool := false
  deriving DecidableEq, Repr


/-! ### The configuration key, packages and firmware (R469–R493) -/

/-- A header record of the key (R472). -/
structure KeyHdr where
  hseq : Nat
  active : Nat
  sta : Nat
  stb : Nat
  lena : Nat
  lenb : Nat
  diga : List Byte
  digb : List Byte
  time : Nat
  serial : List Byte
  deriving DecidableEq, Repr

/-- A record of the key journal (R474). -/
structure KeyRec where
  ty : Nat
  slot : Nat
  hseq : Nat
  time : Nat
  serial : List Byte
  arg : List Byte
  deriving DecidableEq, Repr

/-- A staging in progress (R481): its target slot, the announced length and digest, the bytes accepted, and whether the read-back
runs. -/
structure Staging where
  slot : Nat
  len : Nat
  dig : List Byte
  got : Nat
  readBack : Bool
  deriving DecidableEq, Repr

/-- A line of the update journal (R488): 1 STAGED, 2 ARMED, 3 DONE, 4 COMPLETE, 5 ABANDON, 6 FAILED. -/
structure UpdLine where
  ty : Nat
  sector : Nat
  build : Nat
  seq : Nat
  dig : List Byte
  deriving DecidableEq, Repr

/-- A role of the service protocol (R543): accepted on the station ports, accepted on the UART, and its key. -/
structure RoleKey where
  ports : Bool
  uart : Bool
  key : List Byte
  deriving DecidableEq, Repr

/-- The key on the backplane (R469–R475): its current header, the older valid records of the header ring (the newest first), its
slots and its journal (the oldest first). Log 10 (DESIGN CHOICE). -/
structure Key where
  hdr : Option KeyHdr := none
  old : List KeyHdr := []
  slotA : SMap Byte := []
  slotB : SMap Byte := []
  jrn : List KeyRec := []
  deriving DecidableEq, Repr

/-- Packages and firmware: the key; the reference copy of the running package (R478) and the verified copy a download leaves (R233);
the staging; chain declarations of the counters (R203); the role keys; the activation that waits (R256); the update store with
the image in it, the update journal, the bytes of the payload announced for an image being received, the updates completed and
the loader's resumptions that UPD.FWCNT counts, and those the next start journals (R492). Log 10 (DESIGN CHOICE). -/
structure Upd where
  key : Key := {}
  pkg : List Byte := []
  staged : Option (List Byte) := none
  stg : Option Staging := none
  chains : List (Nat × Nat) := []
  roles : List RoleKey := []
  actPend : Option Nat := none
  store : List Byte := []
  lines : List UpdLine := []
  fwLen : Option Nat := none
  updates : Nat := 0
  resumes : Nat := 0
  freshDone : Bool := false
  freshRes : Bool := false
  deriving DecidableEq, Repr



/-! ### The move engine (R494–R510) -/

/-- A program request on a channel (R507, R508): its descriptor index, the image content it reads, by bus address, and the 64-byte
units of it that have been overwritten since. -/
structure MovReq where
  index : Nat
  view : SMap Byte
  kept : List Nat
  deriving DecidableEq, Repr

/-- A descriptor being moved: its index, the request it belongs to, the row and the bytes of it moved, and the source as it was where
the two sides of a COPY overlap (R504). -/
structure MovRun where
  index : Nat
  req : MovReq
  row : Nat
  pos : Nat
  buf : Option (SMap Byte)
  deriving DecidableEq, Repr

/-- A channel beside its registers: its queue and the descriptor in hand. -/
structure MovCh where
  queue : List MovReq := []
  run : Option MovRun := none
  deriving DecidableEq, Repr

/-- The move engine: its channels, the bursts counted for the turn of the program channels (R499), and the program buffer in DRAM, by
bus address. -/
structure Mov where
  chs : SMap MovCh := []
  bursts : Nat := 0
  pbuf : SMap Byte := []
  deriving DecidableEq, Repr



/-! ### The mimic display (R511–R537) -/

/-- A request for an update of a rectangle (R523, R527): mode 0 grey16, 1 jet, 2 whitewash. -/
structure DspReq where
  x : Nat
  y : Nat
  w : Nat
  h : Nat
  mode : Nat
  deriving DecidableEq, Repr

/-- An update in progress on a region (R521–R526): its request with the mode it runs in, the latched band, the frames driven, the
frames of the correction phase, and the new levels it took when it started. -/
structure DspRun where
  req : DspReq
  band : Nat
  frame : Nat
  corr : Nat
  lmax : Nat
  content : SMap Nat
  deriving DecidableEq, Repr

/-- An entry of the alarm list (R532): its definition, its stamp, whether it is acknowledged, and whether its condition has gone. -/
structure Alarm where
  dn : Nat
  stamp : Nat
  ack : Bool
  gone : Bool
  deriving DecidableEq, Repr

/-- The display beside its registers: the display section of the package, the old and new planes and the ledger by pixel, the active
regions, the waiting requests, the drawn state of each element of the shown page, the alarm list and the alarms that are
active, the lamp test, the frame grid, a stop that waits for the frame boundary, the instants of the discharge and of a retry,
the last rail faults, a power-fail warning, a stop that a warning caused, the regions a stop interrupted, and the display state formed for SAVE. -/
structure Dsp where
  sect : List Byte := []
  old : SMap Nat := []
  new : SMap Nat := []
  ledger : SMap Int := []
  runs : SMap (Option DspRun) := []
  queue : List DspReq := []
  drawn : SMap (List Nat) := []
  alarms : List Alarm := []
  active : List Nat := []
  lamp : Bool := false
  stopPend : Bool := false
  stopping : Bool := false
  dischAt : Option Nat := none
  retryAt : Option Nat := none
  faults : List Nat := []
  warned : Bool := false
  byWarn : Bool := false
  broken : List DspRun := []
  saved : Option (List (List Byte)) := none
  readyAt : Nat := 0
  deriving DecidableEq, Repr



/-! ### The service protocol (R538–R557) -/

/-- A client of the table of R546: its identity and transport, its executed requests with their MACs and responses, the newest
last, and when it was heard. -/
structure Client where
  id : Nat
  uart : Bool
  reqs : List (Nat × List Byte × List Byte)
  heard : Nat
  deriving DecidableEq, Repr

/-- A handle (R551–R553): its number, operation and owner; STATE; steps done and in total; the detail code; the last step's offset
and data; the journal source, first SEQ and entries taken of a journal read; the options of the operation; the instant of the
last step, and when it reached its end. -/
structure Handle where
  no : Nat
  op : Nat
  client : Nat
  uart : Bool
  state : Nat := 0
  done : Nat := 0
  total : Nat := 0
  detail : Nat := 0
  lastOff : Nat := 0
  lastData : List Byte := []
  source : Nat := 0
  first : Nat := 0
  taken : Nat := 0
  prev : List Byte := []
  force : Bool := false
  driven : Bool := true
  stepAt : Nat := 0
  endAt : Option Nat := none
  deriving DecidableEq, Repr

/-- The service protocol: the session number, the client table, the handles, the next handle number, and the last instants of its
notes by client, transport and code. -/
structure Svc where
  session : Nat := 0
  clients : List Client := []
  handles : List Handle := []
  nextHandle : Nat := 1
  notes : List ((Nat × Bool × Nat) × Nat) := []
  deriving DecidableEq, Repr


/-! ### The image, the event unit and the module as a whole -/

/-- The commit unit (R36–R46): the application in progress, and the earliest start of the next one (R38). -/
structure CmtUnit where
  app : Option App := none
  nextStart : Nat := 0
  orders : Nat := 0
  scanIds : Nat := 0
  deriving DecidableEq, Repr

/-- The event unit (R209–R232): the order of writes, the hardware FIFO, the DRAM ring, the lost-entry accounts of the
stages (R230), the entries pending for the retained journal, the changes held back (R31) and the preserved values. -/
structure EvUnit where
  ord : Nat := 0
  fifo : List JEntry := []
  fifoLost : Nat := 0
  fifoLostT : Nat := 0
  ring : List JEntry := []
  rjPend : List JEntry := []
  ringLost : Nat := 0
  ringLostT : Nat := 0
  held : List Change := []
  lastHold : Option Nat := none
  preserved : List Preserved := []
  slist : SMap Nat := []
  deriving DecidableEq, Repr

/-- The states of the module (R416). Log 9 (DESIGN CHOICE). -/
inductive MState where
  | boot | loader | config | stop | run | save | fault | off
  deriving DecidableEq, Repr


/-- A GOOSE frame published (R379–R381): the block, its entry's addressing, stNum, sqNum, timeAllowedtoLive in milliseconds, the
members' values in order, and the UtcTime with its TimeQuality byte. -/
structure GooseOut where
  block : Nat
  mac : Nat
  appid : Nat
  vlan : Nat
  gocbRef : List Byte
  datSet : List Byte
  goID : List Byte
  confRev : Nat
  stNum : Nat
  sqNum : Nat
  tal : Nat
  vals : List Nat
  utc : Nat
  timeQ : Nat
  deriving DecidableEq, Repr

/-- A frame sent on a station port. The peer delay messages carry their destination and domain (R369), the supervision frame its destination
and version (R365). -/
inductive PortOut where
  | pdelayReq (dst domain seq : Nat)
  | pdelayResp (dst domain seq received : Nat)
  | pdelayRespFollowUp (dst domain seq sent : Nat)
  | goose (f : GooseOut)
  | prpSupervision (dst version : Nat)
  | arpReply (mac : Nat)
  | gratuitousArp
  | echoReply (mac : Nat) (data : List Byte)
  | udp (client : Nat) (body : List Byte)
  deriving DecidableEq, Repr

/-- A redundancy control trailer (R365): sequence number, LAN identifier, LSDU size and suffix. -/
structure Rct where
  seq : Nat
  lan : Nat
  size : Nat
  suffix : Nat
  deriving DecidableEq, Repr

/-- Something the module sends on one of its interfaces: a bay-bus frame, a partner-link frame, a station-port frame with its
redundancy control trailer, or a frame of the maintenance UART. Log 4 (DESIGN CHOICE). -/
inductive Out where
  | can (ch id : Nat) (data : List Byte)
  | link (frame : List Byte)
  | port (p : Nat) (rct : Option Rct) (f : PortOut)
  | uart (body : List Byte)
  deriving DecidableEq, Repr



/-- The module: everything but the queue of waiting commands. `now` is the time base (R386); `free` counts the free values
taken (the model's own field); `out` lists what the module has sent on its interfaces (the model's own field).
`decode` is the decode store (R161). `bootAt` is t1 of the start (R563) until the first commit, `ran` an entry to RUN since the
start (R193), `runPend` an entry to RUN that waits for HOLDUP_OK (R562), `warn` a power-fail warning in progress with HOLDUP_OK
at that instant (R565). Log 11 (DESIGN CHOICE). -/
structure Mach where
  now : Nat := 0
  free : Nat := 0
  out : List Out := []
  regs : SMap Word := []
  latch : SMap (Option Word) := []
  st : MState := .boot
  epoch : Nat := 0
  img : SMap CellV := []
  pts : SMap Pt := []
  exp : SMap (Option Nat) := []
  tasks : SMap Task := []
  engs : SMap Eng := []
  quads : SMap Quad := []
  cu : CmtUnit := {}
  ev : EvUnit := {}
  faults : List (Nat × Nat × Nat) := []
  fatal : Option Nat := none
  pair : Pair := {}
  olcOpen : Bool := false
  decode : SMap Byte := []
  fio : FieldIo := {}
  sup : Sup := {}
  ret : RetStore := {}
  bays : SMap Bay := []
  stas : SMap Station := []
  olcEnd : Option Nat := none
  tk : TimeK := {}
  sp : Ports := {}
  mov : Mov := {}
  dsp : Dsp := {}
  upd : Upd := {}
  olc : Olc := {}
  svc : Svc := {}
  bootAt : Option Nat := some 0
  ran : Bool := false
  runPend : Bool := false
  warn : Option (Nat × Bool) := none
  deriving DecidableEq, Repr


/-- The module with the queue of the commands that wait, first in, first out. -/
structure State where
  m : Mach := {}
  pending : List Instr := []
  deriving DecidableEq, Repr

/-- Why a step stops with a fault. No command of this block has an effect that stops the module in the manual's rules, so
the type has no member. Log 2 (DESIGN CHOICE). -/
inductive Fault where
  deriving DecidableEq, Repr

/-- Why a command has no meaning. -/
inductive Refusal where
  /-- Raised by `exec` for a row the model gives no meaning yet; safe: nothing is claimed of that row. -/
  | notModelled (mnemonic : String)
  deriving DecidableEq, Repr

/-- The module right after power-on: the state BOOT with every register at its reset value and every store empty. Log 10 (DESIGN CHOICE), 11 (DESIGN CHOICE), 74 (DESIGN CHOICE). -/
def State.reset : State := {}

end Sys2Proof.Machine
end

