-- ==== Sys2Proof/Machine/Ops.lean ====
section
/-!
DEFINITION. The named operations every chapter shares: register fields, counters, the time base, free values, frames sent,
system state tests.
-/
namespace Sys2Proof.Machine
open Sys2Proof

/-! ### Registers (R5, R587–R592) -/

/-- The reset value of the register at an address: the fixed values of the bit tables, and the unit, image and ROM values of R592. Log 12 (DESIGN CHOICE). -/
def regReset (a : Nat) : Word :=
  if a = R.SYS_ID.addr then BitVec.ofNat 32 (0x6016 + Config.siliconRev.toNat * 65536)
  else if a = R.STA_MAC_LO.addr then Config.macLo
  else if a = R.STA_MAC_HI.addr then Config.macHi.setWidth 32
  else if a = (R.STA_SP_DLY 0).addr then Config.spDelay 0
  else if a = (R.STA_SP_DLY 1).addr then Config.spDelay 1
  else if a = R.UPD_FWBUILD.addr then Config.fwBuild
  else if a = R.UPD_FWPVER.addr then Config.fwPver.setWidth 32 + Config.romVersion.setWidth 32 <<< 16
  else if (R.UPD_SERIAL 0).addr ≤ a ∧ a ≤ (R.UPD_SERIAL 3).addr then Config.serial ((a - (R.UPD_SERIAL 0).addr) / 4)
  else BitVec.ofNat 32 (regResetFixed a)

/-- The stored value of the register at an address. -/
def Mach.rget (m : Mach) (a : Nat) : Word := sget (regReset a) m.regs a

/-- Store a register's value. -/
def Mach.rset (m : Mach) (a : Nat) (w : Word) : Mach := { m with regs := sset (regReset a) m.regs a w }

/-- The bits of one field of a word. -/
def bitsOf (w : Word) (lsb width : Nat) : Nat := (w.toNat >>> lsb) % 2 ^ width

/-- A word with one field replaced. -/
def bitsSet (w : Word) (lsb width v : Nat) : Word :=
  BitVec.ofNat 32 (w.toNat - bitsOf w lsb width <<< lsb + (v % 2 ^ width) <<< lsb)

/-- The value of a register field. -/
def Mach.fld (m : Mach) (f : Fld) : Nat := bitsOf (m.rget f.addr) f.lsb f.width

/-- A one-bit field as a truth value. -/
def Mach.flag (m : Mach) (f : Fld) : Bool := m.fld f != 0

/-- Set a register field. -/
def Mach.setFld (m : Mach) (f : Fld) (v : Nat) : Mach :=
  m.rset f.addr (bitsSet (m.rget f.addr) f.lsb f.width v)

/-- Set a one-bit field. -/
def Mach.setFlag (m : Mach) (f : Fld) (b : Bool) : Mach := m.setFld f b.toNat

/-- Count in a wrapping counter field. -/
def Mach.addFld (m : Mach) (f : Fld) (n : Nat) : Mach := m.setFld f (m.fld f + n)

/-- Count in a saturating counter field. -/
def Mach.satFld (m : Mach) (f : Fld) (n : Nat) : Mach := m.setFld f (min (m.fld f + n) (2 ^ f.width - 1))

/-- Take a saturating maximum into a measurement field. Log 104 (DEDUCED). -/
def Mach.maxFld (m : Mach) (f : Fld) (v : Nat) : Mach := m.setFld f (max (m.fld f) (min v (2 ^ f.width - 1)))

/-- A 64-bit value held in a _LO register and the _HI register 4 bytes above it (R590). -/
def Mach.fld64 (m : Mach) (lo : Fld) : Nat :=
  (m.rget lo.addr).toNat + (m.rget (lo.addr + 4)).toNat * 2 ^ 32

/-- Set a 64-bit value held in a _LO and a _HI register. -/
def Mach.setFld64 (m : Mach) (lo : Fld) (v : Nat) : Mach :=
  (m.rset lo.addr (BitVec.ofNat 32 v)).rset (lo.addr + 4) (BitVec.ofNat 32 (v / 2 ^ 32))

/-- The engine of segment j of task k (TSKk.SEGMAP). -/
def segMap (k j : Nat) : Fld := ⟨(R.TSK_SEGMAP k).addr, 4 * j, 4⟩

/-! ### Records of the state by number -/

def Mach.task (m : Mach) (k : Nat) : Task := sget {} m.tasks k
def Mach.setTask (m : Mach) (k : Nat) (x : Task) : Mach := { m with tasks := sset {} m.tasks k x }
def Mach.eng (m : Mach) (e : Nat) : Eng := sget {} m.engs e
def Mach.setEng (m : Mach) (e : Nat) (x : Eng) : Mach := { m with engs := sset {} m.engs e x }
def Mach.quad (m : Mach) (q : Nat) : Quad := sget {} m.quads q
def Mach.setQuad (m : Mach) (q : Nat) (x : Quad) : Mach := { m with quads := sset {} m.quads q x }

/-- What an unlisted point of I space holds: 0 with quality invalid (R179, R187), and for the system status bits 0 with
quality good (R183). Log 11 (DESIGN CHOICE). -/
def ptDflt (i : Nat) : Pt :=
  if 4224 ≤ i ∧ i ≤ 4351 then { v := false, q := 0, sv := false, sq := 0 } else { v := false, q := 1, sv := false, sq := 1 }

def Mach.pt (m : Mach) (i : Nat) : Pt := sget (ptDflt i) m.pts i
def Mach.setPt (m : Mach) (i : Nat) (x : Pt) : Mach := { m with pts := sset (ptDflt i) m.pts i x }

/-- Space codes of R44, and the marks of the edge cells (R205), which are held beside their values. -/
def spI : Nat := 0
def spQ : Nat := 1
def spM : Nat := 2
def spW : Nat := 3
def spT : Nat := 4
def spC : Nat := 5
def spE : Nat := 6
def spPrimed : Nat := 7

/-- The key of an image element: its space code and its index (R44). -/
def ikey (sp i : Nat) : Nat := sp * 2 ^ 24 + i

def Mach.cell (m : Mach) (sp i : Nat) : CellV := sget 0 m.img (ikey sp i)
def Mach.setCell (m : Mach) (sp i : Nat) (v : CellV) : Mach := { m with img := sset 0 m.img (ikey sp i) v }

/-- A bit of Q or M as a truth value. -/
def Mach.bit (m : Mach) (sp i : Nat) : Bool := m.cell sp i != 0

/-! ### Time, free values, frames sent -/

/-- A fresh free value's number (the counter is the model's own). Log 5 (DESIGN CHOICE). -/
def Mach.fresh (m : Mach) : Nat × Mach := (m.free, { m with free := m.free + 1 })

/-- Send something on an interface. Log 4 (DESIGN CHOICE). -/
def Mach.send (m : Mach) (o : Out) : Mach := { m with out := m.out ++ [o] }

/-- Sum of the bits 2^k of the members of a list. -/
def bitSum (ks : List Nat) : Nat := (ks.map (fun k => 2 ^ k)).sum

/-- Apply a step for each member of a list. -/
def foldM {α : Type} (xs : List α) (f : α → Mach → Mach) (m : Mach) : Mach := xs.foldl (fun m x => f x m) m

/-- Apply a step when a condition holds. -/
def onlyIf (b : Bool) (f : Mach → Mach) (m : Mach) : Mach := if b then f m else m

/-- The counters that run with the time base: the lit cycles of 2.5 ns and the dim time in microseconds of each engine
(R126), while its counters are enabled. -/
def Mach.runEngineCounters (m : Mach) (t : Nat) : Mach :=
  foldM (List.range 16) (fun e m =>
    if m.flag (R.ENG_PERFCTL_EN e) then
      match (m.eng e).power with
      | .lit => m.addFld (R.ENG_LITCYC e) (t * 2 / 5 - m.now * 2 / 5)
      | .dim => m.addFld (R.ENG_DIMTIME e) (t / 1000 - m.now / 1000)
      | _ => m
    else m) m

/-- Round up to a multiple. -/
def roundUp (x k : Nat) : Nat := (x + (k - 1)) / k * k

/-- CSN arithmetic of R41: the next CSN, and whether a is later than b. -/
def csnNext (c : Nat) : Nat := if c + 1 ≥ 2 ^ 48 then 1 else c + 1
def csnLater (a b : Nat) : Bool :=
  let d := (a + 2 ^ 48 - b) % 2 ^ 48
  decide (1 ≤ d ∧ d ≤ 2 ^ 47 - 1)

/-- The last CSN assigned (IMG.CSN). -/
def Mach.csn (m : Mach) : Nat := m.fld64 R.IMG_CSN_LO

/-- The last CSN the module has applied: inside an application, the one before it, which the image still shows (R333, R334, R460). -/
def Mach.appliedCsn (m : Mach) : Nat :=
  match m.cu.app with
  | some a => a.prev
  | none => m.csn

/-! ### Role and module state -/

/-- The role of the module (I:4224, PRT.STAT.ROLE): 0 ALONE, 1 LEAD, 2 FOLLOW, 3 UNSYNC. -/
def Mach.role (m : Mach) : Nat := m.fld R.PRT_STAT_ROLE
def Mach.isLead (m : Mach) : Bool := m.role == 1
def Mach.isFollow (m : Mach) : Bool := m.role == 2
def Mach.hasToken (m : Mach) : Bool := m.flag R.PRT_STAT_TOKEN

/-- The code of a module state in DIAG.MSTATE (R416). -/
def MState.code : MState → Nat
  | .boot => 0
  | .loader => 1
  | .config => 2
  | .stop => 3
  | .run => 4
  | .save => 5
  | .fault => 6
  | .off => 7

/-- Enter a module state (R416), shown in DIAG.MSTATE. -/
def Mach.setState (m : Mach) (s : MState) : Mach := ({ m with st := s }).setFld R.DIAG_MSTATE_STATE s.code

end Sys2Proof.Machine
end

