-- ==== Sys2Proof/Machine/Journal.lean ====
section
/-!
DEFINITION. The sending side of the partner link, and the journal: event sequence numbers, the FIFO with its lost-entry marker,
and the forwarding of entries to the partner.
-/
namespace Sys2Proof.Machine
open Sys2Proof

/-! ### Link frames sent (R266–R270) -/

/-- The FLAGS byte of a link frame: side and token (R267). -/
def Mach.linkFlags (m : Mach) : Nat := m.fld R.PRT_STAT_SIDE + 2 * m.fld R.PRT_STAT_TOKEN

/-- Is the partner link in use: pair operation declared (R263), and the firmware in CONFIG, STOP or RUN? Log 51 (DESIGN CHOICE). -/
def Mach.linkOn (m : Mach) : Bool := m.flag R.PRT_CFG_PAIRED && (m.st == .config || m.st == .stop || m.st == .run)

/-- The bytes of a link frame before its CRC (R267): the head with LEN, and the payload. -/
def LinkFrame.body (f : LinkFrame) : List Byte :=
  leBytes 1 f.ty ++ (leBytes 1 f.flags ++ (leBytes 2 f.payload.length ++ (leBytes 4 f.fseq ++ (leBytes 4 f.epoch ++ f.payload))))

/-- The CRC of a link frame: CRC-32 over bytes 0 to 11 + LEN (R267). -/
def LinkFrame.crc (f : LinkFrame) : BitVec 32 := crc32 f.body

/-- A link frame as it is sent (R267). -/
def LinkFrame.bytes (f : LinkFrame) : List Byte := f.body ++ leBytes 4 f.crc.toNat

/-- Send a link frame with the next FSEQ and keep it among the last 4096 for retransmission (R270). A module that takes no
part in a pair sends none (R263). -/
def Mach.linkSend (m : Mach) (ty : Nat) (payload : List Byte) : Mach :=
  if m.linkOn then
    let f : LinkFrame := ⟨ty, m.linkFlags, m.pair.txNext, m.fld R.PRT_EPOCH, payload⟩
    { m with out := m.out ++ [.link f.bytes],
             pair := { m.pair with txNext := (m.pair.txNext + 1) % 2 ^ 32,
                                   sent := (m.pair.sent ++ [f]).drop (m.pair.sent.length + 1 - 4096) } }
  else m

/-- The records of the stream queue, in STREAM frames of one to eight records (R268, R279). -/
def streamFrames : Nat → List (List Byte) → List (List Byte)
  | 0, _ => []
  | _, [] => []
  | n + 1, rs => (rs.take 8).flatten :: streamFrames n (rs.drop 8)

/-- Send everything waiting in the stream queue (R279). -/
def Mach.flushStream (m : Mach) : Mach :=
  let fs := streamFrames m.pair.stream.length m.pair.stream
  (foldM fs (fun p m => m.linkSend 0x10 p) { m with pair := { m.pair with stream := [] } }).setFld R.PRT_STREAM_LEVEL 0

/-- Queue one stream record while the partner receives the stream (R279). -/
def Mach.streamPut (m : Mach) (r : List Byte) : Mach :=
  if m.pair.streaming then
    ({ m with pair := { m.pair with stream := m.pair.stream ++ [r] } }).setFld R.PRT_STREAM_LEVEL (m.pair.stream.length + 1)
  else m

/-! ### The journal (R218–R231) -/

/-- The 16 bytes of a journal entry (R222). -/
def JEntry.bytes (j : JEntry) : List Byte :=
  leBytes 8 j.time ++ leBytes 2 j.point ++ leBytes 1 j.kind ++ leBytes 1 j.flags ++ leBytes 4 j.seq

/-- The journal entry whose 16 bytes are given. -/
def JEntry.ofBytes (b : List Byte) : JEntry :=
  ⟨fieldAt b 0 8, fieldAt b 8 2, fieldAt b 10 1, fieldAt b 11 1, fieldAt b 12 4⟩

/-- Is an entry a lost-entry marker (R226, R230)? Its SEQ holds a count and is no sequence number. -/
def JEntry.isMarker (j : JEntry) : Bool := decide (0x3010 ≤ j.point ∧ j.point ≤ 0x3012)

/-- FLAGS[4] (R223): the time quality is not LOCKED now. Log 52 (DEDUCED). -/
def Mach.degraded (m : Mach) : Nat := if m.fld R.TB_STAT_TQ = 0 then 0 else 16

/-- The time quality at an instant: before the first change behind it, the quality that change ended. -/
def Mach.tqAt (m : Mach) (t : Nat) : Nat := ((m.tk.tqLog.find? (fun x => decide (t < x.1))).map (·.2)).getD (m.fld R.TB_STAT_TQ)

/-- FLAGS[4] (R223): the time quality was not LOCKED at an instant. -/
def Mach.degradedAt (m : Mach) (t : Nat) : Nat := if m.tqAt t = 0 then 0 else 16

/-- R227, R230: hand an entry to the hardware FIFO. At 4095 entries it is lost and counted; the first entry accepted after a
loss is preceded by the FIFO's lost-entry marker. Log 32 (DEDUCED). -/
def Mach.fifoPut (m : Mach) (j : JEntry) : Mach :=
  if m.ev.fifo.length ≥ 4095 then
    let m := { m with ev := { m.ev with fifoLostT := if m.ev.fifoLost = 0 then j.time else m.ev.fifoLostT,
                                        fifoLost := min (m.ev.fifoLost + 1) (2 ^ 32 - 1) } }
    (m.satFld R.EVU_LOSTFIFO 1).setFlag R.EVU_STAT_FIFOLOST true
  else
    let mk := if m.ev.fifoLost = 0 then [] else [(⟨m.ev.fifoLostT, 0x3010, 0x34, 1, m.ev.fifoLost⟩ : JEntry)]
    let m := { m with ev := { m.ev with fifo := m.ev.fifo ++ mk ++ [j], fifoLost := 0 } }
    m.maxFld R.EVU_FIFOMAX_MAX m.ev.fifo.length

/-- Put a ready-made entry into the journal: the module's own stages, and the stream (R279: records are taken before the FIFO). Log 32 (DEDUCED). -/
def Mach.journalEntry (m : Mach) (j : JEntry) : Mach := (m.streamPut j.bytes).fifoPut j

/-- Is the journal the lead's (R280): a FOLLOW or synchronising module? Log 49 (DEDUCED). -/
def Mach.following (m : Mach) : Bool := m.isFollow || m.pair.syncing

/-- Create a journal entry with the next event sequence number (R218). A module whose journal is the lead's creates none of
its own (R280). -/
def Mach.journal (m : Mach) (time point kind flags : Nat) : Mach :=
  if m.following then m
  else
    let seq := m.fld R.EVU_SEQ
    (m.addFld R.EVU_SEQ 1).journalEntry ⟨time % 2 ^ 64, point, kind, flags, seq⟩

/-- A system event (R224): kinds 0x30–0x33 by class 0–3, 0x34 for information. On a follower a fault reaches the journal
only through a NOTICE frame (R280). -/
def Mach.sysEvent (m : Mach) (code kind : Nat) (raised : Bool) : Mach :=
  if m.following then
    if kind ≤ 0x33 ∧ raised then
      m.linkSend 0x07 (leBytes 1 (kind - 0x30) ++ leBytes 1 0 ++ leBytes 2 code ++ leBytes 8 m.now)
    else m
  else m.journal m.now code kind (raised.toNat + m.degraded)

/-- System information without a fault class. -/
def Mach.info (m : Mach) (code : Nat) : Mach := m.sysEvent code 0x34 true

/-- A NOTE. -/
def Mach.note (m : Mach) (code : Nat) : Mach := m.sysEvent code 0x30 true

/-- A task event (R224), with the instant it names (R223). -/
def Mach.taskEvent (m : Mach) (k kind time : Nat) : Mach := m.journal time (0x4000 + k) kind (1 + m.degradedAt time)

/-- One of the four entries of a commit (R225): FLAGS[4] is that of the commit time on each (R223). -/
def Mach.commitEntry (m : Mach) (k kind time : Nat) : Mach := m.journal time (0x4000 + k) kind (1 + m.degraded)

end Sys2Proof.Machine
end

