-- ==== Sys2Proof/Machine/Scan.lean ====
section
/-!
DEFINITION. The pipeline of a task: fixing snapshots (R25–R31), squash with its rerun and its counters (R66–R71, R78–R82), the
readiness and preemption of segments (R20, R21, R77), and the lighting of engines (R11–R13).
-/
namespace Sys2Proof.Machine
open Sys2Proof

/-! ### Segments of a task -/

/-- TSKk.SEGDEP: does segment j depend directly on segment i? -/
def segDep (dep j i : Nat) : Bool := decide (i < j) && dep.testBit (j * (j - 1) / 2 + i)

/-- The segments a segment depends on directly. -/
def segDeps (dep j : Nat) : List Nat := (List.range j).filter (segDep dep j)

/-- The segments a set of segments reaches in at most `n` further dependency steps (R22). -/
def segReach : Nat → Nat → List Nat → List Nat
  | 0, _, s => s
  | n + 1, dep, s => segReach n dep (s ++ (s.flatMap (segDeps dep)).filter (fun i => !s.contains i))

/-- The segments a segment reads through (R22), the highest first. -/
def readThrough (dep j : Nat) : List Nat :=
  (List.range j).reverse.filter (fun i => (segReach 8 dep (segDeps dep j)).contains i)

/-- A segment of a scan by number. -/
def Scan.seg (sc : Scan) (j : Nat) : Seg := sc.segs.getD j ⟨.halted, 0, none, [], []⟩

/-- Replace a segment of a scan. -/
def Scan.setSeg (sc : Scan) (j : Nat) (x : Seg) : Scan := { sc with segs := sc.segs.set j x }

/-- The task's priority number, 0 the highest (R18). -/
def Mach.prio (m : Mach) (k : Nat) : Nat := m.fld (R.TSK_CFG_PRIO k)

/-- Does the task have an entry (R17)? -/
def Mach.taskOn (m : Mach) (k : Nat) : Bool := m.flag (R.TSK_CFG_EN k)

/-- Is the task in cyclic + event mode (R18)? -/
def Mach.eventTask (m : Mach) (k : Nat) : Bool := m.taskOn k && m.flag (R.TSK_CFG_MODE k)

/-- The tasks of the table. -/
def allTasks : List Nat := List.range 32

/-- The enabled tasks. -/
def Mach.tasksOn (m : Mach) : List Nat := allTasks.filter m.taskOn

/-! ### Boundaries (R23) -/

/-- The first boundary of task k: epoch + phase. Log 19 (DEDUCED). -/
def Mach.firstBnd (m : Mach) (k : Nat) : Nat := m.epoch + m.fld (R.TSK_PHASE_PHASE k) * 10000

/-- The period of task k in nanoseconds. -/
def Mach.periodNs (m : Mach) (k : Nat) : Nat := m.fld (R.TSK_PERIOD_PERIOD k) * 10000

/-- n of the latest boundary at or before an instant; 2^64 − 1 before the first (R157 BNDN). -/
def Mach.bndn (m : Mach) (k t : Nat) : Nat :=
  if t < m.firstBnd k then 2 ^ 64 - 1 else (t - m.firstBnd k) / m.periodNs k

/-! ### Open snapshots and their share (R30, R31) -/

/-- The snapshots the task scans hold open, forwarded ones included. -/
def Mach.openSnaps (m : Mach) : List Snap :=
  (m.tasks.flatMap (fun e => (e.2.snap.toList ++ e.2.run.toList ++ e.2.held.toList).map (·.snap))) ++
    m.pair.fwd.map (·.snap) ++ (m.sup.audit.map (·.snap)).toList

/-- Bits a preserved value takes in the share: 3 for a point of I, 32 for a word (19 KiB for all of them, R31). Log 21 (DEDUCED). -/
def Preserved.bits (p : Preserved) : Nat := if p.isW then 32 else 3

/-- Bits of the task-snapshot share in use. Log 21 (DEDUCED), 82 (DEDUCED). -/
def Mach.shareBits (m : Mach) : Nat := (m.ev.preserved.map Preserved.bits).sum

/-- Release the preserved values no open snapshot reads: a snapshot reads the first value of an element overwritten since it was fixed (R30). -/
def Mach.prunePreserved (m : Mach) : Mach :=
  let os := m.openSnaps
  let ps := m.ev.preserved
  { m with ev := { m.ev with preserved := ps.filter (fun p => os.any (fun s =>
      decide (s.ord < p.hi) && !ps.any (fun q => q.isW == p.isW && q.idx == p.idx && decide (q.hi < p.hi) && decide (s.ord < q.hi)))) } }

/-- Does some open snapshot still see the current value of a point or word: no value of it preserved since? -/
def Mach.liveViewer (m : Mach) (isW : Bool) (i : Nat) : Bool :=
  m.openSnaps.any (fun s => !m.ev.preserved.any (fun p => p.isW == isW && p.idx == i && decide (s.ord < p.hi)))

/-! ### Fixing a snapshot -/

/-- The content of I with quality: value plus twice the quality code, for every listed point (R28). -/
def Mach.iContent (m : Mach) : SMap Nat := m.pts.map (fun e => (e.1, e.2.v.toNat + 2 * e.2.q))

/-- The content of W:258048–262143 (R28). -/
def Mach.wContent (m : Mach) : SMap Word :=
  (m.img.filter (fun e => decide (ikey spW 258048 ≤ e.1 ∧ e.1 ≤ ikey spW 262143))).map
    (fun e => (e.1 - ikey spW 0, e.2.setWidth 32))

/-- A scan waiting on a snapshot, on the engines TSKk.SEGMAP names. -/
def Mach.newScan (m : Mach) (k : Nat) (sn : Snap) (anch : Bool) (ord : Nat) : Scan :=
  { id := m.cu.scanIds, snap := sn, rset := [], anchored := anch, anchOrd := ord, started := 0, complete := false,
    heldAt := 0, deferredAt := none, waitFrom := 0,
    segs := (List.range (m.fld (R.TSK_SEGCFG_SEGCNT k))).map (fun j => ⟨.waiting, m.fld (segMap k j), none, [], []⟩) }

/-- Put a scan into SNAP, releasing an older one; an anchored rerun stays anchored (R58, R81). -/
def Mach.putSnap (m : Mach) (k : Nat) (sn : Snap) (anch : Bool) (ord : Nat) : Mach :=
  let tk := m.task k
  let (a, o) := match tk.snap with
    | some p => if p.anchored then (true, if anch then min ord p.anchOrd else p.anchOrd) else (anch, ord)
    | none => (anch, ord)
  let m := m.setTask k { tk with snap := some (m.newScan k sn a o) }
  { m with cu := { m.cu with scanIds := m.cu.scanIds + 1 } }

/-- The snapshot time of R29: the instant named, or 10 ns after the task's last snapshot when it is not later than that. -/
def Mach.snapTimeOf (m : Mach) (k t : Nat) : Nat :=
  match (m.task k).lastSnap with
  | some l => if t ≤ l then l + 10 else t
  | none => t

/-- The snapshot of task k at an instant, with its trigger (R28, R157). Log 21 (DEDUCED). -/
def Mach.mkSnap (m : Mach) (k time trig tidx : Nat) : Snap :=
  { time := time, trig := trig, tidx := tidx, scsn := m.csn, bndn := m.bndn k time,
    utcoff := (m.rget R.TB_UTC_OFFSET.addr).toNat, period := (m.rget (R.TSK_PERIOD k).addr).toNat,
    phase := (m.rget (R.TSK_PHASE k).addr).toNat, ord := m.ev.ord, no := m.pair.snapNo + 1,
    ivals := m.iContent, wvals := m.wContent }

/-- The payload of a SNAP frame (R279). -/
def snapPayload (k : Nat) (s : Snap) : List Byte :=
  leBytes 1 k ++ leBytes 1 s.trig ++ leBytes 2 s.tidx ++ leBytes 4 s.no ++ leBytes 8 s.time ++ leBytes 6 s.scsn ++
    leBytes 2 0 ++ leBytes 8 s.bndn ++ leBytes 4 s.utcoff

/-- Fix a snapshot for a task (R28, R29): the scan enters SNAP; a lead forwards it behind the records of its changes (R279). -/
def Mach.fixSnap (m : Mach) (k t trig tidx : Nat) : Mach :=
  let sn := m.mkSnap k (m.snapTimeOf k t) trig tidx
  let m := m.putSnap k sn false 0
  let m := m.setTask k { m.task k with lastSnap := some sn.time }
  let m := { m with pair := { m.pair with snapNo := (m.pair.snapNo + 1) % 2 ^ 32 } }
  let m := m.setFld64 R.EVU_LASTSNAP_LO (max (m.fld64 R.EVU_LASTSNAP_LO) sn.time)
  if m.pair.streaming then
    let m := m.flushStream
    let m := { m with pair := { m.pair with snapFseq := (m.pair.snapFseq ++ [(sn.no, m.pair.txNext)]).drop (m.pair.snapFseq.length + 1 - 256) } }
    m.linkSend 0x11 (snapPayload k sn)
  else m

/-! ### Squash (R66–R71) -/

/-- Stop a segment's engine: issue ends, everything in flight is discarded and counted (R105), and the engine can start
another segment 60 ns later (R66). Log 24 (DEDUCED). -/
def Mach.stopEngine (m : Mach) (e : Nat) : Mach :=
  let en := m.eng e
  let inFlight := (en.ends.filter (fun c => decide (en.slot ≤ c + 1))).length
  let m := onlyIf (decide (e < 16) && m.flag (R.ENG_PERFCTL_EN e)) (fun m => m.addFld (R.ENG_DISCARD e) inFlight) m
  m.setEng e { en with act := none, drain := false, freeAt := m.now + 60, flight := [], ends := [], flt := none, ds := 0, tgt := none }

/-- Stop every running segment of a scan. -/
def Mach.stopScan (m : Mach) (sc : Scan) : Mach :=
  foldM (sc.segs.filter (fun s => s.st == .running)) (fun s m => m.stopEngine s.eng) m

/-- Codes of R69 that consume the restart budget. -/
def squashBudget (code : Nat) : Bool := decide (code ≤ 2)

/-- R78, R83: consume one unit of the restart budget. -/
def Mach.takeBudget (m : Mach) (k : Nat) : Mach :=
  let left := m.fld (R.TSK_BUDGET_RSTLEFT k)
  let m := (m.addFld (R.TSK_RESTARTS k) 1).setFld (R.TSK_BUDGET_RSTLEFT k) (left - 1)
  if left ≤ 1 ∧ !(m.task k).budgetLogged then
    (m.taskEvent k 0x47 m.now).setTask k { m.task k with budgetLogged := true }
  else m

/-- The counters of a squash (R69). On a follower the budget does not apply (R282). -/
def Mach.countSquash (m : Mach) (k code : Nat) : Mach :=
  let m := (m.addFld (R.TSK_SQUASHES k) 1).addFld (R.IMG_SQCNT code) 1
  onlyIf (squashBudget code && !m.following) (fun m => m.takeBudget k) m

/-- R68: rerun on the newest snapshot the task holds: the one in SNAP when there is one, else the squashed scan's own. A
follower reruns the same snapshot ahead of the later ones (R282). Code 7 leaves no rerun. -/
def Mach.rerun (m : Mach) (k code : Nat) (sc : Scan) : Mach :=
  if code = 7 then m
  else if m.following then
    let m := match (m.task k).snap with
      | some p => { m with pair := { m.pair with fwd := ⟨k, p.snap⟩ :: m.pair.fwd } }
      | none => m
    let m := m.setTask k { m.task k with snap := none }
    m.putSnap k sc.snap false 0
  else
    match (m.task k).snap with
    | some p => m.putSnap k p.snap sc.anchored sc.anchOrd
    | none => m.putSnap k sc.snap sc.anchored sc.anchOrd

/-- Squash the task's scan in RUN, complete or not (R66, R71). -/
def Mach.squashRun (m : Mach) (k code : Nat) : Mach :=
  match (m.task k).run with
  | none => m
  | some sc =>
    let m := m.stopScan sc
    let m := m.setTask k { m.task k with run := none }
    (m.countSquash k code).rerun k code sc

/-- Squash the task's HELD scan, and with it the scan in RUN (R67). A scan in COMMIT is never squashed (R36). -/
def Mach.squashHeld (m : Mach) (k code : Nat) : Mach :=
  let tk := m.task k
  match tk.held with
  | none => m
  | some sc =>
    if tk.inCommit then m
    else
      let m := m.squashRun k (if code = 7 then 7 else 5)
      let m := m.setTask k { m.task k with held := none }
      (m.countSquash k code).rerun k code sc

/-- Squash the task's scan in SNAP with a code that leaves no rerun (R47) or for which the partner's scans stand (R292). Log 24 (DEDUCED). -/
def Mach.squashSnap (m : Mach) (k code : Nat) : Mach :=
  if (m.task k).snap.isSome then (m.setTask k { m.task k with snap := none }).countSquash k code else m

/-- R47: squash every scan of a task without a rerun, the one in SNAP included. Log 24 (DEDUCED). -/
def Mach.dropScans (m : Mach) (k : Nat) : Mach := ((m.squashHeld k 7).squashRun k 7).squashSnap k 7

/-! ### Frames and light (R11–R13, R59) -/

/-- Frames of engine e in use (R59): one for each started segment of a scan in RUN, HELD or COMMIT. -/
def Mach.framesUsed (m : Mach) (e : Nat) : Nat :=
  (m.tasks.map (fun (_, tk) =>
    ((tk.run.toList ++ tk.held.toList).map (fun sc =>
      (sc.segs.filter (fun s => s.eng == e && !(s.st == .waiting))).length)).sum)).sum

/-- The engines of a task. -/
def Mach.taskEngines (m : Mach) (k : Nat) : List Nat := (List.range (m.fld (R.TSK_SEGCFG_SEGCNT k))).map (fun j => m.fld (segMap k j))

/-- Light a dim engine; a dark one asks for its quad's power-up (R13). Log 15 (DEDUCED). -/
def Mach.light (m : Mach) (e : Nat) : Mach :=
  let en := m.eng e
  match en.power with
  | .dim => onlyIf (m.flag (R.ENG_PERFCTL_EN e)) (fun m => m.addFld (R.ENG_WAKEDIM e) 1)
              (m.setEng e { en with power := .lit, litSince := m.now })
  | .dark =>
    let q := m.quad (e / 4)
    (m.setEng e { en with wake := true }).setQuad (e / 4) { q with req := true }
  | _ => m

/-- R13: a wake by a boundary, a change or an expiry lights every engine of the task. Log 15 (DEDUCED). -/
def Mach.lightTask (m : Mach) (k : Nat) : Mach := foldM (m.taskEngines k) (fun e m => m.light e) m

/-! ### Triggers (R26, R27, R52) -/

/-- May the module fix a snapshot for the task now: in RUN, on its own snapshots, not yielding, the task not held by the
window of an online change (R247), R280, R292. -/
def Mach.mayFix (m : Mach) (k : Nat) : Bool :=
  m.st == .run && m.hasToken && !m.following && m.pair.yielding.isNone && !m.pair.taking && m.taskOn k &&
    !(m.olcOpen && (m.fld R.IMG_OLCTSK).testBit k)

/-- A boundary (trigger 0), change (1) or expiry (2) of a task: fix the snapshot and light the task's engines (R13); a scan in RUN that
is not anchored is squashed by it (R52, R69, R81). -/
def Mach.trigger (m : Mach) (k t trig tidx : Nat) : Mach :=
  if m.mayFix k then
    let m := (m.fixSnap k t trig tidx).lightTask k
    match (m.task k).run with
    | some r => if r.anchored then m else m.squashRun k (if trig = 0 then 6 else 0)
    | none => m
  else m

/-! ### Readiness, preemption and light (R13, R20, R77) -/

/-- Mark the waiting segments of a scan whose dependencies have halted as ready. -/
def Scan.markReady (sc : Scan) (dep now : Nat) : Scan :=
  { sc with segs := (List.range sc.segs.length).map (fun j =>
      let s := sc.seg j
      if s.st == .waiting && s.ready.isNone && (segDeps dep j).all (fun i => (sc.seg i).st == .halted)
      then { s with ready := some now } else s) }

/-- R20: the segments of a task that become ready. A scan in SNAP starts only when no scan of the task is in RUN. -/
def Mach.readyTask (m : Mach) (k : Nat) : Mach :=
  let tk := m.task k
  let dep := m.fld (R.TSK_SEGDEP_DEP k)
  match tk.run, tk.snap with
  | some r, _ => m.setTask k { tk with run := some (r.markReady dep m.now) }
  | none, some s => m.setTask k { tk with snap := some (s.markReady dep m.now) }
  | none, none => m

/-- The ready segments that have not started: task, segment, engine, priority, instant. Log 16 (DESIGN CHOICE). -/
def Mach.readySegs (m : Mach) : List (Nat × Nat × Nat × Nat × Nat) :=
  m.tasks.flatMap (fun (k, tk) =>
    let sc? := match tk.run with
      | some r => some r
      | none => tk.snap
    match sc? with
    | none => []
    | some sc => (List.range sc.segs.length).filterMap (fun j =>
        let s := sc.seg j
        match s.st, s.ready with
        | .waiting, some r => some (k, j, s.eng, m.prio k, r)
        | _, _ => none))

/-- R77: a ready segment squashes a scan of lower priority in RUN on its engine. Log 16 (DESIGN CHOICE). -/
def Mach.preempt (m : Mach) (r : Nat × Nat × Nat × Nat × Nat) : Mach :=
  match (m.eng r.2.2.1).act with
  | some (k2, _) => if r.2.2.2.1 < m.prio k2 then m.squashRun k2 2 else m
  | none => m

/-- Does a scan in SNAP or RUN still have a segment to start on an engine that `p` names? Log 15 (DEDUCED). -/
def Mach.waitsOn (m : Mach) (p : Nat → Bool) : Bool :=
  m.tasksOn.any (fun k => ((m.task k).snap.toList ++ (m.task k).run.toList).any (fun x => x.segs.any (fun g => g.st == .waiting && p g.eng)))

/-- R13: an engine with no running or ready segment and no frame returns to dim, unless it was lit ahead of a boundary (R24) or a scan
that has woken it has still to start its segment there. -/
def Mach.dimIdle (m : Mach) (e : Nat) : Mach :=
  let en := m.eng e
  if en.power == .lit && en.act.isNone && decide (en.wantTill < m.now) && m.framesUsed e == 0 && !m.waitsOn (fun x => x == e)
  then m.setEng e { en with power := .dim } else m

/-- Everything that follows at once from the state of the scans: forwarded snapshots enter SNAP, segments become ready,
preempt and light their engines, idle engines dim, and the share is released. Log 16 (DESIGN CHOICE). -/
def Mach.dispatch (m : Mach) : Mach :=
  if m.st == .run then
    let m := foldM m.tasksOn (fun k m => m.readyTask k) m
    let m := foldM m.readySegs (fun r m => m.preempt r) m
    let m := foldM m.tasksOn (fun k m => m.readyTask k) m
    let m := foldM m.readySegs (fun r m => m.light r.2.2.1) m
    let m := foldM (List.range 16) (fun e m => m.dimIdle e) m
    m.prunePreserved
  else (foldM (List.range 16) (fun e m => m.dimIdle e) m).prunePreserved

end Sys2Proof.Machine
end

