-- ==== Sys2Proof/Machine/Events.lean ====
section
/-!
DEFINITION. The event unit's way into I space (R209, R213, R219–R221), the held-back changes (R31), chatter blocking (R215,
R216), the system status bits (R183), and raising and clearing faults (R417, R418).
-/
namespace Sys2Proof.Machine
open Sys2Proof

/-! ### Writing a change -/

/-- Capacity of the task-snapshot share in bits (R31). -/
def shareCap : Nat := 256 * 1024 * 8

/-- Does a point of a change alter the image? -/
def Mach.alters (m : Mach) (p : PtChange) : Bool := (m.pt p.idx).v != p.v || (m.pt p.idx).q != p.q

/-- The share bits a change needs: the values it overwrites that some open snapshot still sees. -/
def Mach.changeBits (m : Mach) (c : Change) : Nat :=
  ((c.pts.filter (fun p => m.alters p && m.liveViewer false p.idx)).map (fun _ => 3)).sum +
    ((c.words.filter (fun w => m.cell spW w.1 != w.2.setWidth 128 && m.liveViewer true w.1)).map (fun _ => 32)).sum

/-- Preserve the current value of a point or word for the open snapshots that see it (R30). -/
def Mach.preserve (m : Mach) (isW : Bool) (i : Nat) : Mach :=
  if m.liveViewer isW i then { m with ev := { m.ev with preserved := m.ev.preserved ++ [⟨isW, i, m.ev.ord⟩] } } else m

/-- FLAGS of an I entry (R223). -/
def Mach.iFlags (m : Mach) (p : PtChange) : Nat :=
  p.v.toNat + 2 * p.q + 8 * (m.pt p.idx).blocked.toNat + (if p.unsync then 16 else m.degradedAt p.stamp) +
    (if p.stamp ≤ m.fld64 R.EVU_LASTSNAP_LO then 32 else 0)

/-- Write one point of a change and journal it (R219, R223, R224). A readback value is journalled as SWITCH only. Log 31 (DEDUCED). -/
def Mach.writePoint (m : Mach) (p : PtChange) : Mach :=
  let o := m.pt p.idx
  if m.alters p || p.kind != 0 then
    let fl := m.iFlags p
    let m := if m.alters p then m.preserve false p.idx else m
    let m := m.setPt p.idx { o with v := p.v, q := p.q }
    if p.kind != 0 then m.journal p.stamp p.idx p.kind fl
    else if 64 ≤ p.idx ∧ p.idx ≤ 95 then
      let m := if o.v != p.v then m.journal p.stamp (0x2000 + (p.idx - 64)) 0x22 (p.v.toNat + m.degradedAt p.stamp) else m
      if o.q != p.q then m.journal p.stamp p.idx 0x02 fl else m
    else m.journal p.stamp p.idx (if o.v != p.v then 0x01 else 0x02) fl
  else m

/-- Write one GOOSE analogue word, with its stream record (R279). -/
def Mach.writeWord (m : Mach) (stamp : Nat) (w : Nat × Word) : Mach :=
  if m.cell spW w.1 = w.2.setWidth 128 then m
  else
    let m := (m.preserve true w.1).setCell spW w.1 (w.2.setWidth 128)
    m.streamPut (leBytes 8 stamp ++ leBytes 2 (0xF000 + (w.1 - 258048)) ++ [0, 0] ++ leBytes 4 w.2.toNat)

/-- R221: one trigger for each task in the OR of the wake masks of the points changed, at the latest stamp of the change,
naming the lowest changed point of the task's sensitivity set. -/
def Mach.wake (m : Mach) (changed : List PtChange) (stamp : Nat) : Mach :=
  foldM allTasks (fun k m =>
    match (changed.map (·.idx)).filter (fun i => (m.pt i).wake.testBit k) with
    | [] => m
    | i :: is => (m.addFld R.EVU_WAKES 1).trigger k stamp 1 (is.foldl min i)) m

/-- The latest stamp of a change (R29), its words' included (R209). -/
def Change.stamp (c : Change) : Nat := (c.pts.map (·.stamp)).foldl max c.wordsAt

/-- Insert a point into a list in ascending order of index (R213). -/
def insPt (p : PtChange) : List PtChange → List PtChange
  | [] => [p]
  | q :: qs => if p.idx ≤ q.idx then p :: q :: qs else q :: insPt p qs

/-- Write a change into the image as one indivisible change, journal it, and wake the tasks that listen (R189, R213, R221). Log 20 (DESIGN CHOICE). -/
def Mach.writeChange (m : Mach) (c : Change) : Mach :=
  let changed := c.pts.filter m.alters
  let m := { m with ev := { m.ev with ord := m.ev.ord + 1 } }
  let m := foldM c.words (fun w m => m.writeWord c.stamp w) m
  let m := foldM (c.pts.foldr insPt []) (fun p m => m.writePoint p) m
  m.wake changed c.stamp

/-- Is a fault with this code present (R418)? -/
def Mach.faultOn (m : Mach) (code : Nat) : Bool := m.faults.any (fun f => f.1 == code)

/-- DIAG.FSUM from the faults present (R417). -/
def Mach.faultSum (m : Mach) : Mach :=
  let n1 := (m.faults.filter (fun f => f.2.2 == 1)).length
  let n2 := (m.faults.filter (fun f => f.2.2 == 2)).length
  (((m.setFlag R.DIAG_FSUM_MINOR (n1 != 0)).setFlag R.DIAG_FSUM_MAJOR (n2 != 0)).setFld R.DIAG_FSUM_NMINOR
    (min n1 255)).setFld R.DIAG_FSUM_NMAJOR (min n2 255)

/-- A change of one status bit. Log 33 (DEDUCED). -/
def statChange (m : Mach) (i : Nat) (b : Bool) : Change := { pts := [{ idx := i, v := b, q := 0, stamp := m.now }] }

/-- R31: hold a change back. The first hold after 10 s without one raises MINOR 0x3013, whose status change waits in turn. -/
def Mach.holdChange (m : Mach) (c : Change) : Mach :=
  let quiet := match m.ev.lastHold with
    | some t => decide (t + 10000000000 ≤ m.now)
    | none => true
  let m := m.satFld R.IMG_SNPSTAT_HOLDS 1
  let m := { m with ev := { m.ev with held := m.ev.held ++ [{ c with heldAt := m.now }], lastHold := some m.now } }
  if quiet && !m.faultOn 0x3013 then
    let m := m.sysEvent 0x3013 0x31 true
    let m := ({ m with faults := m.faults ++ [(0x3013, 0, 1)] }).faultSum
    { m with ev := { m.ev with held := m.ev.held ++ [{ statChange m 4248 true with heldAt := m.now }] } }
  else m

/-- Hand a change to the event unit: written at once, or held back in order while the share has no room (R31). A module on
the lead's stream writes nothing of its own (R280). Log 20 (DESIGN CHOICE). -/
def Mach.change (m : Mach) (c : Change) : Mach :=
  if m.following then m
  else if m.ev.held.isEmpty && decide (m.shareBits + m.changeBits c ≤ shareCap) then m.writeChange c
  else m.holdChange c

/-- The value and quality a point has once the changes held back are written (R31). -/
def Mach.coming (m : Mach) (i : Nat) : Bool × Nat :=
  (((m.ev.held.flatMap (·.pts)).findRev? (fun p => p.idx == i)).map (fun p => (p.v, p.q))).getD ((m.pt i).v, (m.pt i).q)

/-- The content a word has once the changes held back are written (R31). -/
def Mach.comingWord (m : Mach) (i : Nat) : CellV :=
  (((m.ev.held.flatMap (·.words)).findRev? (fun w => w.1 == i)).map (fun w => w.2.setWidth 128)).getD (m.cell spW i)

/-- Does a point of a change bring something new, behind the changes held back? -/
def Mach.brings (m : Mach) (p : PtChange) : Bool := m.coming p.idx != (p.v, p.q)

/-! ### System status bits (R183) -/

/-- Write a status code of one or more bits, least significant at the lower address, as one indivisible change. The source
shadow follows on every module (R280). -/
def Mach.setStat (m : Mach) (i width v : Nat) : Mach :=
  let pts := (List.range width).map (fun j => ({ idx := i + j, v := v.testBit j, q := 0, stamp := m.now } : PtChange))
  let m := foldM pts (fun p m => m.setPt p.idx { m.pt p.idx with sv := p.v, sq := 0, sAt := if (m.pt p.idx).sv = p.v then (m.pt p.idx).sAt else p.stamp }) m
  if pts.any m.brings then m.change { pts := pts } else m

/-- Write one status bit. -/
def Mach.stat (m : Mach) (i : Nat) (b : Bool) : Mach := m.setStat i 1 b.toNat

/-! ### Faults (R417, R418) -/

/-- Show the presence of faults in DIAG.FSUM and in I:4248 and I:4249. -/
def Mach.showFaults (m : Mach) : Mach :=
  let m := m.faultSum
  (m.stat 4248 (m.flag R.DIAG_FSUM_MINOR)).stat 4249 (m.flag R.DIAG_FSUM_MAJOR)

/-- R292 step 1: a synchronised LEAD fixes no further snapshot and squashes every scan in SNAP or RUN with code 3. -/
def Mach.startYield (m : Mach) (reason : Nat) : Mach :=
  if m.isLead && m.pair.ptnFollow && m.pair.yielding.isNone then
    let m := { m with pair := { m.pair with yielding := some reason } }
    foldM allTasks (fun k m =>
      let m := (m.squashSnap k 3).squashRun k 3
      m.setTask k { m.task k with snap := none }) m
  else m

/-- Record a fault in DIAG.LFLT (R417, R440). -/
def Mach.lastFault (m : Mach) (code cls : Nat) : Mach :=
  (((m.setFld R.DIAG_LFLT_CODE code).setFld R.DIAG_LFLT_CLASS cls).setFlag R.DIAG_LFLT_VALID true).setFld64 R.DIAG_LFLTT_LO m.now

/-- Raise a fault of a class: 1 MINOR, 2 MAJOR, 3 FATAL (R417). `sub` tells apart conditions that share a code. A FATAL fault
is taken up by the entry to FAULT that follows. Log 52 (DEDUCED), 76 (DEDUCED). -/
def Mach.raise (m : Mach) (code sub cls : Nat) : Mach :=
  let m := m.sysEvent code (0x30 + cls) true
  let m := if m.faults.contains (code, sub, cls) then m else { m with faults := m.faults ++ [(code, sub, cls)] }
  let m := m.showFaults
  if cls = 2 then
    let m := m.lastFault code 2
    if m.role = 0 ∧ (m.st = .run ∨ m.flag R.PRT_CFG_PAIRED = false) then (m.setFlag R.DIAG_FSUM_DEGRADED true).stat 4250 true else m.startYield 1
  else if cls = 3 then { m.lastFault code 3 with fatal := some code }
  else m

/-- Clear a fault that has a cleared event (R418): present until every condition with its code has gone. Log 76 (DEDUCED). -/
def Mach.clear (m : Mach) (code sub cls : Nat) : Mach :=
  if m.faults.contains (code, sub, cls) then
    let m := m.sysEvent code (0x30 + cls) false
    ({ m with faults := m.faults.filter (fun f => !(f == (code, sub, cls))) }).showFaults
  else m

/-! ### Chatter blocking (R215, R216) and source values -/

/-- Points that can be chatter-blocked (R216). -/
def chatterRange (i : Nat) : Bool := decide (i ≤ 63) || decide (128 ≤ i ∧ i ≤ 4223)

/-- The profile of a point: N, W in ns, Q in ns; none when blocking is off for it. Log 30 (DEDUCED), 31 (DEDUCED). -/
def Mach.chatter (m : Mach) (i : Nat) : Option (Nat × Nat × Nat) :=
  let p := m.pt i
  let n := m.fld (R.EVU_CHPRF_A_N p.chPrf)
  if chatterRange i && p.chEn && n != 0 then
    some (n, m.fld (R.EVU_CHPRF_A_W p.chPrf) * 1000000, m.fld (R.EVU_CHPRF_B_Q p.chPrf) * 10000000)
  else none

/-- R188: the quality with the chatter condition added: questionable unless invalid or substituted holds. -/
def chatQ (srcQ : Nat) : Nat := if srcQ = 0 then 3 else srcQ

/-- Show the number of blocked points and the flag of an on-board input. -/
def Mach.showBlocked (m : Mach) (i : Nat) : Mach :=
  let m := m.setFld R.EVU_CHBLK_POINTS (m.pts.filter (fun e => e.2.blocked)).length
  if i ≤ 63 then m.setFlag (R.EVU_DI_CFG_BLOCKED i) (m.pt i).blocked else m

/-- One accepted transition of a source: the point's source value and quality, the stamp. It answers the points to write
(none while blocked) and the state with the chatter record kept; the N-th transition within the window blocks (R215). A blocked point keeps the value of
the last transition written. Log 20 (DESIGN CHOICE), 30 (DEDUCED). -/
def Mach.accept (m : Mach) (p : PtChange) : List PtChange × Mach :=
  let o := m.pt p.idx
  let isTrans := o.sv != p.v
  let o' := { o with sv := p.v, sq := p.q, ever := true, sAt := p.stamp, sUnsync := p.unsync, rv := if p.subst then o.rv else p.v,
                     lastAcc := if isTrans then m.now else o.lastAcc }
  let kept := m.coming p.idx
  match m.chatter p.idx with
  | none => ([p], m.setPt p.idx { o' with blocked := false })
  | some (n, w, _) =>
    if o.blocked then
      let m := if isTrans then m.satFld R.EVU_CHBLK_TRANS 1 else m
      let m := m.setPt p.idx o'
      if chatQ p.q != kept.2 then ([{ p with v := kept.1, q := chatQ p.q }], m) else ([], m)
    else if isTrans then
      let tr := (o.trans ++ [p.stamp]).filter (fun s => decide (p.stamp < s + w))
      if tr.length ≥ n then
        let q := chatQ p.q
        let m := m.setPt p.idx { o' with blocked := true, blkQ := q, trans := [] }
        let m := m.showBlocked p.idx
        ([{ p with v := kept.1, q := q, kind := 3 }], m)
      else ([p], m.setPt p.idx { o' with trans := tr })
    else ([p], m.setPt p.idx o')

/-- Accept the transitions of several points at one instant, in ascending order, and collect what is to be written. -/
def Mach.acceptAll (m : Mach) : List PtChange → List PtChange × Mach
  | [] => ([], m)
  | p :: ps =>
    let (a, m) := m.accept p
    let (b, m) := m.acceptAll ps
    (a ++ b, m)

/-- Source changes of one instant: one indivisible change with the words they bring, stamped `at_` (R189, R213). -/
def Mach.sourceAt (m : Mach) (pts : List PtChange) (words : List (Nat × Word)) (at_ : Nat) : Mach :=
  let (w, m) := m.acceptAll (pts.foldr insPt [])
  if w.any (fun p => m.brings p || p.kind != 0) || words.any (fun x => m.comingWord x.1 != x.2.setWidth 128) then
    m.change { pts := w, words := words, wordsAt := at_ }
  else m

/-- Source changes of points. -/
def Mach.source (m : Mach) (pts : List PtChange) : Mach := m.sourceAt pts [] 0

/-- A change of quality of a group of points at one instant, with the values last received (R187, R189). -/
def Mach.sourceQuality (m : Mach) (idxs : List Nat) (q stamp : Nat) : Mach :=
  m.source (idxs.map (fun i => { idx := i, v := (m.pt i).rv, q := q, stamp := stamp }))

end Sys2Proof.Machine
end

