-- ==== Sys2Proof/Machine/Operands.lean ====
section
/-!
DEFINITION. Operand forms of the engine instructions (R114, R115, R131, R136) and the cell layouts they work on (R196), as pure
functions of the instruction's fields and of register values.
-/
namespace Sys2Proof.Machine
open Sys2Proof

/-- imm8 sign-extended and zero-extended (R131). -/
def sext8 (i : BitVec 8) : Word := i.signExtend 32
def zext8 (i : BitVec 8) : Word := i.setWidth 32

/-- imm14 sign-extended and zero-extended. -/
def sext14 (i : BitVec 14) : Word := i.signExtend 32
def zext14 (i : BitVec 14) : Word := i.setWidth 32

/-- A 6-bit field as a signed imm6 (R135). -/
def sext6 (b : Fin 64) : Word := (BitVec.ofNat 6 b.val).signExtend 32

/-- The address of format D: g[a] + off8 × scale, modulo 2^32 (R115). -/
def addrD (ga : Word) (off : BitVec 8) (scale : Nat) : Nat := (ga + BitVec.ofNat 32 (off.toNat * scale)).toNat

/-- Shift amounts use the five low bits (R131). -/
def amount (w : Word) : Nat := w.toNat % 32

/-- The variants of EXT (R131). -/
def extend (x : Fin 4) (w : Word) : Word :=
  match x.val with
  | 0 => (w.setWidth 8).setWidth 32
  | 1 => (w.setWidth 8).signExtend 32
  | 2 => (w.setWidth 16).setWidth 32
  | _ => (w.setWidth 16).signExtend 32

/-- The number of bits set (POPC). -/
def popcount (w : Word) : Word := BitVec.ofNat 32 (((List.range 32).filter (fun i => w.getLsbD i)).length)

/-- The high half of the 64-bit product (MULH): signed for x[0] = 0, unsigned for 1. -/
def mulHigh (x : Fin 4) (a b : Word) : Word :=
  if x.val % 2 = 0 then ((a.signExtend 64 * b.signExtend 64) >>> 32).setWidth 32
  else ((a.setWidth 64 * b.setWidth 64) >>> 32).setWidth 32

/-- Quotient of R132: truncated towards zero; all ones for division by zero. -/
def divide (x : Fin 4) (a b : Word) : Word :=
  if b = 0 then 0xFFFFFFFF#32 else if x.val % 2 = 0 then a.sdiv b else a / b

/-- Remainder of R132: the sign of the dividend; the dividend for division by zero. -/
def remainder (x : Fin 4) (a b : Word) : Word :=
  if b = 0 then a else if x.val % 2 = 0 then a.srem b else a % b

/-- A mask of 32 lanes from a list of bits, lane 0 first. -/
def lanesOf (bs : List Bool) : Word := (bs.zipIdx).foldl (fun w (b, k) => if b then w ||| (1#32 <<< k) else w) 0

/-! ### Timer cells (R196) -/

/-- The fields of a timer cell. -/
structure TCell where
  start : Nat
  preset : Nat
  kind : Nat
  state : Nat
  flags : Nat
  owner : Nat
  deriving DecidableEq, Repr

/-- The cell whose 16 bytes are given, byte 0 least significant. -/
def TCell.ofV (v : CellV) : TCell :=
  let n := v.toNat
  ⟨n % 2 ^ 64, n / 2 ^ 64 % 2 ^ 32, n / 2 ^ 96 % 256, n / 2 ^ 104 % 256, n / 2 ^ 112 % 256, n / 2 ^ 120 % 256⟩

/-- The 16 bytes of a cell as one value. -/
def TCell.toV (c : TCell) : CellV :=
  BitVec.ofNat 128 (c.start % 2 ^ 64 + c.preset % 2 ^ 32 * 2 ^ 64 + c.kind % 256 * 2 ^ 96 + c.state % 256 * 2 ^ 104 +
    c.flags % 256 * 2 ^ 112 + c.owner % 256 * 2 ^ 120)

/-- Nanoseconds of one preset unit (R144). -/
def TCell.unit (c : TCell) : Nat := if c.flags % 2 = 0 then 1000 else 1000000

/-- The preset in nanoseconds (R144). -/
def TCell.p (c : TCell) : Nat := c.preset * c.unit

/-- The elapsed time, a 64-bit unsigned quantity (R144). -/
def TCell.elapsed (c : TCell) (now : Nat) : Nat := (now + 2 ^ 64 - c.start % 2 ^ 64) % 2 ^ 64

/-- R198: is the cell in a timing state: RUN of every kind, HOLD of TPX? -/
def TCell.timing (c : TCell) : Bool := c.state == 1 || (c.state == 2 && c.kind == 4)

/-- Set IDLE with start time 0. -/
def TCell.idle (c : TCell) : TCell := { c with state := 0, start := 0 }

/-- One row of R146 for a cell of the instruction's kind (1 TON, 2 TOF, 3 TP, 4 TPX, 5 TONR): the cell after it, Q, and whether
the row starts timing; none when no row applies to the state and the input (R145). Log 113 (DESIGN CHOICE). -/
def timerRow (c : TCell) (now : Nat) (inp : Bool) : Option (TCell × Bool × Bool) :=
  let ge := decide (c.p ≤ c.elapsed now)
  match c.kind, c.state, inp with
  | 1, _, false => some (c.idle, false, false)
  | 1, 0, true => some ({ c with state := 1, start := now }, false, true)
  | 1, 1, true => if ge then some ({ c with state := 3 }, true, false) else some (c, false, false)
  | 1, 3, true => some (c, true, false)
  | 2, _, true => some ({ c with state := 2 }, true, false)
  | 2, 2, false => some ({ c with state := 1, start := now }, true, true)
  | 2, 1, false => if ge then some (c.idle, false, false) else some (c, true, false)
  | 2, 0, false => some (c.idle, false, false)
  | 3, 0, true => some ({ c with state := 1, start := now }, true, true)
  | 3, 0, false => some (c.idle, false, false)
  | 3, 1, inp => if !ge then some (c, true, false) else if inp then some ({ c with state := 3 }, false, false)
      else some (c.idle, false, false)
  | 3, 3, true => some (c, false, false)
  | 3, 3, false => some (c.idle, false, false)
  | 4, 0, true => some ({ c with state := 2, start := now }, true, true)
  | 4, 1, true => some ({ c with state := 2, start := now }, true, true)
  | 4, 2, true => if ge then some ({ c with state := 3 }, false, false) else some (c, true, false)
  | 4, 2, false => if ge then some (c.idle, false, false) else some ({ c with state := 1 }, true, false)
  | 4, 1, false => if ge then some (c.idle, false, false) else some (c, true, false)
  | 4, 3, true => some (c, false, false)
  | 4, 0, false => some (c.idle, false, false)
  | 4, 3, false => some (c.idle, false, false)
  | 5, 3, _ => some (c, true, false)
  | 5, 0, true => some ({ c with state := 1, start := now }, false, true)
  | 5, 2, true => some ({ c with state := 1, start := (now + 2 ^ 64 - c.start % 2 ^ 64) % 2 ^ 64 }, false, true)
  | 5, 1, true => if ge then some ({ c with state := 3 }, true, false) else some (c, false, false)
  | 5, 1, false => some ({ c with state := 2, start := c.elapsed now }, false, false)
  | 5, 0, false => some (c.idle, false, false)
  | 5, 2, false => some (c, false, false)
  | _, _, _ => none

/-- The row of R146 that applies, after the reset of R145 where none does. -/
def timerRow' (c : TCell) (now : Nat) (inp : Bool) : TCell × Bool × Bool :=
  match timerRow c now inp with
  | some r => r
  | none => (timerRow c.idle now inp).getD (c.idle, false, false)

/-- A timer instruction of a kind on a cell (R145, R146): the cell after it and Q. With P = 0, a row that starts timing passes
at once to the row that follows expiry. Log 113 (DESIGN CHOICE). -/
def timerEval (kind : Nat) (c : TCell) (now : Nat) (inp : Bool) : TCell × Bool :=
  let c := if c.kind = kind then c else { c.idle with kind := kind }
  let (c1, q, started) := timerRow' c now inp
  if started && c1.p == 0 then
    let (c2, q2, _) := timerRow' c1 now inp
    (c2, q2)
  else (c1, q)

/-- TRD (R150): the elapsed time in the cell's unit; none where R150 states no value for the kind and state. Log 27 (DESIGN CHOICE). -/
def timerRead (c : TCell) (now : Nat) : Option Nat :=
  if c.timing then some (min (c.elapsed now) c.p / c.unit)
  else if c.state = 2 ∧ c.kind = 5 then some (c.start / c.unit)
  else if c.state = 3 then some (c.p / c.unit)
  else if c.state = 0 ∨ (c.state = 2 ∧ c.kind = 2) then some 0
  else none

/-! ### Counters (R151, R152) -/

/-- CTU, CTD: one saturating step. -/
def countUp (v : Word) : Word := if v = 0xFFFFFFFF#32 then v else v + 1
def countDown (v : Word) : Word := if v = 0 then v else v - 1

/-- CCHN: the step of a chained counter of `k` cells: 0b01 up, 0b10 down, saturating at 0 and 2^(32k) − 1. -/
def chainStep (k sel v : Nat) : Nat :=
  if sel = 1 then (if v < 2 ^ (32 * k) - 1 then v + 1 else v)
  else if sel = 2 then v - 1
  else v

end Sys2Proof.Machine
end

