-- ==== Sys2Proof/Machine/Digest.lean ====
section
/-!
DEFINITION. The commit digest (R44): the byte stream of merged entries and deferred actions, and its CRC-64.
-/
namespace Sys2Proof.Machine
open Sys2Proof

/-- Space and index of an image key. -/
def keySp (key : Nat) : Nat := key / 2 ^ 24
def keyIdx (key : Nat) : Nat := key % 2 ^ 24

/-- Bytes of a value of a space: 1 for Q, M and E, 4 for W and C, 16 for T (R44). -/
def spBytes (sp : Nat) : Nat := if sp = spT then 16 else if sp = spW ∨ sp = spC then 4 else 1

/-- One entry of the digest stream. -/
def entryBytes (e : Nat × CellV) : List Byte :=
  leBytes 1 (keySp e.1) ++ leBytes 3 (keyIdx e.1) ++ leBytes (spBytes (keySp e.1)) e.2.toNat

/-- One deferred action of the digest stream: space code 0x08. Log 36 (DEDUCED). -/
def deferredBytes : Deferred → List Byte
  | .wdck slot => leBytes 1 8 ++ leBytes 3 slot ++ leBytes 4 0
  | .mvrq ch idx => leBytes 1 8 ++ leBytes 3 ch ++ leBytes 4 idx

/-- The commit digest of R44. -/
def commitDigest (es : List (Nat × CellV)) (ds : List Deferred) (qcount task time : Nat) : BitVec 64 :=
  crc64 (es.flatMap entryBytes ++ ds.flatMap deferredBytes ++ leBytes 2 qcount ++ leBytes 1 task ++ leBytes 8 time)

/-- The entries of a shade frame with their values, in ascending key. -/
def frameEntries (f : SMap (Option CellV)) : List (Nat × CellV) := f.filterMap (fun e => e.2.map (fun v => (e.1, v)))

/-- The digest of one segment's own entries, followed by the task number and the snapshot time (R425). -/
def segDigest (s : Seg) (task time : Nat) : BitVec 64 :=
  crc64 ((frameEntries s.frame).flatMap entryBytes ++ s.deferred.flatMap deferredBytes ++ leBytes 1 task ++ leBytes 8 time)

/-- The merged entries of a scan (R37): the entry of the higher-indexed segment takes effect. -/
def Scan.merged (sc : Scan) : List (Nat × CellV) :=
  frameEntries (sc.segs.foldl (fun m s => s.frame.foldl (fun m e => sset none m e.1 e.2) m) [])

/-- The deferred actions of a scan in digest order. -/
def Scan.actions (sc : Scan) : List Deferred := sc.segs.flatMap (·.deferred)

end Sys2Proof.Machine
end

