-- ==== Sys2Proof/Machine/FieldOps.lean ====
section
/-!
DEFINITION. The field side's shared operations: when a switch may be on (R311), the health contact (R321), the quality of inputs
and readback (R188, R305, R307, R313), and the conditions of R313 with their re-arming (R314).
-/
namespace Sys2Proof.Machine
open Sys2Proof

/-- A 32-bit mask from a test of its bit numbers. -/
def bits32 (f : Nat → Bool) : BitVec 32 := BitVec.ofBoolListLE ((List.range 32).map f)

/-- A mask with one bit set to a value. -/
def bitPut (w : BitVec 32) (n : Nat) (b : Bool) : BitVec 32 := bits32 (fun i => if i = n then b else w.getLsbD i)

/-- Is the block's logic running its firmware's functions: any state after BOOT with supply, but LOADER (R416)? -/
def Mach.alive (m : Mach) : Bool := !(m.st == .off || m.st == .boot || m.st == .loader)

/-! ### Outputs (R308–R319) -/

/-- Is channel n latched off (R313)? -/
def Mach.doLatched (m : Mach) (n : Nat) : Bool :=
  m.flag (R.FIO_DO_STAT_OVL n) || m.flag (R.FIO_DO_STAT_OTMP n) || m.flag (R.FIO_DOG_STAT_GTRIP (n / 16))

/-- Can group n / 16 drive channel n: supply present, and the channel not latched off? -/
def Mach.doCan (m : Mach) (n : Nat) : Bool := m.flag (R.FIO_DOG_STAT_VFLDOK (n / 16)) && !m.doLatched n

/-- The conditions under which DOn may be on in RUN (R311). -/
def Mach.doRun (m : Mach) (n : Nat) : Bool :=
  m.st == .run && decide (m.role ≤ 1) && !m.pair.fenced && m.doCan n && m.bit spQ n

/-- The exception of STOP: the state the channel had when RUN was left, with STOPHOLD set (R311). -/
def Mach.doStop (m : Mach) (n : Nat) : Bool :=
  m.st == .stop && m.flag (R.FIO_DO_CFG_STOPHOLD n) && !m.pair.fenced && m.doCan n && m.fio.held.getLsbD n

/-- The commands at the drivers, as R311 has them. -/
def Mach.doCmd (m : Mach) : BitVec 32 := bits32 (fun n => m.doRun n || m.doStop n)

/-- The instants at which drivers turn their switches on: channels newly commanded on outside a clamp phase (R319). Log 57 (DEDUCED). -/
def Mach.doOnAt (m : Mach) : SMap Nat :=
  (List.range 32).foldl (fun s n =>
    if m.doCmd.getLsbD n && !m.fio.cmd.getLsbD n && !m.fio.clamp.getLsbD n then sset 0 s n m.now else s) m.fio.onAt

/-- May the health contact be energised (R321)? Log 57 (DEDUCED). -/
def Mach.hcMay (m : Mach) : Bool :=
  (m.st == .run || m.st == .stop) && m.fatal.isNone && m.flag R.PWR_STAT_VSUP_OK && !(m.flag R.FIO_CFG_HCMAJ && m.flag R.DIAG_FSUM_MAJOR)

/-- Energise or de-energise the health contact. A change leaves both paths open for a free time from 0.1 ms to 1.0 ms (R320). Log 57 (DEDUCED). -/
def Mach.setHc (m : Mach) (on : Bool) : Mach :=
  if m.fio.hc = on then m
  else
    let (n, m) := m.fresh
    { m with fio := { m.fio with hc := on, hcEnd := m.now + 100000 + (Config.freeWord n).toNat % 900001 } }

/-- Is the path HC_COM–HC_NO, HC_COM–HC_NC closed (R320)? -/
def Mach.hcNo (m : Mach) : Bool := m.fio.hc && decide (m.fio.hcEnd ≤ m.now)
def Mach.hcNc (m : Mach) : Bool := !m.fio.hc && decide (m.fio.hcEnd ≤ m.now)

/-- What the drivers and the health contact do after every command (R311, R312, R321). Log 57 (DEDUCED). -/
def Mach.drive (m : Mach) : Mach :=
  { m with fio := { m.fio with onAt := m.doOnAt, cmd := m.doCmd } }.setHc (m.fio.hc && m.hcMay)

/-- Quality of readback point I:64 + n from its own source (R188, R313). -/
def Mach.doQ (m : Mach) (n : Nat) : Nat :=
  if m.doCan n && !(m.flag (R.FIO_DO_STAT_OPENON n) || m.flag (R.FIO_DO_STAT_OPENOFF n) ||
    m.flag (R.FIO_DO_STAT_RBERR n) || m.flag (R.FIO_DO_STAT_RBFEED n)) then 0 else 1

/-- Results of the module's own readback and wire-break supervision: a FOLLOW or UNSYNC module keeps them in its source shadow (R315). -/
def Mach.ownSource (m : Mach) (pts : List PtChange) : Mach :=
  if m.st == .run && decide (2 ≤ m.role) then (m.acceptAll (pts.foldr insPt [])).2 else m.source pts

/-- Bring the readback quality of some channels up to date as one change. -/
def Mach.doQuality (m : Mach) (ns : List Nat) : Mach :=
  m.ownSource (ns.map (fun n => { idx := 64 + n, v := (m.pt (64 + n)).sv, q := m.doQ n, stamp := m.now }))

/-- The channels of a group. -/
def groupChannels (h : Nat) : List Nat := (List.range 16).map (fun i => 16 * h + i)

/-- A condition of R313 has occurred on every channel of a group. -/
def Mach.groupHist (m : Mach) (h : Nat) : Mach := foldM (groupChannels h) (fun n m => m.setFlag (R.FIO_DO_STAT_HIST n) true) m

/-- Raise a condition of R313 on channel n: its flag, HIST, the system event and the quality. -/
def Mach.doRaise (m : Mach) (n : Nat) (f : Fld) (code sub : Nat) : Mach :=
  let m := (m.setFlag f true).setFlag (R.FIO_DO_STAT_HIST n) true
  (m.raise (code + n) sub 1).doQuality [n]

/-- Clear a condition of R313 on channel n when it is present. -/
def Mach.doClear (m : Mach) (n : Nat) (f : Fld) (code sub : Nat) : Mach :=
  if m.flag f then (((m.setFlag f false).clear (code + n) sub 1)).doQuality [n] else m

/-- R314: re-arm a channel latched by overload or over-temperature. -/
def Mach.rearmOvl (m : Mach) (n : Nat) : Mach := m.doClear n (R.FIO_DO_STAT_OVL n) 0x3160 0
def Mach.rearmOtmp (m : Mach) (n : Nat) : Mach := m.doClear n (R.FIO_DO_STAT_OTMP n) 0x3160 1

/-- R314: re-arm a group latched by overcurrent. -/
def Mach.rearmGroup (m : Mach) (h : Nat) : Mach :=
  if m.flag (R.FIO_DOG_STAT_GTRIP h) then
    ((m.setFlag (R.FIO_DOG_STAT_GTRIP h) false).clear (0x31C0 + h) 0 2).doQuality (groupChannels h)
  else m

/-- R314: an application that leaves Q:n at 0 re-arms the channel; one that leaves all 16 bits of a group at 0, the group. -/
def Mach.imageRearm (m : Mach) : Mach :=
  let m := foldM (List.range 32) (fun n m => if m.bit spQ n then m else (m.rearmOvl n).rearmOtmp n) m
  foldM [0, 1] (fun h m => if (groupChannels h).any (fun n => m.bit spQ n) then m else m.rearmGroup h) m

/-- The conditions that end with a switching or a readback transition: readback missing when the readback shows on or the
switch is off; external feed when the readback shows off or the switch is on (R313). -/
def Mach.doCheck (m : Mach) (n : Nat) : Mach :=
  let rb := m.flag (R.FIO_DO_STAT_RB n)
  let sw := m.fio.sw.getLsbD n
  let m := onlyIf (rb || !sw) (fun m => m.doClear n (R.FIO_DO_STAT_RBERR n) 0x31A0 0) m
  onlyIf (!rb || sw) (fun m => m.doClear n (R.FIO_DO_STAT_RBFEED n) 0x31A0 1) m

/-! ### Inputs (R301–R307) -/

/-- The bit of input n in a _LO/_HI register pair. -/
def diBit (lo : Fld) (n : Nat) : Fld := ⟨lo.addr + 4 * (n / 32), n % 32, 1⟩

def Mach.di (m : Mach) (n : Nat) : Di := sget {} m.fio.di n
def Mach.setDi (m : Mach) (n : Nat) (d : Di) : Mach := { m with fio := { m.fio with di := sset {} m.fio.di n d } }

/-- Quality of on-board input n from its own source (R188). -/
def Mach.diQ (m : Mach) (n : Nat) : Nat :=
  if m.flag (R.FIO_DIG_STAT_OK (n / 16)) && !m.flag (diBit R.FIO_WB_LO n) then 0 else 1

/-- The filter time of input n in nanoseconds between the first sample of a run and the sample that accepts it (R210). -/
def Mach.diTime (m : Mach) (n : Nat) : Nat :=
  let f := m.fld (R.EVU_DI_CFG_FILTER n)
  if f = 0 then 100 else f * 1000

/-- The class of a current (R304): 1 broken, 2 intact, none between. Log 55 (DEDUCED). -/
def diClass (cur : Nat) : Option Nat := if cur < 300 then some 1 else if cur < 500 then none else some 2

/-- One measurement: the class, and the measurements in a row in that class; one between the classes leaves the class and ends the row
(R304). Log 55 (DEDUCED). -/
def Di.measure (d : Di) (cur : Nat) : Di :=
  match diClass cur with
  | none => { d with cur := cur, run := 0 }
  | some c => { d with cur := cur, cls := c, run := if c = d.cls then d.run + 1 else 1 }

end Sys2Proof.Machine
end

