-- ==== Sys2Proof/Machine/Watch.lean ====
section
/-!
DEFINITION. The watchdog's slots (R429–R437), resets that are due (R419, R420), error counting (R422), clearing of faults (R418),
the audit of commits (R424–R427) and the retirement of engines (R428).
-/
namespace Sys2Proof.Machine
open Sys2Proof

/-! ### Watchdog slots (R429–R432) -/

/-- Nanoseconds left in slot n. -/
def Mach.wdLeft (m : Mach) (n : Nat) : Nat := sget 0 m.sup.left n
def Mach.setLeft (m : Mach) (n v : Nat) : Mach := { m with sup := { m.sup with left := sset 0 m.sup.left n v } }

/-- Period of slot n in nanoseconds. -/
def Mach.wdPeriod (m : Mach) (n : Nat) : Nat := m.fld (R.WDG_SLOT_CFG_PERIOD n) * 100000

/-- Is slot n in the amber stage? -/
def Mach.amber (m : Mach) (n : Nat) : Bool := m.flag (diBit R.WDG_AMBER_LO n)

/-- Enable a slot with its period in units of 100 µs; its counter is loaded (R430). -/
def Mach.slotOn (m : Mach) (n period : Nat) : Mach :=
  let m := (m.setFld (R.WDG_SLOT_CFG_PERIOD n) period).setFlag (R.WDG_SLOT_CFG_EN n) true
  m.setLeft n (m.wdPeriod n)

/-- End the amber stage of a slot, with a cleared entry (R432). -/
def Mach.amberEnd (m : Mach) (n : Nat) : Mach :=
  if m.amber n then (m.setFlag (diBit R.WDG_AMBER_LO n) false).clear (0x3100 + n) 0 2 else m

/-- Stop a task slot (R430, R432): its counter stands. Log 79 (DEDUCED). -/
def Mach.slotOff (m : Mach) (n : Nat) : Mach :=
  if m.flag (R.WDG_SLOT_CFG_EN n) then (m.setFlag (R.WDG_SLOT_CFG_EN n) false).amberEnd n else m

/-- A check-in reloads its slot and ends its amber stage (R430, R432). -/
def Mach.checkIn (m : Mach) (n : Nat) : Mach :=
  if m.flag (R.WDG_SLOT_CFG_EN n) then
    let m := ((m.setLeft n (m.wdPeriod n)).setFld64 (R.WDG_SLOT_LAST_LO n) m.now).addFld (R.WDG_SLOT_CNT_CHECKS n) 1
    m.amberEnd n
  else m

/-- The check-ins of a commit (R431): several entries for one task slot count once and are flagged. Log 35 (DEDUCED). -/
def Mach.commitCheckIns (m : Mach) (ds : List Deferred) : Mach :=
  let slots := ds.filterMap (fun d => match d with
    | .wdck s => if s < 32 then some s else none
    | .mvrq _ _ => none)
  foldM slots.eraseDups (fun n m =>
    let m := m.checkIn n
    if 1 < slots.count n ∧ !m.flag (diBit R.WDG_DBL_LO n) then (m.setFlag (diBit R.WDG_DBL_LO n) true).note 0x31DB else m) m

/-! ### WDG.CTL (R435, R439) -/

/-- A write of WDG.CTL.CLKSEL (R435, R439), while LOCK is clear. Log 79 (DEDUCED). -/
def Mach.wdgClk (m : Mach) (sel : Bool) : Mach :=
  if m.flag R.WDG_CTL_LOCK then m else (m.setFlag R.WDG_CTL_CLKSEL sel).setFlag R.WDG_STAT_CLK sel

/-- A write of 1 to WDG.CTL.LOCK (R439). Log 79 (DEDUCED). -/
def Mach.wdgLock (m : Mach) : Mach := m.setFlag R.WDG_CTL_LOCK true

/-- The slots that count now (R436, R437). -/
def Mach.wdCounts (m : Mach) (n : Nat) : Bool :=
  m.flag R.WDG_STAT_RUN && m.flag (R.WDG_SLOT_CFG_EN n) && (m.st != .loader || n == 44)

/-- Let running watchdog time pass up to an instant; it stands still from the start of a suspension (R436). -/
def Mach.runWatchdog (m : Mach) (t : Nat) : Mach :=
  let dt := match m.sup.suspAt with
    | some a => min t (max a m.now) - m.now
    | none => t - m.now
  { m with sup := { m.sup with left := (List.range 48).foldl (fun l n =>
      if m.wdCounts n then sset 0 l n (sget 0 l n - dt) else l) m.sup.left } }

/-- The coding of ENGe.STAT.STATE (R126). -/
def Mach.engState (m : Mach) (e : Nat) : Nat :=
  match (m.eng e).power with
  | .dark => 0
  | .dim => 1
  | .lit => 2
  | .heldOut => 3

/-- ENGe.PC: undefined while the engine is not lit, a free value then (R126). -/
def Mach.enginePc (m : Mach) (e : Nat) : Nat × Mach :=
  if (m.eng e).power = .lit then ((m.eng e).de, m)
  else
    let (n, m) := m.fresh
    ((Config.enginePc n).toNat, m)

/-- R432: capture the PC of every engine. -/
def Mach.capture (m : Mach) : Mach :=
  foldM (List.range 16) (fun e m =>
    let (k, j) := ((m.eng e).act).getD (0, 0)
    let s := m.engState e
    let (pc, m) := m.enginePc e
    let w := pc + s * 2 ^ 14 + k * 2 ^ 16 + j * 2 ^ 21 + 2 ^ 31
    (m.rset (R.ENG_PCCAP e).addr (BitVec.ofNat 32 w)).setFld64 (R.ENG_PCCAPT_LO e) m.now) m

/-- Has slot n run out? Log 80 (DEDUCED). -/
def Mach.wdOut (m : Mach) (n : Nat) : Bool := m.wdCounts n && m.wdLeft n == 0

/-- The amber stage of slot n (R432). Log 80 (DEDUCED). -/
def Mach.amberStage (m : Mach) (n : Nat) : Mach :=
  let m := (m.setFlag (diBit R.WDG_AMBER_LO n) true).capture
  let m := (m.satFld (R.WDG_SLOT_CNT_AMBERS n) 1).raise (0x3100 + n) 0 2
  (m.stat 4253 true).setLeft n (m.wdPeriod n)

/-! ### Resets (R419, R420, R432) -/

/-- A reset becomes due, with its cause (WDG.RSTCAUSE.CAUSE). PD0 records those of R420. Log 77 (DEDUCED). -/
def Mach.requestReset (m : Mach) (cause delay : Nat) : Mach :=
  { m with sup := { m.sup with due := some (cause, m.now + delay),
                               resets := if cause = 1 ∨ cause = 3 then (m.sup.resets ++ [m.now]).drop (m.sup.resets.length + 1 - 3) else m.sup.resets } }

/-- The scarlet stage (R432): the slots that ran out a second time in this step. Log 77 (DEDUCED). -/
def Mach.scarletStage (m : Mach) (ns : List Nat) : Mach :=
  let m := m.capture
  let m := (m.setFld R.WDG_RSTCAUSE_CAUSE 1).setFld R.WDG_RSTCAUSE_SLOT (ns.headD 0)
  let m := (m.setFld64 R.WDG_RSTT_LO m.now).satFld R.WDG_RSTCNT_COUNT 1
  ({ m with sup := { m.sup with scarlet := ns } }).requestReset 1 0

/-- R420: a third recorded reset within 600 s of the first. -/
def resetLoop : List Nat → Bool
  | [a, _, c] => decide (c ≤ a + 600000000000)
  | _ => false

/-! ### Suspension for a flash erase (R436) -/

/-- The flash controller erases on-chip flash from an instant on. Log 79 (DEDUCED). -/
def Mach.suspendAt (m : Mach) (beg : Nat) : Mach :=
  { m.satFld R.WDG_SUSPMAX_COUNT 1 with sup := { m.sup with suspAt := some beg } }

/-- A suspension ends. -/
def Mach.resumeWatch (m : Mach) : Mach :=
  match m.sup.suspAt with
  | none => m
  | some a =>
    let m := m.maxFld R.WDG_SUSPMAX_MAX ((m.now - a) / 10000)
    { m with sup := { m.sup with suspAt := none, suspEnd := some m.now } }

/-! ### Clearing faults (R418) -/

/-- Has a system event code a raised and a cleared event (R226, R299, R357, R384, R415, R438, R536)? -/
def rcCode (c : Nat) : Bool :=
  decide ((0x3100 ≤ c ∧ c < 0x3130) ∨ (0x3160 ≤ c ∧ c ≤ 0x31C8) ∨ (0x3300 ≤ c ∧ c < 0x3320) ∨ (0x33A0 ≤ c ∧ c < 0x33C2) ∨
    (0x3400 ≤ c ∧ c < 0x3480) ∨ (0x3800 ≤ c ∧ c < 0x3880)) ||
  [0x3013, 0x3083, 0x3088, 0x3089, 0x31E5, 0x3208, 0x320A, 0x320B, 0x34D0, 0x34D1, 0x34D3, 0x3602, 0x3607, 0x360A].contains c

/-- Does the condition of a fault without a cleared event persist: a stopped watchdog clock, a partner that disagrees? Log 76 (DEDUCED). -/
def Mach.persists (m : Mach) (c : Nat) : Bool := c == 0x31D0 || (c == 0x3206 && (m.pair.cfgDis != 0 || m.pair.alien))

/-- FAULT_CLEAR (R418). Log 76 (DEDUCED). -/
def Mach.faultClear (m : Mach) : Mach :=
  let m := ({ m with faults := m.faults.filter (fun f => rcCode f.1 || m.persists f.1) }).showFaults
  ((m.setFlag R.DIAG_FSUM_DEGRADED false).stat 4250 false).stat 4253 false

/-! ### Errors of the stores (R422) -/

/-- R422: a corrected single-bit error in a region, at an address. -/
def Mach.corrected (m : Mach) (r a : Nat) : Mach :=
  let m := m.addFld (R.DIAG_ECCCOR r) 1
  let old := ((m.sup.corrected.find? (fun x => x.1 == r && x.2.1 == a)).map (·.2.2)).getD []
  let ts := (old.filter (fun t => decide (m.now < t + 86400000000000))) ++ [m.now]
  let rest := m.sup.corrected.filter (fun x => !(x.1 == r && x.2.1 == a))
  if ts.length ≥ 3 then
    let m := { m with sup := { m.sup with corrected := rest } }
    ((m.setFld R.DIAG_ECCADDR_ADDR a).setFld R.DIAG_ECCADDR_REGION r).raise 0x31D4 0 1
  else { m with sup := { m.sup with corrected := rest ++ [(r, a, ts)] } }

/-! ### Audit (R424–R427) -/

/-- Is an audit engine in service? -/
def Mach.audOn (m : Mach) : Bool := m.flag R.DIAG_AUD_INSVC

/-- The task that comes next in round-robin order behind the last selected, among those that have committed (R425). -/
def audNext (last : Nat) (ks : List Nat) : Option Nat :=
  ((List.range 32).map (fun i => (last + 1 + i) % 32)).find? (fun k => ks.contains k)

/-- R425: an application starts; select its commit when its task comes next. -/
def Mach.auditSelect (m : Mach) (k : Nat) (sc : Scan) : Mach :=
  let ks := if m.sup.audDone.contains k then m.sup.audDone else m.sup.audDone ++ [k]
  if m.audOn && m.sup.audit.isNone && audNext m.sup.audLast ks == some k then
    let a : Audit := { task := k, snap := sc.snap, engs := sc.segs.map (·.eng),
                       digests := sc.segs.map (fun s => segDigest s k sc.snap.time), first := none, since := m.now,
                       kept := [], running := false }
    { m with sup := { m.sup with audit := some a, audLast := k, audDone := ks.filter (fun x => x != k) } }
  else { m with sup := { m.sup with audDone := ks } }

/-- Give up or finish the audit in hand; its snapshot and its preserved view are released. -/
def Mach.auditDrop (m : Mach) : Mach := ({ m with sup := { m.sup with audit := none } }).setFlag R.DIAG_AUD_BUSY false

/-- R425: the audit is abandoned. -/
def Mach.auditAbandon (m : Mach) : Mach :=
  if m.sup.audit.isSome then (m.auditDrop.satFld R.DIAG_AUDSKIP 1).note 0x31DA else m

/-- Bytes of one block of R72 in the audit's preserved view. Log 34 (DESIGN CHOICE). -/
def blockBytes (sp : Nat) : Nat := if sp = spM then 32 else if sp = spT then 1024 else if sp = spE then 8 else 256

/-- Blocks of R72 covered by a list of keys. Log 34 (DESIGN CHOICE). -/
def blocksOf (keys : List Nat) (size : Nat → Nat) : List (Nat × Nat) :=
  (keys.map (fun key => (keySp key, keyIdx key / size (keySp key)))).eraseDups

/-- R425: preserve what an application is about to overwrite, up to 64 KiB of blocks. Log 34 (DESIGN CHOICE). -/
def Mach.auditKeep (m : Mach) (keys : List Nat) (size : Nat → Nat) (trk : Nat → Nat → Bool) : Mach :=
  match m.sup.audit with
  | none => m
  | some a =>
    let new := keys.filter (fun key => trk (keySp key) (keyIdx key) && (sget none a.kept key).isNone)
    let kept := new.foldl (fun s key => sset none s key (some (sget 0 m.img key))) a.kept
    if 65536 < ((blocksOf (kept.map (·.1)) size).map (fun b => blockBytes b.1)).sum then m.auditAbandon
    else { m with sup := { m.sup with audit := some { a with kept := kept } } }

/-! ### Retirement and sparing (R428) -/

/-- Take an engine out of dispatch (R125, R427). -/
def Mach.holdOut (m : Mach) (e : Nat) : Mach := m.setEng e { m.eng e with power := .heldOut }

/-- The tasks with a segment on an engine. -/
def Mach.tasksOf (m : Mach) (e : Nat) : List Nat :=
  m.tasksOn.filter (fun k => (List.range (m.fld (R.TSK_SEGCFG_SEGCNT k))).any (fun j => m.fld (segMap k j) == e))

/-- Auditing ends (R427, R428). -/
def Mach.auditEnd (m : Mach) : Mach := (m.auditDrop.setFlag R.DIAG_AUD_INSVC false)

end Sys2Proof.Machine
end

