-- ==== Sys2Proof/Machine/RetOps.lean ====
section
/-!
DEFINITION. The retained store's shared operations: the byte space of retained data (R452), placing and completing records
(R445–R451), retained saves (R453–R456), the flush of the retained journal (R229, R457), parameter images (R458–R463) and
what a power-up scan finds (R42, R231, R447–R449, R464).
-/
namespace Sys2Proof.Machine
open Sys2Proof

/-! ### The byte space of retained data (R452) -/

/-- One byte of the retained byte space, from the image. -/
def Mach.retByte (m : Mach) (a : Nat) : Byte :=
  if a < 8192 then BitVec.ofBoolListLE ((List.range 8).map (fun j => m.bit spM (8 * a + j)))
  else if a < 1048576 then BitVec.ofNat 8 ((m.cell spW ((a - 8192) / 4)).toNat / 2 ^ (8 * (a % 4)))
  else if a < 1179648 then BitVec.ofNat 8 ((m.cell spT ((a - 1048576) / 16)).toNat / 2 ^ (8 * (a % 16)))
  else BitVec.ofNat 8 ((m.cell spC ((a - 1179648) / 4)).toNat / 2 ^ (8 * (a % 4)))

/-- A value with one of its bytes replaced. -/
def putByte (v : CellV) (j : Nat) (b : Byte) : CellV :=
  (v &&& ~~~(0xFF#128 <<< (8 * j))) ||| (b.setWidth 128 <<< (8 * j))

/-- Write one byte of the retained byte space into the image. -/
def Mach.setRetByte (m : Mach) (a : Nat) (b : Byte) : Mach :=
  if a < 8192 then foldM (List.range 8) (fun j m => m.setCell spM (8 * a + j) (if b.getLsbD j then 1 else 0)) m
  else if a < 1048576 then
    let i := (a - 8192) / 4
    m.setCell spW i (putByte (m.cell spW i) (a % 4) b)
  else if a < 1179648 then
    let i := (a - 1048576) / 16
    m.setCell spT i (putByte (m.cell spT i) (a % 16) b)
  else
    let i := (a - 1179648) / 4
    m.setCell spC i (putByte (m.cell spC i) (a % 4) b)

/-- First byte and byte after the last of a range of elements (R452). -/
def retSpan (sp first count : Nat) : Nat × Nat :=
  if sp = spM then (first / 8, (first + count) / 8)
  else if sp = spW then (8192 + 4 * first, 8192 + 4 * (first + count))
  else if sp = spT then (1048576 + 16 * first, 1048576 + 16 * (first + count))
  else (1179648 + 4 * first, 1179648 + 4 * (first + count))

/-- Is a byte inside the retained ranges (R192)? -/
def Mach.retained (m : Mach) (a : Nat) : Bool :=
  m.ret.ranges.any (fun r => let s := retSpan r.1 r.2.1 r.2.2; decide (s.1 ≤ a ∧ a < s.2))

/-- The retained bytes of a chunk, in ascending address. -/
def Mach.chunkBytes (m : Mach) (c : Nat) : List Nat := ((List.range 1024).map (fun i => 1024 * c + i)).filter m.retained

/-- Is an element of the image retained? -/
def Mach.retainedElt (m : Mach) (sp i : Nat) : Bool :=
  m.ret.ranges.any (fun r => r.1 == sp && decide (r.2.1 ≤ i ∧ i < r.2.1 + r.2.2))

/-- The chunk of an element. -/
def chunkOf (sp i : Nat) : Nat := (retSpan sp (if sp = spM then i / 8 * 8 else i) 0).1 / 1024

/-- R453: the chunks an application makes dirty; the mark is a new one for a save in progress, which has not covered it. -/
def Mach.markDirty (m : Mach) (keys : List Nat) : Mach :=
  let cs := (keys.filter (fun key => m.retainedElt (keySp key) (keyIdx key))).map (fun key => chunkOf (keySp key) (keyIdx key))
  let add (ds : List Nat) : List Nat := cs.foldl (fun d c => if d.contains c then d else d ++ [c]) ds
  { m with ret := { m.ret with dirty := add m.ret.dirty, save := m.ret.save.map (fun s => { s with again := add s.again }) } }

/-! ### Records and sectors (R441–R451) -/

def Mach.sector (m : Mach) (n : Nat) : Sector := sget {} m.ret.sectors n
def Mach.setSector (m : Mach) (n : Nat) (x : Sector) : Mach := { m with ret := { m.ret with sectors := sset {} m.ret.sectors n x } }

/-- Lines of a record (R445): header, payload, and the marker. -/
def recLines (len : Nat) : Nat := 2 + (len + 31) / 32

/-- The log banks (R443). -/
def logBanks : List Nat := (List.range 14).map (· + 2)

/-- The open sector of a bank, as a number within the bank. -/
def Mach.openSector (m : Mach) (b : Nat) : Nat := sget 0 m.ret.opened b

/-- Sectors of a bank that are not retired. -/
def Mach.usable (m : Mach) (b : Nat) : Nat := ((List.range 8).filter (fun i => !(m.sector (8 * b + i)).retired)).length

/-- The erased sectors ahead of the append point of a bank, nearest first: opened and without a record (R448, R451). -/
def Mach.erasedAhead (m : Mach) (b : Nat) : List Nat :=
  ((List.range 7).map (fun i => (m.openSector b + 1 + i) % 8)).filter (fun i =>
    let s := m.sector (8 * b + i)
    s.opened && !s.retired && s.top == 2)

/-- Lines queued on a bank. -/
def Mach.queuedLines (m : Mach) (b : Nat) : Nat :=
  ((m.ret.recs.filter (fun r => !r.done && r.sector / 8 == b)).map (fun r => recLines r.payload.length)).sum

/-- R451: the log bank with the fewest queued lines, the lowest-numbered among equals. Log 81 (DEDUCED). -/
def Mach.chooseBank (m : Mach) : Nat :=
  (logBanks.filter (fun b => m.usable b != 0)).foldl (fun b c => if m.queuedLines c < m.queuedLines b then c else b) 2

/-- Count lines programmed (RET.LINES). -/
def Mach.countLines (m : Mach) (n : Nat) : Mach := m.setFld64 R.RET_LINES_LO (m.fld64 R.RET_LINES_LO + n)

/-- R448: the place for `n` lines in a bank: the open sector, or after a FILL header the next erased one. -/
def Mach.placeIn (m : Mach) (b n : Nat) : Nat × Nat × Mach :=
  let s := 8 * b + m.openSector b
  let x := m.sector s
  if x.top + n ≤ 2048 ∧ !x.retired then (s, x.top, m.setSector s { x with top := x.top + n })
  else
    let m := (m.setSector s { x with top := 2048 }).countLines (if x.top < 2048 ∧ !x.retired then 1 else 0)
    match m.erasedAhead b with
    | i :: _ =>
      let m := { m with ret := { m.ret with opened := sset 0 m.ret.opened b i } }
      let y := m.sector (8 * b + i)
      (8 * b + i, y.top, m.setSector (8 * b + i) { y with top := y.top + n })
    | [] => (s, x.top, m)

/-- Queue a record in the log; its SEQ is the next of the store (R445). -/
def Mach.putRec (m : Mach) (ty arg key : Nat) (payload : List Byte) : Mach :=
  let (s, l, m) := m.placeIn m.chooseBank (recLines payload.length)
  let r : Rec := { ty := ty, arg := arg, seq := m.ret.seq, key := key, payload := payload, csn := 0, next := 0,
                   sector := s, line := l, done := false }
  { m with ret := { m.ret with recs := m.ret.recs ++ [r], seq := m.ret.seq + 1 } }

/-- The marker a record written now carries: its SEQ, the CSN last assigned and the next event sequence number (R446). -/
def Mach.marker (m : Mach) : Nat × Nat × Nat := (m.ret.seq, m.csn, m.fld R.EVU_SEQ)

/-- The markers of the valid records of the store: SEQ, CSN and next event sequence number (R446, R457). -/
def Mach.markers (m : Mach) : List (Nat × Nat × Nat) :=
  (m.ret.recs.filter (fun r => r.done)).map (fun r => (r.seq, r.csn, r.next)) ++ m.ret.sectors.filterMap (fun e => e.2.mark) ++
    (m.ret.half0.toList ++ m.ret.half1.toList).map (·.mark)

/-- The marker line of a record is programmed: it holds the CSN last assigned and the next event sequence number (R446). -/
def Mach.markRec (m : Mach) (seq : Nat) : Mach :=
  match m.ret.recs.find? (fun r => r.seq == seq && !r.done) with
  | none => m
  | some r =>
    let m := { m with ret := { m.ret with
      recs := m.ret.recs.map (fun (x : Rec) => if x.seq == seq && !x.done then { x with csn := m.csn, next := m.fld R.EVU_SEQ, done := true } else x),
      recCsn := m.csn, recSeq := m.fld R.EVU_SEQ } }
    m.countLines (recLines r.payload.length)

/-- Write a record that is complete at once. -/
def Mach.putRecNow (m : Mach) (ty arg key : Nat) (payload : List Byte) : Mach := (m.putRec ty arg key payload).markRec m.ret.seq

/-- The valid records of a type (R447). -/
def Mach.recsOf (m : Mach) (ty : Nat) : List Rec := m.ret.recs.filter (fun r => r.done && r.ty == ty)

/-- The generation of a RETCHUNK, and its chunk number (R450). -/
def Rec.gen (r : Rec) : Nat := r.key % 2 ^ 32
def Rec.chunk (r : Rec) : Nat := r.key / 2 ^ 32

/-- Generations with a valid RETCOMMIT, the newest last. -/
def Mach.commits (m : Mach) : List Rec := m.recsOf 0x11

/-- The last of a list by a measure. -/
def newestBy {α : Type} (f : α → Nat) (xs : List α) : Option α :=
  xs.foldl (fun b x => match b with
    | none => some x
    | some y => if f y ≤ f x then some x else some y) none

/-- The newest generation's RETCOMMIT. Log 28 (DEDUCED). -/
def Mach.newestCommit (m : Mach) : Option Rec := newestBy (fun r => r.key) m.commits

/-- The newest RETCHUNK of a chunk of a generation not later than `g` that has a valid RETCOMMIT (R455). -/
def Mach.newestChunk (m : Mach) (c g : Nat) : Option Rec :=
  newestBy Rec.gen ((m.recsOf 0x10).filter (fun r => r.chunk == c && decide (r.gen ≤ g) && m.commits.any (fun x => x.key == r.gen)))

/-- R451: is a RETCHUNK live: the newest of its chunk in a generation that counts, or newer than that? -/
def Mach.liveChunk (m : Mach) (r : Rec) : Bool :=
  let committed := (m.recsOf 0x10).filter (fun x => x.chunk == r.chunk && m.commits.any (fun y => y.key == x.gen))
  decide (((committed.map Rec.gen).foldl max 0) ≤ r.gen)

/-- R451: is a record live, but for a VERDICT? -/
def Mach.liveRec (m : Mach) (r : Rec) : Bool :=
  match r.ty with
  | 0x10 => m.liveChunk r
  | 0x11 => (m.recsOf 0x10).any (fun x => x.gen == r.key && m.liveChunk x)
  | 0x20 => decide ((((m.recsOf 0x20).filter (fun x => decide (r.seq < x.seq))).map (fun x => x.payload.length / 16)).sum < 65536)
  | 0x24 => !((m.recsOf 0x24).any (fun x => x.key == r.key && decide (r.seq < x.seq)))
  | ty => !((m.recsOf ty).any (fun x => decide (r.seq < x.seq)))

/-- R451: is a record live? A VERDICT is when the record it judges is, which may be a VERDICT itself, up to `n` of them one upon another. -/
def Mach.liveWithin (m : Mach) : Nat → Rec → Bool
  | 0, _ => false
  | n + 1, r => if r.ty = 0x03 then m.ret.recs.any (fun x => x.seq == r.key && m.liveWithin n x) else m.liveRec r

def Mach.live (m : Mach) (r : Rec) : Bool := m.liveWithin (m.ret.recs.length + 1) r

/-- I:4255 and RET.STAT: what the store is busy with (R464). Log 82 (DEDUCED). -/
def Mach.showRet (m : Mach) : Mach :=
  let reclaim := match m.ret.erase with
    | some s => decide (16 ≤ s)
    | none => false
  let m := ((m.setFlag R.RET_STAT_SAVING m.ret.save.isSome).setFlag R.RET_STAT_PSTORE m.ret.pstore.isSome).setFlag R.RET_STAT_RECLAIM reclaim
  m.stat 4255 (m.st == .run && (m.ret.save.isSome || m.ret.pstore.isSome || reclaim))

/-! ### Erasing (R436, R442, R448, R466) -/

/-- Start to erase a sector: a watchdog suspension, not within 5 ms of the end of the previous one (R436). -/
def Mach.startErase (m : Mach) (s : Nat) : Mach :=
  let beg := match m.sup.suspEnd with
    | some e => max m.now (e + 5000000)
    | none => m.now
  let m := { m with ret := { m.ret with erase := some s, recs := m.ret.recs.filter (fun r => r.sector != s) } }
  let m := m.setSector s { m.sector s with opened := false, top := 2048, mark := none }
  m.suspendAt beg

/-- The highest erase count of a usable sector, and the sectors retired (RET.WEAR). -/
def Mach.showWear (m : Mach) : Mach :=
  let us := (m.ret.sectors.filter (fun s => !s.2.retired)).map (fun s => s.2.erases)
  let n := (m.ret.sectors.filter (fun s => s.2.retired)).length
  (m.setFld R.RET_WEAR_MAXERASE (us.foldl max 0)).setFld R.RET_WEAR_RETIRED n

/-- R466: retire a sector, unless it is retired already. -/
def Mach.retireSector (m : Mach) (s : Nat) : Mach :=
  if (m.sector s).retired then m
  else
    let m := (m.setSector s { m.sector s with retired := true }).showWear.raise 0x350C s 1
    if 16 ≤ s ∧ m.usable (s / 8) < 4 then m.raise 0x350E (s / 8) 2 else m

/-- An erase completes: the SECTOR record opens the sector (R448), and its count is checked (R466). -/
def Mach.eraseDone (m : Mach) (s : Nat) : Mach :=
  let x := m.sector s
  let m := (m.setSector s { x with erases := x.erases + 1, opened := true, top := 2, mark := some m.marker }).showWear
  let m := ({ m with ret := { m.ret with erase := none, seq := m.ret.seq + 1, recCsn := m.csn, recSeq := m.fld R.EVU_SEQ } }).resumeWatch
  let m := m.countLines (recLines 0)
  if x.erases + 1 = 90000 then m.raise 0x350D s 1 else m

/-! ### Retained saves (R453–R456) -/

/-- The payload of a RETCOMMIT (R450). -/
def retcommitPayload (layout : BitVec 64) (reft csn n : Nat) : List Byte :=
  leBytes 8 layout.toNat ++ leBytes 8 reft ++ leBytes 6 csn ++ leBytes 2 0 ++ leBytes 4 n ++ leBytes 4 0

/-- Take retained-journal entries as JOURNAL records of at most 512 entries (R457). -/
def Mach.putJournal (m : Mach) : Nat → List JEntry → Mach
  | 0, _ => m
  | _, [] => m
  | n + 1, es =>
    let p := es.take 512
    let key := (p.headD ⟨0, 0, 0, 0, 0⟩).seq + p.length * 2 ^ 32
    (m.putRec 0x20 0 key (p.flatMap JEntry.bytes)).putJournal n (es.drop 512)

/-- Does EVU.CFG.RJSEL select an entry (R229, R232)? -/
def Mach.rjSelects (m : Mach) (j : JEntry) : Bool :=
  let sel := m.fld R.EVU_CFG_RJSEL
  if j.point < 0x2000 then sel.testBit 0
  else if j.kind = 0x21 then sel.testBit 1
  else if j.point < 0x3000 then sel.testBit 2
  else if j.point < 0x4000 then sel.testBit 3
  else if 0x45 ≤ j.kind then sel.testBit 4
  else sel.testBit 5

/-- Lost-entry markers the retained journal receives before the next entry it accepts (R230). -/
def Mach.rjMarkers (m : Mach) : List JEntry :=
  (if m.ev.ringLost = 0 then [] else [⟨m.ev.ringLostT, 0x3011, 0x34, 1, m.ev.ringLost⟩]) ++
  (if m.ret.rjLost = 0 then [] else [⟨m.ret.rjLostT, 0x3012, 0x34, 1, m.ret.rjLost⟩])

/-- Write some entries to the retained journal, behind the markers of what was lost before them. -/
def Mach.rjWrite (m : Mach) (es : List JEntry) : Mach :=
  if es.isEmpty then m
  else
    let all := m.rjMarkers ++ es
    let m := { m with ev := { m.ev with ringLost := 0 }, ret := { m.ret with rjLost := 0 } }
    (m.putJournal all.length all).setFld R.EVU_RJLAST (((es.findRev? (fun j => !j.isMarker)).map (·.seq)).getD (m.fld R.EVU_RJLAST))

/-- Move entries into the DRAM ring (R228): when full, the oldest are overwritten, and those the retained journal has not taken
are lost to it (R230). -/
def Mach.ringPut (m : Mach) (es : List JEntry) : Mach :=
  let full := m.ev.ring ++ es
  let gone := full.take (full.length - 1048576)
  let pend := m.ev.rjPend ++ es.filter m.rjSelects
  let lost := pend.filter (fun j => gone.contains j)
  let m := { m with ev := { m.ev with ring := full.drop (full.length - 1048576), rjPend := pend.filter (fun j => !gone.contains j),
                                      ringLostT := if m.ev.ringLost = 0 then (lost.headD ⟨0, 0, 0, 0, 0⟩).time else m.ev.ringLostT,
                                      ringLost := min (m.ev.ringLost + lost.length) (2 ^ 32 - 1) } }
  if lost.isEmpty then m else (m.satFld R.EVU_LOSTRJ lost.length).setFlag R.EVU_STAT_RJLOST true

/-- The power-down flush (R229): the FIFO and at most the 4096 newest pending entries; older ones are lost to the retained
journal, whose marker follows at the next flush after the start (R230). -/
def Mach.finalFlush (m : Mach) : Mach :=
  let pend := m.ev.rjPend
  let drop := pend.take (pend.length - 4096)
  let es := pend.drop (pend.length - 4096) ++ m.ev.fifo.filter m.rjSelects
  let m := m.rjWrite es
  let m := { m with ev := { m.ev with rjPend := [], fifo := [], ring := (m.ev.ring ++ m.ev.fifo).drop (m.ev.ring.length + m.ev.fifo.length - 1048576) }
                    ret := { m.ret with rjLostT := if m.ret.rjLost = 0 then (drop.headD ⟨0, 0, 0, 0, 0⟩).time else m.ret.rjLostT,
                                        rjLost := min (m.ret.rjLost + drop.length) (2 ^ 32 - 1) } }
  if drop.isEmpty then m else (m.satFld R.EVU_LOSTRJ drop.length).setFlag R.EVU_STAT_RJLOST true

/-- The payload of a PAIRNOTE (R450). -/
def Mach.pairNote (m : Mach) : List Byte :=
  leBytes 1 m.role ++ leBytes 1 m.hasToken.toNat ++ leBytes 2 0 ++ leBytes 4 (m.fld R.PRT_EPOCH)

/-- Queue the RETCOMMIT once every record before it has completed (R453, R456). -/
def Mach.saveStep (m : Mach) : Mach :=
  match m.ret.save with
  | none => m
  | some s =>
    if s.wait.isEmpty && !s.commit then
      let n := m.ret.seq
      let m := m.putRec 0x11 s.kind s.gen (retcommitPayload m.ret.layout s.reft s.csn s.chunks.length)
      { m with ret := { m.ret with save := some { s with wait := [n], commit := true } } }
    else m

/-- The retained data of a save (R453): the dirty chunks, then the RETCOMMIT once they are complete. A module that has not been in RUN
since its start has none to save (R566). -/
def Mach.saveChunks (m : Mach) (kind n0 : Nat) : Mach :=
  let s : Save := { kind := kind, gen := m.ret.gens, reft := if kind = 2 then m.now else m.ret.leftAt, csn := m.csn, chunks := m.ret.dirty,
                    wait := (List.range (m.ret.seq - n0)).map (n0 + ·), commit := false, since := m.now, display := false }
  ({ m with ret := { m.ret with save := some s } }).saveStep

/-- Insert a pair into a list with falling second parts, behind its equals. -/
def insertFalling (x : Nat × Nat) : List (Nat × Nat) → List (Nat × Nat)
  | [] => [x]
  | y :: ys => if y.2 < x.2 then x :: y :: ys else y :: insertFalling x ys

/-- The dirty chunks in the order of their records: the largest record first (R451). Log 81 (DEDUCED). -/
def Mach.saveOrder (m : Mach) : List Nat :=
  ((m.ret.dirty.map (fun c => (c, (m.chunkBytes c).length))).foldl (fun l x => insertFalling x l) []).map (·.1)

/-- Begin a save at a point between two applications (R453, R456). Log 82 (DEDUCED). -/
def Mach.beginSave (m : Mach) (kind : Nat) : Mach :=
  let ran := m.ran
  let m := { m with ret := { m.ret with savePend := none, gens := if ran then m.ret.gens + 1 else m.ret.gens } }
  let gen := m.ret.gens
  let n0 := m.ret.seq
  let m := if ran then foldM m.saveOrder (fun c m => m.putRec 0x10 0 (gen + c * 2 ^ 32) ((m.chunkBytes c).map m.retByte)) m else m
  let m := if kind = 0 then (m.finalFlush.putRec 0x25 0 m.csn m.pairNote).putRec 0x21 0 m.csn [] else m
  (if ran then m.saveChunks kind n0 else m).showRet

/-- What a save waits for: the application in progress, and that of SAVE for the activation request, which comes first (R256). -/
def Mach.saveWaits (m : Mach) (kind : Nat) : Bool := m.cu.app.isSome || (kind == 0 && m.upd.actPend.isSome)

/-- Ask for a save: it begins now, or when the application in progress has completed. A save in progress gives way to one of
another kind. Log 82 (DEDUCED). -/
def Mach.startSave (m : Mach) (kind : Nat) : Mach :=
  if m.saveWaits kind then { m with ret := { m.ret with savePend := some kind } } else m.beginSave kind

/-- A save that waited begins, if nothing holds it any more. -/
def Mach.resumeSave (m : Mach) : Mach :=
  match m.ret.savePend with
  | some k => if m.saveWaits k then m else m.beginSave k
  | none => m

/-- The RETCOMMIT of a save is valid (R453): its generation counts, and the dirty marks it has covered are cleared. -/
def Mach.saveCommitted (m : Mach) (s : Save) : Mach :=
  let m := (m.setFld R.RET_GEN s.gen).setFld64 R.RET_SAVET_LO s.reft
  let d := (m.now - s.since) / 10000
  let m := (m.setFld R.RET_SAVEDUR_LAST (min d 65535)).maxFld R.RET_SAVEDUR_MAX d
  let m := { m with ret := { m.ret with dirty := m.ret.dirty.filter (fun c => !s.chunks.contains c || s.again.contains c), save := none } }
  m.showRet.info 0x3505

/-- A record's marker has been programmed: what follows for the save it belongs to. -/
def Mach.saveRec (m : Mach) (seq : Nat) : Mach :=
  match m.ret.save with
  | none => m
  | some s =>
    if s.wait.contains seq then
      let w := s.wait.filter (fun x => x != seq)
      if s.commit && w.isEmpty then m.saveCommitted { s with wait := [] }
      else ({ m with ret := { m.ret with save := some { s with wait := w } } }).saveStep
    else m

/-- R466: the lines of a record fail program verification three times: its sector is retired, and the record is written anew. -/
def Mach.recFail (m : Mach) (seq : Nat) : Mach :=
  match m.ret.recs.find? (fun r => r.seq == seq && !r.done) with
  | none => m
  | some r =>
    let m := { m with ret := { m.ret with recs := m.ret.recs.filter (fun x => !(x.seq == seq && !x.done)) } }
    let m := m.retireSector r.sector
    let n := m.ret.seq
    let m := m.putRec r.ty r.arg r.key r.payload
    { m with ret := { m.ret with save := m.ret.save.map (fun s => { s with wait := s.wait.map (fun x => if x = seq then n else x) }) } }

/-! ### Parameter images (R458–R463) -/

/-- The newest valid image and its half (R461). -/
def Mach.newestImage (m : Mach) : Option (Nat × ParImage) :=
  match m.ret.half0, m.ret.half1 with
  | some a, some b => if a.num < b.num then some (1, b) else some (0, a)
  | some a, none => some (0, a)
  | none, some b => some (1, b)
  | none, none => none

/-- RET.PSTAT and RET.PIMG of the newest valid image. -/
def Mach.showImage (m : Mach) : Mach :=
  match m.newestImage with
  | none => ((m.setFlag R.RET_PSTAT_VALID false).setFld R.RET_PIMG 0).setFlag R.RET_PSTAT_LAYOUT false
  | some (h, i) => (((m.setFld R.RET_PSTAT_HALF h).setFlag R.RET_PSTAT_VALID true).setFld R.RET_PIMG i.num).setFlag
      R.RET_PSTAT_LAYOUT (i.digest == m.ret.parDigest)

/-- R459: is a byte of the array protected at the present level? -/
def Mach.parProtected (m : Mach) (off : Nat) : Bool :=
  let b := off / 2048
  match m.fld R.RET_PROT_LEVEL with
  | 1 => decide (96 ≤ b)
  | 2 => decide (64 ≤ b)
  | 3 => true
  | _ => false

/-- The mapped words with the array offset of each (R458). -/
def Mach.parWords (m : Mach) : List (Nat × Nat) :=
  m.ret.parMap.flatMap (fun (first, count, off) => (List.range count).map (fun i => (first + i, off + 4 * i)))

/-- R460: the content of a new image. -/
def Mach.parContent (m : Mach) (src : Nat) (client : SMap Byte) : SMap Byte :=
  let old : SMap Byte := ((m.newestImage).map (fun x => x.2.data)).getD []
  if src = 0 then
    (m.parWords).foldl (fun d (w, off) =>
      (List.range 4).foldl (fun d j =>
        if m.parProtected (off + j) then d
        else sset 0 d (off + j) (BitVec.ofNat 8 ((m.cell spW w).toNat / 2 ^ (8 * j)))) d) old
  else (client.filter (fun e => !m.parProtected e.1)).foldl (fun d e => sset 0 d e.1 e.2) (old.filter (fun e => m.parProtected e.1))

/-- R461: abandon a store in progress. Log 84 (DEDUCED). -/
def Mach.parAbandon (m : Mach) : Mach :=
  if m.ret.pstore.isSome then
    let m := { m with ret := { m.ret with pstore := none } }
    ((m.setFld R.RET_PSTAT_RESULT 6).showRet).note 0x3509
  else m

/-- R460: start a store; the target half is erased first. One that begins during a power-fail warning is abandoned at once (R461). Log 84 (DEDUCED). -/
def Mach.parStart (m : Mach) (src : Nat) (client : SMap Byte) : Mach :=
  let h := match m.newestImage with
    | some (0, _) => 1
    | _ => 0
  let num := (m.newestImage.map (fun x => x.2.num)).getD 0 + 1
  let i : ParImage := { num := num, src := src, digest := m.ret.parDigest, csn := m.appliedCsn, time := m.now, level := m.fld R.RET_PROT_LEVEL,
                        data := m.parContent src client }
  let ss := ((List.range 8).map (fun j => 8 * h + j)).filter (fun s => !(m.sector s).retired)
  let m := { m with ret := { m.ret with pstore := some ⟨h, ss, i⟩,
                                        half0 := if h = 0 then none else m.ret.half0,
                                        half1 := if h = 1 then none else m.ret.half1 } }
  let m := if m.warn.isSome then m.showImage.parAbandon else match ss with
    | x :: _ => if m.ret.erase.isNone then m.startErase x else m
    | [] => m
  m.showImage.showRet

/-- R459: change the protect level, with its record. -/
def Mach.setProtect (m : Mach) (l : Nat) : Mach :=
  if m.fld R.RET_PROT_LEVEL = l then m else ((m.setFld R.RET_PROT_LEVEL l).putRec 0x23 l 0 []).info 0x350B

/-- R459: raising is always allowed; lowering only in STOP. -/
def Mach.mayProtect (m : Mach) (l : Nat) : Bool := decide (l ≤ 3) && (decide (m.fld R.RET_PROT_LEVEL ≤ l) || m.st == .stop)

/-! ### Restoring (R193, R194, R455) -/

/-- The chunks that hold retained bytes. -/
def Mach.retChunks (m : Mach) : List Nat :=
  (m.ret.ranges.flatMap (fun r =>
    let s := retSpan r.1 r.2.1 r.2.2
    (List.range ((s.2 + 1023) / 1024 - s.1 / 1024)).map (fun i => s.1 / 1024 + i))).eraseDups

/-- Restore one chunk from its newest record. -/
def Mach.restoreChunk (m : Mach) (g c : Nat) : Mach :=
  match m.newestChunk c g with
  | none => m
  | some r => foldM ((m.chunkBytes c).zip r.payload) (fun x m => m.setRetByte x.1 x.2) m

/-- Why a restore is not possible (R455), or the newest generation's RETCOMMIT. `bad` tells that the scan found a record needed for
the newest generation failing R447. Log 28 (DEDUCED). -/
def Mach.restoreFrom (m : Mach) (bad : Bool) : Except Nat Rec :=
  match m.newestCommit with
  | none => .error 0x3503
  | some r => if fieldAt r.payload 0 8 ≠ m.ret.layout.toNat then .error 0x3502 else if bad then .error 0x3504 else .ok r

end Sys2Proof.Machine
end

