-- ==== Sys2Proof/Machine/BayOps.lean ====
section
/-!
DEFINITION. The bay buses' shared operations: transmit and receive buffers (R353–R356), output frames (R333, R334, R344), the life of
a station (R342, R343, R347–R349, R594, R595) and violations (R351, R352).
-/
namespace Sys2Proof.Machine
open Sys2Proof

def Mach.bay (m : Mach) (c : Nat) : Bay := sget {} m.bays c
def Mach.setBay (m : Mach) (c : Nat) (x : Bay) : Mach := { m with bays := sset {} m.bays c x }

/-- The station s (1–16) of channel c. -/
def Mach.sta (m : Mach) (c s : Nat) : Station := sget {} m.stas (16 * c + (s - 1))
def Mach.setSta (m : Mach) (c s : Nat) (x : Station) : Mach := { m with stas := sset {} m.stas (16 * c + (s - 1)) x }

/-- BBc.STAs.STAT.STATE of station s. -/
def Mach.staState (m : Mach) (c s : Nat) : Nat := m.fld (R.BB_STA_STAT_STATE c (s - 1))

/-- States of R347. -/
def ssAbsent : Nat := 1
def ssIdent : Nat := 2
def ssConfig : Nat := 3
def ssSync : Nat := 4
def ssImage : Nat := 5
def ssOnline : Nat := 6
def ssIsolated : Nat := 7

/-- The stations. -/
def allStations : List Nat := (List.range 16).map (· + 1)

/-- The side of the module (0 A, 1 B). -/
def Mach.side (m : Mach) : Nat := m.fld R.PRT_STAT_SIDE

/-- Is the channel on the bus: error-active or error-passive? -/
def Mach.bayOn (m : Mach) (c : Nat) : Bool := m.fld (R.BB_STAT_STATE c) == 1 || m.fld (R.BB_STAT_STATE c) == 2

/-- Enter a channel state (BBc.STAT.STATE); I:4288 + c shows error-active (R183). -/
def Mach.setBayState (m : Mach) (c s : Nat) : Mach := (m.setFld (R.BB_STAT_STATE c) s).stat (4288 + c) (s == 1)

/-! ### Transmit buffers (R355) -/

/-- The payload of transmit buffer n. -/
def Mach.txData (m : Mach) (c n : Nat) : List Byte :=
  ((List.range 16).flatMap (fun i => leBytes 4 (m.rget (R.BB_TXBUF_DATA c n i).addr).toNat)).take (m.fld (R.BB_TXBUF_CTRL_LEN c n))

/-- Fill a transmit buffer and request its transmission. -/
def Mach.txFill (m : Mach) (c n id : Nat) (data : List Byte) : Mach :=
  let m := foldM (List.range 16) (fun i m => m.rset (R.BB_TXBUF_DATA c n i).addr (BitVec.ofNat 32 (fieldAt data (4 * i) 4))) m
  ((m.setFld (R.BB_TXBUF_ID c n) id).setFld (R.BB_TXBUF_CTRL_LEN c n) data.length).setFlag (R.BB_TXBUF_CTRL_REQ c n) true

/-- Buffers with a request whose frame has not begun. -/
def Mach.txWaiting (m : Mach) (c : Nat) : List Nat :=
  (List.range 32).filter (fun n => m.flag (R.BB_TXBUF_CTRL_REQ c n) && !m.flag (R.BB_TXBUF_CTRL_BUSY c n))

/-- R355: the next buffer offered to the bus: the lowest identifier, then the lowest number. -/
def Mach.txNext (m : Mach) (c : Nat) : Option Nat :=
  (m.txWaiting c).foldl (fun b n => match b with
    | none => some n
    | some k => if m.fld (R.BB_TXBUF_ID c n) < m.fld (R.BB_TXBUF_ID c k) then some n else some k) none

/-- A free channel begins the next frame. -/
def Mach.txKick (m : Mach) (c : Nat) : Mach :=
  if m.bayOn c && (m.bay c).bus.isNone then
    match m.txNext c with
    | some n => (m.setFlag (R.BB_TXBUF_CTRL_BUSY c n) true).setBay c { m.bay c with bus := some n }
    | none => m
  else m

/-- A free transmit buffer. -/
def Mach.txFree (m : Mach) (c : Nat) : Option Nat :=
  (List.range 32).find? (fun n => !m.flag (R.BB_TXBUF_CTRL_REQ c n) && !m.flag (R.BB_TXBUF_CTRL_BUSY c n))

/-- The supervisor queues a frame: in the lowest free transmit buffer, or behind them. -/
def Mach.canSend (m : Mach) (c id : Nat) (data : List Byte) : Mach :=
  match m.txFree c with
  | some n => (m.txFill c n id data).txKick c
  | none => m.setBay c { m.bay c with txq := (m.bay c).txq ++ [(id, data)] }

/-- A request ends without its frame: CNCL. -/
def Mach.txGone (m : Mach) (c n : Nat) : Mach := (m.setFlag (R.BB_TXBUF_CTRL_REQ c n) false).setFlag (R.BB_TXBUF_CTRL_CNCL c n) true

/-- R355: withdraw a request whose frame has not begun. One whose frame has begun is withdrawn only if the frame loses arbitration. -/
def Mach.txCancel (m : Mach) (c n : Nat) : Mach :=
  if m.flag (R.BB_TXBUF_CTRL_REQ c n) then
    if (m.bay c).bus = some n then m.setBay c { m.bay c with cancel := true }
    else m.txGone c n
  else m

/-- Does a frame with an identifier wait? -/
def Mach.txHas (m : Mach) (c id : Nat) : Bool :=
  (m.txWaiting c).any (fun n => m.fld (R.BB_TXBUF_ID c n) == id) || (m.bay c).txq.any (fun f => f.1 == id)

/-- A frame waiting for a buffer takes the lowest free one. -/
def Mach.txRefill (m : Mach) (c : Nat) : Mach :=
  match (m.bay c).txq, m.txFree c with
  | (id, d) :: rest, some n => (m.setBay c { m.bay c with txq := rest }).txFill c n id d
  | _, _ => m

/-- Cancel every frame with one of some identifiers; the frames waiting behind the buffers move up. -/
def Mach.txDrop (m : Mach) (c : Nat) (ids : List Nat) : Mach :=
  let m := foldM ((List.range 32).filter (fun n => ids.contains (m.fld (R.BB_TXBUF_ID c n)))) (fun n m => m.txCancel c n) m
  let m := m.setBay c { m.bay c with txq := (m.bay c).txq.filter (fun f => !ids.contains f.1) }
  foldM (List.range 32) (fun _ m => m.txRefill c) m

/-- The frame on the bus has gone from it unsent: it waits again, or has been cancelled (R355). Log 111 (DEDUCED). -/
def Mach.txLost (m : Mach) (c : Nat) : Mach :=
  match (m.bay c).bus with
  | none => m
  | some n =>
    let m := m.setFlag (R.BB_TXBUF_CTRL_BUSY c n) false
    let m := if (m.bay c).cancel then m.txGone c n else m
    (m.setBay c { m.bay c with bus := none, cancel := false }).txRefill c

/-- The frame in progress has ended: a switch-off that waited takes effect, or ends where EN has been set again (R356). -/
def Mach.frameEnd (m : Mach) (c : Nat) : Mach :=
  if (m.bay c).offPend then
    let m := (m.setBay c { m.bay c with offPend := false }).setFlag (R.BB_STAT_ENPEND c) false
    if m.flag (R.BB_CFG_EN c) then m.txKick c else m.setBayState c 0
  else m.txKick c

/-- Another node's frame has come over the bus: a frame of this module that was offered has lost arbitration (R355). Log 111 (DEDUCED). -/
def Mach.lostArb (m : Mach) (c : Nat) : Mach := if (m.bay c).bus.isSome then (m.txLost c).frameEnd c else m

/-! ### Identifiers (R328) -/

def idRef (side : Nat) : Nat := 0x010 + side
def idOutu (s side : Nat) : Nat := 0x040 + 2 * (s - 1) + side
def idEvt (s : Nat) : Nat := 0x080 + s
def idOutr (s side : Nat) : Nat := 0x100 + 2 * (s - 1) + side
def idSts (s : Nat) : Nat := 0x180 + s
def idSvc (s : Nat) : Nat := 0x200 + 2 * (s - 1)
def idHb (side : Nat) : Nat := 0x7F0 + side

/-- The identifiers of this module's output frames to a station, and all that it addresses to it. -/
def Mach.idsOut (m : Mach) (s : Nat) : List Nat := [idOutu s m.side, idOutr s m.side]
def Mach.idsTo (m : Mach) (s : Nat) : List Nat := m.idsOut s ++ [idSvc s]

/-- Cancel every output frame that waits (R275). -/
def Mach.stopOutputs (m : Mach) : Mach := foldM [0, 1] (fun c m => m.txDrop c (allStations.flatMap m.idsOut)) m

/-- Cancel every frame that only a token holder sends, with the FOLLOW-UP in hand (R346, R594), and heartbeats where `hb` says so. Log 64 (DEDUCED). -/
def Mach.stopFrames (m : Mach) (hb : Bool) : Mach :=
  foldM [0, 1] (fun c m =>
    let m := m.setBay c { m.bay c with sync := none }
    m.txDrop c (idRef m.side :: (if hb then [idHb m.side] else []) ++ allStations.flatMap m.idsTo)) m

/-! ### Receive buffers (R353) -/

/-- A frame as received: identifier, payload and captured start of frame. Log 62 (DESIGN CHOICE). -/
def Mach.rxMatches (m : Mach) (c n id : Nat) : Bool :=
  m.flag (R.BB_RXBUF_FILT_EN c n) &&
    (m.fld (R.BB_RXBUF_FILT_ID c n) &&& m.fld (R.BB_RXBUF_FILT_MASK c n)) == (id &&& m.fld (R.BB_RXBUF_FILT_MASK c n))

/-- R353: the buffer a received frame goes into; none when no enabled filter matches. -/
def Mach.rxBuf (m : Mach) (c id : Nat) : Option Nat :=
  let ns := (List.range 64).filter (fun n => m.rxMatches c n id)
  match ns.find? (fun n => !m.flag (R.BB_RXBUF_CTRL_NEWDAT c n)) with
  | some n => some n
  | none => ns.getLast?

/-- Does the station protocol run (R594)? -/
def Mach.bayRuns (m : Mach) : Bool := m.st == .stop || m.st == .run

/-- Store a received frame. Where the protocol runs, the supervisor takes it and releases NEWDAT at once (R354); elsewhere nobody reads the
buffers. It tells whether a buffer took the frame. Log 62 (DESIGN CHOICE). -/
def Mach.rxStore (m : Mach) (c id sof : Nat) (data : List Byte) : Bool × Mach :=
  let m := m.addFld (R.BB_RXCNT c) 1
  match m.rxBuf c id with
  | none => (false, m.satFld (R.BB_VIOL_MALF c) 1)
  | some n =>
    let m := if m.flag (R.BB_RXBUF_CTRL_NEWDAT c n) then (m.setFlag (R.BB_RXBUF_CTRL_OVR c n) true).note (0x33C8 + c) else m
    let m := foldM (List.range 16) (fun i m => m.rset (R.BB_RXBUF_DATA c n i).addr (BitVec.ofNat 32 (fieldAt data (4 * i) 4))) m
    let m := ((m.setFld (R.BB_RXBUF_ID_ID c n) id).setFld64 (R.BB_RXBUF_TS_LO c n) sof).setFld (R.BB_RXBUF_CTRL_LEN c n) data.length
    let m := (m.setFlag (R.BB_RXBUF_CTRL_FD c n) true).setFlag (R.BB_RXBUF_CTRL_BRS c n) true
    (true, (m.addFld (R.BB_RXBUF_CTRL_WCNT c n) 2).setFlag (R.BB_RXBUF_CTRL_NEWDAT c n) (!m.bayRuns))

/-! ### Who runs the protocol (R346, R347, R594) -/

/-- Does the module run the life of the stations as token holder (R347)? -/
def Mach.holderRun (m : Mach) : Bool := m.st == .run && m.hasToken

/-- Does the token holder drive: its output frames and its GOOSE publication stop while it has sent no renewal for a lease (R275)? -/
def Mach.drives (m : Mach) : Bool := m.holderRun && !m.pair.fenced

/-- Does the module send output frames on its side: the holder, or a FOLLOW module in twin-tone mode (R295, R296)? -/
def Mach.sendsOutputs (m : Mach) : Bool :=
  m.drives || (m.st == .run && m.isFollow && m.flag R.PRT_CFG_TWIN)

/-- The event code of a station (R357). -/
def staCode (k c s : Nat) : Nat := 0x3300 + 0x20 * k + 0x10 * c + (s - 1)

/-- First input and first output of a station (R178, R180). -/
def staIn (c s : Nat) : Nat := (if c = 0 then 128 else 1152) + 64 * (s - 1)
def staOut (c s : Nat) : Nat := (if c = 0 then 32 else 544) + 32 * (s - 1)

/-- The status bit of a station: ONLINE and reported synchronised (R348). -/
def Mach.showSta (m : Mach) (c s : Nat) : Mach :=
  m.stat ((if c = 0 then 4255 else 4271) + s) (m.staState c s == ssOnline && m.flag (R.BB_STA_STAT_SYNC c (s - 1)))

/-- Enter a station state. -/
def Mach.setStaState (m : Mach) (c s st : Nat) : Mach :=
  ((m.setFld (R.BB_STA_STAT_STATE c (s - 1)) st).setSta c s { m.sta c s with since := m.now, exch := none }).showSta c s

/-! ### Output frames (R333, R334, R344, R345) -/

/-- The output word of a station in the image. -/
def Mach.staWord (m : Mach) (c s : Nat) : BitVec 32 := bits32 (fun j => m.bit spQ (staOut c s + j))

/-- An output frame (R333): `flags` without the side, the CSN, the word and the apply time. -/
def Mach.outFrame (m : Mach) (c s flags csn apply : Nat) : List Byte :=
  let body := leBytes 1 s ++ leBytes 6 csn ++ leBytes 4 (m.staWord c s).toNat
  leBytes 1 (m.side + flags) ++ body ++ leBytes 8 apply ++ leBytes 4 (crc32 body).toNat

/-- R344: queue the urgent frame of a commit for a station, in place of one that waits. -/
def Mach.sendOutu (m : Mach) (c s csn snapTime : Nat) : Mach :=
  let d := m.fld (R.BB_STA_CFG_APPLYDLY c (s - 1))
  let m := m.txDrop c [idOutu s m.side]
  m.canSend c (idOutu s m.side) (m.outFrame c s 0 csn (if d = 0 then 0 else snapTime + d * 10000))

/-- The stations that receive output frames: IMAGE or ONLINE (R345, R346). -/
def Mach.staSends (m : Mach) (c s : Nat) : Bool := m.staState c s == ssImage || m.staState c s == ssOnline

/-- R344: the urgent frames of a commit, for every station whose Q bits changed. -/
def Mach.sendChanged (m : Mach) (qs : List Nat) (csn snapTime : Nat) : Mach :=
  if m.sendsOutputs then
    foldM [0, 1] (fun c m => foldM allStations (fun s m =>
      if m.staSends c s && qs.any (fun q => decide (staOut c s ≤ q ∧ q < staOut c s + 32)) then m.sendOutu c s csn snapTime else m) m) m
  else m

/-! ### Exchanges (R339, R347, R595) -/

/-- The CFGCRC of a configuration (R339): over its items in ascending PARAM order. -/
def cfgCrc (items : List (Nat × Nat)) : Nat :=
  (crc32 (items.flatMap (fun i => leBytes 2 i.1 ++ leBytes 2 0 ++ leBytes 4 i.2))).toNat

/-- A service request (R339). -/
def Mach.sendSvc (m : Mach) (c s cmd tag count : Nat) (data : List Byte) : Mach :=
  let f := leBytes 1 cmd ++ leBytes 1 s ++ leBytes 1 tag ++ leBytes 1 count ++ data
  m.canSend c (idSvc s) (f ++ List.replicate (64 - f.length) 0)

/-- Send the request of an exchange: a new attempt (R595). -/
def Mach.attempt (m : Mach) (c s : Nat) (x : Exch) : Mach :=
  let st := m.sta c s
  let tag := (st.tag + 1) % 256
  let x := { x with tag := tag, since := m.now }
  let m := m.setSta c s { st with exch := some x, tag := tag, image := if x.kind = 3 then m.appliedCsn else st.image }
  match x.kind with
  | 0 => m.sendSvc c s 1 tag 0 []
  | 1 => m.sendSvc c s 2 tag x.items.length (x.items.flatMap (fun i => leBytes 2 i.1 ++ leBytes 2 0 ++ leBytes 4 i.2))
  | 2 => m.sendSvc c s 3 tag 0 (leBytes 4 (cfgCrc st.items))
  | 3 => m.canSend c (idOutr s m.side) (m.outFrame c s 6 m.appliedCsn 0)
  | _ => m.sendSvc c s 4 tag 0 (leBytes 6 st.image)

/-- Begin an exchange. -/
def Mach.exchange (m : Mach) (c s kind : Nat) (items left : List (Nat × Nat)) : Mach :=
  m.attempt c s ⟨kind, 0, 0, 1, items, left⟩

/-- The next step of a configuration: SETPAR frames of at most 7 items, then CFGEND (R347). -/
def Mach.nextConfig (m : Mach) (c s : Nat) (left : List (Nat × Nat)) : Mach :=
  if left.isEmpty then m.exchange c s 2 [] [] else m.exchange c s 1 (left.take 7) (left.drop 7)

/-- R595: an attempt has failed: repeat the request, or after the third return to ABSENT. -/
def Mach.exchFail (m : Mach) (c s : Nat) : Mach :=
  match (m.sta c s).exch with
  | none => m
  | some x => if x.n < 3 then m.attempt c s { x with n := x.n + 1 } else m.setStaState c s ssAbsent

/-- Enter IMAGE with the complete-image frame (R347, R348). -/
def Mach.startImage (m : Mach) (c s : Nat) : Mach := (m.setStaState c s ssImage).exchange c s 3 [] []

/-- Journal an entry for each of the 32 outputs of a station (R347, R349): UNCONF 0x23 or CONF 0x24. -/
def Mach.staEntries (m : Mach) (c s kind : Nat) : Mach :=
  foldM (List.range 32) (fun j m => m.journal m.now (0x2000 + staOut c s + j) kind ((m.bit spQ (staOut c s + j)).toNat + m.degraded)) m

/-- A station reports itself synchronised or not: the fault is raised in ONLINE only, and cleared in any state (R357, c = 5). -/
def Mach.staSync (m : Mach) (c s : Nat) (synced : Bool) : Mach :=
  let m := m.setFlag (R.BB_STA_STAT_SYNC c (s - 1)) synced
  let m :=
    if synced then m.clear (staCode 5 c s) 0 1
    else if m.staState c s != ssOnline || m.faultOn (staCode 5 c s) then m
    else m.raise (staCode 5 c s) 0 1
  m.showSta c s

/-- A station becomes ONLINE (R347, R357): the dropout of the same station is cleared. -/
def Mach.staOnline (m : Mach) (c s : Nat) : Mach :=
  let m := m.setStaState c s ssOnline
  let m := ({ m with faults := m.faults.filter (fun f => !(f == (staCode 0 c s, 0, 1))) }).sysEvent (staCode 1 c s) 0x31 false
  let m := m.showFaults
  m.staSync c s (m.flag (R.BB_STA_STAT_SYNC c (s - 1)))

/-- The inputs of a station at a condition: value from `v`, quality from `q`, one change (R189). -/
def Mach.staInputs (m : Mach) (c s stamp : Nat) (js : List Nat) (v : Nat → Bool) (q : Nat → Nat) (unsync : Bool) : Mach :=
  m.source (js.map (fun j => { idx := staIn c s + j, v := v j, q := q j, stamp := stamp, unsync := unsync }))

/-- R349: a station drops out. Log 61 (DEDUCED). -/
def Mach.dropout (m : Mach) (c s next : Nat) : Mach :=
  let x := m.sta c s
  let m := m.source ((List.range 64).map (fun j =>
    if x.subMask.getLsbD j then { idx := staIn c s + j, v := x.subVal.getLsbD j, q := 2, stamp := m.now, subst := true }
    else { idx := staIn c s + j, v := (m.pt (staIn c s + j)).rv, q := 1, stamp := m.now }))
  let m := (m.txDrop c (m.idsTo s)).staEntries c s 0x23
  let m := if m.faultOn (staCode 0 c s) then m else m.raise (staCode 0 c s) 0 1
  let m := (m.clear (staCode 5 c s) 0 1).satFld (R.BB_STA_STAT_DROPS c (s - 1)) 1
  let m := m.setStaState c s next
  m.setSta c s { m.sta c s with heard := none, seqFixed := false, written := false, exch := none, viol := [] }

/-! ### Violations (R351, R352) -/

/-- Count a violation of a station, one that the package does not configure included (R347). Log 59 (DEDUCED). -/
def Mach.staViol (m : Mach) (c s : Nat) : Mach :=
  if m.staState c s != ssIsolated then
    let v := ((m.sta c s).viol.filter (fun t => decide (m.now < t + 1000000000))) ++ [m.now]
    m.setSta c s { m.sta c s with viol := v }
  else m

/-- A malformed frame: counted, with its event at most once per second (R351). Log 59 (DEDUCED). -/
def Mach.malformed (m : Mach) (c : Nat) : Mach :=
  let m := m.satFld (R.BB_VIOL_MALF c) 1
  let due := match (m.bay c).malfAt with
    | some t => decide (t + 1000000000 ≤ m.now)
    | none => true
  if due then (m.setBay c { m.bay c with malfAt := some m.now }).note (0x33C4 + c) else m

/-- A frame of an unconfigured station: its event at most once per minute (R351). Log 59 (DEDUCED). -/
def Mach.unconfigured (m : Mach) (c : Nat) : Mach :=
  let due := match (m.bay c).unconfAt with
    | some t => decide (t + 60000000000 ≤ m.now)
    | none => true
  if due then (m.setBay c { m.bay c with unconfAt := some m.now }).note (0x33C6 + c) else m

/-! ### Frames from stations (R336–R343) -/

/-- Is ESEQ a later than b, modulo 2^16 (R342)? -/
def eseqLater (a b : Nat) : Bool :=
  let d := (a + 65536 - b) % 65536
  decide (1 ≤ d ∧ d ≤ 32767)

/-- One event record (R336): stamp, ESEQ, input, value and quality. -/
structure EvtRec where
  time : Nat
  eseq : Nat
  input : Nat
  vq : Nat
  deriving DecidableEq, Repr

/-- The records of an EVT payload. -/
def evtRecs (d : List Byte) : List EvtRec :=
  (List.range (byteAt d 2)).map (fun i => ⟨fieldAt d (4 + 12 * i) 8, fieldAt d (12 + 12 * i) 2, byteAt d (14 + 12 * i), byteAt d (15 + 12 * i)⟩)

/-- Records of equal TIME, in the order of the first of each: one indivisible change each (R342). -/
def sameTime : Nat → List EvtRec → List (List EvtRec)
  | 0, _ => []
  | _, [] => []
  | n + 1, r :: rs => (r :: rs.filter (fun x => x.time == r.time)) :: sameTime n (rs.filter (fun x => x.time != r.time))

/-- Accept a record by its ESEQ (R342): it tells whether the record is to be written. -/
def Mach.evtAccept (m : Mach) (c s : Nat) (r : EvtRec) : Bool × Mach :=
  let x := m.sta c s
  if !x.seqFixed then (false, m)
  else if eseqLater r.eseq (m.fld (R.BB_STA_ESEQ_LAST c (s - 1))) then
    (x.written, m.setFld (R.BB_STA_ESEQ_LAST c (s - 1)) r.eseq)
  else (false, m.satFld (R.BB_STA_ESEQ_DUP c (s - 1)) 1)

/-- Accept records in order and collect those to be written; a record with INPUT above 63 is a violation of its own (R351). -/
def Mach.evtAcceptAll (m : Mach) (c s : Nat) : List EvtRec → List EvtRec × Mach
  | [] => ([], m)
  | r :: rs =>
    if 63 < r.input then ((m.satFld (R.BB_VIOL_MALF c) 1).staViol c s).evtAcceptAll c s rs
    else
      let (w, m) := m.evtAccept c s r
      let (ws, m) := m.evtAcceptAll c s rs
      (if w then r :: ws else ws, m)

/-- An EVT frame of a station that is not isolated (R342). -/
def Mach.evt (m : Mach) (c s : Nat) (d : List Byte) : Mach :=
  let synced := (byteAt d 0).testBit 0
  let m := m.setSta c s { m.sta c s with heard := some m.now }
  let m := m.staSync c s synced
  let (rs, m) := m.evtAcceptAll c s (evtRecs d)
  foldM (sameTime rs.length rs) (fun g m =>
    m.source (g.map (fun r => { idx := staIn c s + r.input, v := r.vq.testBit 0, q := r.vq / 2 % 4, stamp := r.time,
                                unsync := !synced || r.vq.testBit 3 }))) m

/-- Value and quality of input j in an STS payload (R337). -/
def stsIn (d : List Byte) (j : Nat) : Bool := (fieldAt d 4 8).testBit j
def stsQ (d : List Byte) (j : Nat) : Nat := fieldAt d 12 16 / 4 ^ j % 4

/-- Write all 64 inputs of a station from an STS as one change (R348, R594). -/
def Mach.stsWriteAll (m : Mach) (c s sof : Nat) (d : List Byte) : Mach :=
  let m := m.setSta c s { m.sta c s with written := true }
  m.staInputs c s sof (List.range 64) (stsIn d) (stsQ d) (!(byteAt d 0).testBit 0)

/-- R343: an STS with another ESEQ is authoritative for the station's inputs. -/
def Mach.stsRepair (m : Mach) (c s sof : Nat) (d : List Byte) : Mach :=
  let m := m.staInputs c s sof ((List.range 64).filter (fun j =>
      (m.pt (staIn c s + j)).sv != stsIn d j || (m.pt (staIn c s + j)).sq != stsQ d j)) (stsIn d) (stsQ d) true
  (m.setFld (R.BB_STA_ESEQ_LAST c (s - 1)) (fieldAt d 2 2)).note (staCode 2 c s)

/-- What an STS shows in the registers, with the counts it reports (R335, R357). -/
def Mach.stsShow (m : Mach) (c s : Nat) (d : List Byte) : Mach :=
  let fl := byteAt d 0
  let m := (m.setFlag (R.BB_STA_STAT_OUTEN c (s - 1)) (fl.testBit 1)).setFlag (R.BB_STA_STAT_FAILSAFE c (s - 1)) (fl.testBit 2)
  let m := m.setFld (R.BB_STA_ACSN c (s - 1)) (fieldAt d 28 4)
  let dis := fieldAt d 34 2
  let m := if m.fld (R.BB_STA_CFG_DISAG c (s - 1)) < dis then m.raise (staCode 4 c s) 0 1 else m
  let m := m.setFld (R.BB_STA_CFG_DISAG c (s - 1)) dis
  let late := fieldAt d 40 2
  let m := if (m.sta c s).late < late then m.note (0x33CA + c) else m
  m.setSta c s { m.sta c s with late := late, heard := some m.now }

/-- An STS frame of a station that is not isolated (R343, R347, R348, R594). -/
def Mach.sts (m : Mach) (c s sof : Nat) (d : List Byte) : Mach :=
  let m := m.stsShow c s d
  let synced := (byteAt d 0).testBit 0
  let eseq := fieldAt d 2 2
  let x := m.sta c s
  let m :=
    if !x.seqFixed then (m.setFld (R.BB_STA_ESEQ_LAST c (s - 1)) eseq).setSta c s { x with seqFixed := true }
    else if m.fld (R.BB_STA_ESEQ_LAST c (s - 1)) = eseq then m
    else m.stsRepair c s sof d
  let m := m.staSync c s synced
  let st := m.staState c s
  if m.holderRun then
    if st = ssAbsent ∧ (m.sta c s).retryAt.isNone then (m.setStaState c s ssIdent).exchange c s 0 [] []
    else if st = ssSync ∧ synced then m.startImage c s
    else if st = ssImage then
      let acsn := fieldAt d 28 6
      match (m.sta c s).exch with
      | some e =>
        if e.kind = 3 ∧ (acsn = (m.sta c s).image ∨ csnLater acsn (m.sta c s).image) then
          (m.stsWriteAll c s sof d).exchange c s 4 [] []
        else m
      | none => m
    else m
  else if st = ssAbsent then (m.stsWriteAll c s sof d).staOnline c s
  else m

/-- A response to a service request (R339, R347, R595). Log 63 (DEDUCED). -/
def Mach.svcResponse (m : Mach) (c s : Nat) (d : List Byte) : Mach :=
  let m := m.setSta c s { m.sta c s with heard := some m.now }
  let cmd := byteAt d 0
  let status := byteAt d 3
  match (m.sta c s).exch with
  | none => m.staViol c s
  | some x =>
    let want := match x.kind with
      | 0 => 0x81
      | 1 => 0x82
      | 2 => 0x83
      | _ => 0x84
    if cmd ≠ want ∨ byteAt d 2 ≠ x.tag ∨ x.kind = 3 then m.staViol c s
    else if status ≠ 0 ∧ status ≠ 2 ∧ status ≠ 3 then m.exchFail c s
    else
      match x.kind with
      | 0 => if fieldAt d 16 4 = cfgCrc (m.sta c s).items then m.setStaState c s ssSync
             else (m.setStaState c s ssConfig).nextConfig c s (m.sta c s).items
      | 4 => if status = 0 then (m.staEntries c s 0x24).staOnline c s else m
      | k =>
        if status = 0 then (if k = 1 then m.nextConfig c s x.left else m.setStaState c s ssSync)
        else
          let m := m.raise (0x33CC + c) s 1
          let m := m.setStaState c s ssAbsent
          m.setSta c s { m.sta c s with retryAt := some (m.now + 10000000000) }

/-! ### Leaving and entering RUN (R594) -/

/-- R594: the protocol begins: every configured station's silence counts from now (R347). Log 61 (DEDUCED). -/
def Mach.bayBegin (m : Mach) (c : Nat) : Mach :=
  foldM allStations (fun s m => if (m.sta c s).conf then m.setSta c s { m.sta c s with heard := some m.now } else m) m

/-- R594: what leaving RUN does to the stations in the module's tracking, and to the frames that wait. Log 64 (DEDUCED). -/
def Mach.bayLeaveRun (m : Mach) : Mach :=
  let m := m.stopFrames false
  foldM [0, 1] (fun c m => foldM allStations (fun s m =>
    let st := m.staState c s
    if ssIdent ≤ st ∧ st ≤ ssImage then m.setStaState c s ssAbsent else m) m) m

/-- R594: a module enters RUN as token holder: stations tracked ONLINE enter SYNC. -/
def Mach.bayEnterRun (m : Mach) : Mach :=
  foldM [0, 1] (fun c m => foldM allStations (fun s m =>
    if m.staState c s = ssOnline then m.setStaState c s ssSync else m) m) m

/-- R356, R594: a channel goes on; the supervisor's receive buffers accept every identifier. Log 62 (DESIGN CHOICE). -/
def Mach.bayEnable (m : Mach) (c : Nat) : Mach :=
  let m := m.setFlag (R.BB_CFG_EN c) true
  let m := foldM (List.range 64) (fun n m => m.rset (R.BB_RXBUF_FILT c n).addr 0x80000000#32) m
  if m.bayOn c then m else m.setBayState c 1

/-- A reference frame (R330). -/
def Mach.refFrame (m : Mach) (ty rseq time : Nat) : List Byte :=
  leBytes 1 ty ++ leBytes 1 (m.side + 2 * m.fld R.TB_STAT_TQ + 8 * (m.pt 4236).sv.toNat) ++ leBytes 2 rseq ++
    leBytes 4 (m.fld R.PRT_EPOCH) ++ leBytes 8 time

/-- A heartbeat (R331). -/
def Mach.hbFrame (m : Mach) : List Byte :=
  leBytes 1 (m.side + 2 * m.hasToken.toNat + 4 * m.role + 16 * (m.st.code % 8) + 128 * (m.flag R.PRT_CFG_TWIN).toNat) ++ leBytes 1 0 ++
    leBytes 2 (m.fld R.PRT_CFG_LEASE) ++ leBytes 4 (m.fld R.PRT_EPOCH) ++
    leBytes 4 (if m.hasToken then m.fld R.PRT_RNWTX else m.fld R.PRT_RNWRX) ++ leBytes 4 (m.csn % 2 ^ 32)

/-- Send a heartbeat on every configured channel that is on (R332). -/
def Mach.sendHeartbeats (m : Mach) : Mach :=
  foldM [0, 1] (fun c m => if m.flag (R.BB_CFG_CONF c) && m.bayOn c then m.canSend c (idHb m.side) m.hbFrame else m) m

end Sys2Proof.Machine
end

