-- ==== Sys2Proof/Machine/TimeOps.lean ====
section
/-!
DEFINITION. Time keeping: the civil calendar, steps of the time base (R388), sources and their selection (R390–R392), discipline and
time quality (R393, R400), the UTC offset and leap seconds (R402, R403), IRIG-B and PPS (R397–R399), the calendar with its
holding sets and alarms (R404–R408), the timing outputs (R409), and PD0's supply (R410, R411).
-/
namespace Sys2Proof.Machine
open Sys2Proof

/-! ### The civil calendar -/

/-- Days from 1970-01-01 to a date of the Gregorian calendar. -/
def daysOf (y mon d : Nat) : Nat :=
  let y' := if mon ≤ 2 then y - 1 else y
  let yoe := y' % 400
  let doy := (153 * ((mon + 9) % 12) + 2) / 5 + d - 1
  y' / 400 * 146097 + (yoe * 365 + yoe / 4 - yoe / 100 + doy) - 719468

/-- Year, month and day of a number of days since 1970-01-01. -/
def civilOf (days : Nat) : Nat × Nat × Nat :=
  let z := days + 719468
  let doe := z % 146097
  let yoe := (doe - doe / 1460 + doe / 36524 - doe / 146096) / 365
  let doy := doe - (365 * yoe + yoe / 4 - yoe / 100)
  let mp := (5 * doy + 2) / 153
  let mon := if mp < 10 then mp + 3 else mp - 9
  (z / 146097 * 400 + yoe + (if mon ≤ 2 then 1 else 0), mon, doy - (153 * mp + 2) / 5 + 1)

/-- ISO weekday of a number of days since 1970-01-01, a Thursday. -/
def wdayOf (days : Nat) : Nat := (days + 3) % 7 + 1

/-- The calendar of a number of UTC seconds since 1970-01-01. -/
def calOf (secs : Nat) : Cal :=
  let d := secs / 86400
  let s := secs % 86400
  let (y, mon, day) := civilOf d
  { sec := s % 60, min := s / 60 % 60, hour := s / 3600, day := day, mon := mon, year := y, wday := wdayOf d }

/-- UTC seconds since 1970-01-01 of a calendar (second 60 counts as the second after 59). -/
def Cal.secs (c : Cal) : Nat := daysOf c.year c.mon c.day * 86400 + c.hour * 3600 + c.min * 60 + c.sec

/-- Days of a month. -/
def monthDays (y mon : Nat) : Nat :=
  if mon = 2 then (if y % 4 = 0 ∧ (y % 100 ≠ 0 ∨ y % 400 = 0) then 29 else 28)
  else if mon = 4 ∨ mon = 6 ∨ mon = 9 ∨ mon = 11 then 30 else 31

/-- Do the fields form a valid date and time (R404, R407)? -/
def Cal.valid (c : Cal) : Bool :=
  decide (c.sec ≤ 60 ∧ c.min ≤ 59 ∧ c.hour ≤ 23 ∧ 1 ≤ c.mon ∧ c.mon ≤ 12 ∧ 1970 ≤ c.year ∧ c.year ≤ 2199 ∧
    1 ≤ c.day ∧ c.day ≤ monthDays c.year c.mon)

/-! ### UTC (R387, R402) -/

/-- A 16-bit two's complement number. -/
def sint16 (v : Nat) : Int := if v % 65536 < 32768 then Int.ofNat (v % 65536) else Int.ofNat (v % 65536) - 65536

/-- A signed number as a field of `w` bits. -/
def twos (w : Nat) (i : Int) : Nat := (i % (2 ^ w : Int)).toNat

/-- A signed number saturated to 32 bits, as a field. -/
def sat32 (i : Int) : Nat := twos 32 (max (-2147483648) (min i 2147483647))

/-- TB.UTC_OFFSET.VALUE as a signed number. -/
def Mach.utcVal (m : Mach) : Int := sint16 (m.fld R.TB_UTC_OFFSET_VALUE)

/-- UTC seconds at an instant of the time base (R387). -/
def Mach.utcSecs (m : Mach) (t : Nat) : Nat := (Int.ofNat (t / 1000000000) + m.utcVal).toNat

/-- The time base instant of a UTC second. -/
def Mach.taiOf (m : Mach) (secs : Nat) : Int := (Int.ofNat secs - m.utcVal) * 1000000000

/-- Set the offset to one that PTP or a client confirms; a change outside a leap second is journalled (R402). PD0 keeps a copy. -/
def Mach.setUtc (m : Mach) (v : Int) : Mach :=
  let old := m.utcVal
  let m := (m.setFld R.TB_UTC_OFFSET_VALUE (twos 16 v)).setFlag R.TB_UTC_OFFSET_VALID true
  let m := { m with tk := { m.tk with pd0Utc := some (twos 16 v), utcOk := true } }
  if old = v then m else m.info 0x3085

/-- R402: the value at start-up: the copy in PD0, confirmed or not, else the package's. -/
def Mach.utcAtStart (m : Mach) : Mach :=
  (m.setFld R.TB_UTC_OFFSET_VALUE ((m.tk.pd0Utc).getD (m.fld R.TB_CFG2_UTCDEF))).setFlag R.TB_UTC_OFFSET_VALID (m.tk.pd0Utc.isSome && m.tk.utcOk)

/-! ### Steps of the time base (R388) -/

/-- An instant of the old time base carried over a step, so that the time measured from it goes on. -/
def moved (old new x : Nat) : Nat := x + new - old

/-- The instants of the station ports so. -/
def Ports.carry (s : Ports) (f : Nat → Nat) : Ports :=
  let g := Option.map f
  { s with
    ports := s.ports.map (fun (e : Nat × Port) => (e.1, { e.2 with rxAt := g e.2.rxAt, downAt := g e.2.downAt, garpAt := g e.2.garpAt,
                                                                   rateFrom := f e.2.rateFrom }))
    ptp := s.ptp.map (fun (e : Nat × PtpPort) => (e.1, { e.2 with
      foreign := e.2.foreign.map (fun (x : Foreign) => { x with at_ := f x.at_, before := g x.before }),
      delay := e.2.delay.map (fun d => (d.1, f d.2)), lastSync := e.2.lastSync.map (fun l => (f l.1, l.2)), syncIn := f e.2.syncIn,
      syncAt := f e.2.syncAt, reqAt := g e.2.reqAt, resp := e.2.resp.map (fun x => (x.1, f x.2.1, x.2.2)) }))
    nodes := s.nodes.map (fun (e : Nat × Option Node) => (e.1, e.2.map (fun x =>
      { x with seen := f x.seen, recent := x.recent.map (fun r => (r.1, r.2.1, f r.2.2.1, r.2.2.2)) })))
    tal := s.tal.map (fun (e : Nat × Option Nat) => (e.1, g e.2))
    runs := s.runs.map (fun (e : Nat × Option GRun) => (e.1, e.2.map (fun r => { r with nextAt := f r.nextAt })))
    notes := s.notes.map (fun (e : Nat × Option Nat) => (e.1, g e.2)) }

/-- Carry the instants from which the firmware and the supervisor measure time over a step of the time base. Log 70 (DEDUCED). -/
def Mach.carry (m : Mach) (new : Nat) : Mach :=
  let f := moved m.now new
  let g := Option.map f
  let p := m.pair
  let u := m.sup
  { m with
    pair := { p with gaps := p.gaps.map (fun x => { x with since := f x.since }), ptnHbAt := g p.ptnHbAt, leaseAt := g p.leaseAt,
                     lastRenew := g p.lastRenew, hbSent := g p.hbSent, xferAt := g p.xferAt,
                     lastViol := g p.lastViol, listenFrom := g p.listenFrom, readyFrom := g p.readyFrom, yieldWaits := g p.yieldWaits,
                     laneAt := (f p.laneAt.1, f p.laneAt.2), xferStep := g p.xferStep, delaySent := g p.delaySent, mismatches := p.mismatches.map f }
    sup := { u with resets := u.resets.map f, due := u.due.map (fun d => (d.1, f d.2)), faultAt := g u.faultAt,
                    suspAt := g u.suspAt, suspEnd := g u.suspEnd }
    fio := { m.fio with hcAt := f m.fio.hcAt, hcEnd := f m.fio.hcEnd, onAt := m.fio.onAt.map (fun e => (e.1, f e.2)),
                        clampAt := m.fio.clampAt.map (fun e => (e.1, f e.2)) }
    bays := m.bays.map (fun e => (e.1, { e.2 with malfAt := g e.2.malfAt, unconfAt := g e.2.unconfAt }))
    stas := m.stas.map (fun e => (e.1, { e.2 with heard := g e.2.heard, since := f e.2.since, retryAt := g e.2.retryAt, viol := e.2.viol.map f,
                                                  exch := e.2.exch.map (fun x => { x with since := f x.since }) }))
    tk := { m.tk with since := m.tk.since.map (fun e => (e.1, g e.2)), irigAt := f m.tk.irigAt, calAt := f m.tk.calAt,
                      offs := m.tk.offs.map (fun e => (e.1, e.2.map (fun (o : Int) => o + (Int.ofNat new - Int.ofNat m.now)))),
                      ptpOffs := [], fresh := 0, ppsPrev := g m.tk.ppsPrev,
                      noteA := g m.tk.noteA, noteB := g m.tk.noteB, tqLog := m.tk.tqLog.map (fun x => (f x.1, x.2)), leftLock := g m.tk.leftLock, waitEnd := g m.tk.waitEnd }
    sp := m.sp.carry f
    dsp := { m.dsp with dischAt := g m.dsp.dischAt, retryAt := g m.dsp.retryAt, faults := m.dsp.faults.map f }
    svc := { m.svc with clients := m.svc.clients.map (fun (c : Client) => { c with heard := f c.heard }),
                        handles := m.svc.handles.map (fun (h : Handle) => { h with stepAt := f h.stepAt, endAt := g h.endAt }),
                        notes := m.svc.notes.map (fun n => (n.1, f n.2)) }
    bootAt := g m.bootAt, warn := m.warn.map (fun w => (f w.1, w.2))
    ev := { m.ev with lastHold := g m.ev.lastHold }
    cu := { m.cu with nextStart := f m.cu.nextStart }
    pts := m.pts.map (fun e => (e.1, { e.2 with lastAcc := f e.2.lastAcc }))
    engs := m.engs.map (fun e => (e.1, { e.2 with freeAt := f e.2.freeAt, litSince := f e.2.litSince, wantTill := f e.2.wantTill })) }

/-- R388: a step of the time base, journalled with the value after it, and counted; a lease that runs is shown at its new instant. Log 70 (DEDUCED). -/
def Mach.stepTo (m : Mach) (t : Nat) : Mach :=
  let m := { m.carry t with now := t }
  let m := match m.pair.leaseAt with
    | some a => m.setFld64 R.PRT_LEXP_LO a
    | none => m
  (m.info 0x3082).satFld R.TB_CNT_STEPS 1

/-! ### Time quality (R400) -/

def tqLocked : Nat := 0
def tqHoldover : Nat := 1
def tqFree : Nat := 2
def tqUnset : Nat := 3

def Mach.tq (m : Mach) : Nat := m.fld R.TB_STAT_TQ

/-- Show a time quality in TB.STAT.TQ and I:4232–4233; leaving UNSET clears 0x3089 (R395). -/
def Mach.setTq (m : Mach) (q : Nat) : Mach :=
  let old := m.tq
  let m := if q = tqHoldover ∧ old = tqLocked then { m with tk := { m.tk with leftLock := some m.now } } else m
  let m := if q = old then m else { m with tk := { m.tk with good := 0, judge := false } }
  let m := if q = old then m else { m with tk := { m.tk with tqLog := m.tk.tqLog ++ [(m.now, old)] } }
  let m := (m.setFld R.TB_STAT_TQ q).setStat 4232 2 q
  if q ≠ tqUnset then m.clear 0x3089 0 1 else m

/-! ### Sources (R390–R392) -/

/-- Do the conditions of source s hold (R390)? The RTC is always available. -/
def Mach.srcAvail (m : Mach) (s : Nat) : Bool := s == 3 || m.tk.avail.testBit s

/-- Is a source available, a gross one counting as unavailable (R392)? -/
def Mach.srcUsable (m : Mach) (s : Nat) : Bool := m.srcAvail s && (s == 3 || !m.tk.gross.testBit s)

/-- Is any source other than the RTC available? -/
def Mach.otherSrc (m : Mach) : Bool := [0, 1, 2].any m.srcUsable

/-- Show the available sources in TB.STAT.AVAIL. -/
def Mach.showAvail (m : Mach) : Mach := m.setFld R.TB_STAT_AVAIL (bitSum ([0, 1, 2, 3].filter m.srcUsable))

/-- The highest usable source. -/
def Mach.bestSrc (m : Mach) : Nat := ([0, 1, 2].find? m.srcUsable).getD 3

/-- The last measured offset of a source. -/
def Mach.srcOffset (m : Mach) (s : Nat) : Option Int := sget none m.tk.offs s

/-- Step the time base by the offset of a source: the difference between the time base and the source goes to 0. Log 70 (DEDUCED). -/
def Mach.stepBy (m : Mach) (off : Int) : Mach := m.stepTo (Int.ofNat m.now - off).toNat

/-- May the time keeper step the time base (R388)? Log 70 (DEDUCED). -/
def Mach.maySteps (m : Mach) : Bool := m.st == .boot || m.st == .loader || m.st == .config || m.st == .stop

/-- May the time keeper select: firmware running and not in FOLLOW (R396)? -/
def Mach.selects (m : Mach) : Bool := m.alive && !m.isFollow

/-- R400, R394: outside RUN, a source ends UNSET, or the wait of R394, with a step. -/
def Mach.takeStep (m : Mach) (s : Nat) : Mach :=
  if m.maySteps && s != 3 && (m.tq == tqUnset || m.tk.waitEnd.isSome) then
    match m.srcOffset s with
    | some off =>
      let m := m.stepBy off
      let m := { m with tk := { m.tk with offs := sset none m.tk.offs s none, waitEnd := m.tk.waitEnd.map (fun _ => m.now) } }
      if m.tq = tqUnset then m.setTq tqFree else m
    | none => m
  else m

/-- R391: change to a source. `lost` tells that the source in use became unavailable, which R400 judges in LOCKED. -/
def Mach.changeSrc (m : Mach) (s : Nat) (lost : Bool) : Mach :=
  let m := (m.setFld R.TB_STAT_TSRC s).setStat 4234 2 s
  let m := (m.satFld R.TB_CNT_SRCCHG 1).info 0x3080
  let m := { m with tk := { m.tk with good := 0 } }
  let m := if s = 3 then (m.setFld R.TB_RATE (twos 32 m.tk.learned)).setFlag R.TB_STAT_SLEWLIM false else m
  let m :=
    if lost && m.tq == tqLocked then
      (if s = 3 then m.setTq tqHoldover else { m with tk := { m.tk with judge := true } })
    else m
  m.takeStep s

/-- R391: the selection that follows at once from what is available. -/
def Mach.reselect (m : Mach) : Mach :=
  if m.selects then
    let cur := m.fld R.TB_STAT_TSRC
    let b := m.bestSrc
    if cur = 3 then (if b = 3 then m else m.changeSrc b false)
    else if m.srcUsable cur then m.takeStep cur
    else m.changeSrc b true
  else m

/-- A source becomes available or unavailable. -/
def Mach.setAvail (m : Mach) (s : Nat) (on : Bool) : Mach :=
  if m.srcAvail s = on then m
  else
    let m := { m with tk := { m.tk with avail := m.tk.avail ^^^ 2 ^ s, since := sset none m.tk.since s (if on then some m.now else none),
                                        offs := if on then m.tk.offs else sset none m.tk.offs s none } }
    m.showAvail.reselect

/-- R391: a higher-priority source that has been available for 10 s without a break is taken. -/
def Mach.upgradeSrc (m : Mach) : Mach :=
  let cur := m.fld R.TB_STAT_TSRC
  let due := [0, 1, 2].find? (fun s => decide (s < cur) && m.srcUsable s && (match sget none m.tk.since s with
    | some a => decide (a + 10000000000 ≤ m.now)
    | none => false))
  if m.selects && cur != 3 then
    match due with
    | some s => m.changeSrc s false
    | none => m
  else m

/-- The PTP offsets of the last second. -/
def Mach.ptpSecond (m : Mach) : List (Nat × Int) := m.tk.ptpOffs.filter (fun x => decide (m.now < x.1 + 1000000000))

/-- A source delivers an offset (R390), for the measurement of this second. -/
def Mach.deliver (m : Mach) (s : Nat) (off : Int) : Mach :=
  let m := { m with tk := { m.tk with offs := sset none m.tk.offs s (some off), fresh := m.tk.fresh ||| 2 ^ s,
                                      ptpOffs := if s = 0 then m.ptpSecond ++ [(m.now, off)] else m.tk.ptpOffs } }
  if m.selects && m.fld R.TB_STAT_TSRC == s then m.takeStep s else m

/-- R392: a gross offset in RUN. -/
def Mach.grossSrc (m : Mach) (s : Nat) : Mach :=
  let m := { m with tk := { m.tk with gross := m.tk.gross ||| 2 ^ s } }
  let m := m.showAvail.setFlag R.TB_STAT_GROSS true
  let m := if m.faultOn 0x3083 then m else m.raise 0x3083 0 1
  m.reselect

/-- R393: the learned frequency error follows the source's, a free value at each measurement, with time constant 8 × TC; the rate is that error
plus offset / TC within ±SLEWMAX. Log 71 (DESIGN CHOICE). -/
def Mach.discipline (m : Mach) (off : Int) : Mach :=
  let (n, m) := m.fresh
  let tc : Int := Int.ofNat (m.fld R.TB_CFG_TC)
  let learned := m.tk.learned + ((Config.freeWord n).toInt - m.tk.learned) / (8 * tc)
  let lim : Int := Int.ofNat (m.fld R.TB_CFG_SLEWMAX) * 10000000
  let want : Int := off * 1000 / tc
  let held := decide (want < -lim ∨ lim < want)
  let m := { m with tk := { m.tk with learned := learned } }
  (m.setFlag R.TB_STAT_SLEWLIM held).setFld R.TB_RATE (twos 32 (learned + max (-lim) (min want lim)))

/-- R400: one measurement of the source in use. -/
def Mach.qualityBy (m : Mach) (off : Int) : Mach :=
  let small := decide (-1000 ≤ off ∧ off ≤ 1000)
  if m.tq = tqLocked then
    let m := { m with tk := { m.tk with judge := false } }
    if small then m else m.setTq tqHoldover
  else if m.tq = tqUnset then m
  else if small then
    if m.tk.good + 1 ≥ 8 then (m.setTq tqLocked).setFld64 R.TB_LOCKT_LO m.now
    else { m with tk := { m.tk with good := m.tk.good + 1 } }
  else { m with tk := { m.tk with good := 0 } }

/-- The offset of this second of the source in use: the mean of the PTP offsets, or the offset at the mark or edge. -/
def Mach.secondOffset (m : Mach) (s : Nat) : Option Int :=
  if s = 0 then
    (if m.ptpSecond.isEmpty then none else some ((m.ptpSecond.map (·.2)).foldl (· + ·) 0 / Int.ofNat m.ptpSecond.length))
  else if m.tk.fresh.testBit s then m.srcOffset s
  else none

/-- R392, R393, R400: offset `off` of source `s` is a measurement: in RUN one of more than a second is gross. -/
def Mach.measured (m : Mach) (s : Nat) (off : Int) : Mach :=
  if m.st == .run && decide (off < -1000000000 ∨ 1000000000 < off) then m.grossSrc s else (m.discipline off).qualityBy off

/-- The measurement of a second. -/
def Mach.measure (m : Mach) : Mach :=
  let s := m.fld R.TB_STAT_TSRC
  if m.selects && s != 3 && m.srcUsable s then
    match m.secondOffset s with
    | none => m
    | some off =>
      let m := { m with tk := { m.tk with fresh := 0, ptpOffs := [] } }
      (m.setFld R.TB_OFFSET (sat32 off)).measured s off
  else m

/-- R392: GROSS and its fault end. -/
def Mach.grossEnd (m : Mach) : Mach :=
  let m := ({ m with tk := { m.tk with gross := 0 } }).showAvail
  if m.flag R.TB_STAT_GROSS then (m.setFlag R.TB_STAT_GROSS false).clear 0x3083 0 1 else m

/-- R392, R395: the source in use at the exit from RUN, with a step by its offset where `step` asks for it; UNSET ends with a source other than the clock
calendar. -/
def Mach.leaveSrc (m : Mach) (step : Bool) : Mach :=
  let s := m.fld R.TB_STAT_TSRC
  let m := match (if s = 3 then m.tk.cmtOff else m.srcOffset s) with
    | some off => if step || (m.tq == tqUnset && s != 3) then m.stepBy off else m
    | none => m
  let m := { m with tk := { m.tk with cmtOff := none } }
  if m.tq == tqUnset && s != 3 then m.setTq tqFree else m

/-- R392, R395: at the exit from RUN to STOP a gross offset is stepped away, and a source ends UNSET. No step is taken in SAVE and FAULT (R388), which only
a reset ends. -/
def Mach.timeLeaveRun (m : Mach) : Mach :=
  if m.maySteps then
    let n := m.grossEnd
    let s := n.bestSrc
    (if n.fld R.TB_STAT_TSRC = s then n else n.changeSrc s false).leaveSrc (m.flag R.TB_STAT_GROSS)
  else m

/-! ### Leap seconds (R403) -/

/-- Source `src` (R390) announces a leap second for the end of the current UTC day. -/
def Mach.announceLeap (m : Mach) (src : Nat) (del : Bool) : Mach :=
  if m.flag R.TB_UTC_OFFSET_LEAPPEND then m
  else
    let next := (m.utcSecs m.now / 86400 + 1) * 86400
    let m := (m.setFlag R.TB_UTC_OFFSET_LEAPPEND true).setFlag R.TB_UTC_OFFSET_LEAPDEL del
    let m := { m with tk := { m.tk with leapAt := (m.taiOf (if del then next - 1 else next)).toNat, leapSrc := src } }
    m.stat 4236 true

/-- The source that announced a leap second announces it no longer. -/
def Mach.withdrawLeap (m : Mach) (src : Nat) : Mach :=
  if m.flag R.TB_UTC_OFFSET_LEAPPEND && m.tk.leapSrc == src && decide (m.now < m.tk.leapAt) then
    ((m.setFlag R.TB_UTC_OFFSET_LEAPPEND false).setFlag R.TB_UTC_OFFSET_LEAPDEL false).stat 4236 false
  else m

/-- An announced leap second is applied. -/
def Mach.applyLeap (m : Mach) : Mach :=
  if m.flag R.TB_UTC_OFFSET_LEAPPEND && decide (m.tk.leapAt ≤ m.now) then
    let del := m.flag R.TB_UTC_OFFSET_LEAPDEL
    let v := if del then m.utcVal + 1 else m.utcVal - 1
    let m := (m.setFld R.TB_UTC_OFFSET_VALUE (twos 16 v)).setFlag R.TB_UTC_OFFSET_LEAPPEND false
    let m := m.setFlag R.TB_UTC_OFFSET_INLEAP (!del && decide (m.now < m.tk.leapAt + 1000000000))
    let m := { m with tk := { m.tk with pd0Utc := some (twos 16 v), cliUtc := m.tk.cliUtc.map (fun c => if del then c + 1 else c - 1) } }
    (m.info 0x3084).stat 4236 false
  else m

/-- INLEAP lasts one second. -/
def Mach.endLeap (m : Mach) : Mach :=
  if m.flag R.TB_UTC_OFFSET_INLEAP && decide (m.tk.leapAt + 1000000000 ≤ m.now) then m.setFlag R.TB_UTC_OFFSET_INLEAP false else m

/-! ### IRIG-B and PPS (R397–R399) -/

/-- A note at most once per minute. -/
def minuteOver (last : Option Nat) (now : Nat) : Bool :=
  match last with
  | some t => decide (t + 60000000000 ≤ now)
  | none => true

/-- The error of an IRIG-B frame (R399). -/
def Mach.irigError (m : Mach) : Mach :=
  let m := m.satFld R.TB_IRIG_ERRCNT 1
  if minuteOver m.tk.noteA m.now then ({ m with tk := { m.tk with noteA := some m.now } }).note 0x308A else m

/-- UTC seconds of an IRIG-B frame (R397), an inserted second counting as the one before it (R403). A two-digit year counts from 2000. Log 72 (DEDUCED). -/
def Mach.irigSecs (m : Mach) (f : IrigFrame) : Nat :=
  let y := match f.bcdYear with
    | some y => 2000 + y
    | none => if m.flag R.TB_CFG_IRIGEXT then 2000 + f.extYear else m.tk.cal.year
  let s := daysOf y 1 1 * 86400 + (f.day - 1) * 86400 + f.hour * 3600 + f.min * 60 + min f.sec 59
  if m.flag R.TB_CFG_IRIGEXT && m.flag R.TB_CFG_IRIGLOC then (Int.ofNat s - f.local30 * 1800).toNat else s

/-- UTC − TAI at an instant: a leap second due by then counts (R403). -/
def Mach.utcAt (m : Mach) (t : Nat) : Int :=
  if m.flag R.TB_UTC_OFFSET_LEAPPEND && decide (m.tk.leapAt ≤ t) then (if m.flag R.TB_UTC_OFFSET_LEAPDEL then m.utcVal + 1 else m.utcVal - 1) else m.utcVal

/-- The time base instant a frame's mark names (R397). -/
def Mach.irigTai (m : Mach) (cap : Nat) (f : IrigFrame) : Int := (Int.ofNat (m.irigSecs f) - m.utcAt cap) * 1000000000

/-- Is a frame's time the previous frame's plus 1 s (R399), across a leap second too? Log 72 (DEDUCED). -/
def Mach.irigNext (m : Mach) (cap : Nat) (f : IrigFrame) : Bool :=
  match m.tk.irigPrev with
  | none => true
  | some p =>
    let secs := m.irigSecs f
    if f.sec = 60 then secs == p && !m.tk.irig60
    else secs == p + 1 ||
      (m.flag R.TB_UTC_OFFSET_LEAPDEL && decide (m.tk.leapAt ≤ cap ∧ cap < m.tk.leapAt + 1000000000) && secs == p + 2)

/-- Are the frame's fields in range? -/
def irigFrameOk (f : IrigFrame) (ext : Bool) : Bool :=
  f.marks && (!ext || f.parity) && decide (f.sec ≤ 60 ∧ f.min ≤ 59 ∧ f.hour ≤ 23 ∧ 1 ≤ f.day ∧ f.day ≤ 366)

/-- An IRIG-B frame whose on-time mark was captured at an instant (R397–R399). Log 72 (DEDUCED). -/
def Mach.irig (m : Mach) (cap : Nat) (f : IrigFrame) : Mach :=
  let ext := m.flag R.TB_CFG_IRIGEXT
  if !irigFrameOk f ext then m.irigError
  else
    let secs := m.irigSecs f
    let ok := m.irigNext cap f
    let off := Int.ofNat (cap - m.fld R.TB_INDLY_IRIG) - m.irigTai (cap - m.fld R.TB_INDLY_IRIG) f
    let good := if ok then m.tk.irigGood + 1 else 1
    let m := if ok then m else m.satFld R.TB_IRIG_ERRCNT 1
    let m := if ext then m.setFld R.TB_IRIG_QCODE f.qcode.toNat else m
    let m := m.setFld R.TB_IRIG_YEAR ((f.bcdYear).getD (if ext then f.extYear else m.tk.cal.year % 100))
    let m := { m with tk := { m.tk with irigPrev := some secs, irig60 := f.sec == 60, irigGood := min good 2, irigAt := m.now,
                                        irigDst := if ext then 2 * f.dstPending.toNat + f.dst.toNat else m.tk.irigDst } }
    let on := m.flag R.TB_CFG_IRIGEN && decide (2 ≤ good) && (!ext || decide (f.qcode.toNat ≤ 4))
    let m := if ext && on then (if f.leapPending then m.announceLeap 1 f.leapDelete else m.withdrawLeap 1) else m
    let m := if on then m.deliver 1 off else m
    m.setAvail 1 on

/-- 3 s without a valid frame (R390). -/
def Mach.irigSilent (m : Mach) : Mach :=
  if m.tk.irigAt + 3000000000 ≤ m.now then
    ({ m with tk := { m.tk with irigGood := 0, irigPrev := none } }).setAvail 1 false
  else m

/-- A PPS edge captured at an instant, with its pulse width in nanoseconds (R390, R399). Log 72 (DEDUCED). -/
def Mach.pps (m : Mach) (cap width : Nat) : Mach :=
  let e := cap - m.fld R.TB_INDLY_PPS
  let ok := decide (1000 ≤ width) && (match m.tk.ppsPrev with
    | some p => decide (p + 999000000 ≤ e ∧ e ≤ p + 1001000000)
    | none => true)
  if ok then
    let m := { m with tk := { m.tk with ppsPrev := some e, ppsGood := min (m.tk.ppsGood + 1) 3, ppsBad := 0 } }
    let on := m.flag R.TB_CFG_PPSEN && decide (3 ≤ m.tk.ppsGood) && m.flag R.RTC_STAT_VALID
    let off := Int.ofNat e - Int.ofNat ((e + 500000000) / 1000000000 * 1000000000)
    (if on then m.deliver 2 off else m).setAvail 2 on
  else
    let m := if minuteOver m.tk.noteB m.now then ({ m with tk := { m.tk with noteB := some m.now } }).note 0x308B else m
    if m.tk.ppsBad + 1 ≥ 3 then ({ m with tk := { m.tk with ppsPrev := none, ppsGood := 0, ppsBad := 0 } }).setAvail 2 false
    else { m with tk := { m.tk with ppsBad := m.tk.ppsBad + 1 } }

/-- Three edges in a row have not come: PPS is unavailable (R390, R399). Log 72 (DEDUCED). -/
def Mach.ppsSilent (m : Mach) : Mach :=
  match m.tk.ppsPrev with
  | some a =>
    if m.srcAvail 2 && decide (a + 3001000000 < m.now) then ({ m with tk := { m.tk with ppsPrev := none, ppsGood := 0, ppsBad := 0 } }).setAvail 2 false else m
  | none => m

/-- HOLDLIM after leaving LOCKED the quality is FREE (R400), but not in FOLLOW, where it is the lead's (R396). -/
def Mach.holdLimit (m : Mach) : Mach :=
  match m.tk.leftLock with
  | some a => if !m.isFollow ∧ m.tq = tqHoldover ∧ a + m.fld R.TB_CFG2_HOLDLIM * 1000000000 ≤ m.now then m.setTq tqFree else m
  | none => m

/-! ### The calendar (R404–R408) -/

/-- R408: does an enabled alarm match the calendar? -/
def Mach.alarmHit (m : Mach) (n : Nat) : Bool :=
  let c := m.tk.cal
  let masked (j : Nat) : Bool := (m.fld (R.RTC_ALM_CTL_MASK n)).testBit j
  m.flag R.RTC_STAT_VALID && m.flag (R.RTC_ALM_CTL_EN n) &&
    (masked 0 || c.sec == m.fld (R.RTC_ALM_MATCH_SEC n)) && (masked 1 || c.min == m.fld (R.RTC_ALM_MATCH_MIN n)) &&
    (masked 2 || c.hour == m.fld (R.RTC_ALM_MATCH_HOUR n)) && (masked 3 || c.day == m.fld (R.RTC_ALM_MATCH_DAY n)) &&
    (masked 4 || c.mon == m.fld (R.RTC_ALM_MATCH_MON n)) && (masked 5 || c.wday == m.fld (R.RTC_ALM_MATCH_WDAY n))

/-- The flag of alarm n in RTC.STAT. -/
def almFlag (n : Nat) : Fld := ⟨R.RTC_STAT_ALM0.addr, 4 + n, 1⟩

/-- A firing of alarm n; on VBAK the next start journals it. -/
def Mach.alarm (m : Mach) (n : Nat) : Mach :=
  if m.alarmHit n then
    let m := m.setFlag (almFlag n) true
    if m.st = .off then { m with tk := { m.tk with alarmBak := m.tk.alarmBak ||| 2 ^ n } }
    else m.info (0x3090 + n)
  else m

/-- The second after a calendar's: second 60 occurs only where an insertion is applied. -/
def Cal.next (c : Cal) : Cal := calOf (c.secs + 1)

/-- The holding sets hold a copy of the calendar (R405). Log 73 (DEDUCED). -/
def Mach.secRead (m : Mach) (sub : Nat) : Mach :=
  { m with tk := { m.tk with rd := m.tk.cal, rdSub := sub % 32768, wr := m.tk.cal } }

/-- R407: the commit of the write holding set. Log 73 (DEDUCED), 112 (DEDUCED). -/
def Mach.commitCal (m : Mach) : Mach :=
  let m := { m with tk := { m.tk with cmtWait := false } }
  let m := m.setFlag R.RTC_STAT_CMTBUSY false
  if m.otherSrc then (m.setFlag R.RTC_STAT_CMTREJ true).note 0x3087
  else if !m.tk.wr.valid then m.setFlag R.RTC_STAT_CMTERR true
  else
    let c := m.tk.wr
    let c := { c with wday := wdayOf (daysOf c.year c.mon c.day) }
    let m := { m with tk := { m.tk with cal := c, calAt := m.now, cliUtc := some m.utcVal, utcOk := true } }
    let m := ((m.setFlag R.RTC_STAT_VALID true).setFlag R.TB_UTC_OFFSET_VALID true).info 0x3086
    let tai := m.taiOf c.secs
    if !m.maySteps then
      let off := Int.ofNat m.now - tai
      let m := m.setFld R.TB_OFFSET (sat32 off)
      if -1000000000 ≤ off ∧ off ≤ 1000000000 then m.discipline off
      else
        let m := { m with tk := { m.tk with cmtOff := some off } }
        let m := m.setFlag R.TB_STAT_GROSS true
        if m.faultOn 0x3083 then m else m.raise 0x3083 0 1
    else
      let m := m.stepTo tai.toNat
      if m.tq = tqUnset then m.setTq tqFree else m

/-- A roll-over of the calendar (R404): with PD2 running it is realigned to the time base, on VBAK it counts by XO32. A commit that
waited takes place at its end (R407). -/
def Mach.rollover (m : Mach) : Mach :=
  let c := if m.st = .off then m.tk.cal.next
    else
      let c := calOf (m.utcSecs m.now)
      if m.flag R.TB_UTC_OFFSET_INLEAP then { c with sec := 60 } else c
  let m := { m with tk := { m.tk with cal := c, calAt := m.now } }
  let m := (m.alarm 0).alarm 1
  if m.tk.cmtWait then m.commitCal else m

/-- The calendar's sub-second count at 32.768 kHz (R404). Log 73 (DEDUCED). -/
def Mach.calSub (m : Mach) : Nat := min 32767 ((m.now - m.tk.calAt) * 32768 / 1000000000)

/-! ### Timing outputs (R409) -/

/-- The level of PPS_OUT. -/
def Mach.ppsOut (m : Mach) : Bool :=
  m.st != .off && m.flag R.TB_PPSOUT_EN && decide (m.tq ≤ m.fld R.TB_PPSOUT_QMIN) &&
    decide (m.now % 1000000000 < m.fld R.TB_PPSOUT_WIDTH * 1000000)

/-- The period of SQW in nanoseconds for the modes from 1 Hz to 100 kHz. -/
def sqwPeriod (sel : Nat) : Nat := 1000000000 / 10 ^ (sel - 1)

/-- The level of SQW; XO32's own level in the 32.768 kHz mode is given. Without VSUP the 1 Hz mode follows the calendar second, and the other modes
of the time base are low. -/
def Mach.sqw (m : Mach) (xo32 : Bool) : Bool :=
  let sel := m.fld R.RTC_CFG_SQWSEL
  if sel = 0 then false else if sel = 7 then xo32
  else if m.st = .off then sel == 1 && decide (m.calSub < 16384)
  else decide (m.now % sqwPeriod sel < sqwPeriod sel / 2)

/-! ### PD0's supply (R410, R411) -/

/-- Show BAK_LOW with its fault; without VSUP the next start raises it. -/
def Mach.showBakLow (m : Mach) : Mach :=
  let b := m.flag R.RTC_STAT_BAK_LOW
  if m.st = .off then m
  else
    let m := m.stat 4244 b
    if b && !m.faultOn 0x3088 then m.raise 0x3088 0 1 else if b then m else m.clear 0x3088 0 1

/-- R410: the backup switch selects VBAK or VAON_M, or VBAK crosses 2.2 V while it is selected; `low` tells that VBAK is below 2.2 V. -/
def Mach.backupSwitch (m : Mach) (onBak low : Bool) : Mach :=
  let was := m.flag R.RTC_STAT_ONBAK
  let m := m.setFlag R.RTC_STAT_ONBAK onBak
  if low && (onBak || was) then (m.setFlag R.RTC_STAT_BAK_LOW true).showBakLow else m

/-- The registers of the RTC block that an AON reset puts back. -/
def rtcRegs : List Nat := (List.range 12).map (fun i => R.RTC_SEC.addr + 4 * i)

/-- R411: PD0 resets. Log 74 (DESIGN CHOICE). -/
def Mach.aonReset (m : Mach) : Mach :=
  let m := foldM rtcRegs (fun a m => m.rset a (regReset a)) m
  let m := m.setFld R.WDG_RSTCNT_COUNT 0
  { m with tk := { m.tk with cal := { wday := 4 }, rd := {}, rdSub := 0, wr := {}, pd0Utc := none, utcOk := false, aonLost := true, alarmBak := 0, cmtWait := false },
           sup := { m.sup with resets := [] } }

/-- R389: the time base and its quality at the first power-up of PD2 after a start. Log 70 (DEDUCED). -/
def Mach.loadTimeBase (m : Mach) : Mach :=
  let m := m.utcAtStart.showAvail
  if m.flag R.RTC_STAT_VALID then
    let t := (m.taiOf m.tk.cal.secs).toNat + m.calSub * 1000000000 / 32768
    ({ m.carry t with now := t }).setFld R.TB_STAT_TQ tqFree
  else ({ m.carry 0 with now := 0 }).setFld R.TB_STAT_TQ tqUnset

/-- What a start journals of the time in PD0 (R408, R410, R411). -/
def Mach.timeStartEvents (m : Mach) : Mach :=
  let m := if m.tk.aonLost then ({ m with tk := { m.tk with aonLost := false } }).raise 0x3081 0 1 else m
  let m := foldM [0, 1] (fun n m => if m.tk.alarmBak.testBit n then m.info (0x3092 + n) else m) m
  ({ m with tk := { m.tk with alarmBak := 0 } }).showBakLow

end Sys2Proof.Machine
end

