-- ==== Sys2Proof/Machine/PortOps.lean ====
section
/-!
DEFINITION. The station ports' shared operations: sending and receiving with PRP (R359–R368), the PTP port instances (R369–R372),
GOOSE subscription (R373–R378) and publication (R379–R382), and the violations of R383.
-/
namespace Sys2Proof.Machine
open Sys2Proof

def Mach.port (m : Mach) (p : Nat) : Port := sget {} m.sp.ports p
def Mach.setPort (m : Mach) (p : Nat) (x : Port) : Mach := { m with sp := { m.sp with ports := sset {} m.sp.ports p x } }
def Mach.ptp (m : Mach) (p : Nat) : PtpPort := sget {} m.sp.ptp p
def Mach.setPtp (m : Mach) (p : Nat) (x : PtpPort) : Mach := { m with sp := { m.sp with ptp := sset {} m.sp.ptp p x } }

/-- STA.STAT.LINKp, SPEEDp and ENPENDp. -/
def linkFld (p : Nat) : Fld := ⟨R.STA_STAT.addr, p, 1⟩
def speedFld (p : Nat) : Fld := ⟨R.STA_STAT.addr, 2 + 2 * p, 2⟩
def enpendFld (p : Nat) : Fld := ⟨R.STA_STAT.addr, 8 + p, 1⟩

/-- Is port p usable: PD7 on (R568), enabled, linked, and not the SP1 of a singly attached node (R364)? -/
def Mach.portUp (m : Mach) (p : Nat) : Bool :=
  m.st != .save && m.flag (linkFld p) && m.flag (R.STA_SP_CFG_EN p) && (p == 0 || m.fld R.STA_CFG_MODE == 0)

/-- The module's own MAC address. -/
def Mach.ownMac (m : Mach) : Nat := m.fld R.STA_MAC_HI_VALUE * 2 ^ 32 + m.fld R.STA_MAC_LO

/-- A note at most once per minute (R383). -/
def Mach.minuteNote (m : Mach) (code : Nat) : Mach :=
  if minuteOver (sget none m.sp.notes code) m.now then
    ({ m with sp := { m.sp with notes := sset none m.sp.notes code (some m.now) } }).note code
  else m

/-! ### Sending (R365, R366) -/

/-- The redundancy control trailer of the frame pair with a sequence number, on port p (R365). -/
def Mach.rctOf (m : Mach) (seq p : Nat) : Rct := ⟨seq, 10 + p, (Config.lsduSize seq m.now).toNat, 0x88FB⟩

/-- Send a frame on one port. Log 68 (DEDUCED). -/
def Mach.portSend1 (m : Mach) (p : Nat) (rct : Option Rct) (f : PortOut) : Mach :=
  if m.portUp p then (m.send (.port p rct f)).addFld (R.STA_SP_TXFRM p) 1 else m

/-- Send a frame: in PRP mode on both ports with one redundancy trailer, otherwise on SP0 (R364, R365). -/
def Mach.portSend (m : Mach) (f : PortOut) : Mach :=
  if m.fld R.STA_CFG_MODE = 0 then
    let s := m.sp.rct
    let m := { m with sp := { m.sp with rct := (s + 1) % 65536 } }
    (m.portSend1 0 (some (m.rctOf s 0)) f).portSend1 1 (some (m.rctOf s 1)) f
  else m.portSend1 0 none f

/-! ### Receiving (R360, R361, R367, R368) -/

/-- Count the frames of a node whose copy from the other LAN has not come within 400 ms (STA.PRP.UNIQA, UNIQB). -/
def Mach.nodeAge (m : Mach) : Mach :=
  let old (r : Nat × Nat × Nat × Bool) : Bool := decide (r.2.2.1 + 400000000 < m.now)
  let rs := m.sp.nodes.flatMap (fun e => match e.2 with
    | some n => n.recent.filter (fun r => old r && !r.2.2.2)
    | none => [])
  let nodes := m.sp.nodes.map (fun e => (e.1, e.2.map (fun n => { n with recent := n.recent.filter (fun r => !old r) })))
  let m := { m with sp := { m.sp with nodes := nodes } }
  foldM rs (fun r m => m.addFld (if r.2.1 = 0 then R.STA_PRP_UNIQA else R.STA_PRP_UNIQB) 1) m

/-- The node table with one node changed; STA.PRP.NODES counts. -/
def Mach.setNode (m : Mach) (mac : Nat) (n : Option Node) : Mach :=
  let m := { m with sp := { m.sp with nodes := sset none m.sp.nodes mac n } }
  m.setFld R.STA_PRP_NODES_NODES m.sp.nodes.length

/-- R367: the duplicate check of a frame with a trailer; it tells whether the frame is taken. Log 68 (DEDUCED). -/
def Mach.prpTake (m : Mach) (mac seq p : Nat) : Bool × Mach :=
  match sget none m.sp.nodes mac with
  | none =>
    if 512 ≤ m.sp.nodes.length then (true, m.satFld R.STA_PRP_NODEFULL 1)
    else (true, m.setNode mac (some ⟨m.now, [(seq, p, m.now, false)]⟩))
  | some n =>
    if n.recent.any (fun r => r.1 == seq && r.2.1 != p) then
      let rs := n.recent.map (fun r => if r.1 == seq && r.2.1 != p then (r.1, r.2.1, r.2.2.1, true) else r)
      (false, (m.setNode mac (some ⟨m.now, rs⟩)).addFld R.STA_PRP_DUP 1)
    else (true, m.setNode mac (some ⟨m.now, n.recent ++ [(seq, p, m.now, false)]⟩))

/-- A frame without FCS error has come on a port (R368). Log 68 (DEDUCED). -/
def Mach.portSeen (m : Mach) (p : Nat) : Mach :=
  let m := (m.addFld (R.STA_SP_RXFRM p) 1).setPort p { m.port p with rxAt := some m.now }
  m.stat (4292 + p) true

/-- The reception of a frame: own source MAC (R383), the redundancy trailer (R367). It tells whether the frame is taken. Log 68 (DEDUCED). -/
def Mach.portRx (m : Mach) (h : PortHead) : Bool × Mach :=
  let p := h.port.toNat
  let m := m.portSeen p
  if h.mac.toNat = m.ownMac then (false, m.minuteNote 0x34E2)
  else if m.fld R.STA_CFG_MODE = 0 then
    match h.rct with
    | some (seq, lan) =>
      if lan.toNat ≠ p then (true, m.satFld (if p = 0 then R.STA_PRP_WRONGLAN_SP0 else R.STA_PRP_WRONGLAN_SP1) 1)
      else m.prpTake h.mac.toNat seq.toNat p
    | none => (true, m)
  else (true, m)

/-- R361: may the supervisor take a further frame of this port now? -/
def Mach.supTake (m : Mach) (p : Nat) : Bool × Mach :=
  let x := m.port p
  let x := if x.rateFrom + 1000000000 ≤ m.now then { x with rateFrom := m.now, rateCount := 0 } else x
  if x.rateCount < 20000 then (true, m.setPort p { x with rateCount := x.rateCount + 1 })
  else (false, (((m.setPort p x).satFld (R.STA_SP_DROPRATE p) 1)).minuteNote (0x34E0 + p))

/-- A frame for a port's hardware (GOOSE, PTP): received and taken. -/
def Mach.hwFrame (m : Mach) (h : PortHead) (f : Mach → Mach) : Mach :=
  if m.alive && m.portUp h.port.toNat then
    let (ok, m) := m.portRx h
    if ok then f m else m
  else m

/-- A PTP frame: it carries no trailer and is received on each port separately (R366). -/
def Mach.ptpFrame (m : Mach) (h : PortHead) (f : Mach → Mach) : Mach :=
  if m.alive && m.portUp h.port.toNat then
    let m := m.portSeen h.port.toNat
    if h.mac.toNat = m.ownMac then m.minuteNote 0x34E2 else if m.flag R.STA_CFG_PTPEN then f m else m
  else m

/-- A frame for the supervisor: received, within the rate of R361, and taken. -/
def Mach.supFrame (m : Mach) (h : PortHead) (f : Mach → Mach) : Mach :=
  if m.alive && m.portUp h.port.toNat then
    let (ok, m) := m.portRx h
    if ok then
      let (take, m) := m.supTake h.port.toNat
      if take then f m else m
    else m
  else m

/-! ### PTP (R369–R372) -/

/-- 2^l seconds in nanoseconds. -/
def logNs (l : Int) : Nat := if 0 ≤ l then 1000000000 * 2 ^ l.toNat else 1000000000 / 2 ^ (-l).toNat

/-- Are the intervals accepted (R369)? Log 66 (DEDUCED). -/
def logOk (l : Int) : Bool := decide (-4 ≤ l ∧ l ≤ 1)

/-- The comparison of the default best master clock algorithm, as one number: smaller is better. Log 65 (PRESUMED). -/
def bmcKey (a : AnnounceMsg) : Nat :=
  (((((a.prio1 * 256 + a.cls) * 256 + a.acc) * 65536 + a.var) * 256 + a.prio2) * 2 ^ 64 + a.gm.toNat) * 65536 + a.steps

/-- A foreign master qualifies with two Announces within the last four intervals (IEEE 1588). Log 65 (PRESUMED). -/
def Foreign.qualified (now : Nat) (f : Foreign) : Bool :=
  match f.before with
  | some b => decide (now < b + 4 * logNs f.ann.logInterval) && decide (f.ann.steps < 255)
  | none => false

/-- The best foreign master of those that qualify now and the one in state SLAVE, which only a time-out drops (R370). Log 65 (PRESUMED). -/
def bestForeign (now : Nat) (cur : Option Nat) (fs : List Foreign) : Option Foreign :=
  (fs.filter (fun f => f.qualified now || cur == some f.ann.src)).foldl (fun b f => match b with
    | none => some f
    | some g => if bmcKey f.ann * 2 ^ 80 + f.ann.src < bmcKey g.ann * 2 ^ 80 + g.ann.src then some f else some g) none

/-- The master of a port in state SLAVE. -/
def PtpPort.slave (x : PtpPort) : Option Foreign :=
  match x.master with
  | some (src, _) => x.foreign.find? (fun f => f.ann.src == src)
  | none => none

/-- The port instance in use (STA.STAT.PTPPORT). -/
def Mach.ptpPort (m : Mach) : Nat := m.fld R.STA_STAT_PTPPORT

/-- R370: which instance the time keeper uses. -/
def Mach.ptpChoose (m : Mach) : Nat :=
  let cur := m.ptpPort
  match (m.ptp cur).slave, (m.ptp (1 - cur)).slave with
  | some a, some b => if bmcKey b.ann < bmcKey a.ann then 1 - cur else cur
  | none, some _ => 1 - cur
  | _, none => cur

/-- R402: the UTC offset is the last client commit's, where there is one. Log 112 (DEDUCED). -/
def Mach.clientUtc (m : Mach) : Mach :=
  match m.tk.cliUtc with
  | some v => m.setUtc v
  | none => m

/-- R372, R402: the UTC data of the master in use; its currentUtcOffset is TAI − UTC. Without a valid one the next source of R402 holds. -/
def Mach.ptpUtc (m : Mach) : Mach :=
  if m.isFollow then m
  else
    match (m.ptp m.ptpPort).slave with
    | some f =>
      let m := if f.ann.utcValid then m.setUtc (-f.ann.utc) else m.clientUtc
      if f.ann.leap61 then m.announceLeap 0 false else if f.ann.leap59 then m.announceLeap 0 true else m.withdrawLeap 0
    | none => m.clientUtc

/-- STA.PTP.OFFSET: the offset of the instance in use (R385). -/
def Mach.showPtpOffset (m : Mach) : Mach := m.setFld R.STA_PTP_OFFSET (twos 32 (max (-2147483647) (min (m.ptp m.ptpPort).offset 2147483647)))

/-- Everything that follows from the state of the two instances: the one in use, its registers, and the availability of PTP as a
time source (R370, R371, R390). -/
def Mach.ptpShow (m : Mach) : Mach :=
  let p := m.ptpChoose
  let m := if p = m.ptpPort then m else (m.setFld R.STA_STAT_PTPPORT p).info 0x34D2
  let any := (m.ptp 0).delivers || (m.ptp 1).delivers
  let was := m.flag R.STA_STAT_PTPOK
  let m := m.setFlag R.STA_STAT_PTPOK any
  let m := if was && !any then m.raise 0x34D3 0 1 else if any then m.clear 0x34D3 0 1 else m
  let x := m.ptp p
  let m := match x.slave with
    | some f => ((m.setFld64 R.STA_PTP_GMID_LO f.ann.gm.toNat).setFld R.STA_PTP_ANN_CLASS f.ann.cls).setFld R.STA_PTP_ANN_STEPS f.ann.steps
    | none => m
  let m := m.ptpUtc.showPtpOffset
  let on := m.flag R.TB_CFG_PTPEN && x.delivers && (match x.slave with
    | some f => decide (f.ann.cls ≤ 127)
    | none => false)
  m.setAvail 0 on

/-- A PTP message that is malformed, of another version or of another domain (R383). Log 66 (DEDUCED). -/
def Mach.ptpBad (m : Mach) : Mach := m.satFld R.STA_PTP_CNT_BAD 1

/-- A port's state SLAVE follows its best foreign master. Log 65 (PRESUMED). -/
def PtpPort.elect (now : Nat) (x : PtpPort) : PtpPort :=
  match bestForeign now (x.master.map (·.1)) x.foreign with
  | some f =>
    if x.master.map (·.1) = some f.ann.src then { x with master := some (f.ann.src, f.at_) }
    else { x with master := some (f.ann.src, f.at_), sync := none, lastSync := none, delivers := false }
  | none => { x with master := none, sync := none, lastSync := none, delivers := false }

/-- An Announce on a port. -/
def Mach.ptpAnnounce (m : Mach) (p : Nat) (a : AnnounceMsg) : Mach :=
  if !a.ok || a.domain.toNat != m.fld R.STA_CFG_DOMAIN || !logOk a.logInterval then m.ptpBad
  else
    let x := m.ptp p
    let old := x.foreign.find? (fun f => f.ann.src == a.src)
    let fs := x.foreign.filter (fun f => f.ann.src != a.src) ++ [⟨a, m.now, old.map (·.at_)⟩]
    (m.setPtp p (PtpPort.elect m.now { x with foreign := fs })).ptpShow

/-- R370: three announce intervals without an Announce of the master. -/
def Mach.announceTimeout (m : Mach) (p : Nat) : Mach :=
  let x := m.ptp p
  match x.slave with
  | some f =>
    if f.at_ + 3 * logNs f.ann.logInterval ≤ m.now then
      let m := m.satFld R.STA_PTP_CNT_ANNTO 1
      (m.setPtp p (PtpPort.elect m.now { x with foreign := x.foreign.filter (fun g => g.ann.src != f.ann.src) })).ptpShow
    else m
  | none => m

/-- The ingress stamp of a port, corrected by STA.SPp.DLY (R372). -/
def Mach.ingress (m : Mach) (p sof : Nat) : Nat := sof - m.fld (R.STA_SP_DLY_ING p)

/-- An offset of a port instance from a Sync received at `came` (R371): delivered only with its link at 100 or 1000 Mbit/s, a peer delay of the last 3 s, and
within 3 sync intervals of the Sync. Without a peer delay the Sync is not used. Log 66 (DEDUCED). -/
def Mach.ptpOffset (m : Mach) (p : Nat) (origin : Nat) (corr : Int) (stamp came : Nat) (log : Int) : Mach :=
  let x := m.ptp p
  match x.delay with
  | some (d, at_) =>
    let m := m.addFld R.STA_PTP_SYNCS 1
    let off := Int.ofNat stamp - (Int.ofNat origin + corr + d)
    let fresh := decide (m.now ≤ at_ + 3000000000 ∧ 1 ≤ m.fld (speedFld p) ∧ m.now ≤ came + 3 * logNs log)
    let m := m.setPtp p { x with lastSync := some (came, logNs log), delivers := fresh, offset := off, sync := none }
    let m := m.ptpShow
    if fresh && p == m.ptpPort && m.srcAvail 0 then m.deliver 0 off else m
  | none => m.setPtp p { x with lastSync := some (came, logNs log), sync := none }

/-- A Sync on a port (R371): of the port's master only. -/
def Mach.ptpSync (m : Mach) (p sof : Nat) (y : SyncMsg) : Mach :=
  if !y.ok || y.domain.toNat != m.fld R.STA_CFG_DOMAIN || !logOk y.logInterval then m.ptpBad
  else
    let x := m.ptp p
    if x.master.map (·.1) ≠ some y.src then m
    else if y.twoStep then m.setPtp p { x with sync := some y, syncIn := m.ingress p sof, syncAt := m.now }
    else m.ptpOffset p y.origin y.corr (m.ingress p sof) m.now y.logInterval

/-- A Follow_Up on a port: it completes the Sync with its sequence number. -/
def Mach.ptpFollowUp (m : Mach) (p : Nat) (y : SyncMsg) : Mach :=
  if !y.ok || y.domain.toNat != m.fld R.STA_CFG_DOMAIN then m.ptpBad
  else
    let x := m.ptp p
    match x.sync with
    | some s => if s.src = y.src ∧ s.seq = y.seq then m.ptpOffset p y.origin (s.corr + y.corr) x.syncIn x.syncAt s.logInterval else m
    | none => m

/-- A mean peer delay has been measured (R371). -/
def Mach.ptpDelay (m : Mach) (p : Nat) (d : Int) : Mach :=
  let x := m.ptp p
  (m.setPtp p { x with delay := some (d, m.now), misses := 0, reqAt := none, resp := none }).setFld
    (if p = 0 then R.STA_PTP_PDLY0 else R.STA_PTP_PDLY1) d.toNat

/-- The destination of the peer delay messages (R369). -/
def pdelayDst : Nat := 0x0180C200000E

/-- A Pdelay_Req is sent on a port (R369); three requests without a Pdelay_Resp leave the instance without peer delay (R383). -/
def Mach.pdelaySend (m : Mach) (p egress : Nat) : Mach :=
  if m.alive && m.portUp p && m.flag R.STA_CFG_PTPEN then
    let x := m.ptp p
    let n := if x.reqAt.isSome && x.resp.isNone then x.misses + 1 else 0
    let m :=
      if n = 3 then
        ((m.setPtp p { x with delay := none, delivers := false }).setFld (if p = 0 then R.STA_PTP_PDLY0 else R.STA_PTP_PDLY1) 0).note (0x34E4 + p)
      else m
    let x := m.ptp p
    let s := (x.reqSeq + 1) % 65536
    let m := m.setPtp p { x with reqSeq := s, reqAt := some (egress + m.fld (R.STA_SP_DLY_EGR p)), resp := none, misses := if n = 3 then 0 else n }
    (m.portSend1 p none (.pdelayReq pdelayDst (m.fld R.STA_CFG_DOMAIN) s)).ptpShow
  else m

/-- A Pdelay_Req is received and answered two-step (R369). -/
def Mach.pdelayReq (m : Mach) (p sof egress : Nat) (d : PdelayMsg) : Mach :=
  if !d.ok || d.domain.toNat != m.fld R.STA_CFG_DOMAIN then m.ptpBad
  else
    let dom := m.fld R.STA_CFG_DOMAIN
    (m.portSend1 p none (.pdelayResp pdelayDst dom d.seq.toNat (m.ingress p sof))).portSend1 p none
      (.pdelayRespFollowUp pdelayDst dom d.seq.toNat (egress + m.fld (R.STA_SP_DLY_EGR p)))

/-- A Pdelay_Resp is received. -/
def Mach.pdelayResp (m : Mach) (p sof : Nat) (d : PdelayMsg) : Mach :=
  if !d.ok || d.domain.toNat != m.fld R.STA_CFG_DOMAIN then m.ptpBad
  else
    let x := m.ptp p
    match x.reqAt with
    | some t1 =>
      if d.own && d.seq.toNat == x.reqSeq then
        let t4 := m.ingress p sof
        if d.twoStep then m.setPtp p { x with resp := some (Int.ofNat d.time, t4, d.corr) }
        else m.ptpDelay p ((Int.ofNat t4 - Int.ofNat t1 - d.corr) / 2)
      else m
    | none => m

/-- A Pdelay_Resp_Follow_Up is received, and the mean peer delay is computed. -/
def Mach.pdelayRespFollowUp (m : Mach) (p : Nat) (d : PdelayMsg) : Mach :=
  if !d.ok || d.domain.toNat != m.fld R.STA_CFG_DOMAIN then m.ptpBad
  else
    let x := m.ptp p
    match x.reqAt, x.resp with
    | some t1, some (t2, t4, c) =>
      if d.own && d.seq.toNat == x.reqSeq then
        m.ptpDelay p (((Int.ofNat t4 - Int.ofNat t1) - (Int.ofNat d.time - t2) - c - d.corr) / 2)
      else m
    | _, _ => m

/-- R371: no Sync within 3 sync intervals, or no peer delay within 3 s. Log 66 (DEDUCED). -/
def Mach.ptpOffsetTimeout (m : Mach) (p : Nat) : Mach :=
  let x := m.ptp p
  let late := match x.lastSync with
    | some (a, i) => decide (a + 3 * i ≤ m.now)
    | none => true
  let old := match x.delay with
    | some (_, a) => decide (a + 3000000000 ≤ m.now)
    | none => true
  if x.delivers && (late || old) then (m.setPtp p { x with delivers := false }).ptpShow else m

/-! ### Links (R359, R363, R368) -/

/-- Does a port's link come up? -/
def Mach.linkUp (m : Mach) (p speed : Nat) : Mach :=
  if m.alive && m.flag (R.STA_SP_CFG_EN p) && !m.flag (enpendFld p) && (p == 0 || m.fld R.STA_CFG_MODE == 0) && !m.flag (linkFld p) then
    let m := ((m.setFlag (linkFld p) true).setFld (speedFld p) speed).setPort p { m.port p with garpAt := some (m.now + 1000000000) }
    (m.stat (4290 + p) true).clear (0x34D0 + p) 0 1
  else m

/-- A port's link goes down; its PTP instance delivers nothing. -/
def Mach.linkDown (m : Mach) (p : Nat) : Mach :=
  if m.flag (linkFld p) then
    let m := ((m.setFlag (linkFld p) false).setFld (speedFld p) 0).setPort p { m.port p with garpAt := none }
    let m := (m.stat (4290 + p) false).raise (0x34D0 + p) 0 1
    (m.setPtp p { m.ptp p with delivers := false, sync := none, reqAt := none, resp := none }).ptpShow
  else m

/-- R363: a write of STA.SPp.CFG.EN. -/
def Mach.portEnable (m : Mach) (p : Nat) (on : Bool) : Mach :=
  if on = m.flag (R.STA_SP_CFG_EN p) then m
  else
    let m := m.setFlag (R.STA_SP_CFG_EN p) on
    if on then
      match (m.port p).downAt with
      | some a => if m.now < a + Config.linkDownTime then m.setFlag (enpendFld p) true else m
      | none => m
    else (m.setFlag (enpendFld p) false).linkDown p |>.setPort p { m.port p with downAt := some m.now, garpAt := none }

/-- R363: the link-down time has passed; a pending enable restarts negotiation. -/
def Mach.portRestart (m : Mach) (p : Nat) : Mach :=
  match (m.port p).downAt with
  | some a =>
    if a + Config.linkDownTime ≤ m.now then (m.setFlag (enpendFld p) false).setPort p { m.port p with downAt := none } else m
  | none => m

/-- R368: no frame on a port for 2 s. -/
def Mach.lanSilent (m : Mach) (p : Nat) : Mach :=
  match (m.port p).rxAt with
  | some a => if a + 2000000000 ≤ m.now then m.stat (4292 + p) false else m
  | none => m

/-! ### GOOSE subscription (R373–R378) -/

def Mach.gsub (m : Mach) (b : Nat) : Option GSub := sget none m.sp.subs b

/-- The code of a leaf's type. -/
def GLeaf.code : GLeaf → Nat
  | .bool _ => 0
  | .dbpos _ => 1
  | .int8 _ => 2
  | .int16 _ => 3
  | .int32 _ => 4
  | .uint32 _ => 5
  | .float32 _ => 6
  | .quality _ => 7
  | .utcTime => 8
  | .other => 9

/-- The block a frame belongs to (R373). -/
def Mach.gooseBlock (m : Mach) (g : GooseMsg) : Option Nat :=
  (m.sp.subs.find? (fun e => match e.2 with
    | some s => s.mac == g.dst.toNat && s.appid == g.appid.toNat && s.gocbRef == g.gocbRef && s.datSet == g.datSet
    | none => false)).map (·.1)

/-- R375: the quality code a Quality leaf gives. Bit 0 and bit 1 of the bit string are the validity, bit 10 the source. -/
def gooseQ (v : BitVec 13) : Nat :=
  match v.getLsbD 0, v.getLsbD 1 with
  | false, false => if v.getLsbD 10 then 2 else 0
  | true, true => 3
  | _, _ => 1

/-- The quality of a value member. -/
def memberQ (leaves : List GLeaf) (x : GMember) : Nat :=
  match x.qual with
  | none => 0
  | some i => match leaves[i]? with
    | some (.quality v) => gooseQ v
    | _ => 1

/-- The points a value member writes (R374). -/
def memberPts (stamp q : Nat) (x : GMember) (l : GLeaf) : List PtChange :=
  match l with
  | .bool b => [{ idx := x.target, v := b, q := q, stamp := stamp }]
  | .dbpos v => [{ idx := x.target, v := v.getLsbD 0, q := q, stamp := stamp },
                 { idx := x.target + 1, v := v.getLsbD 1, q := q, stamp := stamp }]
  | _ => []

/-- The word a value member writes. -/
def memberWord (x : GMember) (l : GLeaf) : List (Nat × Word) :=
  match l with
  | .int8 v => [(x.target, v.signExtend 32)]
  | .int16 v => [(x.target, v.signExtend 32)]
  | .int32 v => [(x.target, v)]
  | .uint32 v => [(x.target, v)]
  | .float32 v => [(x.target, v)]
  | _ => []

/-- Does a change alter a source's value or quality or a word? -/
def Mach.differs (m : Mach) (pts : List PtChange) (ws : List (Nat × Word)) : Bool :=
  pts.any (fun p => (m.pt p.idx).sv != p.v || (m.pt p.idx).sq != p.q) || ws.any (fun w => m.comingWord w.1 != w.2.setWidth 128)

/-- The members of a block under a condition of the block: substituted where `sub` and a substitute is configured, else invalid with the value last
received (R187, R188). Log 69 (DEDUCED). -/
def Mach.blockOut (m : Mach) (s : GSub) (sub : Bool) : Mach :=
  let pts := s.members.flatMap (fun x =>
    let as := if x.ty = 0 then [x.target] else if x.ty = 1 then [x.target, x.target + 1] else []
    as.map (fun i => match x.subst, sub with
      | some v, true => ({ idx := i, v := v.testBit (i - x.target), q := 2, stamp := m.now, subst := true } : PtChange)
      | _, _ => { idx := i, v := (m.pt i).rv, q := 1, stamp := m.now }))
  let ws := s.members.flatMap (fun x => match x.subst, sub with
    | some v, true => if 2 ≤ x.ty ∧ x.ty ≤ 6 then [(x.target, BitVec.ofNat 32 v)] else []
    | _, _ => [])
  m.sourceAt pts ws m.now

/-- The status bit of a block (R182). -/
def Mach.blockStatus (m : Mach) (s : GSub) (b : Bool) : Mach :=
  match s.status with
  | some i => m.source [{ idx := i, v := b, q := 0, stamp := m.now }]
  | none => m

/-- Restart a block's time-allowed-to-live at a reception instant. -/
def Mach.talRestart (m : Mach) (b sof tal : Nat) : Mach :=
  { m with sp := { m.sp with tal := sset none m.sp.tal b (some (sof + tal * 1000000)) } }

/-- The block is valid again: its flag, status bit and fault. -/
def Mach.blockValid (m : Mach) (b : Nat) (s : GSub) : Mach :=
  ((m.setFlag (R.STA_GSUB_STAT_VALID b) true).clear (0x3400 + b) 0 1).blockStatus s true

/-- The values and qualities of an accepted frame as one indivisible change (R377). -/
def Mach.gooseValues (m : Mach) (s : GSub) (sof : Nat) (g : GooseMsg) : Mach :=
  let xs := s.members.zip g.leaves
  m.sourceAt (xs.flatMap (fun x => memberPts sof (memberQ g.leaves x.1) x.1 x.2)) (xs.flatMap (fun x => memberWord x.1 x.2)) sof

/-- Record stNum and sqNum and restart the TAL. -/
def Mach.gooseAccept (m : Mach) (b sof : Nat) (s : GSub) (g : GooseMsg) : Mach :=
  let m := (m.rset (R.STA_GSUB_STNUM b).addr g.stNum).rset (R.STA_GSUB_SQNUM b).addr g.sqNum
  let m := { m with sp := { m.sp with known := if m.sp.known.contains b then m.sp.known else m.sp.known ++ [b] } }
  (m.talRestart b sof g.tal).blockValid b s

/-- R376: a frame of block b. A frame of another configuration makes the members invalid, substituted only where the time-allowed-to-live has expired (R188).
Log 69 (DEDUCED). Log 69 (DEDUCED). -/
def Mach.goose (m : Mach) (b sof : Nat) (s : GSub) (g : GooseMsg) : Mach :=
  if !g.ok || g.tal == 0 then (m.satFld (R.STA_GSUB_STAT_MALF b) 1).note 0x34E6
  else if g.sim || (g.test && !s.acceptTest) then m.satFld (R.STA_GSUB_DISC_TEST b) 1
  else if g.confRev ≠ s.confRev ∨ g.leaves.map GLeaf.code ≠ s.members.map (·.ty) then
    let m := (m.setFlag (R.STA_GSUB_STAT_CONFERR b) true).blockOut s (m.faults.contains (0x3400 + b, 0, 1))
    if m.faultOn (0x3800 + b) then m else m.raise (0x3800 + b) 0 1
  else
    let m := (m.setFlag (R.STA_GSUB_STAT_CONFERR b) false).clear (0x3800 + b) 0 1
    let m := m.setFlag (R.STA_GSUB_STAT_NDSCOM b) g.ndsCom
    let last := m.fld (R.STA_GSUB_STNUM b)
    let earlier := (last + 2 ^ 32 - g.stNum.toNat) % 2 ^ 32
    let ahead := (g.sqNum.toNat + 2 ^ 32 - m.fld (R.STA_GSUB_SQNUM b)) % 2 ^ 32
    if g.ndsCom then (m.blockOut s false).talRestart b sof g.tal
    else if !m.sp.known.contains b || (earlier != 0 && decide (15 < earlier)) then (m.gooseValues s sof g).gooseAccept b sof s g
    else if earlier ≠ 0 then m.satFld (R.STA_GSUB_DISC_STALE b) 1
    else if 1 ≤ ahead ∧ ahead < 2 ^ 31 then
      let xs := s.members.zip g.leaves
      let d := m.differs (xs.flatMap (fun x => memberPts sof (memberQ g.leaves x.1) x.1 x.2)) (xs.flatMap (fun x => memberWord x.1 x.2))
      let m := if d then (m.gooseValues s sof g).note 0x34E8 else m
      m.gooseAccept b sof s g
    else m.satFld (R.STA_GSUB_DISC_DUP b) 1

/-- A GOOSE frame (R373): frames that match no entry are discarded without a count. -/
def Mach.gooseFrame (m : Mach) (sof : Nat) (g : GooseMsg) : Mach :=
  match m.gooseBlock g with
  | some b => match m.gsub b with
    | some s => m.goose b sof s g
    | none => m
  | none => m

/-- R378: the time-allowed-to-live of a block expires. -/
def Mach.gooseExpiry (m : Mach) (b : Nat) : Mach :=
  match m.gsub b, sget none m.sp.tal b with
  | some s, some a =>
    if m.alive && m.flag (R.STA_GSUB_STAT_VALID b) && decide (a ≤ m.now) then
      let m := (m.setFlag (R.STA_GSUB_STAT_VALID b) false).satFld (R.STA_GSUB_STAT_EXPIRIES b) 1
      let m := { m with sp := { m.sp with known := m.sp.known.filter (fun x => x != b), tal := sset none m.sp.tal b none } }
      ((m.blockOut s true).blockStatus s false).raise (0x3400 + b) 0 1
    else m
  | _, _ => m

/-! ### GOOSE publication (R379–R382) -/

def Mach.gpub (m : Mach) (b : Nat) : Option GPub := sget none m.sp.pubs b

/-- The value of a member. -/
def Mach.pubValue (m : Mach) (cmtT : Nat) (x : GPubMember) : Nat :=
  match x.ty with
  | 0 => (m.bit spQ x.source).toNat
  | 1 => (m.bit spQ x.source).toNat + 2 * (m.bit spQ (x.source + 1)).toNat
  | 5 => (m.cell spW x.source).toNat % 8192
  | 6 => cmtT
  | _ => (m.cell spW x.source).toNat

/-- R380: the TimeQuality byte: leapSecondsKnown, clockFailure, clockNotSynchronized and TimeAccuracy. -/
def Mach.timeQuality (m : Mach) : Nat :=
  128 * (m.flag R.TB_UTC_OFFSET_VALID).toNat + 64 * (m.tq == tqUnset).toNat + 32 * (m.tq != tqLocked && m.tq != tqHoldover).toNat +
    (if m.tq = tqLocked then 20 else 7)

/-- stNum or sqNum after another: it wraps to 1. -/
def stNext (n : Nat) : Nat := if n + 1 ≥ 2 ^ 32 then 1 else n + 1

/-- The frame of block b as its run stands; its time-allowed-to-live is twice the interval to the next one (R381). -/
def Mach.pubFrame (m : Mach) (b : Nat) (p : GPub) (r : GRun) : GooseOut :=
  { block := b, mac := p.mac, appid := p.appid, vlan := p.vlan, gocbRef := p.gocbRef, datSet := p.datSet, goID := p.goID,
    confRev := p.confRev, stNum := r.st, sqNum := r.sq, tal := max 10 (2 * r.interval / 1000000), vals := r.vals,
    utc := (Int.ofNat r.cmtT + m.utcVal * 1000000000).toNat, timeQ := m.timeQuality }

/-- May a frame of publication leave: the module drives (R275), and a port is up? -/
def Mach.pubMay (m : Mach) : Bool := m.drives && (m.portUp 0 || m.portUp 1)

/-- Send the frame of block b where one may leave, and await the next (R381, R385). -/
def Mach.pubSend (m : Mach) (b : Nat) (p : GPub) (r : GRun) : Mach :=
  let go := m.pubMay
  let m := { m with sp := { m.sp with runs := sset none m.sp.runs b (some { r with nextAt := m.now + r.interval, sent := r.sent || go }) } }
  if go then (((m.portSend (.goose (m.pubFrame b p r))).setFld (R.STA_GPUB_STNUM b) r.st).setFld (R.STA_GPUB_SQNUM b) r.sq).addFld (R.STA_GPUB_TXCNT b) 1
  else m

/-- A new state of block b with a given stNum (R380, R381); the partner is told (R268). -/
def Mach.pubState (m : Mach) (b : Nat) (p : GPub) (st cmtT : Nat) : Mach :=
  let m := m.setFlag (R.STA_GPUB_CFG_ACTIVE b) true
  let m := m.pubSend b p ⟨p.members.map (m.pubValue cmtT), cmtT, st, 0, m.fld (R.STA_GPUB_CFG_TMIN b) * 1000000, m.now, false⟩
  m.linkSend 0x15 (leBytes 1 b ++ (leBytes 3 0 ++ leBytes 4 st))

/-- stNum and sqNum of block b: those of its run, else 0. -/
def Mach.pubNums (m : Mach) (b : Nat) : Nat × Nat :=
  match sget none m.sp.runs b with
  | some r => (r.st, r.sq)
  | none => (0, 0)

/-- Does a member of a publication differ from what it was before a commit? The commit's own time is none. -/
def GPub.changed (p : GPub) (old new : Mach) : Bool := p.members.any (fun x => x.ty != 6 && old.pubValue 0 x != new.pubValue 0 x)

/-- R380: the blocks that a commit changes, from the module `old`, start a new state, held back while the module does not drive (R275). Log 69 (DEDUCED). -/
def Mach.pubCommit (m old : Mach) (cmtT : Nat) : Mach :=
  if m.holderRun then
    foldM (List.range 32) (fun b m => match m.gpub b with
      | some p => if p.changed old m then m.pubState b p (stNext (m.pubNums b).1) cmtT else m
      | none => m) m
  else m

/-- R381: the next frame of a block: a retransmission, or the first of a state that could not be sent. Nothing advances while no frame can leave. -/
def Mach.pubAgain (m : Mach) (b : Nat) : Mach :=
  match m.gpub b, sget none m.sp.runs b with
  | some p, some r =>
    if m.drives && m.flag (R.STA_GPUB_CFG_ACTIVE b) && decide (r.nextAt ≤ m.now) then
      m.pubSend b p (if r.sent && m.pubMay then
        { r with sq := stNext r.sq, interval := min (2 * r.interval) (m.fld (R.STA_GPUB_CFG_TMAX b) * 100000000) } else r)
    else m
  | _, _ => m

/-- Publication ends: RUN or the token is left. -/
def Mach.pubStop (m : Mach) : Mach :=
  foldM (List.range 32) (fun b m => m.setFlag (R.STA_GPUB_CFG_ACTIVE b) false) { m with sp := { m.sp with runs := [] } }

/-- R293: after a takeover every block is published with an stNum one above the last the lead reported. Log 46 (DEDUCED), 69 (DEDUCED). -/
def Mach.pubTakeover (m : Mach) : Mach :=
  foldM (List.range 32) (fun b m => match m.gpub b with
    | some p => m.pubState b p (stNext (sget 0 m.pair.ptnGstn b)) m.now
    | none => m) m

end Sys2Proof.Machine
end

