-- ==== Sys2Proof/Machine/MovOps.lean ====
section
/-!
DEFINITION. The move engine (R494–R510): the bus map and the program's view of it, descriptors and their checks, bursts in every mode,
halts, aborts, and the requests that commits queue.
-/
namespace Sys2Proof.Machine
open Sys2Proof

def Mach.movCh (m : Mach) (c : Nat) : MovCh := sget {} m.mov.chs c
def Mach.setMovCh (m : Mach) (c : Nat) (x : MovCh) : Mach := { m with mov := { m.mov with chs := sset {} m.mov.chs c x } }

/-! ### Addresses (R495, R496) -/

/-- Is an address in the program buffer, the M, the W or the C view? -/
def inPbuf (a : Nat) : Bool := decide (0x0F000000 ≤ a ∧ a ≤ 0x0F3FFFFF)
def inMView (a : Nat) : Bool := decide (0x20000000 ≤ a ∧ a ≤ 0x20001FFF)
def inWView (a : Nat) : Bool := decide (0x20100000 ≤ a ∧ a ≤ 0x201FBFFF)
def inCView (a : Nat) : Bool := decide (0x20200000 ≤ a ∧ a ≤ 0x20203FFF)
def inView (a : Nat) : Bool := inMView a || inWView a || inCView a

/-- Do all bytes of a span lie in one of the places a program channel may read from, or write to (R496)? -/
def progRead (a n : Nat) : Bool :=
  (inPbuf a && inPbuf (a + n - 1)) || (inMView a && inMView (a + n - 1)) || (inWView a && inWView (a + n - 1)) ||
    (inCView a && inCView (a + n - 1))
def progWrite (a n : Nat) : Bool := inPbuf a && inPbuf (a + n - 1)

/-- The element of the image a view byte belongs to (R495). -/
def viewKey (a : Nat) : Nat :=
  if inMView a then ikey spM ((a - 0x20000000) * 8)
  else if inWView a then ikey spW ((a - 0x20100000) / 4)
  else ikey spC ((a - 0x20200000) / 4)

/-- One byte of the M, W or C view. -/
def Mach.viewByte (m : Mach) (a : Nat) : Byte :=
  if inMView a then BitVec.ofBoolListLE ((List.range 8).map (fun j => m.bit spM ((a - 0x20000000) * 8 + j)))
  else if inWView a then BitVec.ofNat 8 ((m.cell spW ((a - 0x20100000) / 4)).toNat / 2 ^ (8 * (a % 4)))
  else BitVec.ofNat 8 ((m.cell spC ((a - 0x20200000) / 4)).toNat / 2 ^ (8 * (a % 4)))

/-- One byte of the program buffer. -/
def Mach.pbufByte (m : Mach) (a : Nat) : Byte := sget 0 m.mov.pbuf a

/-! ### Descriptors (R500–R504) -/

/-- The descriptor MOV.PDESCn. -/
structure MovDesc where
  src : Nat
  dst : Nat
  len : Nat
  rows : Nat
  sstride : Nat
  dstride : Nat
  mode : Nat
  next : Nat
  fill : Nat
  deriving DecidableEq, Repr

def Mach.pdesc (m : Mach) (n : Nat) : MovDesc :=
  { src := m.fld (R.MOV_PDESC_SRC n), dst := m.fld (R.MOV_PDESC_DST n), len := m.fld (R.MOV_PDESC_LEN_LEN n),
    rows := m.fld (R.MOV_PDESC_ROWS_ROWS n), sstride := m.fld (R.MOV_PDESC_STRIDE_SSTRIDE n),
    dstride := m.fld (R.MOV_PDESC_STRIDE_DSTRIDE n), mode := m.fld (R.MOV_PDESC_MODE_MODE n), next := m.fld (R.MOV_PDESC_MODE_NEXT n),
    fill := m.fld (R.MOV_PDESC_FILL n) }

/-- Mode, plane and element size of a descriptor. -/
def MovDesc.kind (d : MovDesc) : Nat := d.mode % 8
def MovDesc.plane (d : MovDesc) : Nat := d.mode / 8 % 8
def MovDesc.elem (d : MovDesc) : Nat := if d.mode / 64 % 2 = 0 then 4 else 8

/-- Bytes of one source row and of one destination row (R501). -/
def MovDesc.srcRow (d : MovDesc) : Nat := if d.kind = 3 then d.len / d.elem else d.len
def MovDesc.dstRow (d : MovDesc) : Nat := if d.kind = 2 then d.len / d.elem else d.len

/-- Length of the span of a side (R503). -/
def spanLen (rows stride row : Nat) : Nat := (rows - 1) * stride + row
def MovDesc.srcSpan (d : MovDesc) : Nat := spanLen d.rows d.sstride d.srcRow
def MovDesc.dstSpan (d : MovDesc) : Nat := spanLen d.rows d.dstride d.dstRow

/-- Do the two sides overlap (R503)? FILL has no source. -/
def MovDesc.overlaps (d : MovDesc) : Bool :=
  d.kind != 1 && decide (d.src < d.dst + d.dstSpan ∧ d.dst < d.src + d.srcSpan)

/-- The alignment rules of R501. -/
def MovDesc.aligned (d : MovDesc) : Bool :=
  match d.kind with
  | 0 => true
  | 1 => d.len % 4 == 0 && d.dst % 4 == 0
  | 4 => d.len % 128 == 0 && d.src % 128 == 0 && d.dst % 128 == 0
  | _ => d.len % (4 * d.elem) == 0 && d.src % 4 == 0 && d.dst % 4 == 0

/-- R502: the code of a refusal of a program descriptor, or none. -/
def MovDesc.refusal (d : MovDesc) (noovl : Bool) : Option Nat :=
  if 4 < d.kind ∨ 128 ≤ d.mode ∨ d.rows = 0 ∨ d.len = 0 then some 5
  else if (d.kind = 2 ∨ d.kind = 3) ∧ d.elem ≤ d.plane then some 5
  else if !d.aligned then some 5
  else if !progWrite d.dst d.dstSpan || (d.kind != 1 && !progRead d.src d.srcSpan) then some 7
  else if d.overlaps && (d.kind != 0 || noovl) then some 4
  else none

/-- The descriptors of a chain, from an index on. -/
def Mach.movChain (m : Mach) : Nat → Nat → List MovDesc
  | 0, _ => []
  | n + 1, i => if 255 < i then [] else m.pdesc i :: (if (m.pdesc i).next = 0xFFFF then [] else m.movChain n (m.pdesc i).next)

/-- The image bytes a chain reads (R508): at most 1 KiB in a program Skobex Studio accepts. -/
def Mach.chainView (m : Mach) (i : Nat) : SMap Byte :=
  (m.movChain 256 i).foldl (fun v d =>
    if d.kind != 1 && inView d.src then
      (List.range (min d.rows 1024)).foldl (fun v r =>
        (List.range (min d.srcRow 1024)).foldl (fun v j =>
          let a := d.src + r * d.sstride + j
          if inView a then sset 0 v a (m.viewByte a) else v) v) v
    else v) []

/-- The reserve in use under R508 (MOV.PRESV). -/
def Mach.presvUse (m : Mach) : Nat :=
  (m.mov.chs.map (fun (e : Nat × MovCh) => ((e.2.queue ++ (e.2.run.map (·.req)).toList).map (fun q => q.kept.length)).sum)).sum

def Mach.showPresv (m : Mach) : Mach :=
  (m.setFld R.MOV_PRESV_CUR m.presvUse).maxFld R.MOV_PRESV_MAX m.presvUse

/-- The 64-byte unit of a view address that an element of the image lies in. -/
def viewUnit (key : Nat) : Option Nat :=
  if keySp key = spM then some ((0x20000000 + keyIdx key / 8) / 64)
  else if keySp key = spW then some ((0x20100000 + 4 * keyIdx key) / 64)
  else if keySp key = spC then some ((0x20200000 + 4 * keyIdx key) / 64)
  else none

/-- A request with the units preserved that an application touches (R508). Log 94 (DEDUCED). -/
def keepUnits (us : List Nat) (q : MovReq) : MovReq :=
  { q with kept := us.foldl (fun k u => if k.contains u || !q.view.any (fun e => e.1 / 64 == u) then k else k ++ [u]) q.kept }

/-- A channel with its requests so. -/
def keepCh (us : List Nat) (x : MovCh) : MovCh :=
  { x with queue := x.queue.map (keepUnits us), run := x.run.map (fun (r : MovRun) => { r with req := keepUnits us r.req }) }

/-- R508: an application overwrites elements; the units of queued requests that it touches are preserved. Log 94 (DEDUCED). -/
def Mach.movPreserve (m : Mach) (keys : List Nat) : Mach :=
  ({ m with mov := { m.mov with chs := m.mov.chs.map (fun (e : Nat × MovCh) => (e.1, keepCh (keys.filterMap viewUnit) e.2)) } }).showPresv

/-! ### Channel state -/

/-- MOV.CHc.STAT.STATE with the bits of MOV.STAT. -/
def Mach.movState (m : Mach) (c st : Nat) : Mach :=
  let m := m.setFld (R.MOV_CH_STAT_STATE c) st
  (m.setFlag ⟨R.MOV_STAT.addr, c, 1⟩ (st == 1)).setFlag ⟨R.MOV_STAT.addr, 16 + c, 1⟩ (st == 2)

/-- QLEN follows the queue. -/
def Mach.movQlen (m : Mach) (c : Nat) : Mach := m.setFld (R.MOV_CH_STAT_QLEN c) (m.movCh c).queue.length

/-- Does a channel serve program requests (MOV.CFG.PROGCH)? -/
def Mach.progCh (m : Mach) (c : Nat) : Bool := decide (8 ≤ c) && (m.fld R.MOV_CFG_PROGCH).testBit (c - 8)

/-- R507: a commit queues a request on a channel. -/
def Mach.movQueue (m : Mach) (c i : Nat) : Mach :=
  if m.progCh c then
    let x := m.movCh c
    if 4 ≤ x.queue.length then (m.setFlag (R.MOV_CH_STAT_QOVF c) true).satFld (R.MOV_CH_DROP_QFULL c) 1
    else (m.setMovCh c { x with queue := x.queue ++ [⟨i, m.chainView i, []⟩] }).movQlen c
  else m

/-- The requests of a commit, in the order of its digest stream. Log 94 (DEDUCED). -/
def Mach.movCommit (m : Mach) (ds : List Deferred) : Mach :=
  foldM ds (fun d m => match d with
    | .mvrq c i => m.movQueue c i
    | .wdck _ => m) m

/-- R498: a request line rises. -/
def Mach.movRequest (m : Mach) (c : Nat) : Mach :=
  if 63 ≤ m.fld (R.MOV_CH_STAT_PEND c) then m.setFlag (R.MOV_CH_STAT_REQOVF c) true else m.addFld (R.MOV_CH_STAT_PEND c) 1

/-- The channels of a request line (R494). -/
def lineChannels (l : Nat) : List Nat :=
  match l with
  | 1 => [0]
  | 2 => [1]
  | 3 => [2, 3]
  | 4 => [6]
  | _ => []

/-- R502: a descriptor is refused; its chain is dropped with it. -/
def Mach.movRefuse (m : Mach) (c code : Nat) : Mach :=
  ((m.setFld (R.MOV_CH_ERRINFO_CODE c) code).setFlag (R.MOV_CH_STAT_REFUSED c) true).satFld (R.MOV_CH_DROP_REFUSED c) 1

/-- Start a descriptor of a request (R502); it tells whether the channel runs it. Log 93 (DEDUCED). -/
def Mach.movStart (m : Mach) (c : Nat) (q : MovReq) (i : Nat) : Bool × Mach :=
  let m := (m.setFld (R.MOV_CH_DESC_INDEX c) i).setFlag (R.MOV_CH_DESC_PROG c) true
  if 255 < i then (false, m.movRefuse c 6)
  else
    let d := m.pdesc i
    match d.refusal (m.flag (R.MOV_CH_CTRL_NOOVL c)) with
    | some code => (false, m.movRefuse c code)
    | none =>
      let buf := if d.overlaps then
          some ((List.range d.srcSpan).foldl (fun b j => sset 0 b (d.src + j) (m.pbufByte (d.src + j))) []) else none
      let m := m.setMovCh c { m.movCh c with run := some ⟨i, q, 0, 0, buf⟩ }
      (true, ((m.setFld (R.MOV_CH_RESID_BYTES c) d.len).setFld (R.MOV_CH_ROWSLEFT_ROWS c) (d.rows - 1)).movState c 1)

/-- Take queued requests until one's descriptor runs. -/
def Mach.movTake (m : Mach) (c : Nat) : Nat → Mach
  | 0 => m
  | n + 1 =>
    match (m.movCh c).queue with
    | [] => m
    | q :: rest =>
      let m := (m.setMovCh c { m.movCh c with queue := rest }).movQlen c
      let (ok, m) := m.movStart c q q.index
      if ok then m else m.movTake c n

/-! ### A burst (R497, R501) -/

/-- One source byte of a run: the buffer of an overlapping COPY, the preserved view, or the program buffer. -/
def Mach.movByte (m : Mach) (r : MovRun) (a : Nat) : Byte :=
  match r.buf with
  | some b => sget 0 b a
  | none => if inView a then sget 0 r.req.view a else m.pbufByte a

/-- Bit `i` of a bit stream that starts at an address. -/
def Mach.movBit (m : Mach) (r : MovRun) (a i : Nat) : Bool := (m.movByte r (a + i / 8)).getLsbD (i % 8)

/-- Write a byte of the program buffer. -/
def Mach.pbufSet (m : Mach) (a : Nat) (b : Byte) : Mach := { m with mov := { m.mov with pbuf := sset 0 m.mov.pbuf a b } }

/-- A byte from a test of its bits. -/
def byteOf (f : Nat → Bool) : Byte := BitVec.ofBoolListLE ((List.range 8).map f)

/-- The destination byte at offset `j` of the row that starts at `s` in the source and `t` in the destination. -/
def Mach.movDst (m : Mach) (r : MovRun) (d : MovDesc) (s t j : Nat) : Byte :=
  match d.kind with
  | 0 => m.movByte r (s + j)
  | 1 => BitVec.ofNat 8 (d.fill / 2 ^ (8 * (j % 4)))
  | 2 => byteOf (fun i => m.movBit r s (d.elem * (8 * j + i) + d.plane))
  | 3 => byteOf (fun i =>
      let b := 8 * j + i
      if b % d.elem = d.plane then m.movBit r s (b / d.elem) else (m.pbufByte (t + j)).getLsbD i)
  | _ =>
    let tile := j / 128 * 128
    let w := j % 128 / 4
    byteOf (fun i => m.movBit r (s + tile + 4 * (8 * (j % 4) + i)) w)

/-- The destination bytes that correspond to bytes `p` to `p + n − 1` of the side LEN counts. -/
def MovDesc.dstOf (d : MovDesc) (p n : Nat) : Nat × Nat := if d.kind = 2 then (p / d.elem, n / d.elem) else (p, n)

/-- The offset in the source row of byte `p` of the side LEN counts. -/
def MovDesc.srcOf (d : MovDesc) (p : Nat) : Nat := if d.kind = 3 then p / d.elem else p

/-- A descriptor has been moved: it counts, and its NEXT runs after it. -/
def Mach.movDone (m : Mach) (c : Nat) (r : MovRun) (d : MovDesc) : Mach :=
  let m := ((m.addFld (R.MOV_CH_DONE c) 1).setMovCh c { m.movCh c with run := none }).movState c 0
  (if d.next = 0xFFFF then m else (m.movStart c r.req d.next).2).showPresv

/-- R505: a bus error halts a channel. -/
def Mach.movHalt (m : Mach) (c a code dir : Nat) : Mach :=
  let m := (m.setFld (R.MOV_CH_ERRADDR c) a).setFld (R.MOV_CH_ERRINFO_CODE c) code
  ((m.setFld (R.MOV_CH_ERRINFO_DIR c) dir).setFlag (R.MOV_CH_ERRINFO_ERR c) true).movState c 2

/-- One burst of a program channel's descriptor. `bad` is the offset in the burst of a byte whose DRAM read cannot be corrected. Log 93 (DEDUCED). -/
def Mach.movBurst (m : Mach) (c : Nat) (bad : Option Nat) : Mach :=
  match (m.movCh c).run with
  | none => m
  | some r =>
    let d := m.pdesc r.index
    let n := min 64 (d.len - r.pos)
    let s := d.src + r.row * d.sstride
    let t := d.dst + r.row * d.dstride
    match (if d.kind = 1 ∨ inView d.src then none else bad) with
    | some j => ((m.movHalt c (s + d.srcOf (r.pos + j)) 3 0).setFlag ⟨R.DIAG_ECCUNC.addr, 6, 1⟩ true).raise 0x31E3 0 2
    | none =>
      let (p, k) := d.dstOf r.pos n
      let bs := (List.range k).map (fun j => m.movDst r d s t (p + j))
      let m := foldM ((List.range k).zip bs) (fun x m => m.pbufSet (t + p + x.1) x.2) m
      let m := m.addFld (R.MOV_CH_BYTES c) n
      let left := d.len - r.pos - n
      if left = 0 then
        if r.row + 1 < d.rows then
          ((m.setMovCh c { m.movCh c with run := some { r with row := r.row + 1, pos := 0 } }).setFld (R.MOV_CH_RESID_BYTES c) d.len).setFld
            (R.MOV_CH_ROWSLEFT_ROWS c) (d.rows - r.row - 2)
        else (m.setFld (R.MOV_CH_RESID_BYTES c) 0).movDone c r d
      else (m.setMovCh c { m.movCh c with run := some { r with pos := r.pos + n } }).setFld (R.MOV_CH_RESID_BYTES c) left

/-- The burst of channel 0: up to four entries of the journal FIFO go to the ring (R227, R228). -/
def Mach.movJournal (m : Mach) : Mach :=
  let es := m.ev.fifo.take 4
  let m := (m.addFld (R.MOV_CH_STAT_PEND 0) (2 ^ 6 - 1)).addFld (R.MOV_CH_BYTES 0) (16 * es.length)
  ({ m with ev := { m.ev with fifo := m.ev.fifo.drop 4 } }).ringPut es

/-- Has a channel a request that can be served (R497, R498)? -/
def Mach.movWants (m : Mach) (c : Nat) : Bool :=
  m.flag (R.MOV_CH_CTRL_EN c) && m.fld (R.MOV_CH_STAT_STATE c) != 2 &&
    (if c = 0 then m.fld (R.MOV_CH_STAT_PEND 0) != 0 && !m.ev.fifo.isEmpty
     else (m.movCh c).run.isSome || !(m.movCh c).queue.isEmpty)

/-- R499: the channel that wins a burst boundary. Log 93 (DEDUCED). -/
def Mach.movWinner (m : Mach) : Option Nat :=
  let cs := (List.range 16).filter m.movWants
  let ps := cs.filter (fun c => decide (8 ≤ c))
  if m.mov.bursts % 10 = 9 ∧ !ps.isEmpty then ps.head? else cs.head?

/-- A burst boundary. -/
def Mach.movBoundary (m : Mach) (bad : Option Nat) : Mach :=
  match m.movWinner with
  | none => m
  | some c =>
    let m := { m with mov := { m.mov with bursts := m.mov.bursts + 1 } }
    if c = 0 then m.movJournal
    else
      let m := if (m.movCh c).run.isNone then m.movTake c 17 else m
      (m.movBurst c bad).showPresv

/-- R506: abort a channel. -/
def Mach.movAbort (m : Mach) (c : Nat) (keep : Bool) : Mach :=
  let x := m.movCh c
  let m := m.setMovCh c { x with run := none, queue := if keep then x.queue else [] }
  let m := if keep then m else m.setFld (R.MOV_CH_STAT_PEND c) 0
  (((m.setFlag (R.MOV_CH_ERRINFO_ERR c) false).movQlen c).movState c 3).showPresv

/-- R505: a write of 1 to ERRINFO.ERR. -/
def Mach.movRestart (m : Mach) (c : Nat) : Mach :=
  if m.flag (R.MOV_CH_ERRINFO_ERR c) then
    ((m.setMovCh c { m.movCh c with run := none }).setFlag (R.MOV_CH_ERRINFO_ERR c) false).movState c 0 |>.showPresv
  else m

/-- R506: a write of CTRL.EN. -/
def Mach.movEnable (m : Mach) (c : Nat) (on : Bool) : Mach :=
  if on then m.setFlag (R.MOV_CH_CTRL_EN c) true
  else if m.flag (R.MOV_CH_CTRL_EN c) then (m.setFlag (R.MOV_CH_CTRL_EN c) false).movAbort c true else m

/-- The channels as the firmware starts them in CONFIG (R494). -/
def Mach.movInit (m : Mach) : Mach :=
  let m := foldM (List.range 5) (fun l m => foldM (lineChannels l) (fun c m => m.setFld (R.MOV_CH_CTRL_LINE c) l) m) m
  foldM (List.range 16) (fun c m => if c < 8 || m.progCh c then m.setFlag (R.MOV_CH_CTRL_EN c) true else m) m

end Sys2Proof.Machine
end

