-- ==== Sys2Proof/Machine/DspOps.lean ====
section
/-!
DEFINITION. The mimic display (R511–R537): the waveform table, requests and regions, panel frames with the ledger, stopping and the
discharge, pages and bound elements, the alarm list, and the state that SAVE keeps.
-/
namespace Sys2Proof.Machine
open Sys2Proof

/-! ### The display section (R519, R528, R529) -/

/-- A little-endian field of the display section. -/
def Mach.dsec (m : Mach) (off n : Nat) : Nat := fieldAt m.dsp.sect off n

/-- Does the package define a display? -/
def Mach.dspOn (m : Mach) : Bool := !m.dsp.sect.isEmpty

def Mach.dspWidth (m : Mach) : Nat := m.fld R.DSP_PANEL_WIDTH
def Mach.dspHeight (m : Mach) : Nat := m.fld R.DSP_PANEL_HEIGHT

/-- The number of a pixel. -/
def Mach.pix (m : Mach) (x y : Nat) : Nat := y * m.dspWidth + x

/-- Bands of the waveform table. -/
def Mach.nBands (m : Mach) : Nat := m.dsec (m.dsec 8 4) 1
def Mach.bandLo (m : Mach) (b : Nat) : Int := sint16 (m.dsec (m.dsec 8 4 + 4 + 8 * b) 2)
def Mach.bandHi (m : Mach) (b : Nat) : Int := sint16 (m.dsec (m.dsec 8 4 + 6 + 8 * b) 2)
def Mach.bandFr (m : Mach) (b : Nat) : Nat := m.dsec (m.dsec 8 4 + 8 + 8 * b) 1
def Mach.bandF (m : Mach) (b mode : Nat) : Nat := m.dsec (m.dsec 8 4 + 9 + 8 * b + mode) 1

/-- The drive code of frame f of a transition (R519); 0b11 is sent as 0b00 (R512). -/
def Mach.wave (m : Mach) (b mode o n f : Nat) : Nat :=
  if m.bandF b mode ≤ f then 0
  else
    let a := m.dsec 8 4 + 4 + 8 * m.nBands + 16 * (768 * b + 256 * mode + 16 * o + n)
    let c := m.dsec (a + f / 4) 1 / 4 ^ (f % 4) % 4
    if c = 3 then 0 else c

/-- R521: the band of the last measured temperature. -/
def Mach.bandNow (m : Mach) : Option Nat :=
  let t := sint16 (m.fld R.DSP_TEMP_TEMP)
  if m.flag R.DSP_TEMP_OPEN then none
  else (List.range m.nBands).find? (fun b => decide (m.bandLo b ≤ t ∧ t < m.bandHi b))

/-! ### Planes, regions and requests (R522–R527) -/

def Mach.oldLevel (m : Mach) (p : Nat) : Nat := sget 0 m.dsp.old p
def Mach.newLevel (m : Mach) (p : Nat) : Nat := sget 0 m.dsp.new p
def Mach.ledger (m : Mach) (p : Nat) : Int := sget 0 m.dsp.ledger p
def Mach.dspRun (m : Mach) (n : Nat) : Option DspRun := sget none m.dsp.runs n

/-- The pixels of a rectangle. -/
def Mach.rectPix (m : Mach) (r : DspReq) : List Nat :=
  (List.range r.h).flatMap (fun j => (List.range r.w).map (fun i => m.pix (r.x + i) (r.y + j)))

/-- Do two rectangles share a pixel? -/
def rectsMeet (a b : DspReq) : Bool := decide (a.x < b.x + b.w ∧ b.x < a.x + a.w ∧ a.y < b.y + b.h ∧ b.y < a.y + a.h)

/-- The bounding rectangle of two requests, in a mode. -/
def rectJoin (a b : DspReq) (mode : Nat) : DspReq :=
  let x := min a.x b.x
  let y := min a.y b.y
  { x := x, y := y, w := max (a.x + a.w) (b.x + b.w) - x, h := max (a.y + a.h) (b.y + b.h) - y, mode := mode }

/-- The whole panel. -/
def Mach.whole (m : Mach) (mode : Nat) : DspReq := { x := 0, y := 0, w := m.dspWidth, h := m.dspHeight, mode := mode }

/-- The frames of an update (R525). -/
def Mach.dspFrames (m : Mach) (r : DspRun) : Nat :=
  match r.req.mode with
  | 2 => r.corr + m.bandF r.band 2 + m.bandF r.band 0
  | k => m.bandF r.band k

/-- The phase of a whitewash at a frame: 0 correction, 1 clear, 2 draw. -/
def Mach.dspPhase (m : Mach) (r : DspRun) (f : Nat) : Nat :=
  if r.req.mode ≠ 2 ∨ f < r.corr then 0 else if f < r.corr + m.bandF r.band 2 then 1 else 2

/-- The drive code of a pixel at a frame of its region's update (R524, R525). -/
def Mach.dspCode (m : Mach) (r : DspRun) (p f : Nat) : Nat :=
  let o := m.oldLevel p
  let n := sget 0 r.content p
  match r.req.mode with
  | 0 => m.wave r.band 0 o n f
  | 1 => m.wave r.band 1 o (if n < 8 then 0 else 15) f
  | _ =>
    if f < r.corr then (if 0 < m.ledger p then 2 else if m.ledger p < 0 then 1 else 0)
    else if f < r.corr + m.bandF r.band 2 then m.wave r.band 2 o 15 (f - r.corr)
    else m.wave r.band 0 15 n (f - r.corr - m.bandF r.band 2)

/-- The registers of region n, with ACTIVE. -/
def Mach.showRegion (m : Mach) (n : Nat) : Mach :=
  let m := m.setFld R.DSP_STAT_ACTIVE m.dsp.runs.length
  match m.dspRun n with
  | none => m.setFld (R.DSP_REG_STAT_STATE n) 0
  | some r =>
    let m := ((m.setFld (R.DSP_REG_STAT_STATE n) 1).setFld (R.DSP_REG_STAT_MODE n) r.req.mode).setFld (R.DSP_REG_STAT_BAND n) r.band
    let m := (m.setFld (R.DSP_REG_STAT_FRAME n) (r.frame - 1)).setFld (R.DSP_REG_STAT_PHASE n) (m.dspPhase r (r.frame - 1))
    let m := (m.setFld (R.DSP_REG_XY_X n) r.req.x).setFld (R.DSP_REG_XY_Y n) r.req.y
    let m := (m.setFld (R.DSP_REG_WH_W n) r.req.w).setFld (R.DSP_REG_WH_H n) r.req.h
    m.setFld (R.DSP_REG_LMAX_LMAX n) r.lmax

def Mach.setRun (m : Mach) (n : Nat) (r : Option DspRun) : Mach :=
  ({ m with dsp := { m.dsp with runs := sset none m.dsp.runs n r } }).showRegion n

/-- R527: of a list of requests in order, beside the regions that are active and those that are free: the requests that start at the
next frame boundary, and after `waiting` those that wait. One starts when it shares no pixel with an active region, nor with a request
before it. Log 96 (DEDUCED). -/
def splitQueue (active : List DspReq) (idle : Nat) (waiting : List DspReq) : List DspReq → List DspReq × List DspReq
  | [] => ([], waiting)
  | r :: rs =>
    if idle = 0 || active.any (fun a => rectsMeet a r) || waiting.any (fun w => rectsMeet w r) then splitQueue active idle (waiting ++ [r]) rs
    else
      let x := splitQueue (r :: active) (idle - 1) waiting rs
      (r :: x.1, x.2)

/-- The active updates. -/
def Mach.activeRuns (m : Mach) : List (Nat × DspRun) := m.dsp.runs.filterMap (fun e => e.2.map (fun r => (e.1, r)))

/-- R527: the requests of a queue that start at the next frame boundary, and those that wait. -/
def Mach.dspSplit (m : Mach) (q : List DspReq) : List DspReq × List DspReq :=
  splitQueue (m.activeRuns.map (·.2.req)) (16 - m.activeRuns.length) [] q

/-- The requests not yet started are `q`; QUEUED shows those that wait. -/
def Mach.setQueue (m : Mach) (q : List DspReq) : Mach :=
  ({ m with dsp := { m.dsp with queue := q } }).setFld R.DSP_STAT_QUEUED (m.dspSplit q).2.length

/-- Does a request not yet started bring what another asks for: the other's pixels, and a whitewash where it asks for one? Log 96 (DEDUCED). -/
def covers (w r : DspReq) : Bool :=
  decide (w.x ≤ r.x ∧ r.x + r.w ≤ w.x + w.w ∧ w.y ≤ r.y ∧ r.y + r.h ≤ w.y + w.h) && (r.mode != 2 || w.mode == 2)

/-- R527: request an update. A request not yet started that covers it takes its content in; a full queue merges it with the last
waiting one, in which of the two modes is a free value. Log 96 (DEDUCED). -/
def Mach.dspRequest (m : Mach) (r : DspReq) : Mach :=
  if m.dsp.queue.any (fun w => covers w r) then m
  else if (m.dspSplit (m.dsp.queue ++ [r])).2.length ≤ 32 then m.setQueue (m.dsp.queue ++ [r])
  else
    match (m.dspSplit m.dsp.queue).2.getLast? with
    | none => m
    | some l =>
      let (n, m) := m.fresh
      let mode := if (Config.freeWord n).getLsbD 0 then l.mode else r.mode
      (m.setQueue (m.dsp.queue.erase l ++ [rectJoin l r mode])).satFld R.DSP_CNT2_MERGED 1

/-- The largest absolute ledger in a rectangle. -/
def Mach.ledgerMax (m : Mach) (r : DspReq) : Nat := (m.rectPix r).foldl (fun b p => max b (m.ledger p).natAbs) 0

/-- Show whether the temperature lies outside the table (R521). -/
def Mach.tempOut (m : Mach) (b : Bool) : Mach :=
  if m.flag R.DSP_STAT_TEMPOUT = b then m
  else
    let m := (m.setFlag R.DSP_STAT_TEMPOUT b).stat 4295 b
    if b then m.raise 0x3602 0 1 else m.clear 0x3602 0 1

/-- Start an update on the first idle region (R521, R525, R526). Log 96 (DEDUCED). -/
def Mach.dspStart (m : Mach) (r : DspReq) : Mach :=
  match m.bandNow, (List.range 16).find? (fun n => (m.dspRun n).isNone) with
  | none, _ => (m.satFld R.DSP_CNT1_REFUSED 1).tempOut true
  | _, none => m
  | some b, some n =>
    let l := m.ledgerMax r
    let up := r.mode != 2 && decide (m.fld R.DSP_CFG_LEDGLIM ≤ l)
    let r' := if up then { r with mode := 2 } else r
    let m := if up then m.satFld R.DSP_CNT0_PROMOTED 1 else m
    let m := m.setFld R.DSP_TEMP_BAND b
    let content := (m.rectPix r).foldl (fun c p => sset 0 c p (m.newLevel p)) []
    m.setRun n (some ⟨r', b, 0, min (m.fld R.DSP_CFG_CORRMAX) l, l, content⟩)

/-- R527: the requests that start at this boundary start, in queue order; the others wait on. -/
def Mach.dspDequeue (m : Mach) : Mach :=
  let x := m.dspSplit m.dsp.queue
  (foldM x.1 (fun r m => m.dspStart r) m).setQueue x.2

/-- The end of an update: the new plane, as the update took it, is copied into the old plane over the region (R524). Log 96 (DEDUCED). -/
def Mach.dspFinish (m : Mach) (n : Nat) (r : DspRun) : Mach :=
  let old := (m.rectPix r.req).foldl (fun o p => sset 0 o p (sget 0 r.content p)) m.dsp.old
  (({ m with dsp := { m.dsp with old := old } }).addFld R.DSP_CNT0_UPDATES 1).setRun n none

/-- Drive one pixel (R524); a ledger that saturates is noted once (R526). -/
def Mach.dspPixel (m : Mach) (code p : Nat) : Mach :=
  if code = 0 then m
  else
    let v := m.ledger p + (if code = 1 then 1 else -1)
    let m := if 127 < v.natAbs ∧ !m.flag R.DSP_STAT_LEDGSAT then (m.setFlag R.DSP_STAT_LEDGSAT true).note 0x3608 else m
    { m with dsp := { m.dsp with ledger := sset 0 m.dsp.ledger p (max (-127) (min v 127)) } }

/-- One frame of an update. -/
def Mach.dspDrive (m : Mach) (n : Nat) (r : DspRun) : Mach :=
  let codes := (m.rectPix r.req).map (fun p => (p, m.dspCode r p r.frame))
  let m := foldM codes (fun x m => m.dspPixel x.2 x.1) m
  m.setRun n (some { r with frame := r.frame + 1 })

/-! ### Rails, stop and discharge (R515–R517, R533) -/

/-- DSP.STAT.STATE. -/
def Mach.dspState (m : Mach) : Nat := m.fld R.DSP_STAT_STATE
def dsOff : Nat := 0
def dsPowerup : Nat := 1
def dsReady : Nat := 2
def dsStopping : Nat := 3
def dsDischarge : Nat := 4
def dsFault : Nat := 5

/-- Start the power-up of the rails. -/
def Mach.dspPower (m : Mach) : Mach :=
  ({ m with dsp := { m.dsp with retryAt := none } }).setFld R.DSP_STAT_STATE dsPowerup

/-- Does the display run (R531)? -/
def Mach.dspRuns (m : Mach) : Bool := m.dspOn && (m.st == .run || m.st == .stop)

/-- The display is to be on: once a stop that is in progress has run to its end (R516), at once where it runs and no warning holds (R515, R533). Log 96 (DEDUCED). -/
def Mach.dspWake (m : Mach) : Mach :=
  if m.dsp.stopPend || m.dsp.dischAt.isSome then m.setFlag R.DSP_STAT_ENPEND true
  else if m.dspState = dsOff ∧ m.dspRuns ∧ !m.dsp.warned then m.dspPower else m

/-- A set of DSP.CTRL.EN (R515, R516). -/
def Mach.dspEnable (m : Mach) : Mach := if m.flag R.DSP_CTRL_EN then m else (m.setFlag R.DSP_CTRL_EN true).dspWake

/-- Two's complement byte of a tile's ledger: the mean of its pixels rounded toward zero (R533). -/
def Mach.tileByte (m : Mach) (tx ty : Nat) : Byte :=
  let xs := (List.range 16).filter (fun i => decide (16 * tx + i < m.dspWidth))
  let ys := (List.range 16).filter (fun j => decide (16 * ty + j < m.dspHeight))
  let ps := ys.flatMap (fun j => xs.map (fun i => m.pix (16 * tx + i) (16 * ty + j)))
  let s := ps.foldl (fun a p => a + m.ledger p) 0
  BitVec.ofInt 8 (s.tdiv (Int.ofNat ps.length))

/-- The 16 bytes of a region in the display state. -/
def Mach.regionBytes (m : Mach) (n : Nat) : List Byte :=
  match m.dspRun n with
  | some r => leBytes 2 r.req.x ++ leBytes 2 r.req.y ++ leBytes 2 r.req.w ++ leBytes 2 r.req.h ++ leBytes 1 r.req.mode ++ leBytes 1 r.band ++
      leBytes 1 r.frame ++ leBytes 1 (m.dspPhase r r.frame) ++ leBytes 4 1
  | none =>
    leBytes 2 (m.fld (R.DSP_REG_XY_X n)) ++ leBytes 2 (m.fld (R.DSP_REG_XY_Y n)) ++ leBytes 2 (m.fld (R.DSP_REG_WH_W n)) ++
      leBytes 2 (m.fld (R.DSP_REG_WH_H n)) ++ leBytes 1 (m.fld (R.DSP_REG_STAT_MODE n)) ++ leBytes 1 (m.fld (R.DSP_REG_STAT_BAND n)) ++
      leBytes 1 (m.fld (R.DSP_REG_STAT_FRAME n)) ++ leBytes 1 (m.fld (R.DSP_REG_STAT_PHASE n)) ++ leBytes 4 0

/-- The payloads of the two DISPLAY records (R533). Log 95 (DESIGN CHOICE). -/
def Mach.displayState (m : Mach) : List (List Byte) :=
  let head := leBytes 2 m.dspWidth ++ leBytes 2 m.dspHeight ++ leBytes 1 (m.fld R.DSP_PAGE_SHOWN) ++ leBytes 3 0 ++ leBytes 8 m.now ++ leBytes 16 0
  let tiles := (List.range ((m.dspHeight + 15) / 16)).flatMap (fun ty =>
    (List.range ((m.dspWidth + 15) / 16)).map (fun tx => m.tileByte tx ty))
  [head ++ (List.range 16).flatMap m.regionBytes ++ tiles.take 7904, tiles.drop 7904]

/-- The display state that SAVE writes is formed (R533). -/
def Mach.dspForm (m : Mach) : Mach :=
  if m.dsp.warned then { m with dsp := { m.dsp with saved := some m.displayState, readyAt := m.now + 4000000 } } else m

/-- The drive stops at a frame boundary: the discharge sequence of R516 runs. After a warning the display state is formed (R533). -/
def Mach.dspStop (m : Mach) : Mach :=
  let rs := m.activeRuns
  let fr := m.bandFr (m.fld R.DSP_TEMP_BAND)
  let m := m.dspForm
  let m :=
    if m.dsp.byWarn then
      let m := { m with dsp := { m.dsp with broken := rs.map (·.2) } }
      if rs.isEmpty then m else (m.satFld R.DSP_CNT1_INTERRUPTED rs.length).info 0x3604
    else m
  let m := foldM rs (fun x m => m.setRun x.1 none) m
  let m := { m with dsp := { m.dsp with stopPend := false, byWarn := false, stopping := true, dischAt := some (m.now + 1000000000 / fr + 2100000) } }
  (m.setFld R.DSP_STAT_STATE dsStopping).stat 4294 false

/-- The controller is to stop: at the next frame boundary while it drives, at once while the rails come up. Log 96 (DEDUCED). -/
def Mach.dspHalt (m : Mach) : Mach :=
  if m.dspState = dsReady then { m with dsp := { m.dsp with stopPend := true } }
  else if m.dspState = dsPowerup then m.dspStop
  else m

/-- A clear of DSP.CTRL.EN (R516). -/
def Mach.dspDisable (m : Mach) : Mach :=
  if m.flag R.DSP_CTRL_EN then ((m.setFlag R.DSP_CTRL_EN false).setFlag R.DSP_STAT_ENPEND false).dspHalt else m

/-- The sequence of R516 enters DISCHARGE when the supplies of every rail are off. -/
def Mach.dspTime (m : Mach) : Mach :=
  match m.dsp.dischAt with
  | some a =>
    if m.dsp.stopping && decide (a ≤ m.now) then
      let m := { m with dsp := { m.dsp with stopping := false } }
      let m := m.setFld R.DSP_RAIL_OK 0
      if m.dspState = dsStopping then m.setFld R.DSP_STAT_STATE dsDischarge else m
    else m
  | none => m

/-- The rails fall below 0.1 mJ (R516, R517). -/
def Mach.dspOff (m : Mach) : Mach :=
  if m.dsp.dischAt.isSome && !m.dsp.stopping then
    let pend := m.flag R.DSP_STAT_ENPEND
    let m := ({ m with dsp := { m.dsp with dischAt := none } }).setFlag R.DSP_STAT_ENPEND false
    if 3 ≤ m.dsp.faults.length then m.setFld R.DSP_STAT_STATE dsFault
    else
      let m := m.setFld R.DSP_STAT_STATE dsOff
      if pend then m.dspWake
      else if m.faultOn 0x3607 then { m with dsp := { m.dsp with retryAt := some (m.now + 10000000000) } } else m
  else m

/-- Every rail is within range (R515). A retry that succeeds clears the rail fault; the regions a warning interrupted are asked for again (R534). -/
def Mach.dspReady (m : Mach) : Mach :=
  if m.dspState = dsPowerup then
    let m := (m.setFld R.DSP_STAT_STATE dsReady).setFld R.DSP_RAIL_OK 31
    let m := ((m.stat 4294 true).info 0x3600).clear 0x3607 0 1
    let rs := m.dsp.broken.map (fun r => { r.req with mode := 2 })
    foldM rs (fun r m => m.dspRequest r) { m with dsp := { m.dsp with broken := [] } }
  else m

/-- R517: a rail out of range for 1 ms. -/
def Mach.dspRailFault (m : Mach) (ok : Nat) : Mach :=
  if m.dspState = dsReady ∧ ok % 32 ≠ 31 then
    let m := (m.setFld R.DSP_RAIL_OK ok).satFld R.DSP_RAIL_FAULTS 1
    let fs := (m.dsp.faults.filter (fun t => decide (m.now < t + 60000000000))) ++ [m.now]
    let m := { m with dsp := { m.dsp with faults := fs } }
    (if m.faultOn 0x3607 then m else m.raise 0x3607 0 1).dspHalt
  else m

/-- R517: the retry. -/
def Mach.dspRetry (m : Mach) : Mach :=
  match m.dsp.retryAt with
  | some a => if a ≤ m.now ∧ m.dspState = dsOff ∧ m.flag R.DSP_CTRL_EN then ({ m with dsp := { m.dsp with retryAt := none } }).dspWake else m
  | none => m

/-- R533: a power-fail warning. -/
def Mach.dspWarn (m : Mach) : Mach :=
  if m.dspOn then
    let on := m.dspState == dsReady || m.dspState == dsPowerup
    let m := { m with dsp := { m.dsp with warned := true, byWarn := on } }
    if on then m.dspHalt else m.dspForm
  else m

/-- R534: VSUP returns before SAVE. -/
def Mach.dspReturn (m : Mach) : Mach :=
  if m.dsp.warned then
    let m := { m with dsp := { m.dsp with warned := false, saved := none } }
    if m.flag R.DSP_CTRL_EN && m.dsp.retryAt.isNone then m.dspWake else m
  else m

/-- R531: the display runs in STOP and RUN, and holds its image unpowered in every other state. Log 96 (DEDUCED). -/
def Mach.dspFollow (m : Mach) : Mach :=
  if m.dspRuns then (if m.flag R.DSP_CTRL_EN && m.dsp.retryAt.isNone && m.dsp.dischAt.isNone && !m.dsp.stopPend then m.dspWake else m)
  else m.dspHalt

/-- A panel frame starts (R513, R524, R527). -/
def Mach.panelFrame (m : Mach) : Mach :=
  if m.dspState = dsReady then
    let done := m.activeRuns.filter (fun x => decide (m.dspFrames x.2 ≤ x.2.frame))
    let m := foldM done (fun x m => m.dspFinish x.1 x.2) m
    if m.dsp.stopPend then m.dspStop
    else
      let m := m.dspDequeue
      foldM m.activeRuns (fun x m => m.dspDrive x.1 x.2) m
  else m

/-- R518, R521: a measurement of the panel temperature in 0.1 °C. -/
def Mach.thermistor (m : Mach) (temp : Int) : Mach :=
  if temp < -450 ∨ 900 < temp then
    let m := m.setFlag R.DSP_TEMP_OPEN true
    if m.faultOn 0x360A then m else m.raise 0x360A 0 1
  else
    let m := ((m.setFlag R.DSP_TEMP_OPEN false).clear 0x360A 0 1).setFld R.DSP_TEMP_TEMP (twos 16 temp)
    if m.bandNow.isSome then m.tempOut false else m

/-! ### Pages and elements (R528–R531) -/

/-- Set a level of the new plane. -/
def Mach.setNew (m : Mach) (x y l : Nat) : Mach :=
  if x < m.dspWidth ∧ y < m.dspHeight then { m with dsp := { m.dsp with new := sset 0 m.dsp.new (m.pix x y) l } } else m

/-- The levels of run data of `words` 16-bit words at an offset (R528). -/
def Mach.runData (m : Mach) (off words : Nat) : List Nat :=
  (List.range words).flatMap (fun i => let w := m.dsec (off + 2 * i) 2; List.replicate (w % 4096 + 1) (w / 4096))

/-- Draw levels in raster order into a rectangle of the new plane. -/
def Mach.blit (m : Mach) (x y w : Nat) (ls : List Nat) : Mach :=
  foldM ((List.range ls.length).zip ls) (fun e m => m.setNew (x + e.1 % w) (y + e.1 / w) e.2) m

/-- Width and height of a glyph, and its levels. -/
def Mach.glyphW (m : Mach) (g : Nat) : Nat := m.dsec (m.dsec 12 4 + 8 * g) 2
def Mach.glyphH (m : Mach) (g : Nat) : Nat := m.dsec (m.dsec 12 4 + 8 * g + 2) 2
def Mach.glyphLevels (m : Mach) (g : Nat) : List Nat :=
  let n := m.glyphW g * m.glyphH g
  (m.runData (m.dsec (m.dsec 12 4 + 8 * g + 4) 4) n).take n

/-- Draw glyphs side by side from a point on. -/
def Mach.glyphs (m : Mach) (x y : Nat) : List Nat → Mach
  | [] => m
  | g :: gs => (m.blit x y (m.glyphW g) (m.glyphLevels g)).glyphs (x + m.glyphW g) y gs

/-- The page directory's entry of a page. -/
def Mach.pageAt (m : Mach) (p : Nat) : Nat := m.dsec 16 4 + 16 * p

/-- The offset of element e of a page, and the number of its elements. -/
def Mach.elemAt (m : Mach) (p e : Nat) : Nat := m.dsec (m.pageAt p + 8) 4 + 32 * e
def Mach.elemCount (m : Mach) (p : Nat) : Nat := m.dsec (m.pageAt p + 12) 2

/-- Space and index of a point field (R529). -/
def pointSp (w : Nat) : Nat := w % 8
def pointIdx (w : Nat) : Nat := w / 256 % 2 ^ 18

/-- Value and validity of a bit point. -/
def Mach.pointBit (m : Mach) (w : Nat) : Bool × Bool :=
  if pointSp w = 0 then ((m.pt (pointIdx w)).v, (m.pt (pointIdx w)).q == 0) else (m.bit (pointSp w) (pointIdx w), true)

/-- The decimal digits of a number. -/
def digits : Nat → Nat → List Nat
  | 0, _ => []
  | k + 1, n => if n < 10 then [n] else digits k (n / 10) ++ [n % 10]

/-- The characters of an integer with a number of decimals. -/
def decimalText (neg : Bool) (n dec : Nat) : List Nat :=
  let ds := digits 12 n
  let ds := List.replicate (dec + 1 - ds.length) 0 ++ ds
  let cs := ds.map (48 + ·)
  let cs := if dec = 0 then cs else cs.take (cs.length - dec) ++ [46] ++ cs.drop (cs.length - dec)
  (if neg then [45] else []) ++ cs

/-- The glyphs an element shows now (R529): its drawn state. Log 95 (DESIGN CHOICE). -/
def Mach.elemGlyphs (m : Mach) (a : Nat) : List Nat :=
  let g := m.dsec (a + 10) 2
  let s0 := m.dsec (a + 12) 4
  let s1 := m.dsec (a + 16) 4
  match m.dsec a 1 with
  | 1 =>
    let (o, ok0) := m.pointBit s0
    let (c, ok1) := m.pointBit s1
    if m.dsp.lamp || !ok0 || !ok1 || (o && c) then [g + 3] else if o then [g] else if c then [g + 1] else [g + 2]
  | 2 =>
    let (v, ok) := m.pointBit s0
    if m.dsp.lamp || !ok then [g + 2] else if v then [g + 1] else [g]
  | 3 =>
    let w := (m.cell spW (pointIdx s0)).setWidth 32
    let dec := s1 % 16
    let text :=
      if s1.testBit 5 then Config.floatText w dec
      else if s1.testBit 4 && w.toInt < 0 then decimalText true w.toInt.natAbs dec else decimalText false w.toNat dec
    (text.take 12).map (fun c => g + c - 0x20)
  | _ => m.dsp.alarms.flatMap (fun x => [x.dn, x.stamp, x.ack.toNat, x.gone.toNat])

/-- Compose an element into the new plane over the page's static layer. The picture of the alarm list is a free value. Log 95 (DESIGN CHOICE). -/
def Mach.drawElem (m : Mach) (p a : Nat) : Mach :=
  let x := m.dsec (a + 2) 2
  let y := m.dsec (a + 4) 2
  let w := m.dsec (a + 6) 2
  let h := m.dsec (a + 8) 2
  if m.dsec a 1 = 4 then
    let (n, m) := m.fresh
    foldM ((List.range h).flatMap (fun j => (List.range w).map (fun i => (i, j)))) (fun e m =>
      m.setNew (x + e.1) (y + e.2) (Config.alarmPicture n (e.2 * w + e.1)).toNat) m
  else
    let base := m.runData (m.dsec (m.pageAt p) 4) (m.dsec (m.pageAt p + 4) 4 / 2)
    let m := foldM ((List.range h).flatMap (fun j => (List.range w).map (fun i => (x + i, y + j)))) (fun e m =>
      m.setNew e.1 e.2 (base.getD (e.2 * m.dspWidth + e.1) 0)) m
    m.glyphs x y (m.elemGlyphs a)

/-- Compose a whole page (R531). -/
def Mach.composePage (m : Mach) (p : Nat) : Mach :=
  let base := m.runData (m.dsec (m.pageAt p) 4) (m.dsec (m.pageAt p + 4) 4 / 2)
  let m := m.blit 0 0 m.dspWidth (base.take (m.dspWidth * m.dspHeight))
  let es := List.range (m.elemCount p)
  let m := foldM es (fun e m => m.drawElem p (m.elemAt p e)) m
  { m with dsp := { m.dsp with drawn := es.foldl (fun d e => sset [] d e (m.elemGlyphs (m.elemAt p e))) [] } }

/-- Show a page. -/
def Mach.showPage (m : Mach) (p mode : Nat) : Mach :=
  ((m.setFld R.DSP_PAGE_SHOWN p).composePage p).dspRequest (m.whole mode)

/-! ### Alarms (R532) -/

/-- The offset of an alarm definition, its point, and its active level. -/
def Mach.alarmAt (m : Mach) (d : Nat) : Nat := m.dsec 20 4 + 16 * d
def Mach.alarmHot (m : Mach) (d : Nat) : Bool :=
  let a := m.alarmAt d
  (m.pointBit (m.dsec a 4)).1 == (m.dsec (a + 4) 1).testBit 0

/-- The stamp of the newest journal entry of a point. -/
def Mach.lastStamp (m : Mach) (point : Nat) : Nat :=
  (((m.ev.ring ++ m.ev.fifo).reverse.find? (fun j => j.point == point)).map (·.time)).getD m.now

/-- A full list gives up its oldest acknowledged entry, else its oldest. -/
def Mach.alarmRoom (m : Mach) : Mach :=
  if m.dsp.alarms.length < 256 then m
  else
    let as := m.dsp.alarms.reverse
    let v := match as.find? (fun (x : Alarm) => x.ack) with
      | some x => some x
      | none => as.head?
    let as := match v with
      | some x => as.erase x
      | none => as
    ({ m with dsp := { m.dsp with alarms := as.reverse } }).satFld R.DSP_CNT2_ALMLOST 1

/-- Follow the condition of an alarm. -/
def Mach.alarmCheck (m : Mach) (d : Nat) : Mach :=
  let hot := m.alarmHot d
  let was := m.dsp.active.contains d
  if hot = was then m
  else if hot then
    let w := m.dsec (m.alarmAt d) 4
    let stamp := if pointSp w = 0 then m.lastStamp (pointIdx w) else if pointSp w = 1 then m.lastStamp (0x2000 + pointIdx w) else m.now
    let m := m.alarmRoom
    { m with dsp := { m.dsp with active := m.dsp.active ++ [d], alarms := ⟨d, stamp, false, false⟩ :: m.dsp.alarms } }
  else
    { m with dsp := { m.dsp with active := m.dsp.active.filter (fun x => x != d),
                                 alarms := m.dsp.alarms.map (fun (x : Alarm) => if x.dn = d then { x with gone := true } else x) } }

/-- The alarms of I and Q points follow their journal entries; those of M points wait for the poll. -/
def Mach.alarmsNow (m : Mach) (polled : Bool) : Mach :=
  if m.dspRuns then
    foldM (List.range (m.dsec 24 2)) (fun d m => if (pointSp (m.dsec (m.alarmAt d) 4) == 2) == polled then m.alarmCheck d else m) m
  else m

/-- The poll (R530): changed elements are composed and requested. -/
def Mach.dspPoll (m : Mach) : Mach :=
  if m.dspRuns then
    let m := m.alarmsNow true
    let p := m.fld R.DSP_PAGE_SHOWN
    foldM (List.range (m.elemCount p)) (fun e m =>
      let a := m.elemAt p e
      if m.elemGlyphs a = sget [] m.dsp.drawn e then m
      else
        let m := { m with dsp := { m.dsp with drawn := sset [] m.dsp.drawn e (m.elemGlyphs a) } }
        (m.drawElem p a).dspRequest { x := m.dsec (a + 2) 2, y := m.dsec (a + 4) 2, w := m.dsec (a + 6) 2, h := m.dsec (a + 8) 2,
                                      mode := m.dsec (a + 1) 1 }) m
  else m

/-- ACK and CLEAR (R185). -/
def Mach.alarmAck (m : Mach) : Mach :=
  { m with dsp := { m.dsp with alarms := m.dsp.alarms.map (fun (x : Alarm) => { x with ack := true }) } }
def Mach.alarmClear (m : Mach) : Mach :=
  { m with dsp := { m.dsp with alarms := m.dsp.alarms.filter (fun (x : Alarm) => !(x.ack && x.gone)) } }

/-- R185: what a commit does to the display. `old` holds the bits before the application. -/
def Mach.dspCommit (m : Mach) (old : Nat → Bool) : Mach :=
  if m.dspOn then
    let rose (i : Nat) : Bool := !old i && m.bit spQ i
    let page := (List.range 8).foldl (fun a j => a + (m.bit spQ (2080 + j)).toNat * 2 ^ j) 0
    let changed := (List.range 8).any (fun j => old (2080 + j) != m.bit spQ (2080 + j))
    let m := if rose 2088 then m.alarmAck else m
    let m := if rose 2089 then m.alarmClear else m
    let m := { m with dsp := { m.dsp with lamp := m.bit spQ 2091 } }
    let m :=
      if changed then (if page ≤ m.fld R.DSP_PAGE_NPAGES then m.showPage page 0 else m.note 0x3601) else m
    if rose 2090 then m.showPage (m.fld R.DSP_PAGE_SHOWN) 2 else m
  else
    let changed := (List.range 8).any (fun j => old (2080 + j) != m.bit spQ (2080 + j))
    if changed then m.note 0x3601 else m

/-! ### After a start (R535) -/

/-- The payload of the newest DISPLAY record of a part. -/
def Mach.displayRec (m : Mach) (part : Nat) : Option (List Byte) :=
  (newestBy (fun (r : Rec) => r.seq) ((m.recsOf 0x24).filter (fun r => r.key == part))).map (·.payload)

/-- A signed byte. -/
def sbyte (b : Nat) : Int := if b < 128 then Int.ofNat b else Int.ofNat b - 256

/-- The ledger from the saved tiles, and a whitewash of the whole panel (R535). -/
def Mach.dspBegin (m : Mach) : Mach :=
  if m.dspOn then
    let tiles := (m.dspWidth + 15) / 16
    let m := match m.displayRec 0, m.displayRec 1 with
      | some a, some b =>
        if fieldAt a 0 2 = m.dspWidth ∧ fieldAt a 2 2 = m.dspHeight then
          let ts := a.drop 288 ++ b
          let led := (m.rectPix (m.whole 0)).foldl (fun l p =>
            sset 0 l p (sbyte (byteAt ts (p / m.dspWidth / 16 * tiles + p % m.dspWidth / 16)))) []
          let m := { m with dsp := { m.dsp with ledger := led } }
          foldM (List.range 16) (fun n m => if (byteAt a (32 + 16 * n + 12)).testBit 0 then
              m.journal (byteAt a (32 + 16 * n + 10)) 0x3605 0x34 (1 + m.degraded) else m) m
        else m.note 0x3606
      | _, _ => m.note 0x3606
    let m := { m with dsp := { m.dsp with old := (m.rectPix (m.whole 0)).foldl (fun o p => sset 0 o p 15) [] } }
    m.showPage 0 2
  else m

/-- What a module reset leaves of the display: a discharge in progress runs to its end, every register takes its reset value (R516,
R537). Log 96 (DEDUCED). -/
def Mach.dspReset (m : Mach) : Mach :=
  let fr := m.bandFr (m.fld R.DSP_TEMP_BAND)
  let d := match m.dsp.dischAt with
    | some a => some a
    | none => if m.dspState = dsPowerup ∨ m.dspState = dsReady then some (m.now + 1000000000 / fr + 2100000) else none
  { m with dsp := { dischAt := d, stopping := d.isSome && (m.dsp.stopping || m.dsp.dischAt.isNone) } }

end Sys2Proof.Machine
end

