-- ==== Sys2Proof/Machine/PkgTab.lean ====
section
/-!
DEFINITION. The fields a package may set by register items (R477), with their ranges and package defaults, as the register tables of
the chapters mark them, and the registers that must be given because they have no package default.
-/
namespace Sys2Proof.Machine
open Sys2Proof

/-- A field a package sets: lowest bit, width, range, and whether 0 is allowed beside the range. -/
structure PkgFld where
  lsb : Nat
  width : Nat
  lo : Nat
  hi : Nat
  zero : Bool := false
  deriving DecidableEq, Repr

/-- A register, or an array of them by strides and counts, that a package sets: the section type whose items set it, its fields, the
package default where there is one, and whether every package with that section must give it. -/
structure PkgRow where
  sect : Nat
  addr : Nat
  arr : List (Nat × Nat) := []
  fields : List PkgFld
  dflt : Option Nat := none
  need : Bool := false
  deriving DecidableEq, Repr

/-- A field with no range but its width. -/
def wide (lsb width : Nat) : PkgFld := ⟨lsb, width, 0, 2 ^ width - 1, false⟩

/-- The task table (R18): TSKk and ENGe.SEGk. -/
def pkgRowsTask : List PkgRow := [
  ⟨1, 0x70000, [(0x80, 32)], [wide 0 1, wide 1 1, wide 2 1, wide 8 5, ⟨16, 4, 1, 15, true⟩, wide 24 5], none, false⟩,
  ⟨1, 0x70004, [(0x80, 32)], [⟨0, 20, 10, 1000000, false⟩], none, false⟩,
  ⟨1, 0x70008, [(0x80, 32)], [wide 0 20], none, false⟩,
  ⟨1, 0x7000C, [(0x80, 32)], [⟨0, 7, 1, 64, false⟩], none, false⟩,
  ⟨1, 0x70010, [(0x80, 32)], [wide 0 32], none, false⟩,
  ⟨1, 0x70014, [(0x80, 32)], [⟨0, 4, 1, 8, false⟩], none, false⟩,
  ⟨1, 0x70018, [(0x80, 32)], [wide 0 28], none, false⟩,
  ⟨1, 0x70020, [(0x80, 32), (4, 4)], [wide 0 32], none, false⟩,
  ⟨1, 0x70030, [(0x80, 32)], [wide 0 12, wide 16 10], none, false⟩,
  ⟨1, 0x7007C, [(0x80, 32)], [wide 0 18], none, false⟩,
  ⟨1, 0x60040, [(0x1000, 16), (4, 32)], [wide 0 14, wide 14 1, ⟨16, 16, 1, 65535, false⟩], none, false⟩]

/-- The event unit (R210, R211, R216, R225, R232). -/
def pkgRowsEvu : List PkgRow := [
  ⟨9, 0x90000, [], [⟨0, 2, 0, 2, false⟩, wide 8 6], some 0x1F00, false⟩,
  ⟨9, 0x90040, [(8, 8)], [⟨0, 8, 2, 255, true⟩, ⟨8, 16, 10, 65535, false⟩], some (20 + 1000 * 256), false⟩,
  ⟨9, 0x90044, [(8, 8)], [⟨0, 16, 10, 65535, false⟩], some 1000, false⟩,
  ⟨9, 0x90100, [(4, 64)], [wide 0 16, wide 16 1], none, true⟩]

/-- Field inputs and outputs (R324). -/
def pkgRowsFio : List PkgRow := [
  ⟨10, 0xA0000, [], [wide 0 1], none, true⟩,
  ⟨10, 0xA000C, [(4, 2)], [wide 0 32], none, true⟩,
  ⟨10, 0xA0040, [(16, 4)], [wide 0 1], none, true⟩,
  ⟨10, 0xA0200, [(16, 32)], [wide 0 1, wide 1 1, wide 2 1], some 6, true⟩]

/-- The bay buses (R358). -/
def pkgRowsBay : List PkgRow := [
  ⟨11, 0xB0000, [(0x8000, 2)], [wide 1 1, ⟨2, 2, 0, 2, false⟩], some 4, true⟩,
  ⟨11, 0xB000C, [(0x8000, 2)], [⟨0, 16, 30, 3000, false⟩, ⟨16, 16, 10, 1000, false⟩], some (300 + 100 * 65536), false⟩,
  ⟨11, 0xB010C, [(0x8000, 2), (16, 16)], [⟨0, 16, 10, 10000, true⟩], none, false⟩]

/-- The station ports (R385). -/
def pkgRowsSta : List PkgRow := [
  ⟨12, 0xC0000, [], [wide 0 1, wide 1 1, wide 8 8], none, true⟩,
  ⟨12, 0xC0008, [(4, 2)], [wide 0 32], none, true⟩,
  ⟨12, 0xC1000, [(16, 128)], [wide 3 1], none, false⟩,
  ⟨12, 0xC2000, [(16, 32)], [wide 0 1, ⟨1, 7, 1, 100, true⟩, ⟨8, 16, 1, 600, true⟩], none, false⟩]

/-- Time keeping (R413, R414). -/
def pkgRowsTime : List PkgRow := [
  ⟨13, 0x3000C, [], [wide 0 1, wide 1 1, wide 2 1, wide 3 1, wide 4 1, ⟨8, 8, 1, 50, false⟩, ⟨16, 6, 8, 63, false⟩, wide 24 8],
    some (10 * 256 + 16 * 65536), true⟩,
  ⟨13, 0x30010, [], [⟨0, 12, 10, 3600, false⟩, wide 16 16], some (60 + (65536 - 37) * 65536), false⟩,
  ⟨13, 0x3002C, [], [wide 0 16, wide 16 16], none, true⟩,
  ⟨13, 0x30030, [], [wide 0 1, wide 1 2, ⟨16, 9, 1, 500, false⟩], some (100 * 65536), true⟩,
  ⟨13, 0x40014, [], [wide 0 1, ⟨1, 2, 0, 2, false⟩, ⟨3, 2, 0, 2, false⟩, wide 8 3], none, true⟩]

/-- The pair (R300). -/
def pkgRowsPair : List PkgRow := [
  ⟨14, 0xD0000, [], [wide 0 1, wide 1 1, wide 2 1, ⟨8, 8, 10, 200, false⟩, wide 16 8], some (30 * 256 + 20 * 65536), true⟩]

/-- Supervision, the engine split, periodic saves, the watchdog clock and the move engine (R424, R435, R454, R494, R500). -/
def pkgRowsSup : List PkgRow := [
  ⟨15, 0x12000C, [], [wide 0 8, wide 8 1], some (10 + 256), false⟩,
  ⟨15, 0xF0000, [], [⟨0, 11, 10, 1440, true⟩], some 0, false⟩,
  ⟨15, 0x50000, [], [wide 1 1], none, true⟩,
  ⟨15, 0xE0000, [], [wide 8 8], none, true⟩,
  ⟨15, 0xE0300, [(64, 8)], [wide 3 1], none, false⟩,
  ⟨15, 0xE4000, [(32, 256)], [wide 0 32], none, false⟩,
  ⟨15, 0xE4004, [(32, 256)], [wide 0 32], none, false⟩,
  ⟨15, 0xE4008, [(32, 256)], [wide 0 24], none, false⟩,
  ⟨15, 0xE400C, [(32, 256)], [wide 0 16], none, false⟩,
  ⟨15, 0xE4010, [(32, 256)], [wide 0 16, wide 16 16], none, false⟩,
  ⟨15, 0xE4014, [(32, 256)], [wide 0 8, wide 16 16], none, false⟩,
  ⟨15, 0xE4018, [(32, 256)], [wide 0 32], none, false⟩]

/-- The display (R537). -/
def pkgRowsDsp : List PkgRow := [
  ⟨16, 0x100008, [], [⟨0, 10, 20, 1000, false⟩, ⟨16, 7, 16, 127, false⟩, ⟨24, 6, 0, 32, false⟩], some (50 + 64 * 65536 + 16 * 16777216), false⟩,
  ⟨16, 0x10000C, [], [⟨0, 11, 8, 1872, false⟩, ⟨16, 11, 1, 1404, false⟩], none, false⟩,
  ⟨16, 0x100010, [], [wide 0 8, wide 8 8, wide 16 8, ⟨24, 8, 10, 255, false⟩], none, true⟩,
  ⟨16, 0x100014, [], [wide 0 8, wide 8 8, wide 16 8], none, true⟩,
  ⟨16, 0x100018, [], [⟨0, 9, 20, 300, false⟩], none, true⟩,
  ⟨16, 0x10001C, [], [wide 0 16, wide 16 16], none, true⟩]

/-- All of them. -/
def pkgRows : List PkgRow :=
  pkgRowsTask ++ (pkgRowsEvu ++ (pkgRowsFio ++ (pkgRowsBay ++ (pkgRowsSta ++ (pkgRowsTime ++ (pkgRowsPair ++ (pkgRowsSup ++ pkgRowsDsp)))))))

/-- The row a register address belongs to. -/
def pkgRow (a : Nat) : Option PkgRow := pkgRows.find? (fun r => decide (r.addr ≤ a) && arrMatch r.arr (a - r.addr))

/-- The addresses of a row. -/
def PkgRow.addrs (r : PkgRow) : List Nat :=
  r.arr.foldl (fun as s => as.flatMap (fun a => (List.range s.2).map (fun i => a + s.1 * i))) [r.addr]

/-- The bits of a row's fields. -/
def PkgRow.mask (r : PkgRow) : Nat := r.fields.foldl (fun w f => w + (2 ^ f.width - 1) * 2 ^ f.lsb) 0

/-- Does a value keep every field in its range and every other bit 0? -/
def PkgRow.fits (r : PkgRow) (v : Nat) : Bool :=
  (v &&& r.mask) == v &&
    r.fields.all (fun f => let x := v / 2 ^ f.lsb % 2 ^ f.width; decide (f.lo ≤ x ∧ x ≤ f.hi) || (f.zero && x == 0))

/-- May an item of a section of a type set this register? The task table sets TSKk and ENGe.SEGk alone and nothing else does, and
the display section sets DSP registers alone. -/
def PkgRow.inSect (r : PkgRow) (ty : Nat) : Bool :=
  if ty = 1 ∨ ty = 16 ∨ r.sect = 1 ∨ r.sect = 16 then r.sect == ty else true

end Sys2Proof.Machine
end

