-- ==== Sys2Proof/Machine/PkgOps.lean ====
section
/-!
DEFINITION. The Skobex package (R476, R477): its directory and bodies, and loading its registers and tables (R17, R90, R91, R161, R192,
R220, R373, R379, R424, R458, R478, R543).
-/
namespace Sys2Proof.Machine
open Sys2Proof

/-! ### Header, directory, bodies -/

/-- An entry of the section directory with its index. -/
structure PkgSec where
  idx : Nat
  ty : Nat
  flags : Nat
  off : Nat
  len : Nat
  crc : Nat
  deriving DecidableEq, Repr

def pkgCount (p : List Byte) : Nat := fieldAt p 12 2
def pkgLen (p : List Byte) : Nat := fieldAt p 8 4
def pkgStart (p : List Byte) : Nat := byteAt p 14

def pkgSecs (p : List Byte) : List PkgSec :=
  (List.range (pkgCount p)).map (fun i =>
    let d := 256 + 16 * i
    ⟨i, fieldAt p d 2, fieldAt p (d + 2) 2, fieldAt p (d + 4) 4, fieldAt p (d + 8) 4, fieldAt p (d + 12) 4⟩)

def pkgSec (p : List Byte) (ty : Nat) : Option PkgSec := (pkgSecs p).find? (fun s => s.ty == ty)

/-- The body of the section of a type; empty when there is none. -/
def pkgBody (p : List Byte) (ty : Nat) : List Byte :=
  match pkgSec p ty with
  | some s => sliceAt p s.off s.len
  | none => []

/-- The package digest: SHA-256 with PKGDIG taken as zeros (R477). Log 86 (DEDUCED). -/
def pkgDigest (p : List Byte) : List Byte := sha256 (p.take 32 ++ (List.replicate 32 0 ++ p.drop 64))

/-- The program digest: SHA-256 over the program sections in directory order (R477). -/
def progDigest (p : List Byte) : List Byte :=
  sha256 ((pkgSecs p).flatMap (fun s => if s.flags.testBit 0 then sliceAt p s.off s.len else []))

/-! ### Register items -/

/-- A register item: section type, its directory index, its byte offset, the address word and the value. -/
structure PkgItem where
  ty : Nat
  sect : Nat
  off : Nat
  addr : Nat
  val : Nat
  deriving DecidableEq, Repr

/-- Does a word begin a register item of a section of a type, where entries of another form follow the items? A station head and an
entry's destination address are no address of a field these sections set. -/
def isItem (ty w : Nat) : Bool := match pkgRow w with
  | some r => r.sect == ty
  | none => false

/-- The number of register items at the front of a body. -/
def leadItems (ty : Nat) (body : List Byte) : Nat → Nat → Nat
  | 0, k => k
  | fuel + 1, k => if isItem ty (fieldAt body (8 * k) 4) && decide (8 * k + 8 ≤ body.length) then leadItems ty body fuel (k + 1) else k

/-- Bytes of the tables behind the items of the event-unit section: 4096 list entries of 2 bytes and 4352 selections of 4. Log 87 (DESIGN CHOICE). -/
def evuTables : Nat := 2 * 4096 + 4 * 4352

/-- The number of register items of a section, and the offset of the first. -/
def itemCount (ty : Nat) (body : List Byte) : Nat × Nat :=
  match ty with
  | 1 | 10 | 13 | 14 | 15 => (body.length / 8, 0)
  | 9 => ((body.length - evuTables) / 8, 0)
  | 11 | 12 => (leadItems ty body (body.length / 8) 0, 0)
  | 16 => (fieldAt body 4 2, 32)
  | _ => (0, 0)

/-- The register items of a section. -/
def sectItems (p : List Byte) (s : PkgSec) : List PkgItem :=
  let body := sliceAt p s.off s.len
  let n := itemCount s.ty body
  (List.range n.1).map (fun i =>
    let o := n.2 + 8 * i
    ⟨s.ty, s.idx, o, fieldAt body o 4, fieldAt body (o + 4) 4⟩)

/-- All register items, in directory order. -/
def pkgItems (p : List Byte) : List PkgItem := (pkgSecs p).flatMap (sectItems p)

/-- The value the last item of an address gives. -/
def itemVal (is : List PkgItem) (a : Nat) : Option Nat := (is.reverse.find? (fun i => i.addr == a)).map (·.val)

/-- Load the fields a package sets of one register, and leave its other bits. -/
def Mach.loadReg (m : Mach) (a v : Nat) : Mach :=
  match pkgRow a with
  | some r => m.rset a (BitVec.ofNat 32 (((m.rget a).toNat &&& (2 ^ 32 - 1 - r.mask)) ||| (v &&& r.mask)))
  | none => m

/-- The registers of some rows: the package default where there is one, else 0, then the items. WDG.CTL is written and locked by a step of its
own (R435). -/
def Mach.loadRows (m : Mach) (rs : List PkgRow) (is : List PkgItem) : Mach :=
  foldM (rs.filter (fun r => r.addr != 0x50000 && r.addr != 0x40014)) (fun r m =>
    foldM r.addrs (fun a m => m.loadReg a ((itemVal is a).getD (r.dflt.getD 0))) m) m

/-- RTC.CFG is loaded from the package and kept in PD0 (R414). Log 88 (DEDUCED). -/
def Mach.loadRtc (m : Mach) (is : List PkgItem) : Mach :=
  match itemVal is 0x40014 with
  | some v => m.loadReg 0x40014 v
  | none => m

/-- The system firmware writes CLKSEL from the package and locks it (R435). Log 79 (DEDUCED). -/
def Mach.loadWatchdog (m : Mach) (is : List PkgItem) : Mach := (m.wdgClk (((itemVal is 0x50000).getD 0).testBit 1)).wdgLock

/-! ### The task table (R17, R18) -/

/-- A dependency of each segment on the one before it. -/
def depChain (n : Nat) : Nat := ((List.range n).drop 1).foldl (fun w j => w + 2 ^ (j * (j - 1) / 2 + (j - 1))) 0

/-- The default watchdog period of a task in 100 µs units, for a period in 10 µs units. -/
def wdDefault (period : Nat) : Nat := max 10 ((2 * period + 9) / 10)

/-- Does the package hold an entry for task k? -/
def hasEntry (is : List PkgItem) (k : Nat) : Bool :=
  is.any (fun i => i.ty == 1 && decide (0x70000 + 0x80 * k ≤ i.addr ∧ i.addr < 0x70080 + 0x80 * k))

/-- The value of a field of task k's entry, or its default. -/
def taskVal (is : List PkgItem) (k off dflt : Nat) : Nat := (itemVal is (0x70000 + 0x80 * k + off)).getD dflt

/-- The task's configuration word with the defaults of R18: an overrun limit of 0 is none given and means 3, and with it a watchdog slot
of 0 is the task number. Log 109 (DESIGN CHOICE). -/
def taskCfg (k v : Nat) : Nat :=
  if v / 2 ^ 16 % 16 = 0 then v + 3 * 2 ^ 16 + (if v / 2 ^ 24 % 32 = 0 then k * 2 ^ 24 else 0) else v

/-- Load the task registers and the segment entries; a task without an entry is disabled. Log 109 (DESIGN CHOICE). -/
def Mach.loadTasks (m : Mach) (is : List PkgItem) : Mach :=
  let m := m.loadRows pkgRowsTask is
  foldM (allTasks.filter (hasEntry is)) (fun k m =>
    let a := 0x70000 + 0x80 * k
    let m := (m.loadReg a (taskCfg k (taskVal is k 0 0))).loadReg (a + 0xC) (taskVal is k 0xC 8)
    let m := m.loadReg (a + 0x18) (taskVal is k 0x18 (depChain (taskVal is k 0x14 1 % 16)))
    m.loadReg (a + 0x7C) (taskVal is k 0x7C (wdDefault (taskVal is k 4 0)))) m

/-! ### Engines (R90, R91, R424) -/

/-- Per engine: its number, the second byte, the count, and the offset and length of its data; entries of 4 bytes plus data. -/
def engEntries (body : List Byte) (size : Nat → Nat) : Nat → Nat → List (Nat × Nat × Nat)
  | 0, _ => []
  | fuel + 1, o =>
    if o + 4 ≤ body.length then (byteAt body o, fieldAt body o 4, o + 4) :: engEntries body size fuel (o + 4 + size (fieldAt body o 4))
    else []

/-- Bytes of code behind a head: the word count in its upper half. -/
def codeSize (head : Nat) : Nat := 4 * (head / 65536)
/-- Bytes of a preset area behind a head: its size in KiB in the second byte. -/
def presetSize (head : Nat) : Nat := 1024 * (head / 256 % 256)

def pkgCode (p : List Byte) : List (Nat × Nat × Nat) := engEntries (pkgBody p 2) codeSize 16 0
def pkgPresets (p : List Byte) : List (Nat × Nat × Nat) := engEntries (pkgBody p 3) presetSize 16 0

/-- A code bank: the words given, and 0xFFFF_FFFF in every other (R90). Log 8 (DESIGN CHOICE). -/
def codeBank (p : List Byte) (e : Nat) : SMap Word :=
  match (pkgCode p).find? (fun x => x.1 == e) with
  | some (_, h, o) => ssets 0xFFFFFFFF [] 0 ((List.range (h / 65536)).map (fun i => BitVec.ofNat 32 (fieldAt (pkgBody p 2) (o + 4 * i) 4)))
  | none => []

/-- The size of an engine's preset area in KiB, and the area by address. -/
def presetKib (p : List Byte) (e : Nat) : Nat :=
  match (pkgPresets p).find? (fun x => x.1 == e) with
  | some (_, h, _) => h / 256 % 256
  | none => 0
def presetArea (p : List Byte) (e : Nat) : SMap Byte :=
  match (pkgPresets p).find? (fun x => x.1 == e) with
  | some (_, h, o) => ssets 0 [] (0x8000 - presetSize h) (sliceAt (pkgBody p 3) o (presetSize h))
  | none => []

/-- The audit engine of the split, engine 15. -/
def auditEngine : Nat := 15

/-- The split: ROLE 1 for a working engine, 2 for the audit engine, 3 for a retired one; I:4251 (R424). -/
def Mach.loadSplit (m : Mach) : Mach :=
  let aud := m.flag R.DIAG_CFG_AUDIT
  let m := foldM (List.range 16) (fun e m =>
    m.setFld (R.ENG_CFG_ROLE e) (if (m.eng e).retired then 3 else if e = auditEngine ∧ aud then 2 else 1)) m
  let on := aud && !(m.eng auditEngine).retired
  (m.setFlag R.DIAG_AUD_INSVC on).stat 4251 on

/-- Write bank 0 of every engine, select it, and load its preset area (R90, R91). -/
def Mach.loadEngines (m : Mach) (p : List Byte) : Mach :=
  foldM (List.range 16) (fun e m =>
    let m := (m.setFld (R.ENG_CFG_BANK e) 0).setFld (R.ENG_CFG_PRESET e) (presetKib p e)
    m.setEng e { m.eng e with bank0 := codeBank p e, preset := presetArea p e }) m

/-! ### Cell definitions and the initial image (R191, R203, R205) -/

/-- An image run: space, count, first index, offset of its elements. -/
structure PkgRun where
  sp : Nat
  count : Nat
  first : Nat
  off : Nat
  deriving DecidableEq, Repr

/-- The size of an element of a run: the value sizes of R44, and 8 bytes for a chain declaration in the cell definitions. -/
def runSize (ty sp : Nat) : Nat :=
  if ty = 5 ∧ sp = spC then 8 else if sp = spT then 16 else if sp = spW ∨ sp = spC then 4 else 1

/-- The runs of a body. Log 87 (DESIGN CHOICE). -/
def pkgRuns (ty : Nat) (body : List Byte) : Nat → Nat → List PkgRun
  | 0, _ => []
  | fuel + 1, o =>
    if o + 8 ≤ body.length then
      let r : PkgRun := ⟨byteAt body o, fieldAt body (o + 2) 2, fieldAt body (o + 4) 4, o + 8⟩
      r :: pkgRuns ty body fuel (o + 8 + r.count * runSize ty r.sp)
    else []

def cellRuns (p : List Byte) : List PkgRun := pkgRuns 5 (pkgBody p 5) ((pkgBody p 5).length / 8) 0
def imageRuns (p : List Byte) : List PkgRun := pkgRuns 6 (pkgBody p 6) ((pkgBody p 6).length / 8) 0

/-- The declared chains: first cell and length (R203). Log 87 (DESIGN CHOICE). -/
def pkgChains (p : List Byte) : List (Nat × Nat) :=
  (cellRuns p).flatMap (fun r => if r.sp = spC then
    (List.range r.count).map (fun i => (fieldAt (pkgBody p 5) (r.off + 8 * i) 4, fieldAt (pkgBody p 5) (r.off + 8 * i + 4) 4)) else [])

/-- A timer cell as the package gives it, in state IDLE with start time 0 (R191). -/
def timerStart (v : CellV) : CellV := v &&& ~~~(0xFF00000000000000000000000000#128 ||| 0xFFFFFFFFFFFFFFFF#128)

/-- The elements of a run: keys and contents at entry to RUN. An edge cell starts with V 0, and PRIMED as its start option says
(R205). -/
def runCells (ty : Nat) (body : List Byte) (r : PkgRun) : List (Nat × CellV) :=
  if ty = 5 ∧ r.sp = spC then []
  else (List.range r.count).map (fun i =>
    let v : CellV := BitVec.ofNat 128 (fieldAt body (r.off + i * runSize ty r.sp) (runSize ty r.sp))
    if r.sp = spE then (ikey spPrimed (r.first + i), if v.getLsbD 1 then 1 else 0)
    else if r.sp = spT then (ikey spT (r.first + i), timerStart v)
    else if r.sp = spM then (ikey spM (r.first + i), if v.getLsbD 0 then 1 else 0)
    else (ikey r.sp (r.first + i), v))

/-- The initial content of the image (R191), with no retained range and no GOOSE word. -/
def pkgImage (p : List Byte) : SMap CellV :=
  ((cellRuns p).flatMap (runCells 5 (pkgBody p 5)) ++ (imageRuns p).flatMap (runCells 6 (pkgBody p 6))).foldl
    (fun im e => sset 0 im e.1 e.2) []

/-! ### Retained ranges and parameter mapping (R192, R458) -/

/-- Retained ranges: space, first index, count. -/
def pkgRanges (p : List Byte) : List (Nat × Nat × Nat) :=
  let b := pkgBody p 7
  (List.range (b.length / 12)).map (fun i => (byteAt b (12 * i), fieldAt b (12 * i + 4) 4, fieldAt b (12 * i + 8) 4))

/-- The bytes of a range (R192). -/
def rangeBits (r : Nat × Nat × Nat) : Nat := r.2.2 * (if r.1 = spM then 1 else if r.1 = spT then 128 else 32)

/-- Parameter ranges: first W index, count, array offset. -/
def pkgParams (p : List Byte) : List (Nat × Nat × Nat) :=
  let b := pkgBody p 8
  (List.range (b.length / 12)).map (fun i => (fieldAt b (12 * i) 4, fieldAt b (12 * i + 4) 4, fieldAt b (12 * i + 8) 4))

def Mach.loadRetained (m : Mach) (p : List Byte) : Mach :=
  let rs := pkgRanges p
  let dig := crc64 (pkgBody p 7)
  let m := { m with ret := { m.ret with ranges := rs, layout := dig, parMap := pkgParams p, parDigest := crc64 (pkgBody p 8) } }
  ((m.setFld R.IMG_RETLAY_BYTES ((rs.map rangeBits).sum / 8)).setFld R.IMG_RETLAY_RANGES rs.length).setFld64 R.IMG_RETDIG_LO dig.toNat

/-! ### Sensitivity, chatter and wake masks (R216, R220) -/

/-- The sensitivity list table. -/
def pkgList (p : List Byte) : SMap Nat :=
  let b := pkgBody p 9
  let o := 8 * (itemCount 9 b).1
  (List.range 4096).foldl (fun s i => sset 0 s i (fieldAt b (o + 2 * i) 2)) []

/-- The 4-byte selection of an I point: chatter enabled [0], profile [3:1], substitute given [4], substitute value [5]. Log 87 (DESIGN CHOICE). -/
def pkgSelect (p : List Byte) (i : Nat) : Nat :=
  let b := pkgBody p 9
  fieldAt b (8 * (itemCount 9 b).1 + 2 * 4096 + 4 * i) 4

/-- The chatter selections of every point, shown for DIn in EVU.DI_CFG. -/
def Mach.loadChatter (m : Mach) (p : List Byte) : Mach :=
  let m := foldM (List.range 4352) (fun i m =>
    let w := pkgSelect p i
    m.setPt i { m.pt i with chEn := w.testBit 0, chPrf := w / 2 % 8 }) m
  foldM (List.range 64) (fun n m =>
    let w := pkgSelect p n
    (m.setFlag (R.EVU_DI_CFG_CHEN n) (w.testBit 0)).setFld (R.EVU_DI_CFG_CHPRF n) (w / 2 % 8)) m

/-- The points of task k's sensitivity set: its groups and its list entries. -/
def Mach.sensPoints (m : Mach) (k : Nat) : List Nat :=
  (List.range 128).flatMap (fun g =>
    if (m.rget (R.TSK_SENSGRP k (g / 32)).addr).getLsbD (g % 32) then (List.range 64).map (64 * g + ·) else []) ++
  (List.range (m.fld (R.TSK_SENSLST_COUNT k))).map (fun i => sget 0 m.ev.slist (m.fld (R.TSK_SENSLST_FIRST k) + i))

/-- Form the wake masks (R220). -/
def Mach.wakeMasks (m : Mach) : Mach :=
  let m := foldM (m.pts.map (·.1)) (fun i m => m.setPt i { m.pt i with wake := 0 }) m
  foldM (allTasks.filter m.eventTask) (fun k m =>
    foldM (m.sensPoints k) (fun i m => m.setPt i { m.pt i with wake := (m.pt i).wake ||| 2 ^ k }) m) m

/-! ### Stations (R339, R347) -/

/-- The stations of the section: channel, station, and SETPAR items. -/
def staHeads (body : List Byte) : Nat → Nat → List (Nat × Nat × List (Nat × Nat))
  | 0, _ => []
  | fuel + 1, o =>
    if o + 4 ≤ body.length then
      let n := fieldAt body (o + 2) 2
      (byteAt body o, byteAt body (o + 1),
        (List.range n).map (fun i => (fieldAt body (o + 4 + 8 * i) 2, fieldAt body (o + 4 + 8 * i + 4) 4))) ::
        staHeads body fuel (o + 4 + 8 * n)
    else []

def pkgStations (p : List Byte) : List (Nat × Nat × List (Nat × Nat)) :=
  let b := pkgBody p 11
  staHeads b 32 (8 * (itemCount 11 b).1)

/-- Insert a parameter item in ascending PARAM order. -/
def insItem (x : Nat × Nat) : List (Nat × Nat) → List (Nat × Nat)
  | [] => [x]
  | y :: ys => if x.1 ≤ y.1 then x :: y :: ys else y :: insItem x ys

/-- A 64-bit mask of inputs. -/
def bits64 (f : Nat → Bool) : BitVec 64 := BitVec.ofBoolListLE ((List.range 64).map f)

/-- The configured stations enter ABSENT. -/
def Mach.loadStations (m : Mach) (p : List Byte) : Mach :=
  foldM (pkgStations p) (fun (c, s, is) m =>
    let first := 128 + 64 * (16 * c + (s - 1))
    let x : Station :=
      { conf := true, items := is.foldr insItem [],
        subMask := bits64 (fun j => (pkgSelect p (first + j)).testBit 4), subVal := bits64 (fun j => (pkgSelect p (first + j)).testBit 5),
        since := m.now }
    (m.setSta c s x).setFld (R.BB_STA_STAT_STATE c (s - 1)) 1) m

/-! ### GOOSE entries (R373, R379) -/

/-- A string of 66 bytes padded with zeros. -/
def pkgString (b : List Byte) (o : Nat) : List Byte := (sliceAt b o 66).takeWhile (· != 0)

/-- A subscription entry. Log 87 (DESIGN CHOICE). -/
def goosSub (b : List Byte) (o : Nat) : GSub :=
  { mac := beNat (sliceAt b o 6), appid := fieldAt b (o + 6) 2, gocbRef := pkgString b (o + 8), datSet := pkgString b (o + 74),
    confRev := fieldAt b (o + 140) 4,
    members := (List.range (byteAt b (o + 144))).map (fun i =>
      let q := o + 145 + 11 * i
      { ty := byteAt b q, target := fieldAt b (q + 1) 4, qual := if byteAt b (q + 5) = 0xFF then none else some (byteAt b (q + 5)),
        subst := if byteAt b (q + 6) = 0 then none else some (fieldAt b (q + 7) 4) }),
    status := if fieldAt b (o + 849) 2 = 0xFFFF then none else some (fieldAt b (o + 849) 2),
    acceptTest := (byteAt b (o + 851)).testBit 0 }

/-- A publication entry, and its TMIN and TMAX in milliseconds. Log 87 (DESIGN CHOICE). -/
def goosPub (b : List Byte) (o : Nat) : GPub :=
  { mac := beNat (sliceAt b o 6), appid := fieldAt b (o + 6) 2, vlan := fieldAt b (o + 8) 2, gocbRef := pkgString b (o + 10),
    datSet := pkgString b (o + 76), goID := pkgString b (o + 142), confRev := fieldAt b (o + 208) 4,
    members := (List.range (byteAt b (o + 212))).map (fun i =>
      { ty := byteAt b (o + 213 + 5 * i), source := fieldAt b (o + 213 + 5 * i + 1) 4 }) }
def goosTmin (b : List Byte) (o : Nat) : Nat := fieldAt b (o + 533) 2
def goosTmax (b : List Byte) (o : Nat) : Nat := fieldAt b (o + 535) 2

/-- The blocks the items declare configured, in ascending order. Log 87 (DESIGN CHOICE). -/
def confBlocks (is : List PkgItem) (base n bit : Nat) : List Nat :=
  (List.range n).filter (fun b => ((itemVal is (base + 16 * b)).getD 0).testBit bit)
def subBlocks (is : List PkgItem) : List Nat := confBlocks is 0xC1000 128 3
def pubBlocks (is : List PkgItem) : List Nat := confBlocks is 0xC2000 32 0

/-- The subscription entries and then the publication entries, each kind in ascending block order. -/
def Mach.loadGoose (m : Mach) (p : List Byte) (is : List PkgItem) : Mach :=
  let b := pkgBody p 12
  let o := 8 * (itemCount 12 b).1
  let ns := (subBlocks is).length
  let m := foldM ((subBlocks is).zipIdx) (fun (n, i) m =>
    { m with sp := { m.sp with subs := sset none m.sp.subs n (some (goosSub b (o + 1024 * i))) } }) m
  foldM ((pubBlocks is).zipIdx) (fun (n, i) m =>
    let q := o + 1024 * (ns + i)
    let m := { m with sp := { m.sp with pubs := sset none m.sp.pubs n (some (goosPub b q)) } }
    (m.setFld (R.STA_GPUB_CFG_TMIN n) (goosTmin b q)).setFld (R.STA_GPUB_CFG_TMAX n) (goosTmax b q / 100)) m

/-- The IPv4 address: where the package gives two, the first is side A's and the second side B's. -/
def Mach.loadAddress (m : Mach) (is : List PkgItem) : Mach :=
  match (is.filter (fun i => i.addr == 0xC0008)).map (·.val) with
  | [a, b] => m.rset 0xC0008 (BitVec.ofNat 32 (if m.side = 1 then b else a))
  | _ => m

/-! ### Roles and the display (R528, R543) -/

/-- The three role entries in the order viewer, operator, engineer. -/
def pkgRoles (p : List Byte) : List RoleKey :=
  let b := pkgBody p 0x12
  (List.range 3).map (fun i =>
    ⟨(byteAt b (48 * i + 1)).testBit 0, (byteAt b (48 * i + 1)).testBit 1, sliceAt b (48 * i + 4) 32⟩)

def Mach.loadDisplay (m : Mach) (p : List Byte) : Mach :=
  match pkgSec p 16 with
  | none => m
  | some _ =>
    let b := pkgBody p 16
    let m := { m with dsp := { m.dsp with sect := b } }
    ((m.setFld R.DSP_PANEL_WIDTH (fieldAt b 0 2)).setFld R.DSP_PANEL_HEIGHT (fieldAt b 2 2)).setFld R.DSP_PAGE_NPAGES (fieldAt b 6 2 - 1)

/-! ### The load as a whole (R479) -/

/-- The rows of the sections a package may leave out and leaves out are not loaded. -/
def loadedRows (p : List Byte) : List PkgRow :=
  (pkgRowsEvu ++ (pkgRowsFio ++ (pkgRowsTime ++ pkgRowsSup))) ++
    ((if (pkgSec p 11).isSome then pkgRowsBay else []) ++ ((if (pkgSec p 12).isSome then pkgRowsSta else []) ++
      ((if (pkgSec p 14).isSome then pkgRowsPair else []) ++ (if (pkgSec p 16).isSome then pkgRowsDsp else []))))

/-- UPD registers of the running package (R493). -/
def Mach.showPkg (m : Mach) (p : List Byte) : Mach :=
  let m := foldM (List.range 8) (fun n m =>
    let m := m.rset (R.UPD_PKGDIG n).addr (BitVec.ofNat 32 (fieldAt (pkgDigest p) (4 * n) 4))
    m.rset (R.UPD_PROGDIG n).addr (BitVec.ofNat 32 (fieldAt (progDigest p) (4 * n) 4))) m
  (m.setFld R.UPD_PKGLEN (pkgLen p)).setFld R.UPD_PKGSTAT_START (pkgStart p)

/-- Load the registers and tables of a verified package. -/
def Mach.loadPkg (m : Mach) (p : List Byte) : Mach :=
  let is := pkgItems p
  let m := ((m.loadRows (loadedRows p) is).loadRtc is).loadTasks is
  let m := ((m.loadSplit.loadEngines p).loadRetained p).loadAddress is
  let m := { m with decode := ssets 0 [] 0 (pkgBody p 4), ev := { m.ev with slist := pkgList p },
                    upd := { m.upd with pkg := p, chains := pkgChains p, roles := pkgRoles p } }
  let m := (((((m.loadChatter p).wakeMasks.loadStations p).loadGoose p is).loadDisplay p).showPkg p).movInit
  m.setFld R.PRT_GUARD_GUARD ((m.fld R.PRT_CFG_LEASE * 20 + 20000) / 10)

end Sys2Proof.Machine
end

