-- ==== Sys2Proof/Machine/RoleOps.lean ====
section
/-!
DEFINITION. Roles and the token (R264, R265, R274, R287), leaving FOLLOW (R299), taking the token (R286, R293), the takeover's resume
scans (R292, R293), and the partner as the holder sees it (R281, R284).
-/
namespace Sys2Proof.Machine
open Sys2Proof

/-- Switch a power domain, shown in PWR.DOM.ON (R559). -/
def Mach.domain (m : Mach) (d : Nat) (on : Bool) : Mach := m.setFlag ⟨R.PWR_DOM_ON.addr, d, 1⟩ on

def Mach.paired (m : Mach) : Bool := m.flag R.PRT_CFG_PAIRED

/-- The lease L and the guard g in nanoseconds (R272, R273). -/
def Mach.leaseNs (m : Mach) : Nat := m.fld R.PRT_CFG_LEASE * 100000
def Mach.guardNs (m : Mach) : Nat := m.leaseNs / 5000 + 20000

def Mach.laneUp (m : Mach) (l : Nat) : Bool := m.flag (R.PRT_LANE_STAT_UP l)
def Mach.lanesDown (m : Mach) : Bool := !m.laneUp 0 && !m.laneUp 1

/-- The HELLO payload (R287). A token holder names the UNSYNC reason it gives the partner (R281, R284; DEDUCED: no other frame could tell
the partner). Log 44 (DEDUCED). -/
def Mach.helloPayload (m : Mach) : List Byte :=
  let ready := m.pair.readyFrom.isSome || m.st == .run
  leBytes 2 0x6016 ++ (leBytes 1 m.st.code ++ (leBytes 1 (m.role + 4 * ready.toNat + 8 * m.hasToken.toNat + 16 * (if m.hasToken then m.pair.ptnUnsync else m.fld R.PRT_STAT_UNSR)) ++
    (leBytes 2 (m.fld R.UPD_FWPVER_PVER) ++ (leBytes 2 (m.fld R.PRT_CFG_LEASE) ++ (leBytes 4 (m.fld R.UPD_FWBUILD) ++
      ((List.range 8).flatMap (fun n => leBytes 4 (m.fld (R.UPD_PKGDIG n))) ++ ((List.range 8).flatMap (fun n => leBytes 4 (m.fld (R.UPD_PROGDIG n))) ++
        (leBytes 8 (m.fld64 R.IMG_RETDIG_LO) ++ (leBytes 6 m.csn ++ leBytes 2 0))))))))) 

/-- Send a HELLO (R287). The first one after both lanes were down has FSEQ 0 (R267). -/
def Mach.hello (m : Mach) : Mach :=
  let m := if m.pair.txReset then { m with pair := { m.pair with txReset := false, txNext := 0, sent := [] } } else m
  m.linkSend 0x01 m.helloPayload

/-- Show a role; the program sees the lead's (R265). -/
def Mach.showRole (m : Mach) (r : Nat) : Mach := (m.setFld R.PRT_STAT_ROLE r).setStat 4224 2 r

/-- Take a role in RUN; the partner is told of a change (R287). -/
def Mach.setRole (m : Mach) (r : Nat) : Mach := if m.role = r then m.showRole r else (m.showRole r).hello

/-- ALONE while both lanes are down and no heartbeat of the partner has come for one lease, otherwise LEAD (R265). -/
def Mach.holderRole (m : Mach) : Nat := if !m.paired || (m.lanesDown && !m.flag R.PRT_STAT_PHB) then 0 else 1

/-! ### Agreement (R281) -/

/-- Link sequence numbers: does `a` cover `b` (modulo 2^32)? -/
def seqCovers (a b : Nat) : Bool := decide ((a + 2 ^ 32 - b) % 2 ^ 32 < 2 ^ 31)

/-- R281: is a HELD scan agreed? A module whose partner is not FOLLOW does not wait. Log 48 (DEDUCED). -/
def Mach.agreed (m : Mach) (sc : Scan) : Bool :=
  !(m.isLead && m.pair.ptnFollow) ||
    match (m.pair.snapFseq.find? (fun x => x.1 == sc.snap.no)), m.pair.ackSeq with
    | none, _ => true
    | some _, none => false
    | some x, some a => seqCovers a x.2

/-- HELD scans that wait for the commit unit. -/
def Mach.heldScans (m : Mach) : List (Nat × Scan) :=
  m.tasks.filterMap (fun (e : Nat × Task) => match e.2.held with
    | some sc => if e.2.inCommit then none else some (e.1, sc)
    | none => none)

/-- PRT.AGR.MAX: how long the scans that wait for agreement have waited, when the waiting ends (R281). -/
def Mach.agreeRecord (m : Mach) : Mach :=
  foldM (m.heldScans.filter (fun x => !m.agreed x.2)) (fun x m => m.maxFld R.PRT_AGR_MAX ((m.now - x.2.heldAt) / 10)) m

/-! ### The partner as the holder sees it -/

/-- Stop forwarding to the partner: its stream ends, and no scan waits for it (R281, R284). -/
def Mach.stopForward (m : Mach) : Mach :=
  ({ m with pair := { m.pair with ptnFollow := false, streaming := false, stream := [], deltaAll := false, ackSeq := none, snapFseq := [],
                                  deltas := [], xferAt := none, olc := 0 } }).setFld R.PRT_STREAM_LEVEL 0

/-- A synchronised pair is one no more: an online change that needs it ends with 0x09 (R254, R260). -/
def Mach.olcUnpaired (m : Mach) : Mach := if m.pair.ptnFollow then { m with olcEnd := m.olcEnd.orElse (fun _ => some 0x09) } else m

/-- The partner is UNSYNC with a reason as the holder sees it, and is told; a yield to it ends. -/
def Mach.partnerUnsync (m : Mach) (reason : Nat) : Mach :=
  let m := m.agreeRecord.olcUnpaired.stopForward
  ({ m with pair := { m.pair with ptnUnsync := reason, yielding := none, yieldWaits := none } }).hello

/-- A holder is LEAD or ALONE as R265 says; becoming ALONE raises 0x3213. -/
def Mach.showHolder (m : Mach) : Mach :=
  if m.st == .run && m.hasToken && m.paired then
    let r := m.holderRole
    if r = m.role then m
    else if r = 0 then (m.partnerUnsync 10).setRole 0 |>.raise 0x3213 0 1
    else m.setRole 1
  else m

/-! ### Leaving FOLLOW -/

/-- Squash every scan of a task on forwarded snapshots, without a rerun (R293). -/
def Mach.dropForwarded (m : Mach) (k : Nat) : Mach :=
  let clr (m : Mach) : Mach :=
    let m := { m with pair := { m.pair with fwd := m.pair.fwd.filter (fun f => f.task != k) } }
    m.setTask k { m.task k with snap := none }
  clr ((clr (m.squashRun k 3)).squashHeld k 3)

/-- Forget what was received of the lead's commits and of a state transfer. -/
def Mach.dropLead (m : Mach) : Mach :=
  ({ m with pair := { m.pair with fwd := [], commits := [], deltaBuf := [], deltaDone := [], delReqs := [], syncing := false, xferAt := none,
                                  xferStep := none, xferCsn := none, xferBuf := [], xferOwn := [], timeTaken := false } }).setFlag
    R.PRT_STAT_XFER false

/-- The journal of a module that leaves FOLLOW goes on at the last sequence number received plus 2^24, with 0x320F first (R299). -/
def Mach.ownJournal (m : Mach) : Mach := (m.setFld R.EVU_SEQ (m.pair.lastSeq + 2 ^ 24)).info 0x320F

/-- The time keeper selects its own sources again (R285, R396). -/
def Mach.ownTime (m : Mach) : Mach :=
  let m := (m.setFld R.PRT_TDIFF 0).clear 0x3208 0 1
  (m.stat 4237 false).reselect

/-- Leave FOLLOW, or a synchronisation, for a role. -/
def Mach.unfollow (m : Mach) (role : Nat) : Mach :=
  if m.following then
    let m := (foldM allTasks (fun k m => m.dropForwarded k) m).dropLead
    let m := { m with olcEnd := some 0x09 }
    ((m.setFld R.PRT_STAT_ROLE role).ownJournal.setStat 4224 2 role).ownTime
  else m

/-- Give up the token: publication ends, the stations are tracked from received frames (R347), and the partner's lease counts. Log 64 (DEDUCED). -/
def Mach.giveToken (m : Mach) : Mach :=
  if m.hasToken then
    let m := ((m.setFlag R.PRT_STAT_TOKEN false).pubStop).bayLeaveRun
    let m := foldM allTasks (fun k m => m.dropForwarded k) m.olcUnpaired.stopForward
    ({ m with pair := { m.pair with leaseAt := some (m.now + m.leaseNs), rxCount := some (m.fld R.PRT_RNWTX), yielding := none, yieldWaits := none } }).setFld64 R.PRT_LEXP_LO
      (m.now + m.leaseNs)
  else m

/-- Become UNSYNC with a reason (PRT.STAT.UNSR). Log 49 (DEDUCED). -/
def Mach.becomeUnsync (m : Mach) (reason : Nat) : Mach :=
  let m := (m.unfollow 3).giveToken.stopFrames false
  (((m.setFld R.PRT_STAT_UNSR reason).setFld R.PRT_STAT_ROLE 3).setStat 4224 2 3).hello

/-! ### Taking the token -/

/-- Take the token: the next epoch (R274), the renewal count going on from the latest one known (R273), and the role R265 gives. Log 49 (DEDUCED). -/
def Mach.takeToken (m : Mach) (role : Nat) : Mach :=
  let m := ((m.addFld R.PRT_EPOCH 1).setFlag R.PRT_STAT_TOKEN true).setFld64 R.PRT_LEXP_LO 0
  let m := match m.pair.rxCount with
    | some n => m.setFld R.PRT_RNWTX n
    | none => m
  let m := { m with pair := { m.pair with leaseAt := none, lastRenew := some m.now, fenced := false, ptnToken := false, ptnUnsync := 0 } }
  ((m.setFlag R.PRT_STAT_FENCE false).setFld R.PRT_STAT_UNSR 0).showRole role

/-- The points whose own source differs from I (R293). -/
def Mach.shadowPts (m : Mach) : List PtChange :=
  (m.pts.filter (fun e => (e.2.v != e.2.sv || e.2.q != e.2.sq))).map (fun e =>
    { idx := e.1, v := e.2.sv, q := e.2.sq, stamp := e.2.sAt, unsync := e.2.sUnsync })

/-- Release the chatter blocks of the points of a change: the values of the own sources stand in I. -/
def Mach.unblock (m : Mach) (ps : List PtChange) : Mach :=
  foldM (ps.filter (fun p => (m.pt p.idx).blocked)) (fun p m => (m.setPt p.idx { m.pt p.idx with blocked := false }).showBlocked p.idx) m

/-- Write the source shadow into I as one indivisible change, which fixes no snapshot: the resume scans see it (R293). -/
def Mach.takeShadow (m : Mach) : Mach :=
  let ps := m.shadowPts
  if ps.isEmpty then m
  else
    let m := ({ m with pair := { m.pair with taking := true } }.unblock ps).change { pts := ps }
    { m with pair := { m.pair with taking := false } }

/-- n of the first boundary of task k after an instant, as an instant. -/
def Mach.nextBnd (m : Mach) (k t : Nat) : Nat :=
  if t < m.firstBnd k then m.firstBnd k else m.firstBnd k + ((t - m.firstBnd k) / m.periodNs k + 1) * m.periodNs k

/-- A resume scan of a task at an instant: it serves the task's boundaries up to it (R48, R252). -/
def Mach.resumeScan (m : Mach) (k t : Nat) : Mach :=
  let m := (m.fixSnap k t 0 0).setFld64 (R.TSK_NBND_LO k) (m.nextBnd k t)
  m.setTask k { m.task k with anyTaken := decide (m.firstBnd k ≤ t), lastTaken := m.nextBnd k t - m.periodNs k, served := false, bndAt := some t }

/-- R292, R293: one resume scan for every enabled task at the takeover instant. -/
def Mach.resumeScans (m : Mach) : Mach := foldM m.tasksOn (fun k m => m.resumeScan k m.now) m

/-- R293: every configured station gets a complete output refresh. -/
def Mach.refreshAll (m : Mach) : Mach :=
  foldM [0, 1] (fun c m => foldM allStations (fun s m =>
    if (m.sta c s).conf then m.canSend c (idOutr s m.side) (m.outFrame c s 6 m.csn 0) else m) m) m

end Sys2Proof.Machine
end

