-- ==== Sys2Proof/Machine/ModeOps.lean ====
section
/-!
DEFINITION. The module's states (R416): the content of the image at entry to RUN (R191–R194), entering RUN (R23, R286, R562, R594),
leaving it (R47), the entry to FAULT (R419), and the end of CONFIG (R394, R395, R420, R479).
-/
namespace Sys2Proof.Machine
open Sys2Proof

/-! ### The image at entry to RUN (R191–R194) -/

/-- A retained cell in a timing state restarts so that its elapsed time at `ref` is its elapsed time at the epoch (R194). -/
def TCell.restart (c : TCell) (epoch ref : Nat) : TCell :=
  if c.timing then { c with start := (epoch + 2 ^ 64 - c.elapsed ref) % 2 ^ 64 } else c

/-- The expiry of a restarted cell: START + P, or the epoch when its time is up already (R194). -/
def TCell.expiry (c : TCell) (epoch : Nat) : Option Nat :=
  if c.timing then some (epoch + (c.p - c.elapsed epoch)) else none

/-- Restart every retained cell of the image, and register the expiries. -/
def Mach.restartCells (m : Mach) (ref : Nat) : Mach :=
  let ts := (m.img.filter (fun e => keySp e.1 == spT && m.retainedElt spT (keyIdx e.1))).map (·.1)
  foldM ts (fun key m =>
    let c := TCell.restart (TCell.ofV (m.cell spT (keyIdx key))) m.epoch ref
    let m := m.setCell spT (keyIdx key) c.toV
    { m with exp := sset none m.exp (keyIdx key) (c.expiry m.epoch) }) m

/-- Does an element keep its content: a GOOSE word always, a retained element once its content has been formed since the start? -/
def Mach.keepsElt (m : Mach) (key : Nat) : Bool :=
  (keySp key == spW && decide (258048 ≤ keyIdx key)) || (m.ret.formed && m.retainedElt (keySp key) (keyIdx key))

/-- The package's initial image with the kept elements of the present one (R191). Log 28 (DEDUCED), 33 (DEDUCED). -/
def Mach.freshImage (m : Mach) : Mach :=
  let kept := m.img.filter (fun e => m.keepsElt e.1)
  let base := (pkgImage m.upd.pkg).filter (fun e => !m.keepsElt e.1)
  { m with img := kept.foldl (fun im e => sset 0 im e.1 e.2) base, exp := [] }

/-- R193: restore the retained ranges after a start, with the reference time of the save, or say why not. Log 28 (DEDUCED). -/
def Mach.restoreRet (m : Mach) : Mach :=
  let m := { m with ret := { m.ret with formed := true, dirty := [] } }
  match m.restoreFrom m.ret.bad with
  | .ok r =>
    let m := foldM m.retChunks (fun c m => m.restoreChunk r.key c) m
    let m := { m with ret := { m.ret with leftAt := fieldAt r.payload 8 8 } }
    (m.setFlag R.IMG_RETLAY_RESTORED true).setFlag R.RET_STAT_RESTORED true
  | .error code => if m.ret.ranges.isEmpty then m else m.raise code 0 1

/-- The content of the image after a start, formed once: before the entry to STOP or to RUN (R191, R193, R462). Log 28 (DEDUCED). -/
def Mach.formImage (m : Mach) : Mach := if m.ret.formed then m else m.freshImage.restoreRet

/-- The image takes its content at the entry to RUN (R191), and the retained cells restart (R194). Log 28 (DEDUCED). -/
def Mach.enterImage (m : Mach) : Mach :=
  let m := if m.ret.formed then m.freshImage else m.formImage
  m.restartCells m.ret.leftAt

/-! ### Entering RUN -/

/-- A quad is on: its engines leave dark, and those with a wake request light (R11, R24). -/
def Mach.quadOn (m : Mach) (q : Nat) : Mach :=
  let m := (m.setQuad q { on := true }).domain (3 + q) true
  foldM (List.range 4) (fun i m =>
    let e := 4 * q + i
    let en := m.eng e
    match en.power with
    | .dark =>
      if en.wake then onlyIf (m.flag (R.ENG_PERFCTL_EN e)) (fun m => m.addFld (R.ENG_WAKEDARK e) 1)
        (m.setEng e { en with power := .lit, wake := false, litSince := m.now })
      else m.setEng e { en with power := .dim }
    | _ => m) m

/-- A quad goes dark (R560). -/
def Mach.quadOff (m : Mach) (q : Nat) : Mach :=
  let m := (m.setQuad q {}).domain (3 + q) false
  foldM (List.range 4) (fun i m =>
    let e := 4 * q + i
    let en := m.eng e
    match en.power with
    | .dim => m.setEng e { en with power := .dark }
    | .lit => m.setEng e { en with power := .dark }
    | _ => m) m

/-- No quad that holds an engine of an event-mode task is ever dark (R12). Log 14 (DEDUCED). -/
def Mach.eventQuads (m : Mach) : Mach :=
  foldM (List.range 4) (fun q m =>
    if (allTasks.filter m.eventTask).any (fun k => (m.taskEngines k).any (fun e => e / 4 == q)) && !(m.quad q).on then m.quadOn q else m) m

/-- The quads that hold an engine of some task are on when CONFIG ends, since the BIST of every engine in CONFIG needs them on (R424, R563);
a quad without a segment stays dark (R12). Log 14 (DEDUCED). -/
def Mach.assignedQuads (m : Mach) : Mach :=
  foldM (List.range 4) (fun q m =>
    if m.tasksOn.any (fun k => (m.taskEngines k).any (fun e => e / 4 == q)) && !(m.quad q).on then m.quadOn q else m) m

/-- The quads that hold no shade frame go dark (R12, R568): with SAVE, those of an application in progress wait for its end. -/
def Mach.saveQuads (m : Mach) : Mach :=
  foldM (List.range 4) (fun q m =>
    if (m.quad q).on && (List.range 4).all (fun i => m.framesUsed (4 * q + i) == 0) then m.quadOff q else m) m

/-- The tasks begin a new sequence of boundaries (R23). -/
def Mach.startTasks (m : Mach) : Mach :=
  foldM allTasks (fun k m =>
    let m := m.setTask k {}
    if m.taskOn k then
      ((m.setFld64 (R.TSK_NBND_LO k) (m.firstBnd k)).setFld (R.TSK_BUDGET_RSTLEFT k) (m.fld (R.TSK_BUDGET_RSTBUD k))).setFld
        (R.TSK_STAT_CONSKIP k) 0
    else m) m

/-- The configured channels are enabled when the module leaves CONFIG (R594). -/
def Mach.enableBays (m : Mach) : Mach :=
  if m.st == .config then foldM [0, 1] (fun c m => if m.flag (R.BB_CFG_CONF c) then (m.bayEnable c).bayBegin c else m) m else m

/-- A waiting entry to RUN is cancelled. -/
def Mach.cancelRun (m : Mach) : Mach :=
  { m with runPend := false, tk := { m.tk with runWaits := false }, pair := { m.pair with listenFrom := none, readyFrom := none } }

/-- The module stays out of RUN (R2): a waiting entry is cancelled, and CONFIG ends in STOP. Log 108 (DEDUCED). -/
def Mach.stayOut (m : Mach) : Mach :=
  if m.st == .config then m.cancelRun.formImage.enableBays.setState .stop else m.cancelRun

/-- Has the module a verified package (R479)? -/
def Mach.verified (m : Mach) : Bool := m.fld R.UPD_PKGSTAT_STATE == 1

/-- Is a key with a verified package present (R2)? Log 108 (DEDUCED). -/
def Mach.keyed (m : Mach) : Bool := m.verified && m.flag R.UPD_KEYSTAT_PRESENT

/-- Enter RUN in a role (R23, R191, R286, R594), but never without a key that holds a verified package (R2). -/
def Mach.enterRun (m : Mach) (role : Nat) : Mach :=
  if !m.keyed then m.stayOut else
  let m := m.enableBays.parAbandon.setState .run
  let m := { m with epoch := roundUp m.now 10000, runPend := false, tk := { m.tk with runWaits := false, waitEnd := none },
                    pair := { m.pair with listenFrom := none } }
  let m := m.takeShadow.enterImage
  let m := (({ m with ran := true }).startTasks).clear 0x3089 0 1
  let m := m.info 0x3001
  if role = 3 then
    let a := (m.pair.leaseAt).getD (m.now + m.leaseNs)
    (({ m with pair := { m.pair with leaseAt := some a } }).setFld64 R.PRT_LEXP_LO a).becomeUnsync 6
  else ((m.takeToken role).hello.bayEnterRun).pubStop

/-- Does the partner show that it holds the token (R286)? What it has shown counts while a lane is up or its heartbeats come. Log 47 (DEDUCED). -/
def Mach.partnerHolds (m : Mach) : Bool := m.pair.ptnToken && (!m.lanesDown || m.flag R.PRT_STAT_PHB)

/-- The partner's HELLO or a heartbeat shows a token holder while the module waits to decide its role: it enters RUN as UNSYNC. Log 47 (DEDUCED). -/
def Mach.joinRun (m : Mach) : Mach := if m.pair.listenFrom.isSome && m.partnerHolds then m.enterRun 3 else m

/-- R286: the module is ready to enter RUN. Without pair operation it is ALONE; otherwise it listens for L, or joins a holder. -/
def Mach.decideRole (m : Mach) : Mach :=
  if !m.paired then m.enterRun 0
  else
    let m := { m with pair := { m.pair with listenFrom := some m.now, readyFrom := some ((m.pair.readyFrom).getD m.now) } }
    m.hello.joinRun

/-- The module is due to enter RUN (R562): it waits for HOLDUP_OK, and for an application still in progress. Log 6 (DEDUCED). -/
def Mach.tryRun (m : Mach) : Mach :=
  if m.flag R.PWR_STAT_HOLDUP_OK && m.cu.app.isNone then ({ m with runPend := false }).decideRole else { m with runPend := true }

/-! ### Leaving RUN (R47) -/

/-- Leave RUN for a state: no further snapshot, every scan but the application in progress squashed, the role and the token given up,
the time-driven functions of RUN ended, and a parameter store abandoned (R461). Log 49 (DEDUCED). -/
def Mach.leaveRun (m : Mach) (st : MState) : Mach :=
  let m := m.parAbandon
  if m.st == .run then
    let m := { m with fio := { m.fio with held := m.fio.cmd } }
    let m := (foldM allTasks (fun k m => m.dropScans k) m).unfollow 0
    let m := { m with ret := { m.ret with leftAt := m.now }, olcEnd := some 0x08 }
    let m := (((m.giveToken.pubStop).bayLeaveRun).stopFrames true).stopForward
    let m := foldM (List.range 32) (fun n m => m.slotOff n) m
    let m := m.info 0x3002
    let m := { m with pair := { m.pair with fenced := false, readyFrom := none, yielding := none, yieldWaits := none, leaseAt := none } }
    let m := ((((m.setFlag R.PRT_STAT_FENCE false).setFld R.PRT_STAT_UNSR 0).setFld64 R.PRT_LEXP_LO 0).setState st).showRole 0 |>.hello
    m.timeLeaveRun
  else m.cancelRun.setState st

/-! ### FAULT (R419) -/

/-- FATAL faults after which the save is omitted: a lockstep mismatch and an uncorrectable error of R422 that is FATAL. -/
def noSaveCode (code : Nat) : Bool := code == 0x31D2 || code == 0x31D3

/-- A FATAL fault has been raised: enter FAULT, with the retained save. Log 82 (DEDUCED). -/
def Mach.enterFault (m : Mach) : Mach :=
  match m.fatal with
  | none => m
  | some code =>
    if m.alive && m.st != .fault then
      let m := m.leaveRun .fault
      let m := { m with sup := { m.sup with faultAt := some m.now, noSave := noSaveCode code } }
      if noSaveCode code then m else m.startSave 1
    else m

/-! ### The end of CONFIG -/

/-- Is the start mode of the loaded package RUN (UPD.PKGSTAT.START 0, R476)? -/
def Mach.startsRun (m : Mach) : Bool := !m.flag R.UPD_PKGSTAT_START

/-- The end of CONFIG with a verified package (R395, R416, R479, R537): STOP, or RUN when it can be entered; a display is enabled. -/
def Mach.endConfig (m : Mach) : Mach :=
  let m := { m with tk := { m.tk with waitEnd := none } }
  let m := if m.dspOn then m.dspEnable else m
  if m.tq = tqUnset then
    let m := (m.formImage.enableBays.setState .stop).raise 0x3089 0 1
    { m with tk := { m.tk with runWaits := m.startsRun } }
  else if m.startsRun then m.tryRun
  else m.formImage.enableBays.setState .stop

/-- The wait for a time source (R394): it begins unless a source other than the RTC is available. -/
def Mach.waitSource (m : Mach) : Mach :=
  let w := m.fld R.TB_CFG_TWAIT
  if w ≠ 0 ∧ m.bestSrc = 3 then { m with tk := { m.tk with waitEnd := some (m.now + w * 1000000000) } }
  else (m.takeStep m.bestSrc).endConfig

/-- The hold of R420: a third recorded reset within 600 s of the first. -/
def Mach.holdReset (m : Mach) : Mach := (m.setFlag R.WDG_STAT_HOLD true).raise 0x31DD 0 3

/-- A RUN that waited is due: the time quality has left UNSET (R395), or HOLDUP_OK is 1 (R562). -/
def Mach.runDue (m : Mach) : Mach :=
  if m.tk.runWaits && m.st == .stop && m.tq != tqUnset then ({ m with tk := { m.tk with runWaits := false } }).tryRun
  else if m.runPend then m.tryRun else m

end Sys2Proof.Machine
end

