-- ==== Sys2Proof/Machine/Flags.lean ====
section
/-!
DEFINITION. The engines have no flags (R129); what other machines keep in flags, this one writes to predicates. These are the
values the compare and predicate instructions form (R135, R136), before they are combined with the predicate c names.
-/
namespace Sys2Proof.Machine
open Sys2Proof

def cmpEq (a b : Word) : Bool := a == b
def cmpNe (a b : Word) : Bool := a != b
def cmpLt (a b : Word) : Bool := a.slt b
def cmpLtu (a b : Word) : Bool := a.ult b
def cmpLe (a b : Word) : Bool := a.sle b
def cmpLeu (a b : Word) : Bool := a.ule b

/-- TSTB: bit b[4:0] of g(a). -/
def testBit5 (a : Word) (b : Fin 64) : Bool := a.getLsbD (b.val % 32)

/-- ANY: some lane of g(a) under the mask g(b) is set. -/
def anyLane (a b : Word) : Bool := (a &&& b) != 0

/-- ALL: every lane under the mask g(b) is set; true for an empty mask. -/
def allLanes (a b : Word) : Bool := (a &&& b) == b

end Sys2Proof.Machine
end

