-- ==== Sys2Proof/Machine/Pipeline.lean ====
section
/-!
DEFINITION. The engines' exposed pipeline (R95–R113): the issue of an instruction in its engine's next slot, what it reads at its
read stages, the writes it puts in flight, engine faults (R123–R125), and the image as a scan reads and writes it (R32, R60,
R73, R74).
-/
namespace Sys2Proof.Machine
open Sys2Proof

/-! ### Writes in flight -/

/-- Completion stages (R95). -/
def stDE : Nat := 3
def stX1 : Nat := 4
def stX2 : Nat := 5
def stMA : Nat := 6
def stWB : Nat := 7
def stWB1 : Nat := 8
def stWB5 : Nat := 12
def stWB14 : Nat := 21

/-- Insert a write behind every write that completes no later: the list stands in the order of completion, then of issue (R101). -/
def insFlight (f : Flight) : List Flight → List Flight
  | [] => [f]
  | g :: gs => if g.done ≤ f.done then g :: insFlight f gs else f :: g :: gs

/-- The effect of a completed write on the engine's own state. Log 24 (DEDUCED). -/
def Eng.apply (en : Eng) : Wr → Eng
  | .g n v => { en with g := sset 0 en.g n v }
  | .p n v => { en with p := sset false en.p n v }
  | .link v => { en with link := v }
  | .loop v => { en with loop := v }
  | .ldata a v => { en with ldata := sset 0 en.ldata a v }
  | _ => en

/-- The effect of a completed write on the segment's shade frame (R60). Log 24 (DEDUCED). -/
def Seg.apply (s : Seg) : Wr → Seg
  | .shade key v => { s with frame := sset none s.frame key (some v) }
  | .act d => { s with deferred := s.deferred ++ [d] }
  | _ => s

/-- SWR (R158) at its completion: ENGe.PERFCTL, or SCANMAX or RESPMAX of the scan's task. -/
def Mach.applyPerf (m : Mach) (e : Nat) : Wr → Mach
  | .perf en clr =>
    let m := m.setFlag (R.ENG_PERFCTL_EN e) en
    if clr then foldM (List.range 10) (fun i m => m.rset ((R.ENG_LITCYC e).addr + 4 * i) 0) m else m
  | .tmax resp k => m.setFld (if resp then R.TSK_RESPMAX k else R.TSK_SCANMAX k) 0
  | _ => m

/-- Is a write an SWR's? -/
def Wr.isSwr : Wr → Bool
  | .perf _ _ => true
  | .tmax _ _ => true
  | _ => false

/-- Does a write belong to the shade frame? -/
def Wr.isShade : Wr → Bool
  | .shade _ _ => true
  | .act _ => true
  | _ => false

/-- Let a list of writes take effect on engine `e` and on the segment in RUN on it. -/
def Mach.complete (m : Mach) (e : Nat) (ws : List Wr) : Mach :=
  let m := m.setEng e (ws.foldl Eng.apply (m.eng e))
  let m := ws.foldl (fun m w => m.applyPerf e w) m
  if ws.any Wr.isShade then
    match (m.eng e).act with
    | some (k, j) =>
      match (m.task k).run with
      | some sc => m.setTask k { m.task k with run := some (sc.setSeg j (ws.foldl Seg.apply (sc.seg j))) }
      | none => m
    | none => m
  else m

/-- Let every write complete that is done before cycle `c` (R96). Log 24 (DEDUCED). -/
def Mach.retire (m : Mach) (e c : Nat) : Mach :=
  let en := m.eng e
  let done := en.flight.filter (fun f => decide (f.done < c))
  if done.isEmpty then m
  else (m.setEng e { en with flight := en.flight.filter (fun f => !decide (f.done < c)) }).complete e (done.map (·.w))

/-! ### Engine faults (R123–R125) -/

/-- Codes of the hardware class (R123). -/
def engHw (code : Nat) : Bool := decide (0x10 ≤ code)

/-- Record an engine fault, squash its scan with code 4, and raise the fault of its class. The repeat of R124 is judged by the task, the
code and the PC. Log 23 (DEDUCED). -/
def Mach.engineFault (m : Mach) (e code pc : Nat) : Mach :=
  match (m.eng e).act with
  | none => m
  | some (k, j) =>
    let hw := engHw code
    let rep := !hw && (m.task k).lastFault == some (code, pc)
    let w := code + hw.toNat * 2 ^ 6 + rep.toNat * 2 ^ 7 + pc * 2 ^ 8 + k * 2 ^ 22 + j * 2 ^ 27 + 2 ^ 31
    let m := (m.rset (R.ENG_FLT e).addr (BitVec.ofNat 32 w)).addFld (R.ENG_FLTCNT e) 1
    let m := m.setFld64 (R.ENG_FLTT_LO e) m.now
    let m := if hw then m else m.setTask k { m.task k with lastFault := some (code, pc) }
    let m := m.squashRun k 4
    if hw then (m.setEng e { m.eng e with power := .heldOut }).raise 0x31E0 e 2
    else if rep then m.raise 0x31DF e 3
    else m.raise 0x31DE e 1

/-- R62: a segment attempts a 2049th shade entry. -/
def Mach.shadeOverflow (m : Mach) (e k : Nat) : Mach :=
  let m := ((m.setFlag R.IMG_FSTAT_SHDOVF true).setFld R.IMG_FSTAT_ENG e).setFld R.IMG_FSTAT_TASK k
  m.raise 0x31E1 0 3

/-! ### What an instruction sees -/

/-- An instruction at issue: its engine, task, segment and slot, its PC, and the engine and scan as they stand with every write
completed before its DE stage. -/
structure Ctx where
  e : Nat
  k : Nat
  j : Nat
  i : Nat
  pc : Nat
  en : Eng
  sc : Scan
  deriving DecidableEq, Repr

/-- The last write in a list that a test picks. -/
def lastWr {α : Type} (fs : List Flight) (c : Nat) (f : Wr → Option α) : Option α :=
  fs.foldl (fun r x => if x.done < c then (f x.w).or r else r) none

/-- General register n at X1 (R87, R96, R100). -/
def Ctx.g (c : Ctx) (n : Nat) : Word :=
  if n = 0 ∨ 63 < n then 0
  else (lastWr c.en.flight (c.i + 3) (fun w => match w with
    | .g n' v => if n' = n then some v else none
    | _ => none)).getD (sget 0 c.en.g n)

/-- Predicate n at DE: every write completed before it has taken effect already. -/
def Ctx.p (c : Ctx) (n : Nat) : Bool := if n = 0 then true else sget false c.en.p n

/-- LINK and LOOP at DE. -/
def Ctx.link (c : Ctx) : Nat := c.en.link
def Ctx.loop (c : Ctx) : Word := c.en.loop

/-- "now": the snapshot time of the scan. -/
def Ctx.now (c : Ctx) : Nat := c.sc.snap.time

/-- R103: reads of general registers and predicates before their distance has elapsed. Log 22 (DEDUCED). -/
def Ctx.early (c : Ctx) (gs ps : List Nat) : Nat :=
  (gs.filter (fun n => n != 0 && c.en.flight.any (fun f => decide (c.i + 3 ≤ f.done) && match f.w with
    | .g n' _ => n' == n
    | _ => false))).length +
  (ps.filter (fun n => n != 0 && c.en.flight.any (fun f => decide (c.i + 2 ≤ f.done) && match f.w with
    | .p n' _ => n' == n
    | _ => false))).length

/-- R103: a read of LOOP, or of LINK, before its distance has elapsed. -/
def Ctx.earlyLk (c : Ctx) (loop : Bool) : Nat :=
  if c.en.flight.any (fun f => decide (c.i + 2 ≤ f.done) && match f.w with
    | .link _ => !loop
    | .loop _ => loop
    | _ => false) then 1 else 0

/-- Count in a performance counter while ENGe.PERFCTL.EN is set (R126). Log 22 (DEDUCED). -/
def Mach.perf (m : Mach) (e : Nat) (f : Fld) (n : Nat) : Mach := onlyIf (m.flag (R.ENG_PERFCTL_EN e)) (fun m => m.addFld f n) m

/-- Count a read of LOOP, or of LINK, that comes early. -/
def Ctx.readLk (c : Ctx) (loop : Bool) (m : Mach) : Mach := m.perf c.e (R.ENG_EARLY c.e) (c.earlyLk loop)

/-- Put a write in flight for the instruction: it completes at the end of stage `st`, in cycle i + st − 1. -/
def Ctx.put (c : Ctx) (st : Nat) (w : Wr) (m : Mach) : Mach :=
  let en := m.eng c.e
  m.setEng c.e { en with flight := insFlight ⟨c.i + st - 1, w⟩ en.flight }

/-- Write general register n; a write to g0 or beyond g63 is discarded (R87, R163). -/
def Ctx.setG (c : Ctx) (st n : Nat) (v : Word) (m : Mach) : Mach := if n = 0 ∨ 63 < n then m else c.put st (.g n v) m

/-- Write predicate n; a write to p0 is discarded. -/
def Ctx.setP (c : Ctx) (st n : Nat) (v : Bool) (m : Mach) : Mach := if n = 0 then m else c.put st (.p n v) m

/-! ### The image as a scan reads it (R32, R63, R73, R74, R102) -/

/-- The entry of a scan's segments for a key, the highest-indexed first (R37). -/
def Scan.entry (sc : Scan) (js : List Nat) (key : Nat) : Option CellV :=
  js.findSome? (fun j => sget none (sc.seg j).frame key)

/-- The scan's own entry, or one it reads through (R22); writes that complete before the X2 lookup are seen (R102). Log 113 (DESIGN CHOICE). -/
def Ctx.own (c : Ctx) (m : Mach) (key : Nat) : Option CellV :=
  let fl := lastWr (m.eng c.e).flight (c.i + 4) (fun w => match w with
    | .shade k' v => if k' = key then some v else none
    | _ => none)
  let sc := ((m.task c.k).run).getD c.sc
  fl.or (sc.entry (c.j :: readThrough (m.fld (R.TSK_SEGDEP_DEP c.k)) c.j) key)

/-- The entry of the task's HELD predecessor, merged under R37 (R63). -/
def Ctx.pred (c : Ctx) (m : Mach) (key : Nat) : Option CellV :=
  match (m.task c.k).held with
  | some h => h.entry (List.range h.segs.length).reverse key
  | none => none

/-- The live image with the application in progress, whose merged values a read ordered after it sees (R74). -/
def Mach.liveEntry (m : Mach) (key : Nat) : Option CellV :=
  match m.cu.app with
  | some a => (a.entries.find? (fun x => x.1 == key)).map (·.2)
  | none => none

/-- Blocks of R72: the number of elements one read-set bit covers. Log 34 (DESIGN CHOICE). -/
def blockSize (sp : Nat) : Nat := if sp = spM then 256 else 64

/-- Is an element tracked in read-sets (R72)? -/
def tracked (sp i : Nat) : Bool := decide (sp = spM ∨ (sp = spW ∧ i < 258048) ∨ sp = spT ∨ sp = spC ∨ sp = spE)

/-- Set the read-set bit of an element's block (R73). -/
def Mach.mark (m : Mach) (k sp i : Nat) : Mach :=
  if tracked sp i then
    match (m.task k).run with
    | some sc =>
      let b := (sp, i / blockSize sp)
      if sc.rset.contains b then m else m.setTask k { m.task k with run := some { sc with rset := sc.rset ++ [b] } }
    | none => m
  else m

/-- A value of I and its quality code from the snapshot; reserved points read 0 invalid (R140). -/
def Ctx.point (c : Ctx) (i : Nat) : Bool × Nat :=
  let x := sget (2 * (ptDflt i).q) c.sc.snap.ivals i
  (x % 2 == 1, x / 2)

/-- Read an element from its source of R32; a tracked value served from the predecessor or the image marks its block. -/
def Ctx.read (c : Ctx) (sp i : Nat) (m : Mach) : CellV × Mach :=
  if sp = spI then (if (c.point i).1 then 1 else 0, m)
  else if sp = spW ∧ 258048 ≤ i then ((sget 0 c.sc.snap.wvals i).setWidth 128, m)
  else if sp = spQ ∧ 2112 ≤ i then (0, m)
  else
    let key := ikey sp i
    match c.own m key with
    | some v => (v, m)
    | none => ((((c.pred m key).or (m.liveEntry key)).getD (m.cell sp i)), m.mark c.k sp i)

/-- The PRIMED mark of an edge cell as the scan sees it: an entry for the cell clears it (R206). -/
def Ctx.primed (c : Ctx) (m : Mach) (i : Nat) : Bool :=
  let key := ikey spE i
  if ((c.own m key).or ((c.pred m key).or (m.liveEntry key))).isSome then false else m.bit spPrimed i

/-- Read several bits of a space, the first at bit 0. -/
def Ctx.readBits (c : Ctx) (sp i : Nat) : Nat → Mach → List Bool × Mach
  | 0, m => ([], m)
  | n + 1, m =>
    let (v, m) := c.read sp i m
    let (vs, m) := c.readBits sp (i + 1) n m
    ((v != 0) :: vs, m)

/-- R102, R103: an image access to keys with a write still to complete is counted once as early. Log 22 (DEDUCED). -/
def Ctx.earlyImg (c : Ctx) (keys : List Nat) (m : Mach) : Mach :=
  if (m.eng c.e).flight.any (fun f => decide (c.i + 4 ≤ f.done) && match f.w with
    | .shade k' _ => keys.contains k'
    | _ => false)
  then m.perf c.e (R.ENG_EARLY c.e) 1 else m

/-- Create a shade entry (R60), completing at stage `st`. Writes to I, to W:258048–262143 and to reserved Q addresses create
none (R34, R140). -/
def Ctx.write (c : Ctx) (st sp i : Nat) (v : CellV) (m : Mach) : Mach :=
  if sp = spI ∨ (sp = spW ∧ 258048 ≤ i) ∨ (sp = spQ ∧ 2112 ≤ i) then m else c.put st (.shade (ikey sp i) v) m

/-- A bit as an image element. -/
def bitV (b : Bool) : CellV := if b then 1 else 0

/-- The shade entries of the engine's segment, completed or in flight (R60, R62). -/
def Mach.entryCount (m : Mach) (e : Nat) : Nat :=
  match (m.eng e).act with
  | none => 0
  | some (k, j) =>
    match (m.task k).run with
    | none => 0
    | some sc =>
      let s := ((m.eng e).flight.map (·.w)).foldl Seg.apply (sc.seg j)
      s.frame.length + s.deferred.length

/-! ### Issue (R95, R106–R113) -/

/-- What an instruction does to the order of fetch: nothing, a branch with two delay slots, or HALT. -/
inductive Ctl where
  | none | branch | halt
  deriving DecidableEq, Repr

/-- The next PC and the delay-slot state after a slot in sequence (R108). -/
def Eng.advance (en : Eng) : Eng :=
  if en.ds = 2 then { en with pc := en.pc + 1, ds := 1 }
  else if en.ds = 1 then { en with pc := en.tgt.getD (en.pc + 1), ds := 0, tgt := none }
  else { en with pc := en.pc + 1 }

/-- R62: check the frame of the engine's segment after an instruction, and keep the largest count (IMG.SHDe.MAX). -/
def Mach.checkShade (m : Mach) (e k : Nat) : Mach :=
  let n := m.entryCount e
  if 2048 < n then m.shadeOverflow e k else m.maxFld (R.IMG_SHD_MAX e) n

/-- R112: sequential fetch past PC 16,383. -/
def Mach.checkEnd (m : Mach) (e : Nat) : Mach :=
  let en := m.eng e
  if en.act.isSome && !en.drain && decide (16383 < en.pc) then m.engineFault e 0x07 16383 else m

/-- The fault of a custom instruction in flight whose cycle lies before cycle `c` (R171). -/
def Eng.fltDue (en : Eng) (c : Nat) : Option (Nat × Nat) := en.flt.bind (fun x => if x.1 < c then some x.2 else none)

/-- Issue one instruction on engine `e` in its next slot; a custom instruction's fault that comes first stops the issue (R171). `always` is a fault raised whatever the guard (R107); `st` is its
completion stage, `gs` and `ps` the registers and predicates it reads, `body` its effect under a true guard. On an engine
without a running segment, or after HALT, nothing is issued. Where several faults meet in one slot, the step limit comes first, then a
delay slot, then the opcode. Log 8 (DESIGN CHOICE), 23 (DEDUCED). -/
def Mach.issue (m : Mach) (e : Nat) (gd : Guard) (ctl : Ctl) (always : Option Nat) (st : Nat) (gs ps : List Nat)
    (body : Ctx → Mach → Mach) : Mach :=
  match (m.eng e).act with
  | none => m
  | some (k, j) =>
    if (m.eng e).drain then m
    else
      let i := (m.eng e).slot
      let m := m.retire e (i + 2)
      let en := m.eng e
      match en.fltDue (i + 2), (m.task k).run with
      | some x, _ => m.engineFault e x.1 x.2
      | none, none => m
      | none, some sc =>
        let c : Ctx := ⟨e, k, j, i, en.pc, en, sc⟩
        let en1 := match ctl with
          | .branch => { en with pc := en.pc + 1, ds := 2, tgt := none }
          | .halt => en.advance
          | .none => en.advance
        let m := m.setEng e { en1 with slot := i + 1, steps := en.steps + 1, de := en.pc,
                                       ends := (en.ends.filter (fun x => decide (i ≤ x))) ++ [i + max 7 st - 1] }
        let m := m.perf e (R.ENG_ISSUED e) 1
        if 64 * m.fld (R.ENG_SEG_STEPLIM e k) < en.steps + 1 then m.engineFault e 0x08 en.pc
        else if en.ds ≠ 0 ∧ ctl ≠ .none then m.engineFault e 0x06 en.pc
        else
          match always with
          | some code => m.engineFault e code en.pc
          | none =>
            let m := m.perf e (R.ENG_EARLY e) (c.early [] [gd.p.val])
            if c.p gd.p.val == gd.neg then (m.perf e (R.ENG_GFALSE e) 1).checkEnd e
            else
              let m := body c (m.perf e (R.ENG_EARLY e) (c.early gs ps))
              (m.checkShade e k).checkEnd e

/-- An instruction that only writes one general register from values it reads. -/
def Mach.compute (m : Mach) (e : Nat) (gd : Guard) (st : Nat) (gs ps : List Nat) (d : Nat) (val : Ctx → Word) : Mach :=
  m.issue e gd .none none st gs ps (fun c m => c.setG st d (val c) m)

/-- An instruction that writes one predicate, combined with the predicate `cc` names (R135). -/
def Mach.predicate (m : Mach) (e : Nat) (gd : Guard) (f : FmtE) (gs ps : List Nat) (val : Ctx → Bool) : Mach :=
  m.issue e gd .none none stX1 gs (f.c.val :: ps) (fun c m => c.setP stX1 f.pd.val (val c && c.p f.c.val) m)

end Sys2Proof.Machine
end

