-- ==== Sys2Proof/Machine/CommitOps.lean ====
section
/-!
DEFINITION. The commit unit (R35–R46): which HELD scan is applied next, with agreement (R281) and deferral (R80, R82), the start of an
application with its conflicts (R75), and everything its completion does (R45, R148, R185, R225, R279, R431).
-/
namespace Sys2Proof.Machine
open Sys2Proof

/-! ### Which scan comes next (R39, R80, R281) -/

/-- The blocks of R72 that some keys lie in. -/
def trackedBlocks (keys : List Nat) : List (Nat × Nat) :=
  blocksOf (keys.filter (fun key => tracked (keySp key) (keyIdx key))) blockSize

/-- Scans of a task in RUN or HELD, without the one in application. -/
def Task.live (x : Task) : List Scan := x.run.toList ++ (if x.inCommit then [] else x.held.toList)

/-- The scans that defer a commit: those in RUN and HELD, and for a commit already deferred the one in application too, until it
completes (R80). Log 18 (DEDUCED). -/
def Task.defers (x : Task) (already : Bool) : List Scan := if already then x.run.toList ++ x.held.toList else Task.live x

/-- R80, R82: is the commit of a scan of task k deferred? Log 18 (DEDUCED). -/
def Mach.deferred (m : Mach) (k : Nat) (sc : Scan) : Bool :=
  let bs := trackedBlocks (sc.merged.map (·.1))
  m.tasks.any (fun e => e.1 != k && decide (m.prio e.1 ≤ m.prio k) && (Task.defers e.2 sc.deferredAt.isSome).any (fun a =>
    a.anchored && bs.any (fun b => a.rset.contains b) && !(sc.anchored && decide (sc.anchOrd < a.anchOrd))))

/-- Does a scan stand before another in the order of R39? -/
def Mach.before (m : Mach) (a b : Nat × Scan) : Bool :=
  let x := a.2.heldAt / 10
  let y := b.2.heldAt / 10
  decide (x < y) || (x == y && (decide (m.prio a.1 < m.prio b.1) || (m.prio a.1 == m.prio b.1 && decide (a.1 < b.1))))

/-- The scan the commit unit applies next. -/
def Mach.nextHeld (m : Mach) : Option (Nat × Scan) :=
  (m.heldScans.filter (fun x => m.agreed x.2 && !m.deferred x.1 x.2)).foldl (fun b x => match b with
    | none => some x
    | some y => if m.before x y then some x else some y) none

/-- Note the deferrals (IMG.ANCHWAIT) and since when a HELD scan waits for the unit alone (IMG.CMTMAX.WAITMAX). Log 18 (DEDUCED). -/
def Mach.markHeld (m : Mach) : Mach :=
  foldM m.heldScans (fun (k, sc) m =>
    let d := m.deferred k sc
    let m := match sc.deferredAt with
      | some a => if d then m else m.maxFld R.IMG_ANCHWAIT ((m.now - a) / 10)
      | none => m
    let sc' := { sc with deferredAt := if d then some (sc.deferredAt.getD m.now) else none,
                         waitFrom := if d || !m.agreed sc then m.now else sc.waitFrom }
    if sc' = sc then m else m.setTask k { m.task k with held := some sc' }) m

/-- A complete scan in RUN enters HELD once no scan of its task is in HELD or COMMIT (R58). -/
def Mach.promote (m : Mach) : Mach :=
  foldM m.tasksOn (fun k m =>
    match (m.task k).run, (m.task k).held with
    | some sc, none => if sc.complete then m.setTask k { m.task k with run := none, held := some { sc with heldAt := m.now, waitFrom := m.now } } else m
    | _, _ => m) m

/-! ### Start (R38, R41, R75) -/

/-- The changed Q bits of some entries (R44). -/
def Mach.qChanges (m : Mach) (es : List (Nat × CellV)) : List (Nat × Bool) :=
  (es.filter (fun e => keySp e.1 == spQ && m.cell spQ (keyIdx e.1) != e.2)).map (fun e => (keyIdx e.1, e.2 != 0))

/-- The digest a scan would be applied with now. -/
def Mach.scanDigest (m : Mach) (k : Nat) (sc : Scan) : BitVec 64 :=
  commitDigest sc.merged sc.actions (m.qChanges sc.merged).length k sc.snap.time

/-- R75: the scans of other tasks that meet the blocks a commit writes, with the lowest-numbered such block. Log 37 (DEDUCED). -/
def Mach.victimsOf (m : Mach) (k : Nat) (keys : List Nat) : List (Nat × Nat × Nat × Nat) :=
  let bs := trackedBlocks keys
  (m.tasks.filter (fun e => e.1 != k)).flatMap (fun e => (Task.live e.2).filterMap (fun sc =>
    ((bs.filter (fun b => sc.rset.contains b)).foldl (fun (r : Option (Nat × Nat)) b => match r with
      | none => some b
      | some c => if b.2 < c.2 ∨ (b.2 = c.2 ∧ b.1 < c.1) then some b else some c) none).map (fun b => (e.1, sc.id, b.1, b.2))))

/-- Entries of the largest segment (R38). -/
def Scan.largest (sc : Scan) : Nat := (sc.segs.map (fun s => s.frame.length + s.deferred.length)).foldl max 0

/-- An application of a scan of task k with a CSN, starting now. -/
def Mach.appOf (m : Mach) (k : Nat) (sc : Scan) (csn : Nat) : App :=
  let es := sc.merged
  { task := k, scan := sc.id, csn := csn, prev := m.csn, snapTime := sc.snap.time, startAt := m.now, doneAt := m.now + 100 + 2 * sc.largest,
    entries := es, qchg := m.qChanges es, digest := m.scanDigest k sc, victims := m.victimsOf k (es.map (·.1)), deferred := sc.actions,
    anchored := sc.anchored, snapNo := sc.snap.no }

/-- Start the application of a HELD scan (R36, R41). Log 7 (DESIGN CHOICE). -/
def Mach.appStart (m : Mach) (k : Nat) (sc : Scan) : Mach :=
  let csn := csnNext m.csn
  let a := m.appOf k sc csn
  let m := m.auditSelect k sc
  let m := (m.setFld64 R.IMG_CSN_LO csn).setTask k { m.task k with inCommit := true }
  let m := m.maxFld R.IMG_CMTMAX_WAITMAX ((m.now - max sc.heldAt sc.waitFrom) / 10)
  { m with cu := { m.cu with app := some a } }

/-- Does a swap commit wait for the unit alone: mapped, and in a synchronised pair by the partner too (R250, R259)? -/
def Mach.swapReady (m : Mach) : Bool := m.olc.mapped && (!(m.isLead && m.pair.ptnFollow) || m.pair.olc == 3)

/-- APPLICATION_START: the unit is free, successive starts are at least 0.25 µs apart (R38), and no swap commit waits (R250). -/
def Mach.commitNext (m : Mach) : Mach :=
  if m.st == .run && m.hasToken && m.cu.app.isNone && decide (m.cu.nextStart ≤ m.now) && !m.swapReady then
    match m.nextHeld with
    | some x => m.appStart x.1 x.2
    | none => m
  else m

/-! ### Completion -/

/-- R148, R198: the registrations of the timer cells a commit leaves. -/
def Mach.register (m : Mach) (es : List (Nat × CellV)) : Mach :=
  { m with exp := (es.filter (fun e => keySp e.1 == spT)).foldl (fun x e =>
      let c := TCell.ofV e.2
      sset none x (keyIdx e.1) (if c.timing then some (max m.now (c.start % 2 ^ 64 + c.p)) else none)) m.exp }

/-- Write entries into the image; an edge cell written is PRIMED no more (R206). -/
def Mach.writeEntries (m : Mach) (es : List (Nat × CellV)) : Mach :=
  foldM es (fun e m =>
    let m := { m with img := sset 0 m.img e.1 e.2 }
    if keySp e.1 = spE then m.setCell spPrimed (keyIdx e.1) 0 else m) m

/-- Squash a victim of R75, if its scan is still there (R76). Log 37 (DEDUCED). -/
def Mach.squashVictim (m : Mach) (writer csn : Nat) (v : Nat × Nat × Nat × Nat) : Mach :=
  let (k, id, sp, b) := v
  let isRun := ((m.task k).run.map (·.id)) == some id
  let isHeld := ((m.task k).held.map (·.id)) == some id
  if isRun || isHeld then
    let m := m.rset R.IMG_LCONF.addr (BitVec.ofNat 32 (k + writer * 2 ^ 8 + sp * 2 ^ 16 + 2 ^ 19 + b * 2 ^ 20))
    let m := m.setFld R.IMG_LCONFCSN csn
    if isHeld then m.squashHeld k 1 else m.squashRun k 1
  else m

/-- The commit record in the task's registers (R43) and in the journal with the CMT entries (R225). -/
def Mach.recordCommit (m : Mach) (a : App) : Mach :=
  let k := a.task
  let m := (((m.setFld64 (R.TSK_LCSN_LO k) a.csn).setFld64 (R.TSK_LSNAP_LO k) a.snapTime).setFld64 (R.TSK_LCMT_LO k) m.now).setFld64
    (R.TSK_LDIG_LO k) a.digest.toNat
  let m := (m.addFld (R.TSK_COMMITS k) 1).maxFld (R.TSK_RESPMAX k) ((m.now - a.snapTime) / 10)
  let sel := m.fld R.EVU_CFG_CMTSEL
  let m :=
    if sel = 1 ∨ (sel = 0 ∧ a.qchg ≠ []) then
      (((m.commitEntry k 0x41 m.now).commitEntry k 0x42 a.snapTime).commitEntry k 0x43 (a.csn + a.qchg.length * 2 ^ 48)).commitEntry k 0x44 a.digest.toNat
    else m
  foldM a.qchg (fun q m => m.journal m.now (0x2000 + q.1) 0x21 (q.2.toNat + m.degraded)) m

/-- The applied scan leaves HELD, and R48: the task's last taken boundary is served by a snapshot at or after it. -/
def Mach.serve (m : Mach) (k snapTime : Nat) : Mach :=
  let tk := m.task k
  m.setTask k { tk with held := if tk.inCommit then none else tk.held, inCommit := false, lastFault := none, served := tk.served || decide (tk.lastTaken ≤ snapTime) }

/-- The control bits of R185 that act on the journal and the token. -/
def Mach.controlBits (m : Mach) (old : Nat → Bool) : Mach :=
  let rose (i : Nat) : Bool := !old i && m.bit spQ i
  let m := if rose 2093 then m.info 0x3006 else m
  if rose 2092 then m.startYield 2 else m

/-- Everything an application does to the image and to what hangs on it. -/
def Mach.applyApp (m : Mach) (a : App) : Mach :=
  let keys := a.entries.map (·.1)
  let before := m
  let bits : List Bool := (List.range 14).map (fun i => m.bit spQ (2080 + i))
  let old (i : Nat) : Bool := bits.getD (i - 2080) false
  let m := ((m.auditKeep keys blockSize tracked).movPreserve keys).markDirty keys
  let m := (m.writeEntries a.entries).register a.entries
  let m := (m.serve a.task a.snapTime).recordCommit a
  let m := foldM a.victims (fun v m => m.squashVictim a.task a.csn v) m
  let m := (m.commitCheckIns a.deferred).movCommit a.deferred
  let m := (m.dspCommit old).controlBits old
  let m := m.imageRearm.sendChanged (a.qchg.map (·.1)) a.csn a.snapTime
  m.pubCommit before m.now

/-- The payload of a COMMIT frame (R279). -/
def commitPayload (a : App) (swap : Bool) (cmtT : Nat) : List Byte :=
  leBytes 6 a.csn ++ (leBytes 1 a.task ++ (leBytes 1 (a.anchored.toNat + 2 * swap.toNat) ++ (leBytes 4 a.snapNo ++ (leBytes 8 cmtT ++
    (leBytes 8 a.digest.toNat ++ leBytes 2 a.qchg.length)))))

/-- The entries of a commit as a DELTA carries them (R268). -/
def deltaBytes (a : App) : List Byte := a.entries.flatMap entryBytes ++ a.deferred.flatMap deferredBytes

/-- The parts of a DELTA: at most 120 bytes each, at least one. -/
def deltaParts : Nat → List Byte → List (List Byte)
  | 0, b => [b.take 120]
  | n + 1, b => if b.length ≤ 120 then [b] else b.take 120 :: deltaParts n (b.drop 120)

/-- Send the DELTA of a commit. -/
def Mach.sendDelta (m : Mach) (csn : Nat) (b : List Byte) : Mach :=
  let ps := deltaParts (b.length / 120) b
  foldM ps.zipIdx (fun (p, i) m => m.linkSend 0x14 (leBytes 6 csn ++ (leBytes 1 i ++ (leBytes 1 (if i + 1 = ps.length then 1 else 0) ++ p)))) m

/-- Forward a commit to the partner (R279, R289), and keep it among the last 256 (R283). -/
def Mach.forwardCommit (m : Mach) (a : App) (swap : Bool) : Mach :=
  if m.pair.streaming then
    let m := m.flushStream.linkSend 0x12 (commitPayload a swap m.now)
    let m := { m with pair := { m.pair with deltas := (m.pair.deltas ++ [(a.csn, deltaBytes a)]).drop (m.pair.deltas.length + 1 - 256) } }
    if m.pair.deltaAll then m.sendDelta a.csn (deltaBytes a) else m
  else m

/-- The first commit after a start ends its start-up (PWR.STARTDUR, R563). -/
def Mach.firstCommit (m : Mach) : Mach :=
  match m.bootAt with
  | some b => ({ m with bootAt := none }).setFld R.PWR_STARTDUR_TIME (min ((m.now - b) / 10000) (2 ^ 24 - 1))
  | none => m

/-- A save that waited for the application begins now, and in SAVE the quads of its frames go dark. Log 82 (DEDUCED). -/
def Mach.savePending (m : Mach) : Mach :=
  let m := if m.st == .save then m.saveQuads else m
  m.resumeSave

/-- APPLICATION_COMPLETE (R36). Log 37 (DEDUCED). -/
def Mach.appComplete (m : Mach) : Mach :=
  match m.cu.app with
  | none => m
  | some a =>
    if m.now < a.doneAt then m
    else
      let m := { m with cu := { m.cu with app := none, nextStart := a.startAt + 250 } }
      let m := m.maxFld R.IMG_CMTMAX_APPMAX ((m.now - a.startAt) / 10)
      ((m.applyApp a).forwardCommit a false).firstCommit.savePending

end Sys2Proof.Machine
end

