-- ==== Sys2Proof/Machine/Spare.lean ====
section
/-!
DEFINITION. Retirement and sparing (R428): the engine that takes over a retired engine's content from the reference copy of the package
(R251, R478), with its segments, and the rewriting of a code bank (R421).
-/
namespace Sys2Proof.Machine
open Sys2Proof

/-- The engine that carries the content of engine e: the spare for a retired one (R428). Log 43 (DEDUCED). -/
def Mach.standIn (m : Mach) (e : Nat) : Nat := if (m.eng e).retired ∧ e ≠ auditEngine ∧ m.flag R.DIAG_CFG_AUDIT then auditEngine else e

/-- The engine whose content in the package engine e carries. -/
def Mach.standsFor (m : Mach) (e : Nat) : Nat :=
  if e = auditEngine then ((List.range 15).find? (fun r => m.standIn r == auditEngine)).getD e else e

/-- The segments of some tasks on engine e go to engine a (R428). -/
def Mach.remap (m : Mach) (ks : List Nat) (e a : Nat) : Mach :=
  foldM ks (fun k m => foldM (List.range 8) (fun j m => if m.fld (segMap k j) = e then m.setFld (segMap k j) a else m) m) m

/-- Engine a gets the SEGk registers of engine e. -/
def Mach.copySegs (m : Mach) (e a : Nat) : Mach := foldM allTasks (fun k m => m.rset (R.ENG_SEG a k).addr (m.rget (R.ENG_SEG e k).addr)) m

/-- A load of the task table leaves the segments of retired engines where they have been moved to (R428). Log 43 (DEDUCED). -/
def Mach.remapRetired (m : Mach) : Mach :=
  foldM ((List.range 16).filter (fun e => m.standIn e != e && m.fld (R.ENG_CFG_ROLE (m.standIn e)) == 1)) (fun e m =>
    (m.copySegs e (m.standIn e)).remap allTasks e (m.standIn e)) m

/-- Write an engine's banks, preset area and the size of that from the reference copy of the package (R251, R428), as the content of engine e. -/
def Mach.fromReference (m : Mach) (a e : Nat) : Mach :=
  let p := m.upd.pkg
  (m.setEng a { m.eng a with bank0 := codeBank p e, bank1 := codeBank p e, preset := presetArea p e }).setFld (R.ENG_CFG_PRESET a) (presetKib p e)

/-- The code bank check rewrites the active bank of an engine no segment runs on, from the reference copy (R251, R421). -/
def Mach.rewriteBank (m : Mach) (e : Nat) : Mach :=
  let c := codeBank m.upd.pkg (m.standsFor e)
  if (m.eng e).act.isSome then m
  else if m.fld (R.ENG_CFG_BANK e) = 0 then m.setEng e { m.eng e with bank0 := c } else m.setEng e { m.eng e with bank1 := c }

/-- R428: retire an engine. Its content goes to the audit engine, which takes its segments when no scan of theirs is in flight;
without an audit engine in service it is FATAL. Log 78 (DEDUCED). -/
def Mach.retireEngine (m : Mach) (e : Nat) : Mach :=
  let isAud := m.audOn && m.fld R.DIAG_AUD_ENG == e
  let m := (m.holdOut e).setFld (R.ENG_CFG_ROLE e) 3
  let m := m.setEng e { m.eng e with retired := true }
  let m := (m.setFld R.DIAG_SPARE_RETIRED (m.fld R.DIAG_SPARE_RETIRED ||| 2 ^ e)).raise 0x31D6 e 2
  if isAud then m.auditEnd.stat 4251 false
  else if m.audOn then
    let a := m.fld R.DIAG_AUD_ENG
    let m := ((m.auditEnd.fromReference a e).copySegs e a).setFld (R.ENG_CFG_BANK a) (m.fld (R.ENG_CFG_BANK e))
    { m with sup := { m.sup with moving := some (e, a, m.now) }, olcEnd := some 0x0C }
  else m.raise 0x31E4 e 3

end Sys2Proof.Machine
end

