-- ==== Sys2Proof/Machine/OlcOps.lean ====
section
/-!
DEFINITION. Online change (R233–R260): whether a staged package qualifies, what it affects, its load steps, the swap window with the
map phase and the swap commit, and abandonment.
-/
namespace Sys2Proof.Machine
open Sys2Proof

/-! ### States and results (R236, R255) -/

def olcIdle : Nat := 0
def olcLoad : Nat := 1
def olcReady : Nat := 2
def olcArmed : Nat := 3
def olcWindow : Nat := 4

/-- IMG.OLCSTAT.STATE. -/
def Mach.olcState (m : Mach) : Nat := m.fld R.IMG_OLCSTAT_STATE
def Mach.setOlc (m : Mach) (s : Nat) : Mach := m.setFld R.IMG_OLCSTAT_STATE s

/-- Is engine e, or task k, affected? -/
def Mach.olcEng (m : Mach) (e : Nat) : Bool := (m.fld R.IMG_OLCENG_AFFECTED).testBit e
def Mach.olcTask (m : Mach) (k : Nat) : Bool := (m.fld R.IMG_OLCTSK).testBit k
def Mach.olcTasks (m : Mach) : List Nat := allTasks.filter m.olcTask
def Mach.olcEngs (m : Mach) : List Nat := (List.range 16).filter m.olcEng

/-! ### Does the staged package qualify (R234, R238, R239, R245)? -/

/-- Items of a section as addresses and values. Log 39 (DEDUCED). -/
def itemPairs (p : List Byte) (ty : Nat) : List (Nat × Nat) := ((pkgItems p).filter (fun i => i.ty == ty)).map (fun i => (i.addr, i.val))

/-- Items that an online change may not alter: those outside the task table, the input filters, stamp modes and chatter profiles. Log 39 (DEDUCED). -/
def fixedItems (p : List Byte) : List (Nat × Nat) :=
  ((pkgItems p).filter (fun i => i.ty != 1 && !(i.ty == 9 && i.addr != 0x90000))).map (fun i => (i.addr, i.val))

/-- The substitutes of station inputs, which are station parameters. -/
def pkgSubstitutes (p : List Byte) : List Nat := (List.range 4352).map (fun i => pkgSelect p i / 16 % 4)

/-- Does a package differ from the running one in a start-only item (R234)? -/
def startOnly (old new : List Byte) : Bool :=
  [8, 11, 12, 13, 14, 18].any (fun t => pkgBody old t != pkgBody new t) || fixedItems old != fixedItems new ||
    pkgSubstitutes old != pkgSubstitutes new || (pkgBody old 16).take 4 != (pkgBody new 16).take 4

/-- Does a package alter or remove a decode entry that is valid in the running one (R176)? -/
def decodeAltered (old new : List Byte) : Bool :=
  (List.range 16).any (fun n =>
    let a := sliceAt (pkgBody old 4) (160 * n) 160
    (byteAt a 0).testBit 7 && a != sliceAt (pkgBody new 4) (160 * n) 160)

/-- An entry of the cell-correspondence map (R238). -/
structure MapEntry where
  sp : Nat
  op : Nat
  opt : Nat
  old : Nat
  new : Nat
  count : Nat
  deriving DecidableEq, Repr

def mapEntries (p : List Byte) : List MapEntry :=
  let b := pkgBody p 17
  (List.range ((b.length - 64) / 16)).map (fun i =>
    let o := 64 + 16 * i
    ⟨byteAt b o, byteAt b (o + 1), byteAt b (o + 2), fieldAt b (o + 4) 4, fieldAt b (o + 8) 4, fieldAt b (o + 12) 4⟩)

/-- M in nanoseconds: the estimate of the map phase (R245). Log 87 (DESIGN CHOICE). -/
def mapEstimate (p : List Byte) : Nat := fieldAt (pkgBody p 17) 32 4 * 10

/-- Elements of a space, W without the GOOSE members. -/
def spaceLen (sp : Nat) : Nat :=
  if sp = spM then 65536 else if sp = spW then 258048 else if sp = spT then 8192 else if sp = spC then 4096 else if sp = spE then 16384 else 0

/-- Is an entry valid in itself (R239)? -/
def MapEntry.ok (x : MapEntry) (chains : List (Nat × Nat)) : Bool :=
  let src := x.op != 1
  let dst := x.op != 2
  decide (x.op ≤ 2 ∧ 1 ≤ x.count ∧ x.count ≤ 65536) && decide (2 ≤ x.sp ∧ x.sp ≤ 6) &&
    (!src || decide (x.old + x.count ≤ spaceLen x.sp)) && (!dst || decide (x.new + x.count ≤ spaceLen x.sp)) &&
    (x.sp != spM || (x.count % 32 == 0 && (!src || x.old % 32 == 0) && (!dst || x.new % 32 == 0))) &&
    (x.op != 0 || x.sp != spC || chains.all (fun c =>
      decide (c.1 + c.2 ≤ x.old ∨ x.old + x.count ≤ c.1) ||
        (decide (x.old ≤ c.1 ∧ c.1 + c.2 ≤ x.old + x.count) && (x.new + (c.1 - x.old)) % 4 == 0)))

/-- Do two spans of a space meet? -/
def spansMeet (a n b k : Nat) : Bool := decide (a < b + k ∧ b < a + n)

/-- Does an entry clash with another: one target twice, or a FREE range over a target? -/
def MapEntry.clash (x y : MapEntry) : Bool :=
  x.sp == y.sp && ((x.op != 2 && y.op != 2 && spansMeet x.new x.count y.new y.count) ||
    (x.op == 2 && y.op != 2 && spansMeet x.old x.count y.new y.count) || (x.op != 2 && y.op == 2 && spansMeet x.new x.count y.old y.count))

/-- Does an entry of a list clash with a later one? -/
def anyClash : List MapEntry → Bool
  | [] => false
  | x :: xs => xs.any x.clash || anyClash xs

/-- Is the map valid (R239)? -/
def mapValid (old new : List Byte) : Bool :=
  let es := mapEntries new
  decide (es.length ≤ 16384) && es.all (fun x => x.ok (pkgChains old)) && !anyClash es

/-! ### What is affected (R235) -/

/-- Engines whose code or preset area changes. -/
def engChanged (old new : List Byte) (e : Nat) : Bool :=
  codeBank old e != codeBank new e || presetArea old e != presetArea new e || presetKib old e != presetKib new e

/-- The items of task k's entry: its TSK registers and its segment entries. -/
def taskEntry (p : List Byte) (k : Nat) : List (Nat × Nat) :=
  (itemPairs p 1).filter (fun x => decide (0x70000 + 0x80 * k ≤ x.1 ∧ x.1 < 0x70080 + 0x80 * k) ||
    (decide (0x60000 ≤ x.1 ∧ x.1 < 0x70000) && x.1 % 0x1000 == 0x40 + 4 * k))

/-- The engines of a task's entry. -/
def entryEngines (p : List Byte) (k : Nat) : List Nat :=
  let is := pkgItems p
  if hasEntry is k then (List.range (taskVal is k 0x14 0 % 16)).map (fun j => taskVal is k 0x10 0 / 16 ^ j % 16) else []

/-- Affected tasks. -/
def taskChanged (old new : List Byte) (k : Nat) : Bool :=
  taskEntry old k != taskEntry new k || (entryEngines old k ++ entryEngines new k).any (engChanged old new)

/-- A mask of the numbers below n that meet a test. -/
def maskOf (n : Nat) (f : Nat → Bool) : Nat := ((List.range n).filter f).foldl (fun w i => w + 2 ^ i) 0

/-- L in nanoseconds: the longest period of the affected tasks with an entry in the running package (R245). -/
def Mach.olcLength (m : Mach) (ks : List Nat) : Nat :=
  match ks.filter m.taskOn with
  | [] => 10000000
  | xs => (xs.map m.periodNs).foldl max 0

/-- The code of a refusal of a load, or none (R236, R255). Log 39 (DEDUCED). -/
def Mach.olcCheck (m : Mach) : Option Nat :=
  if m.st != .run then some 0x0A
  else match m.upd.staged with
    | none => some 0x01
    | some p =>
      let old := m.upd.pkg
      if startOnly old p then some 0x02
      else if decodeAltered old p then some 0x03
      else if sliceAt (pkgBody p 17) 0 32 != pkgDigest old then some 0x05
      else if !mapValid old p then some 0x04
      else if m.olcLength (allTasks.filter (taskChanged old p)) < 2 * mapEstimate p then some 0x0D
      else none

/-! ### Loading (R236, R237) -/

/-- A load request that passes its checks: what is affected, and the steps: one for each affected engine and one for the tables. -/
def Mach.olcBegin (m : Mach) (p : List Byte) : Mach :=
  let old := m.upd.pkg
  let ks := allTasks.filter (taskChanged old p)
  let es := (List.range 16).filter (engChanged old p)
  let m := { m with olc := { pkg := p, len := m.olcLength ks, est := mapEstimate p } }
  let m := (m.setFld R.IMG_OLCENG_AFFECTED (maskOf 16 (fun e => es.contains e))).setFld R.IMG_OLCENG_LOADED 0
  let m := (m.setFld R.IMG_OLCTSK (maskOf 32 (fun k => ks.contains k))).setFld R.IMG_OLCPROG_DONE 0
  ((m.setFld R.IMG_OLCPROG_TOTAL (es.length + 1)).setFlag R.IMG_OLCSTAT_PAIR m.paired).setOlc olcLoad

/-- The digests a READY report names: of the staged package and of its map (R258). Log 41 (DESIGN CHOICE). -/
def olcDigests (p : List Byte) : List Byte := pkgDigest p ++ sha256 (pkgBody p 17)

/-- Report READY to the partner. Log 41 (DESIGN CHOICE). -/
def Mach.olcReport (m : Mach) : Mach :=
  if m.olcState = olcReady then m.linkSend 0x30 (leBytes 1 1 ++ olcDigests m.olc.pkg) else m

/-- Write the words of a code bank of an engine into its idle bank. -/
def Mach.loadIdle (m : Mach) (e : Nat) (code : SMap Word) : Mach :=
  if m.fld (R.ENG_CFG_BANK e) = 0 then m.setEng e { m.eng e with bank1 := code } else m.setEng e { m.eng e with bank0 := code }

/-- One load step (R236): an engine's idle bank and preset image, or last the tables. -/
def Mach.olcStep (m : Mach) : Mach :=
  if m.olcState = olcLoad then
    let m := m.addFld R.IMG_OLCPROG_DONE 1
    match m.olcEngs.find? (fun e => !(m.fld R.IMG_OLCENG_LOADED).testBit e) with
    | some e =>
      let m := (m.loadIdle (m.standIn e) (codeBank m.olc.pkg e)).setFld R.IMG_OLCENG_LOADED (m.fld R.IMG_OLCENG_LOADED + 2 ^ e)
      { m with olc := { m.olc with eng := m.olc.eng ++ [(e, presetArea m.olc.pkg e)] } }
    | none => (m.setOlc olcReady).olcReport
  else m

/-- Discard a loaded change (R236). -/
def Mach.olcDiscard (m : Mach) (code : Nat) : Mach :=
  (((({ m with olc := {}, olcOpen := false }).setFld R.IMG_OLCSTAT_RESULT code).setOlc olcIdle).setFld R.IMG_OLCENG 0).stat 4254 false

/-! ### The window (R246–R249) -/

/-- The code of a refusal of a swap, or none (R236, R258). -/
def Mach.swapCheck (m : Mach) : Option Nat :=
  if m.st != .run || decide (2 ≤ m.role) then some 0x0A
  else if m.isLead && !(m.pair.olc == 1 && m.pair.olcDigs == olcDigests m.olc.pkg) then some 0x09
  else none

/-- Arm the change with its drain start (R246). Log 41 (DESIGN CHOICE). -/
def Mach.olcArm (m : Mach) (drain : Nat) : Mach := ((m.setFld64 R.IMG_OLCDRN_LO drain).setOlc olcArmed).stat 4254 true

/-- An accepted swap request: the first whole millisecond at least 10 ms later. -/
def Mach.olcSwap (m : Mach) : Mach :=
  let d := roundUp (m.now + 10000000) 1000000
  (m.olcArm d).linkSend 0x30 (leBytes 1 2 ++ leBytes 8 d)

/-- The drain start (R247, R253). A follower drains the scans its lead drains, and keeps their snapshots (R258). -/
def Mach.drainStart (m : Mach) : Mach :=
  if m.olcState = olcArmed ∧ m.fld64 R.IMG_OLCDRN_LO ≤ m.now then
    let m := { m with olcOpen := true, olc := { m.olc with skipped := [], mapped := false, leadDone := false, saved := none } }
    let m := m.setOlc olcWindow
    foldM m.olcTasks (fun k m =>
      let m := if m.following then m else m.setTask k { m.task k with snap := none }
      if m.taskOn k then m.slotOff (m.fld (R.TSK_CFG_WDSLOT k)) else m) m
  else m

/-- A boundary of an affected task inside the window (R248). -/
def Mach.windowSkip (m : Mach) (k b : Nat) : Mach :=
  if m.olc.skipped.contains k then m
  else (({ m with olc := { m.olc with skipped := m.olc.skipped ++ [k] } }).satFld (R.TSK_SKIPS k) 1).taskEvent k 0x45 b

/-- Has the follower applied every commit of an affected task that the lead made before it had drained (R258)? -/
def Mach.ledDrained (m : Mach) : Bool :=
  m.olc.leadDone && !m.pair.commits.any (fun c => m.olcTask c.task) && !m.cu.app.any (fun a => m.olcTask a.task)

/-- Has every affected task drained (R247)? A follower has when its lead has and it has applied what the lead committed. -/
def Mach.drained (m : Mach) : Bool :=
  if m.following then m.ledDrained else m.olcTasks.all (fun k => (m.task k).run.isNone && (m.task k).held.isNone)

/-- The content an entry of the map gives one element (R240, R243): its key and value. -/
def MapEntry.cells (x : MapEntry) (pre init : SMap CellV) : List (Nat × CellV) :=
  (List.range x.count).flatMap (fun i =>
    let o := ikey x.sp (x.old + i)
    let n := ikey x.sp (x.new + i)
    let po := ikey spPrimed (x.old + i)
    let pn := ikey spPrimed (x.new + i)
    match x.op with
    | 0 => (n, sget 0 pre o) :: (if x.sp = spE then [(pn, sget 0 pre po)] else [])
    | 1 => (n, if x.sp = spE ∨ x.sp = spC then 0 else sget 0 init n) :: (if x.sp = spE then [(pn, if x.opt = 0 then 1 else 0)] else [])
    | _ => (o, 0) :: (if x.sp = spE then [(po, 0)] else []))

/-- R241: a used T cell of the new package. Log 40 (DEDUCED). -/
def retimeCell (d c : TCell) : TCell :=
  if c.kind = d.kind then { c with preset := d.preset, flags := c.flags / 2 * 2 + d.flags % 2, owner := d.owner } else d

/-- Every element the map phase writes, with its new content. -/
def mapWrites (p : List Byte) (pre : SMap CellV) : List (Nat × CellV) :=
  let init := pkgImage p
  let es := mapEntries p
  let w := (es.filter (fun x => x.op == 2) ++ es.filter (fun x => x.op != 2)).flatMap (fun x => x.cells pre init)
  let img := w.foldl (fun s e => sset 0 s e.1 e.2) pre
  let ts := (init.filter (fun e => keySp e.1 == spT)).map (fun e => (e.1, (retimeCell (TCell.ofV e.2) (TCell.ofV (sget 0 img e.1))).toV))
  w ++ ts

/-- Write an engine's preset area. -/
def Mach.putPreset (m : Mach) (e : Nat) (b : SMap Byte) (kib : Nat) : Mach := (m.setEng e { m.eng e with preset := b }).setFld (R.ENG_CFG_PRESET e) kib

/-- The new preset areas of the affected engines. -/
def Mach.newPresets (m : Mach) : Mach := foldM m.olc.eng (fun x m => m.putPreset (m.standIn x.1) x.2 (presetKib m.olc.pkg x.1)) m

/-- The map phase (R249): preset areas and elements, with what they held before. Log 40 (DEDUCED). -/
def Mach.mapPhase (m : Mach) : Mach :=
  let ws := mapWrites m.olc.pkg m.img
  let o : Overwritten :=
    { img := ((ws.map (·.1)).eraseDups).map (fun k => (k, sget 0 m.img k)),
      presets := (m.olcEngs.map m.standIn).map (fun e => (e, (m.eng e).preset, m.fld (R.ENG_CFG_PRESET e))) }
  let m := { m with olc := { m.olc with saved := some o, mapped := true }, img := ws.foldl (fun s (e : Nat × CellV) => sset 0 s e.1 e.2) m.img }
  m.newPresets

/-- DRAIN_COMPLETE: the drain is complete, and the map phase runs. A follower releases the snapshots its lead has released; each module of a
pair tells the other (R258, R259). -/
def Mach.drainComplete (m : Mach) : Mach :=
  if m.olcState = olcWindow ∧ m.drained ∧ !m.olc.mapped then
    let m := if m.following then foldM m.olcTasks (fun k m => m.dropForwarded k) m else m
    let m := m.mapPhase
    if m.isFollow ∨ (m.isLead ∧ m.pair.ptnFollow) then m.linkSend 0x30 (leBytes 1 3) else m
  else m

/-! ### The swap commit (R250–R253) -/

/-- Switch engines, tables and the event unit to the package of the change. Log 43 (DEDUCED). -/
def Mach.swapTables (m : Mach) : Mach :=
  let p := m.olc.pkg
  let is := pkgItems p
  let old := m.ret.layout
  let m := foldM (m.olcEngs.map m.standIn) (fun e m => m.setFld (R.ENG_CFG_BANK e) (1 - m.fld (R.ENG_CFG_BANK e))) m
  let on := m.tasksOn
  let m := ((m.loadTasks is).loadRows pkgRowsEvu is).remapRetired
  let m := foldM (m.tasksOn.filter (fun k => !on.contains k)) (fun k m => m.setFld (R.TSK_BUDGET_RSTLEFT k) (m.fld (R.TSK_BUDGET_RSTBUD k))) m
  let m := { m with decode := ssets 0 [] 0 (pkgBody p 4), ev := { m.ev with slist := pkgList p },
                    upd := { m.upd with pkg := p, chains := pkgChains p } }
  let m := (((m.loadChatter p).wakeMasks.loadRetained p).loadDisplay p).showPkg p
  let m := if m.ret.layout = old then m else { m with ret := { m.ret with dirty := m.retChunks } }
  m.eventQuads

/-- R242: every cell left in a timing state is registered. -/
def Mach.registerAll (m : Mach) : Mach := ({ m with exp := [] }).register m.img

/-- R253: the slots of the affected tasks start a full new period. -/
def Mach.restartSlots (m : Mach) : Mach :=
  if m.st == .run then foldM (m.olcTasks.filter m.taskOn) (fun k m => m.slotOn (m.fld (R.TSK_CFG_WDSLOT k)) (m.fld (R.TSK_WDPER k))) m else m

/-- The window closes (IMG.OLCWIN, I:4254). -/
def Mach.closeWindow (m : Mach) : Mach :=
  (({ m with olcOpen := false }).setFld R.IMG_OLCWIN (min ((m.now - m.fld64 R.IMG_OLCDRN_LO) / 10) (2 ^ 32 - 1))).stat 4254 false

/-- R252: resume scans of the affected tasks; a module on the lead's snapshots fixes none. -/
def Mach.resumeAffected (m : Mach) : Mach :=
  if m.st == .run && m.hasToken then foldM (m.olcTasks.filter m.taskOn) (fun k m => m.resumeScan k m.now) m else m

/-- The digest of the swap commit (R250). -/
def swapDigest (p : List Byte) : BitVec 64 := crc64 (pkgDigest p)

/-- The swap commit at a CSN (R250): banks, tables, registrations, records, and the key activation that follows (R256). -/
def Mach.swapAt (m : Mach) (csn : Nat) : Mach :=
  let ks := m.olcTasks
  let m := (m.setFld64 R.IMG_CSN_LO csn).swapTables.registerAll
  let m := foldM (ks.filter (fun k => !m.taskOn k)) (fun k m => m.setTask k {}) m
  let m := (m.setFld64 R.IMG_OLCCSN_LO csn).setFld64 R.IMG_OLCSWT_LO m.now
  let m := (m.satFld R.IMG_OLCCNT_SWAPS 1).setFld R.IMG_OLCSTAT_RESULT 0
  let m := ((m.setFlag R.IMG_OLCSTAT_KEYPEND true).closeWindow.setOlc olcIdle).restartSlots
  let slot := 1 - m.fld R.UPD_KEYSTAT_RUNSLOT
  let m := (m.setFld R.UPD_KEYSTAT_RUNSLOT slot).setFlag R.UPD_KEYSTAT_ACTPEND (m.fld R.UPD_KEYSTAT_ACTIVE != slot)
  let m := { m.resumeAffected with upd := { m.upd with actPend := some slot, staged := none }, olc := {}, pair := { m.pair with olc := 0 } }
  m.hello

/-- The commit a swap is forwarded as. -/
def Mach.swapApp (m : Mach) (csn : Nat) : App :=
  { task := 0, scan := 0, csn := csn, prev := m.csn, snapTime := m.now, startAt := m.now, doneAt := m.now, entries := [], qchg := [],
    digest := swapDigest m.olc.pkg, victims := [], deferred := [], anchored := false, snapNo := 0 }

/-- SWAP_COMMIT: as soon as the unit is free and, in a synchronised pair, the partner has drained and mapped (R250, R259). -/
def Mach.swapCommit (m : Mach) : Mach :=
  if m.olcState = olcWindow ∧ m.swapReady ∧ m.hasToken ∧ m.st = .run ∧ m.cu.app.isNone ∧ m.cu.nextStart ≤ m.now then
    let csn := csnNext m.csn
    let a := m.swapApp csn
    let m := { m with cu := { m.cu with nextStart := m.now + 1000 } }
    (m.forwardCommit a true).swapAt csn
  else m

/-! ### Abandonment (R254) -/

/-- Put back what the map phase has written. -/
def Mach.unmap (m : Mach) : Mach :=
  match m.olc.saved with
  | none => m
  | some o =>
    let m := { m with img := o.img.foldl (fun s e => sset 0 s e.1 e.2) m.img, olc := { m.olc with saved := none, mapped := false } }
    foldM o.presets (fun x m => m.putPreset x.1 x.2.1 x.2.2) m

/-- Abandon the window with a code: back to READY on the old code. Log 42 (DEDUCED). -/
def Mach.windowAbandon (m : Mach) (code : Nat) : Mach :=
  let m := m.unmap
  let m := (m.setFld R.IMG_OLCSTAT_RESULT code).setFlag R.IMG_OLCSTAT_ABANDONED true
  let m := ((m.satFld R.IMG_OLCCNT_ABANDONS 1).closeWindow.setOlc olcReady).note 0x3706
  m.restartSlots.resumeAffected

/-- What an end with a code does in the state the change is in (R236, R254, R255): a window is abandoned; leaving RUN, a new staging or cancel and a
sparing discard the change too. Otherwise a loaded or armed change is discarded, but for a failed agreement, from which an armed one goes back to READY.
Log 42 (DEDUCED). Log 42 (DEDUCED). -/
def Mach.olcAbandon (m : Mach) (code : Nat) : Mach :=
  let s := m.olcState
  if s = olcIdle then m
  else if s = olcWindow then
    let m := m.windowAbandon code
    if m.st != .run || code == 0x0B || code == 0x0C then m.olcDiscard code else m
  else if code ≠ 0x09 then (m.olcDiscard code).note 0x3706
  else if s = olcArmed then ((m.setFld R.IMG_OLCSTAT_RESULT code).setOlc olcReady).stat 4254 false
  else m

/-- Tell the partner that the change has ended here (R258, R260); the lead forgets what its partner has reported. -/
def Mach.olcTell (m : Mach) (code : Nat) : Mach :=
  let m := if olcReady ≤ m.olcState ∧ (m.isFollow ∨ (m.isLead ∧ m.pair.ptnFollow)) then m.linkSend 0x30 (leBytes 1 4 ++ leBytes 1 code) else m
  if olcArmed ≤ m.olcState then { m with pair := { m.pair with olc := 0 } } else m

/-- An end of the change for a reason of this module. -/
def Mach.olcStop (m : Mach) (code : Nat) : Mach := ((m.olcTell code).olcAbandon code).olcReport

/-- The end a command has asked for. A failed agreement is no news to the partner. Log 42 (DEDUCED). -/
def Mach.olcSettle (m : Mach) : Mach :=
  match m.olcEnd with
  | none => m
  | some code =>
    let m := { m with olcEnd := none }
    if code = 0x09 then m.olcAbandon code else m.olcStop code

/-- OLC_ABANDON: the drain is not complete at drain start + L − M (R254), or the partner's not by the end of the window, drain start + L (R245).
Log 42 (DEDUCED). Log 42 (DEDUCED). -/
def Mach.drainLate (m : Mach) : Mach :=
  let d := m.fld64 R.IMG_OLCDRN_LO
  if m.olcState ≠ olcWindow then m
  else if !m.olc.mapped then (if d + m.olc.len - m.olc.est ≤ m.now then m.olcStop 0x07 else m)
  else if m.hasToken ∧ !m.swapReady ∧ d + m.olc.len ≤ m.now then m.olcStop 0x09
  else m

/-! ### The pair (R258–R260) -/

/-- An OLC frame: 1 READY with both digests, 2 a drain start, 3 drained and mapped, 4 ended. Log 41 (DESIGN CHOICE). -/
def Mach.olcFrame (m : Mach) (d : List Byte) : Mach :=
  match byteAt d 0 with
  | 1 => { m with pair := { m.pair with olc := 1, olcDigs := sliceAt d 1 64 } }
  | 2 => if m.isFollow ∧ m.olcState = olcReady then m.olcArm (fieldAt d 1 8) else m
  | 3 => if m.following then { m with olc := { m.olc with leadDone := true } } else { m with pair := { m.pair with olc := 3 } }
  | 4 =>
    let m := { m with pair := { m.pair with olc := 0 } }
    if m.isFollow then (m.olcAbandon 0x09).olcReport else m.olcAbandon 0x09
  | _ => m

/-- R260: the lead runs a package equal to the own READY staged package. Log 42 (DEDUCED). -/
def Mach.swapAlone (m : Mach) : Mach := if m.olcState = olcReady then m.newPresets.swapAt m.csn else m

end Sys2Proof.Machine
end

