-- ==== Sys2Proof/Machine/KeyOps.lean ====
section
/-!
DEFINITION. The configuration key's header ring and journal (R472–R474), activations (R256, R483), and the handles of long operations with
what follows at once for those the module drives (R549–R553).
-/
namespace Sys2Proof.Machine
open Sys2Proof

/-! ### The header (R472, R473, R493) -/

/-- UPD.SERIAL0–3 as 16 bytes. -/
def Mach.serialBytes (m : Mach) : List Byte := (List.range 4).flatMap (fun n => leBytes 4 (m.rget (R.UPD_SERIAL n).addr).toNat)

/-- The header of a blank key (R473). -/
def blankHdr : KeyHdr :=
  { hseq := 0, active := 0xFF, sta := 0, stb := 0, lena := 0, lenb := 0, diga := List.replicate 32 0, digb := List.replicate 32 0,
    time := 0, serial := [] }

/-- The current header record, or a blank one. -/
def Mach.keyHdr (m : Mach) : KeyHdr := (m.upd.key.hdr).getD blankHdr

/-- ACTIVE as UPD.KEYSTAT shows it: 0 A, 1 B, 3 none. -/
def hdrActive (h : KeyHdr) : Nat := if h.active = 0 then 0 else if h.active = 1 then 1 else 3

/-- The state, length, digest and content of a slot. -/
def KeyHdr.slotState (h : KeyHdr) (s : Nat) : Nat := if s = 0 then h.sta else h.stb
def KeyHdr.slotLen (h : KeyHdr) (s : Nat) : Nat := if s = 0 then h.lena else h.lenb
def KeyHdr.slotDig (h : KeyHdr) (s : Nat) : List Byte := if s = 0 then h.diga else h.digb
def Mach.slotBytes (m : Mach) (s n : Nat) : List Byte :=
  (List.range n).map (fun i => sget 0xFF (if s = 0 then m.upd.key.slotA else m.upd.key.slotB) i)

/-- A header with one slot's state, length and digest. -/
def KeyHdr.setSlot (h : KeyHdr) (s st len : Nat) (dig : List Byte) : KeyHdr :=
  if s = 0 then { h with sta := st, lena := len, diga := dig } else { h with stb := st, lenb := len, digb := dig }

/-- UPD.KEYSTAT and UPD.HSEQ as the current header has them. -/
def Mach.showKey (m : Mach) : Mach :=
  let h := m.keyHdr
  let m := ((m.setFld R.UPD_KEYSTAT_ACTIVE (hdrActive h)).setFld R.UPD_KEYSTAT_STATEA h.sta).setFld R.UPD_KEYSTAT_STATEB h.stb
  (m.setFlag R.UPD_KEYSTAT_ACTPEND (hdrActive h != m.fld R.UPD_KEYSTAT_RUNSLOT)).setFld R.UPD_HSEQ h.hseq

/-- Write a header record (R472): the next HSEQ, the time base and the own serial number. Of the ring of 16 sectors of 16 records, the
sector after the one written is erased (R473). Log 90 (DEDUCED). -/
def Mach.writeHdr (m : Mach) (f : KeyHdr → KeyHdr) : Mach :=
  let h := { f m.keyHdr with hseq := (m.keyHdr.hseq + 1) % 2 ^ 32, time := m.now, serial := m.serialBytes }
  let old := match m.upd.key.hdr with
    | some o => (o :: m.upd.key.old).take 240
    | none => []
  ({ m with upd := { m.upd with key := { m.upd.key with hdr := some h, old := old } } }).showKey

/-! ### The key journal (R474) -/

/-- Records of the 4 MiB ring, and of one of its 64 KiB blocks. Log 90 (DEDUCED). -/
def keyRing : Nat := 65536
def keyBlock : Nat := 1024

/-- Write a key journal record; a full ring gives up its oldest block first. The argument is 16 bytes of a digest and the code. -/
def Mach.keyLog (m : Mach) (ty slot : Nat) (dig : List Byte) (code : Nat) : Mach :=
  let r : KeyRec := { ty := ty, slot := slot, hseq := m.keyHdr.hseq, time := m.now, serial := m.serialBytes,
                      arg := sliceAt dig 0 16 ++ (leBytes 1 code ++ List.replicate 11 0) }
  let j := m.upd.key.jrn
  { m with upd := { m.upd with key := { m.upd.key with jrn := (if j.length < keyRing then j else j.drop keyBlock) ++ [r] } } }

/-- The digest of the slot that ACTIVE names. -/
def Mach.activeDig (m : Mach) : List Byte := if m.keyHdr.active ≤ 1 then m.keyHdr.slotDig m.keyHdr.active else []

/-- R474, R492: the START record of a module whose serial number differs from the last one's. Log 90 (DEDUCED). -/
def Mach.keyStart (m : Mach) : Mach :=
  match newestBy (fun _ => 0) (m.upd.key.jrn.filter (fun r => r.ty == 0x01)) with
  | some r => if r.serial = m.serialBytes then m else (m.keyLog 0x01 m.keyHdr.active m.activeDig 0).info 0x358A
  | none => m.keyLog 0x01 m.keyHdr.active m.activeDig 0

/-- An activation (R483): the header names the slot; journalled, with its key journal record. Log 90 (DEDUCED). -/
def Mach.activate (m : Mach) (slot : Nat) : Mach :=
  let m := m.writeHdr (fun h => { h with active := slot })
  (m.keyLog 0x04 slot (m.keyHdr.slotDig slot) 0).info 0x3584

/-- KEY_ACTIVATION_DONE (R256): the activation request has been written, or the key fails. Then KEYPEND stays, and a SAVE tries it once
more before its records. Log 90 (DEDUCED). -/
def Mach.activationDone (m : Mach) (ok : Bool) : Mach :=
  match m.upd.actPend with
  | none => m
  | some slot =>
    let m := if ok ∨ m.st = .save then { m with upd := { m.upd with actPend := none } } else m
    let m := if ok then (m.activate slot).setFlag R.IMG_OLCSTAT_KEYPEND false else m.setFlag R.UPD_KEYSTAT_PRESENT false
    m.resumeSave

/-! ### Handles (R551, R553) -/

/-- Operation codes (R550). -/
def opIdent : Nat := 0x0001
def opStatus : Nat := 0x0002
def opRegRead : Nat := 0x0003
def opRegWrite : Nat := 0x0004
def opImgRead : Nat := 0x0005
def opJournalRead : Nat := 0x0006
def opMode : Nat := 0x0007
def opRestart : Nat := 0x0008
def opYield : Nat := 0x0009
def opFaultClear : Nat := 0x000A
def opPkgDownload : Nat := 0x0010
def opPkgActivate : Nat := 0x0011
def opOlcLoad : Nat := 0x0012
def opOlcSwap : Nat := 0x0013
def opOlcCancel : Nat := 0x0014
def opParamStore : Nat := 0x0018
def opParamLoad : Nat := 0x0019
def opProtect : Nat := 0x001A
def opFwUpdate : Nat := 0x0020
def opFwCommit : Nat := 0x0021
def opFwStatus : Nat := 0x0022
def opPbufRead : Nat := 0x0030
def opStep : Nat := 0x0040
def opProgress : Nat := 0x0041
def opAbort : Nat := 0x0042

def Mach.handle (m : Mach) (no : Nat) : Option Handle := m.svc.handles.find? (fun h => h.no == no)
def Mach.setHandle (m : Mach) (x : Handle) : Mach :=
  { m with svc := { m.svc with handles := m.svc.handles.map (fun (h : Handle) => if h.no = x.no then x else h) } }

/-- The open handle of an operation that is still running. Log 99 (DEDUCED). -/
def Mach.runningOp (m : Mach) (op : Nat) : Option Handle := m.svc.handles.find? (fun h => h.op == op && h.state == 0)

/-- A handle reaches its end (R553): 1 completed, 2 refused, 3 abandoned. -/
def Mach.handleEnd (m : Mach) (h : Handle) (state detail : Nat) : Mach :=
  m.setHandle { h with state := state, detail := detail, endAt := some m.now, lastData := [], prev := [], driven := false }

/-- The end of a handle with its journal entry (R557); the boot-ROM loader keeps no journal. -/
def Mach.handleDone (m : Mach) (h : Handle) (state detail : Nat) : Mach :=
  let m := m.handleEnd h state detail
  if !m.alive then m else if state = 1 then m.info 0x3705 else m.note 0x3706

/-- What follows for an online-change load (R236): READY completes it; its discard, which the change has journalled, ends it. -/
def Mach.olcHandle (m : Mach) : Mach :=
  match m.runningOp opOlcLoad with
  | none => m
  | some h =>
    let h := { h with done := m.fld R.IMG_OLCPROG_DONE, total := m.fld R.IMG_OLCPROG_TOTAL }
    if olcReady ≤ m.olcState then m.handleDone h 1 0
    else if m.olcState = olcIdle then m.handleEnd h 3 (m.fld R.IMG_OLCSTAT_RESULT)
    else m.setHandle h

/-- What follows for a parameter store (R460, R461, R463). -/
def Mach.parHandle (m : Mach) : Mach :=
  match m.runningOp opParamStore with
  | none => m
  | some h =>
    match m.ret.pstore with
    | some p => m.setHandle { h with done := 8 - p.sectors.length }
    | none => match m.fld R.RET_PSTAT_RESULT with
      | 0 => m.handleDone { h with done := h.total } 1 0
      | 7 => m.handleDone h 2 7
      | r => m.handleDone h 3 r

/-- The handles of the operations that run on their own. -/
def Mach.svcSettle (m : Mach) : Mach := m.olcHandle.parHandle

end Sys2Proof.Machine
end

