-- ==== Sys2Proof/Machine/LinkOps.lean ====
section
/-!
DEFINITION. The partner link as a lane and sequence layer (R266–R271): which frames are well formed, lanes going down and up, gaps,
and the state transfer's items as bytes (R288).
-/
namespace Sys2Proof.Machine
open Sys2Proof

/-! ### Frames (R267, R268, R271) -/

/-- The shortest payload of a frame type, or none for an unknown type. -/
def linkMin (ty : Nat) (payload : List Byte) : Option Nat :=
  match ty with
  | 0x01 => some 92
  | 0x02 => some 16
  | 0x03 => some 12
  | 0x04 => some 8
  | 0x05 => some 4
  | 0x06 => some 8
  | 0x07 => some 12
  | 0x08 => some (if byteAt payload 0 = 2 then 24 else 16)
  | 0x10 => some 16
  | 0x11 => some 36
  | 0x12 => some 30
  | 0x13 => some 8
  | 0x14 => some 8
  | 0x15 => some 8
  | 0x20 => some 4
  | 0x21 => some 6
  | 0x22 => some 8
  | 0x30 => some 1
  | 0x7F => some 0
  | _ => none

/-- Is a frame malformed (R271)? Log 51 (DESIGN CHOICE). -/
def LinkFrame.bad (f : LinkFrame) : Bool :=
  match linkMin f.ty f.payload with
  | none => true
  | some n => decide (128 < f.payload.length ∨ f.payload.length < n)

/-- Does a frame carry the token bit of its sender? -/
def LinkFrame.token (f : LinkFrame) : Bool := f.flags.testBit 1

/-- NOTE 0x3214, at most once per second (R271). -/
def Mach.linkViol (m : Mach) : Mach :=
  let due := match m.pair.lastViol with
    | some t => decide (t + 1000000000 ≤ m.now)
    | none => true
  if due then ({ m with pair := { m.pair with lastViol := some m.now } }).note 0x3214 else m

/-! ### Lanes (R269, R281) -/

def linkLane {α : Type} (x : α × α) (l : Nat) : α := if l = 0 then x.1 else x.2
def setLinkLane {α : Type} (x : α × α) (l : Nat) (v : α) : α × α := if l = 0 then (v, x.2) else (x.1, v)

/-- A valid frame arrives on a lane. -/
def Mach.laneHeard (m : Mach) (l : Nat) : Mach :=
  let m := m.addFld (R.PRT_LANE_RXFRM l) 1
  { m with pair := { m.pair with laneAt := setLinkLane m.pair.laneAt l m.now,
                                 laneRun := setLinkLane m.pair.laneRun l (min (linkLane m.pair.laneRun l + 1) 1000) } }

/-- Show a lane's state in PRT.LANEl.STAT, PRT.STAT and I:4228 + l. -/
def Mach.setLaneUp (m : Mach) (l : Nat) (up : Bool) : Mach :=
  ((m.setFlag (R.PRT_LANE_STAT_UP l) up).setFlag ⟨R.PRT_STAT.addr, 4 + l, 1⟩ up).stat (4228 + l) up

/-- LANE_DOWN: no valid frame for 50 µs. With both lanes down a LEAD waits for no agreement, and the next HELLO starts a new sequence. -/
def Mach.laneDown (m : Mach) (l : Nat) : Mach :=
  if m.linkOn ∧ m.laneUp l ∧ linkLane m.pair.laneAt l + 50000 ≤ m.now then
    let m := ((m.setLaneUp l false).satFld (R.PRT_LANE_STAT_DOWNS l) 1).raise (0x320A + l) 0 1
    let m := { m with pair := { m.pair with laneRun := setLinkLane m.pair.laneRun l 0 } }
    if m.lanesDown then
      let m := { m with pair := { m.pair with txReset := true } }
      if m.isLead && (m.pair.ptnFollow || m.pair.streaming) then m.partnerUnsync 12 else m
    else m
  else m

/-- LANE_UP: 1000 consecutive valid frames. -/
def Mach.laneBack (m : Mach) (l : Nat) : Mach :=
  if m.linkOn ∧ !m.laneUp l ∧ 1000 ≤ linkLane m.pair.laneRun l then
    ((m.setLaneUp l true).clear (0x320A + l) 0 1)
  else m

/-! ### State transfer as bytes (R288; the byte layout of the items is the model's own) -/

/-- Bytes of an item. -/
def xferSize : Nat → Nat
  | 0 => 18560
  | 1 => 8192
  | 2 => 1032192
  | 3 => 151552
  | 4 => 65536
  | 5 => 4096
  | 6 => 40960
  | 7 => 262144
  | 8 => 32
  | _ => 0

/-- KiB of all items (R288). -/
def xferTotal : Nat := 1547

/-- One byte of a number, least significant first. -/
def natByte (v j : Nat) : Byte := BitVec.ofNat 8 (v / 256 ^ j)

/-- A number with one of its bytes replaced. -/
def natPut (v j : Nat) (b : Byte) : Nat := v - v / 256 ^ j % 256 * 256 ^ j + b.toNat * 256 ^ j

/-- The cells of an item whose bytes are elements of the image: the key and the byte within it. Log 45 (DEDUCED). -/
def xferElt (item off : Nat) : Option (Nat × Nat) :=
  if item = 0 then (if off < 2176 then none else some (ikey spW (258048 + (off - 2176) / 4), (off - 2176) % 4))
  else if item = 2 then some (ikey spW (off / 4), off % 4)
  else if item = 3 then
    (if off < 131072 then some (ikey spT (off / 16), off % 16)
     else if off < 147456 then some (ikey spC ((off - 131072) / 4), (off - 131072) % 4) else none)
  else none

/-- Two points of I as one byte: value plus twice the quality in each half. -/
def Mach.ptNibble (m : Mach) (i : Nat) : Nat := (m.pt i).v.toNat + 2 * (m.pt i).q

/-- The accepted transitions within the windows of chatter blocking (R215), each as its point and the low 51 bits of its stamp. -/
def Mach.xferTrans (m : Mach) : List Nat := (m.pts.flatMap (fun e => e.2.trans.map (fun s => e.1 * 2 ^ 51 + s % 2 ^ 51))).take 567

/-- The latest instant up to now with the given low bits. -/
def Mach.recent (m : Mach) (bits n : Nat) : Nat := m.now - (m.now + 2 ^ bits - n % 2 ^ bits) % 2 ^ bits

/-- The event unit's item (6): 8 bytes per point (blocked, the quality written at the block, the instant of the last accepted transition), the
ESEQ of each station, and the GOOSE state numbers of the subscriptions and publications; the outputs in Q and the transitions follow. -/
def Mach.xferEvu (m : Mach) (off : Nat) : Byte :=
  if off < 34816 then
    let p := m.pt (off / 8)
    natByte (p.blocked.toNat + 2 * p.blkQ + p.lastAcc % 2 ^ 56 * 256) (off % 8)
  else if off < 34880 then
    let s := (off - 34816) / 2
    natByte (m.fld (R.BB_STA_ESEQ_LAST (s / 16) (s % 16))) (off % 2)
  else if off < 35904 then
    let b := (off - 34880) / 8
    natByte (m.fld (R.STA_GSUB_STNUM b) + m.fld (R.STA_GSUB_SQNUM b) * 2 ^ 32) (off % 8)
  else
    let b := (off - 35904) / 8
    natByte ((m.pubNums b).1 + (m.pubNums b).2 * 2 ^ 32) (off % 8)

/-- The last item (8): CSN, event sequence number, token epoch, renewal count, epoch of R23. -/
def Mach.xferLast (m : Mach) : List Byte :=
  leBytes 8 m.csn ++ (leBytes 4 (m.fld R.EVU_SEQ) ++ (leBytes 4 (m.fld R.PRT_EPOCH) ++ (leBytes 4 (m.fld R.PRT_RNWTX) ++
    (leBytes 4 0 ++ leBytes 8 m.epoch))))

/-- The newest 16384 entries of the journal ring as bytes. -/
def Mach.xferTail (m : Mach) : List Byte := (m.ev.ring.drop (m.ev.ring.length - 16384)).flatMap JEntry.bytes

/-- One byte of an item as the lead holds it. -/
def Mach.xferByte (m : Mach) (item off : Nat) : Byte :=
  match xferElt item off with
  | some (key, j) => natByte (sget 0 m.img key).toNat j
  | none =>
    match item with
    | 0 => BitVec.ofNat 8 (m.ptNibble (2 * off) + 16 * m.ptNibble (2 * off + 1))
    | 1 => BitVec.ofNat 8 (((List.range 8).map (fun j => (m.bit spM (8 * off + j)).toNat * 2 ^ j)).sum)
    | 3 => BitVec.ofNat 8 (((List.range 4).map (fun j =>
        ((m.bit spE (4 * (off - 147456) + j)).toNat + 2 * (m.bit spPrimed (4 * (off - 147456) + j)).toNat) * 4 ^ j)).sum)
    | 4 => natByte ((sget none m.exp (off / 8)).getD 0) (off % 8)
    | 5 => natByte (m.rget (0x70000 + off / 4 * 4)).toNat (off % 4)
    | 6 => if off < 36160 then m.xferEvu off
        else if 36424 ≤ off then natByte (m.xferTrans.getD ((off - 36424) / 8) 0) ((off - 36424) % 8)
        else BitVec.ofNat 8 (((List.range 8).map (fun j => (m.bit spQ (8 * (off - 36160) + j)).toNat * 2 ^ j)).sum)
    | 7 => m.xferTail.getD off 0
    | 8 => m.xferLast.getD off 0
    | _ => 0

/-- Write one byte of an item into a joining module: items 0 to 4 at once, the others when the transfer is complete. -/
def Mach.xferPut (m : Mach) (item off : Nat) (b : Byte) : Mach :=
  match xferElt item off with
  | some (key, j) => { m with img := sset 0 m.img key (BitVec.ofNat 128 (natPut (sget 0 m.img key).toNat j b)) }
  | none =>
    match item with
    | 0 =>
      let put (i n : Nat) (m : Mach) : Mach := m.setPt i { m.pt i with v := n.testBit 0, q := n / 2 % 4 }
      put (2 * off + 1) (b.toNat / 16) (put (2 * off) (b.toNat % 16) m)
    | 1 => foldM (List.range 8) (fun j m => m.setCell spM (8 * off + j) (if b.getLsbD j then 1 else 0)) m
    | 3 =>
      let i := 4 * (off - 147456)
      foldM (List.range 4) (fun j m => (m.setCell spE (i + j) (if b.getLsbD (2 * j) then 1 else 0)).setCell spPrimed (i + j)
        (if b.getLsbD (2 * j + 1) then 1 else 0)) m
    | 4 =>
      let v := natPut ((sget none m.exp (off / 8)).getD 0) (off % 8) b
      { m with exp := sset none m.exp (off / 8) (if v = 0 then none else some v) }
    | 6 =>
      if off < 36160 ∨ 36424 ≤ off then { m with pair := { m.pair with xferBuf := sset 0 m.pair.xferBuf (6 * 2 ^ 24 + off) b } }
      else foldM (List.range 8) (fun j m => m.setCell spQ (8 * (off - 36160) + j) (if b.getLsbD j then 1 else 0)) m
    | _ => { m with pair := { m.pair with xferBuf := sset 0 m.pair.xferBuf (item * 2 ^ 24 + off) b } }

/-- Where an element's bytes lie in the transfer: its item and its first offset. -/
def xferPlace (key : Nat) : Option (Nat × Nat) :=
  let i := keyIdx key
  let sp := keySp key
  if sp = spM then some (1, i / 8)
  else if sp = spW then (if i < 258048 then some (2, 4 * i) else some (0, 2176 + 4 * (i - 258048)))
  else if sp = spT then some (3, 16 * i)
  else if sp = spC then some (3, 131072 + 4 * i)
  else if sp = spE then some (3, 147456 + i / 4)
  else if sp = spQ then some (6, 36160 + i / 8)
  else none

/-- The buffered bytes of an item. Log 45 (DEDUCED). -/
def Mach.xferItemBytes (m : Mach) (item : Nat) : List Byte := sgets 0 m.pair.xferBuf (item * 2 ^ 24) (xferSize item)

/-- The items a joining module takes when the transfer is complete: task state, event unit state, journal tail and the numbers. -/
def Mach.xferApply (m : Mach) : Mach :=
  let task := m.xferItemBytes 5
  let evu := m.xferItemBytes 6
  let tail := m.xferItemBytes 7
  let last := m.xferItemBytes 8
  let m := foldM (List.range 1024) (fun i m => m.rset (0x70000 + 4 * i) (BitVec.ofNat 32 (fieldAt task (4 * i) 4))) m
  let trans := ((List.range 567).map (fun i => fieldAt evu (36424 + 8 * i) 8)).filter (fun n => n != 0)
  let m := foldM (List.range 4352) (fun i m =>
    m.setPt i { m.pt i with blocked := (byteAt evu (8 * i)).testBit 0, blkQ := byteAt evu (8 * i) / 2 % 4, lastAcc := m.recent 56 (fieldAt evu (8 * i + 1) 7),
                            trans := (trans.filter (fun n => n / 2 ^ 51 == i)).map (m.recent 51) }) m
  let m := foldM (List.range 64) (fun i m => m.showBlocked i) m
  let m := foldM (List.range 32) (fun s m => m.setFld (R.BB_STA_ESEQ_LAST (s / 16) (s % 16)) (fieldAt evu (34816 + 2 * s) 2)) m
  let m := foldM (List.range 128) (fun b m => (m.setFld (R.STA_GSUB_STNUM b) (fieldAt evu (34880 + 8 * b) 4)).setFld (R.STA_GSUB_SQNUM b)
    (fieldAt evu (34884 + 8 * b) 4)) m
  let gp := (List.range 32).map (fun b => fieldAt evu (35904 + 8 * b) 4)
  let seq := fieldAt last 8 4
  let es := ((List.range 16384).map (fun i => JEntry.ofBytes ((tail.drop (16 * i)).take 16))).filter (fun j => j.kind != 0)
  let later := m.ev.ring.filter (fun j => seqCovers j.seq seq)
  let m := { m with ev := { m.ev with ring := es ++ later }, epoch := fieldAt last 24 8,
                    pair := { m.pair with xferBuf := [], ptnGstn := ssets 0 [] 0 gp, rxCount := some (fieldAt last 16 4),
                                          lastSeq := (max seq 1 - 1) } }
  (((m.setFld64 R.IMG_CSN_LO (fieldAt last 0 8)).setFld R.EVU_SEQ seq).setFld R.PRT_EPOCH (fieldAt last 12 4)).setFld R.PRT_RNWRX (fieldAt last 16 4)

end Sys2Proof.Machine
end

