-- ==== Sys2Proof/Machine/PairOps.lean ====
section
/-!
DEFINITION. The redundant pair: the lease (R272–R276), what each link frame does (R268, R279–R290), following the lead's commits
(R282, R283, R289), state transfer (R288, R289), yield and takeover (R292, R293, R298), and joining (R286).
-/
namespace Sys2Proof.Machine
open Sys2Proof

/-! ### The lease (R272–R277) -/

/-- Is a renewal count later than the ones received before (R273)? -/
def countLater (a : Nat) (b : Option Nat) : Bool :=
  match b with
  | none => true
  | some c => let d := (a + 2 ^ 32 - c) % 2 ^ 32
    decide (1 ≤ d ∧ d ≤ 2 ^ 31 - 1)

/-- A renewal count received by either path renews the lease of a module without the token, when it is later (R273). -/
def Mach.renewSeen (m : Mach) (count : Nat) : Mach :=
  if !m.hasToken && countLater count m.pair.rxCount then
    let m := { m with pair := { m.pair with rxCount := some count, leaseAt := some (m.now + m.leaseNs) } }
    (m.setFld R.PRT_RNWRX count).setFld64 R.PRT_LEXP_LO (m.now + m.leaseNs)
  else m

/-- RENEWAL: every L / 3 the holder sends RENEW and heartbeats; driving resumes (R272, R275). Log 47 (DEDUCED). -/
def Mach.renewal (m : Mach) : Mach :=
  let due := match m.pair.lastRenew with
    | some t => decide (t + m.leaseNs / 3 ≤ m.now + 10000)
    | none => true
  if m.st == .run && m.hasToken && m.paired && due then
    let m := m.addFld R.PRT_RNWTX 1
    let m := m.linkSend 0x02 (leBytes 4 (m.fld R.PRT_RNWTX) ++ (leBytes 2 (m.fld R.PRT_CFG_LEASE) ++ (leBytes 2 0 ++ leBytes 8 m.now)))
    ({ m.sendHeartbeats with pair := { m.pair with lastRenew := some m.now, fenced := false } }).setFlag R.PRT_STAT_FENCE false
  else m

/-- FENCE: no renewal for L; driving stops (R275). -/
def Mach.fence (m : Mach) : Mach :=
  match m.pair.lastRenew with
  | some t =>
    if m.st == .run && m.hasToken && m.paired && decide (t + m.leaseNs ≤ m.now) then
      (({ m with pair := { m.pair with fenced := true } }).setFlag R.PRT_STAT_FENCE true).stopOutputs
    else m
  | none => m

/-- R277: the partner claims the token too: the lower epoch yields, at equal epochs side B. A LEAD that waits for TAKEN expects the claim
(R292). -/
def Mach.secondHolder (m : Mach) (epoch : Nat) : Mach :=
  let own := m.fld R.PRT_EPOCH
  let d := (epoch + 2 ^ 32 - own) % 2 ^ 32
  if m.st == .run && m.hasToken && m.pair.yieldWaits.isNone && (decide (1 ≤ d ∧ d < 2 ^ 31) || (d == 0 && m.side == 1)) then (m.becomeUnsync 13).raise 0x320E 0 2 else m

/-- A module without the token adopts a newer epoch (R274). Log 47 (DEDUCED). -/
def Mach.adoptEpoch (m : Mach) (epoch : Nat) : Mach :=
  let d := (epoch + 2 ^ 32 - m.fld R.PRT_EPOCH) % 2 ^ 32
  if !m.hasToken && decide (1 ≤ d ∧ d < 2 ^ 31) then m.setFld R.PRT_EPOCH epoch else m

/-! ### Starting to follow (R287–R290) -/

/-- The reason of R290 that the last HELLO gives, 0 for none. -/
def Mach.cfgReason (m : Mach) : Nat :=
  if !m.flag R.PRT_PCMP_PKG then 1
  else if !m.flag R.PRT_PCMP_PVER then 2
  else if !m.flag R.PRT_PCMP_PROG then 3
  else if !m.flag R.PRT_PCMP_RETLAY then 4
  else if !m.flag R.PRT_PCMP_SIDES then 5
  else 0

/-- Send a delay request (R285). -/
def Mach.delayRequest (m : Mach) : Mach :=
  let m := { m with pair := { m.pair with delaySent := some m.now } }
  m.linkSend 0x08 (leBytes 1 1 ++ (leBytes 7 0 ++ leBytes 8 m.now))

/-- Ask for state transfer (R288, R289): `again` marks a restart. Log 45 (DEDUCED). -/
def Mach.startSync (m : Mach) (again : Bool) : Mach :=
  let m := { m with pair := { m.pair with syncing := true, xferAt := some m.now, xferItem := 0, xferOff := 0, xferCsn := none, xferBuf := [],
                                          xferOwn := [], fwd := [], commits := [], deltaBuf := [], deltaDone := [], delReqs := [] } }
  let m := ((m.setFlag R.PRT_STAT_XFER true).setFld R.PRT_STAT_UNSR 6).setFld R.PRT_XFER_DONE 0
  (m.setFld R.PRT_XFER_TOTAL xferTotal).linkSend 0x20 (leBytes 1 again.toNat ++ leBytes 3 0)

/-- May an UNSYNC module join the holder the last HELLO shows? -/
def Mach.mayJoin (m : Mach) : Bool :=
  m.st == .run && m.role == 3 && !m.hasToken && m.pair.ptnToken && m.flag R.PRT_PCMP_VALID && m.cfgReason == 0

/-- The next thing a module that may join does: measure the delay, or with the lead's time taken ask for the transfer (R288). -/
def Mach.join (m : Mach) : Mach :=
  if m.mayJoin && !m.pair.syncing then
    if m.pair.timeTaken then m.startSync false else if m.pair.oneWay.isNone then m.delayRequest else m
  else m

/-- The synchronisation is complete: the module becomes FOLLOW (R289). -/
def Mach.becomeFollow (m : Mach) : Mach :=
  let m := { m with pair := { m.pair with syncing := false, xferAt := none } }
  ((((m.setFlag R.PRT_STAT_XFER false).setFld R.PRT_STAT_UNSR 0).setFld R.PRT_TDIFF 0).setRole 2).olcReport

/-- Has every enabled task committed once from its own scan with a matching digest? -/
def Mach.syncDone (m : Mach) : Mach :=
  if m.pair.syncing && m.pair.xferCsn.isSome && m.tasksOn.all (fun k => m.pair.xferOwn.contains k) then m.becomeFollow else m

/-! ### HELLO (R271, R277, R286–R290) -/

/-- The comparison of R290 into PRT.PCMP, with the partner's version and build. -/
def Mach.compareHello (m : Mach) (f : LinkFrame) : Mach :=
  let p := f.payload
  let reg (fs : Nat → Fld) : List Byte := (List.range 8).flatMap (fun n => leBytes 4 (m.fld (fs n)))
  let m := (m.setFld R.PRT_PVER_PARTNER (fieldAt p 4 2)).setFld R.PRT_PBUILD (fieldAt p 8 4)
  let pkg := sliceAt p 12 32 == reg R.UPD_PKGDIG
  let prog := sliceAt p 44 32 == reg R.UPD_PROGDIG
  let m := (m.setFlag R.PRT_PCMP_PKG pkg).setFlag R.PRT_PCMP_PVER (fieldAt p 4 2 == m.fld R.UPD_FWPVER_PVER)
  let m := (m.setFlag R.PRT_PCMP_PROG prog).setFlag R.PRT_PCMP_RETLAY (fieldAt p 76 8 == m.fld64 R.IMG_RETDIG_LO)
  let m := (m.setFlag R.PRT_PCMP_SIDES (f.flags % 2 != m.side)).setFlag R.PRT_PCMP_BUILD (fieldAt p 8 4 == m.fld R.UPD_FWBUILD)
  m.setFlag R.PRT_PCMP_VALID true

/-- What a disagreement does (R290): reported once per reason; the module that is not the holder stays UNSYNC with it. -/
def Mach.disagree (m : Mach) : Mach :=
  let r := m.cfgReason
  let old := m.pair.cfgDis
  let seen := { m with pair := { m.pair with cfgDis := r } }
  if r = 0 then seen
  else if m.st = .run ∧ m.hasToken then (if r = old then seen else seen.raise 0x3206 0 1)
  else if m.st = .run ∧ 2 ≤ m.role then
    let m := seen
    let m := if m.following then m.becomeUnsync r else m.setFld R.PRT_STAT_UNSR r
    if r = old then m else m.raise 0x3206 0 2
  else m

/-- The build of the partner differs while the versions agree: NOTE 0x3207, once per comparison that shows it anew. -/
def Mach.buildNote (m : Mach) (was : Bool) : Mach :=
  if m.flag R.PRT_PCMP_PVER && !m.flag R.PRT_PCMP_BUILD && !was then m.note 0x3207 else m

/-- What the partner's role tells a token holder: FOLLOW reached, or left (R284, R289). -/
def Mach.partnerRole (m : Mach) (role reason : Nat) : Mach :=
  if m.hasToken then
    if role = 2 then
      (if m.pair.streaming && !m.pair.ptnFollow then
        ({ m with pair := { m.pair with ptnFollow := true, deltaAll := false, ackSeq := none, snapFseq := [] } }).info 0x320C
       else m)
    else if m.pair.ptnFollow then
      let m := m.partnerUnsync reason
      if reason = 10 then m.raise 0x3212 0 1 else m
    else m
  else m

/-- The holder tells a FOLLOW module that it is UNSYNC (R281, R284): with reason 10 while it waits for a delta, the lead no longer holds that
(R283). Log 44 (DEDUCED). -/
def Mach.toldUnsync (m : Mach) (token : Bool) (reason : Nat) : Mach :=
  if m.isFollow && token && reason != 0 then
    let m := if reason = 10 ∧ m.pair.delReqs ≠ [] then m.raise 0x3205 0 2 else m
    m.becomeUnsync reason
  else m

/-- R260: a READY module whose lead runs the staged package switches to it alone. -/
def Mach.catchUp (m : Mach) (p : List Byte) : Mach :=
  if m.st == .run && m.role == 3 && m.pair.ptnToken && m.cfgReason == 1 && m.olcState == olcReady && sliceAt p 12 32 == pkgDigest m.olc.pkg then
    let m := m.swapAlone
    { m with pair := { m.pair with cfgDis := 0 } }
  else m

/-- A HELLO of another hardware type: the partner is not recognised, and nothing else of it counts (R271). -/
def Mach.alienTake (m : Mach) : Mach :=
  let was := m.pair.alien
  let m := { m with pair := { m.pair with alien := true, ptnToken := false } }
  let m := if m.hasToken && m.pair.ptnFollow then m.partnerUnsync 10 else m
  if was then m else m.raise 0x3206 1 2

/-- A HELLO (R290). -/
def Mach.helloTake (m : Mach) (f : LinkFrame) : Mach :=
  let p := f.payload
  if fieldAt p 0 2 ≠ 0x6016 then m.alienTake
  else
    let m := { m with pair := { m.pair with alien := false } }
    let was := m.flag R.PRT_PCMP_VALID && !m.flag R.PRT_PCMP_BUILD
    let b := byteAt p 3
    let m := (m.compareHello f).buildNote was
    let m := { m with pair := { m.pair with ptnToken := b.testBit 3 } }
    let m := if b.testBit 3 then m.secondHolder f.epoch else m
    let m := (m.joinRun.catchUp p).toldUnsync (b.testBit 3) (b / 16)
    let m := if m.pair.commits.any (fun c => c.flags.testBit 1) then m else m.disagree
    (m.partnerRole (b % 4) (b / 16)).join

/-! ### Time in the pair (R285, R288, R396) -/

/-- A difference beyond 10 µs, and beyond 1 ms (R285). -/
def Mach.timeDiff (m : Mach) (d : Int) : Mach :=
  let m := m.setFld R.PRT_TDIFF (sat32 d)
  let big := decide (d < -10000 ∨ 10000 < d)
  let m := m.stat 4237 big
  let m := if big then (if m.faultOn 0x3208 then m else m.raise 0x3208 0 1) else m.clear 0x3208 0 1
  if d < -1000000 ∨ 1000000 < d then (m.raise 0x3209 0 2).becomeUnsync 8 else m.discipline d

/-- A TIME frame of the lead (R285, R288): a joining module steps to it once; FOLLOW measures its difference and takes the lead's
time quality (R396; where the frame carries it is the model's own). -/
def Mach.timeLead (m : Mach) (f : LinkFrame) : Mach :=
  let stamp := fieldAt f.payload 8 8
  match m.pair.oneWay with
  | none => m.join
  | some dl =>
    if m.isFollow then
      let d : Int := Int.ofNat m.now - Int.ofNat (stamp + dl)
      let tq := byteAt f.payload 1 % 4
      let low := decide (d < -1000 ∨ 1000 < d) && tq == tqLocked
      (m.setTq (if low then tqHoldover else tq)).timeDiff d
    else if m.mayJoin && !m.pair.syncing && !m.pair.timeTaken then
      let m := m.stepTo (stamp + dl)
      let m := { m with pair := { m.pair with timeTaken := true } }
      m.join
    else m.join

/-- A delay request is answered with the instants of its receipt and of the answer. -/
def Mach.delayAnswer (m : Mach) : Mach := m.linkSend 0x08 (leBytes 1 2 ++ (leBytes 7 0 ++ (leBytes 8 m.now ++ leBytes 8 m.now)))

/-- A delay response: half the round trip, into PRT.LAT. -/
def Mach.delayTake (m : Mach) (f : LinkFrame) : Mach :=
  match m.pair.delaySent with
  | none => m
  | some t1 =>
    let rtt := (m.now - t1) - (fieldAt f.payload 16 8 - fieldAt f.payload 8 8)
    let m := { m with pair := { m.pair with delaySent := none, oneWay := some (rtt / 2) } }
    ((m.setFld R.PRT_LAT_CUR (min (rtt / 20) 65535)).maxFld R.PRT_LAT_MAX (rtt / 20)).join

/-- A TIME frame by its subtype. -/
def Mach.timeTake (m : Mach) (f : LinkFrame) : Mach :=
  match byteAt f.payload 0 with
  | 0 => if f.token && !m.hasToken then m.timeLead f else m
  | 1 => m.delayAnswer
  | 2 => m.delayTake f
  | _ => m

/-- TIME_SEND: the lead's time (R285). Log 51 (DESIGN CHOICE). -/
def Mach.timeSend (m : Mach) : Mach :=
  if m.st == .run && m.isLead then m.linkSend 0x08 (leBytes 1 0 ++ (leBytes 1 m.tq ++ (leBytes 6 0 ++ leBytes 8 m.now))) else m

/-- DELAY_MEASURE: once per second (R285). -/
def Mach.delayMeasure (m : Mach) : Mach := if m.st == .run && decide (2 ≤ m.role) && !m.hasToken then m.delayRequest else m

/-! ### The lead's stream (R279, R280) -/

/-- A stream record that changes I: an I entry, or a SWITCH entry for the readback value. -/
def Mach.streamPoint (m : Mach) (j : JEntry) : Mach :=
  if j.point < 4352 ∧ 1 ≤ j.kind ∧ j.kind ≤ 4 then
    ((m.preserve false j.point).setPt j.point
      { m.pt j.point with v := j.flags.testBit 0, q := j.flags / 2 % 4, blocked := j.flags.testBit 3 }).showBlocked j.point
  else if j.kind = 0x22 ∧ 0x2000 ≤ j.point ∧ j.point < 0x2020 then
    (m.preserve false (j.point - 0x2000 + 64)).setPt (j.point - 0x2000 + 64) { m.pt (j.point - 0x2000 + 64) with v := j.flags.testBit 0 }
  else m

/-- One stream record (R280). -/
def Mach.streamRec (m : Mach) (b : List Byte) : Mach :=
  let j := JEntry.ofBytes b
  let m := { m with ev := { m.ev with ord := m.ev.ord + 1 } }
  if 0xF000 ≤ j.point then m.writeWord j.time (258048 + (j.point - 0xF000), BitVec.ofNat 32 j.seq)
  else
    let m := (m.streamPoint j).journalEntry j
    ({ m with pair := { m.pair with lastSeq := j.seq } }).setFld R.EVU_SEQ (j.seq + 1)

/-- A STREAM frame. -/
def Mach.streamTake (m : Mach) (p : List Byte) : Mach :=
  if m.following then foldM (List.range (p.length / 16)) (fun i m => m.streamRec (sliceAt p (16 * i) 16)) m else m

/-! ### Snapshots and commits of the lead (R280, R282) -/

/-- Release the oldest queued snapshot of a task when it has five (R282). -/
def Mach.trimFwd (m : Mach) (k : Nat) : Mach :=
  let n := (m.pair.fwd.filter (fun f => f.task == k)).length
  match (m.task k).snap with
  | some _ => if 4 ≤ n then m.setTask k { m.task k with snap := none } else m
  | none =>
    if 4 < n then { m with pair := { m.pair with fwd := m.pair.fwd.eraseP (fun f => f.task == k) } } else m

/-- A SNAP frame: the snapshot has the content of the module's own image at this point of the stream (R280). -/
def Mach.snapTake (m : Mach) (p : List Byte) : Mach :=
  if m.following then
    let k := byteAt p 0
    let no := fieldAt p 4 4
    let t := fieldAt p 8 8
    let m := { m with pair := { m.pair with snapTimes := (m.pair.snapTimes ++ [(no, t)]).drop (m.pair.snapTimes.length + 1 - 256) } }
    if m.isFollow || m.pair.xferCsn.isSome then
      let s : Snap :=
        { time := t, trig := byteAt p 1 % 4, tidx := fieldAt p 2 2, scsn := fieldAt p 16 6, bndn := fieldAt p 24 8, utcoff := fieldAt p 32 4,
          period := (m.rget (R.TSK_PERIOD k).addr).toNat, phase := (m.rget (R.TSK_PHASE k).addr).toNat, ord := m.ev.ord, no := no,
          ivals := m.iContent, wvals := m.wContent }
      let m := m.setFld64 R.EVU_LASTSNAP_LO (max (m.fld64 R.EVU_LASTSNAP_LO) t)
      let m := m.setTask k { m.task k with lastSnap := some t }
      let m := { m with pair := { m.pair with fwd := m.pair.fwd ++ [FwdSnap.mk k s] } }
      m.trimFwd k
    else m
  else m

/-- The next forwarded snapshot of each task enters SNAP (R282). Those of an affected task of an online change do until the lead has drained
it (R247, R258). -/
def Mach.feedFwd (m : Mach) : Mach :=
  if m.following then
    foldM (m.tasksOn.filter (fun k => !(m.olcOpen && m.olc.leadDone && m.olcTask k))) (fun k m =>
      match (m.task k).snap, m.pair.fwd.find? (fun f => f.task == k) with
      | none, some f => ({ m with pair := { m.pair with fwd := m.pair.fwd.eraseP (fun f => f.task == k) } }).putSnap k f.snap false 0
      | _, _ => m) m
  else m

/-- Is snapshot number a older than b? -/
def snapOlder (a b : Nat) : Bool :=
  let d := (b + 2 ^ 32 - a) % 2 ^ 32
  decide (1 ≤ d ∧ d < 2 ^ 31)

/-- Release the snapshots of a task older than one that a commit names. -/
def Mach.releaseOlder (m : Mach) (k no : Nat) : Mach :=
  let m := { m with pair := { m.pair with fwd := m.pair.fwd.filter (fun f => !(f.task == k && snapOlder f.snap.no no)) } }
  match (m.task k).snap with
  | some s => if snapOlder s.snap.no no then m.setTask k { m.task k with snap := none } else m
  | none => m

/-- R282: a commit names a snapshot: scans of its task on older ones are squashed with code 3. -/
def Mach.squashOlder (m : Mach) (k no : Nat) : Mach :=
  let m := match (m.task k).held with
    | some h => if snapOlder h.snap.no no then m.squashHeld k 3 else m
    | none => m
  let m := m.releaseOlder k no
  let m := match (m.task k).run with
    | some r => if snapOlder r.snap.no no then m.squashRun k 3 else m
    | none => m
  m.releaseOlder k no

/-- Does the module hold snapshot `no` of task k? -/
def Mach.holdsSnap (m : Mach) (k no : Nat) : Bool :=
  m.pair.fwd.any (fun f => f.task == k && f.snap.no == no) ||
    ((m.task k).snap.toList ++ (m.task k).run.toList ++ (m.task k).held.toList).any (fun s => s.snap.no == no)

/-- Has the lead's delta of a commit arrived complete? -/
def Mach.hasDelta (m : Mach) (csn : Nat) : Bool := m.pair.deltaDone.any (fun d => d.1 == csn)

/-- Ask the lead for a delta, once. -/
def Mach.askDelta (m : Mach) (csn : Nat) : Mach :=
  if m.pair.delReqs.contains csn || m.hasDelta csn then m
  else ({ m with pair := { m.pair with delReqs := m.pair.delReqs ++ [csn] } }).linkSend 0x13 (leBytes 6 csn ++ leBytes 2 0)

/-- A COMMIT frame (R282): a holder, and a sender without the token, have none. -/
def Mach.commitTake (m : Mach) (f : LinkFrame) : Mach :=
  if m.following && f.token then
    let p := f.payload
    let c : CommitRec := ⟨fieldAt p 0 6, byteAt p 6, byteAt p 7, fieldAt p 8 4, fieldAt p 12 8, BitVec.ofNat 64 (fieldAt p 20 8), fieldAt p 28 2⟩
    let m := { m with pair := { m.pair with commits := m.pair.commits ++ [c] } }
    if c.flags.testBit 1 then m
    else
      let m := if m.isFollow || m.pair.xferCsn.isSome then m.squashOlder c.task c.snapno else m
      if m.isFollow && !m.holdsSnap c.task c.snapno then m.askDelta c.csn else m
  else m

/-! ### Deltas (R282, R289) -/

/-- The entries of a delta: image entries and deferred actions, in the digest byte format of R44. Log 36 (DEDUCED). -/
def deltaParse : Nat → List Byte → List (Nat × CellV) × List Deferred
  | 0, _ => ([], [])
  | n + 1, b =>
    if b.length < 5 then ([], [])
    else
      let sp := byteAt b 0
      let i := fieldAt b 1 3
      if sp = 8 then
        let r := deltaParse n (b.drop 8)
        (r.1, (if 16 ≤ i then Deferred.wdck i else if fieldAt b 4 4 = 0 then Deferred.wdck i else Deferred.mvrq i (fieldAt b 4 4)) :: r.2)
      else
        let r := deltaParse n (b.drop (4 + spBytes sp))
        ((ikey sp i, BitVec.ofNat 128 (fieldAt b 4 (spBytes sp))) :: r.1, r.2)

/-- R289: before the transfer is complete a delta is applied to the blocks received. -/
def Mach.deltaPart (m : Mach) (b : List Byte) : Mach :=
  let es := (deltaParse b.length b).1.filter (fun e => match xferPlace e.1 with
    | some (item, off) => decide (item < m.pair.xferItem) || (item == m.pair.xferItem && decide (off < m.pair.xferOff))
    | none => false)
  (m.writeEntries es).register es

/-- A DELTA frame: parts are collected, and the last one completes the delta. Log 48 (DEDUCED). -/
def Mach.deltaTake (m : Mach) (p : List Byte) : Mach :=
  if m.following then
    let csn := fieldAt p 0 6
    let old := ((m.pair.deltaBuf.find? (fun d => d.1 == csn)).map (·.2)).getD []
    let buf := (if byteAt p 6 = 0 then [] else old) ++ p.drop 8
    let rest := m.pair.deltaBuf.filter (fun d => d.1 != csn)
    if (byteAt p 7).testBit 0 then
      let m := { m with pair := { m.pair with deltaBuf := rest, delReqs := m.pair.delReqs.filter (· != csn) } }
      if m.pair.syncing && m.pair.xferCsn.isNone then m.deltaPart buf
      else { m with pair := { m.pair with deltaDone := (m.pair.deltaDone.filter (fun d => d.1 != csn)) ++ [(csn, buf)] } }
    else { m with pair := { m.pair with deltaBuf := rest ++ [(csn, buf)] } }
  else m

/-- The lead answers a DELREQ from its last 256 commits; one it no longer holds makes the partner UNSYNC, which raises 0x3205 (R283). -/
def Mach.delReqTake (m : Mach) (p : List Byte) : Mach :=
  let csn := fieldAt p 0 6
  if m.hasToken && m.pair.streaming then
    match m.pair.deltas.find? (fun d => d.1 == csn) with
    | some d => m.sendDelta csn d.2
    | none => m.partnerUnsync 10
  else m

/-! ### Applying the lead's commits (R282, R283, R289) -/

/-- A mismatch (R283): counted, MINOR 0x3204; the third within 10 s makes the module UNSYNC with reason 7. -/
def Mach.mismatch (m : Mach) (csn : Nat) : Mach :=
  let m := (m.satFld R.PRT_MISM_TOTAL 1).setFld R.PRT_MISMCSN csn
  if m.pair.syncing then m
  else
    let ms := (m.pair.mismatches.filter (fun t => decide (m.now < t + 10000000000))) ++ [m.now]
    let m := { m with pair := { m.pair with mismatches := ms } }
    let m := (m.setFld R.PRT_MISM_RECENT (min ms.length 3)).raise 0x3204 0 1
    if 3 ≤ ms.length then
      let m := { m with pair := { m.pair with mismatches := [] } }
      (m.raise 0x3205 0 2).becomeUnsync 7
    else m

/-- The commit record is dealt with. -/
def Mach.dropCommit (m : Mach) (csn : Nat) : Mach :=
  { m with pair := { m.pair with commits := m.pair.commits.filter (fun c => c.csn != csn), deltaDone := m.pair.deltaDone.filter (fun d => d.1 != csn) } }

/-- Begin to apply the own HELD scan as the lead's commit. -/
def Mach.applyOwn (m : Mach) (c : CommitRec) (sc : Scan) : Mach :=
  let a := m.appOf c.task sc c.csn
  let m := m.auditSelect c.task sc
  let m := (m.setFld64 R.IMG_CSN_LO c.csn).setTask c.task { m.task c.task with inCommit := true }
  let m := { m.dropCommit c.csn with cu := { m.cu with app := some a } }
  if m.pair.syncing then
    let own := if m.pair.xferOwn.contains c.task then m.pair.xferOwn else m.pair.xferOwn ++ [c.task]
    { m with pair := { m.pair with xferOwn := own } }
  else m

/-- Begin to apply the lead's delta as the commit. Every scan that read what it writes is a victim, the task's own among them. Log 48 (DEDUCED). -/
def Mach.applyDelta (m : Mach) (c : CommitRec) (b : List Byte) : Mach :=
  let r := deltaParse b.length b
  let snapT := ((m.pair.snapTimes.find? (fun x => x.1 == c.snapno)).map (·.2)).getD c.cmtt
  let a : App :=
    { task := c.task, scan := m.cu.scanIds, csn := c.csn, prev := m.csn, snapTime := snapT, startAt := m.now, doneAt := m.now + 100 + 2 * (r.1.length + r.2.length),
      entries := r.1, qchg := m.qChanges r.1, digest := c.digest, victims := m.victimsOf 32 (r.1.map (·.1)), deferred := r.2,
      anchored := c.flags.testBit 0, snapNo := c.snapno }
  let m := m.setFld64 R.IMG_CSN_LO c.csn
  { m.dropCommit c.csn with cu := { m.cu with app := some a } }

/-- The swap commit of the lead (R259), once the own change is drained and mapped. -/
def Mach.applySwap (m : Mach) (c : CommitRec) : Mach :=
  if m.olcState = olcWindow ∧ m.olc.mapped then
    let ok := swapDigest m.olc.pkg == c.digest
    let m := (m.dropCommit c.csn).swapAt c.csn
    let m := { m with cu := { m.cu with nextStart := m.now + 1000 } }
    if ok then m else m.mismatch c.csn
  else m

/-- FOLLOWER_APPLY: the next commit of the lead, in its CSN order (R282, R283, R289). -/
def Mach.followerApply (m : Mach) : Mach :=
  if m.st == .run && m.following && !m.lanesDown && m.cu.app.isNone && decide (m.cu.nextStart ≤ m.now) && (m.isFollow || m.pair.xferCsn.isSome) then
    match m.pair.commits with
    | [] => m
    | c :: _ =>
      if c.flags.testBit 1 then m.applySwap c
      else
        match m.pair.deltaDone.find? (fun d => d.1 == c.csn), (m.task c.task).held with
        | d?, some sc =>
          if sc.snap.no = c.snapno ∧ !(m.task c.task).inCommit then
            if m.scanDigest c.task sc = c.digest then m.applyOwn c sc
            else
              let m := (m.squashHeld c.task 3).squashOlder c.task (c.snapno + 1)
              let m := m.mismatch c.csn
              if m.following then m.askDelta c.csn else m
          else match d? with
            | some d => if m.holdsSnap c.task c.snapno then m else m.applyDelta c d.2
            | none => if m.holdsSnap c.task c.snapno then m else m.askDelta c.csn
        | some d, none => if m.holdsSnap c.task c.snapno then m else m.applyDelta c d.2
        | none, none => if m.holdsSnap c.task c.snapno then m else m.askDelta c.csn
  else m

/-! ### Agreement (R281, R284) -/

/-- An ACK: what it covers is agreed; the longest wait is recorded. -/
def Mach.ackTake (m : Mach) (p : List Byte) : Mach :=
  if m.isLead && m.pair.ptnFollow then
    let waiting := (m.heldScans.filter (fun x => !m.agreed x.2))
    let m := { m with pair := { m.pair with ackSeq := some (fieldAt p 0 4) } }
    foldM (waiting.filter (fun x => m.agreed x.2)) (fun x m => m.maxFld R.PRT_AGR_MAX ((m.now - x.2.heldAt) / 10)) m
  else m

/-- AGREEMENT_TIMEOUT. -/
def Mach.agreeTimeout (m : Mach) : Mach :=
  if m.heldScans.any (fun x => !m.agreed x.2 && decide (x.2.heldAt + 100000 ≤ m.now)) then
    ((m.partnerUnsync 12).satFld R.PRT_AGR_TIMEOUTS 1).raise 0x320D 0 1
  else m

/-- R284: more than 4096 stream records wait. -/
def Mach.streamOver (m : Mach) : Mach :=
  if 4096 < m.pair.stream.length then (m.partnerUnsync 10).raise 0x3212 0 1 else m

/-- An unrecoverable gap in what the partner sent (R270, R284). -/
def Mach.gapLost (m : Mach) : Mach :=
  if m.following then m.becomeUnsync 10
  else if m.hasToken && m.pair.streaming then (m.partnerUnsync 10).raise 0x3212 0 1
  else m

/-- A RETX: the missing frames go out again as they were; one no longer held is unrecoverable (R270). -/
def Mach.retxTake (m : Mach) (p : List Byte) : Mach :=
  let want := (List.range (fieldAt p 4 2)).map (fun i => (fieldAt p 0 4 + i) % 2 ^ 32)
  let m := foldM (m.pair.sent.filter (fun f => want.contains f.fseq)) (fun f m => m.send (.link f.bytes)) m
  if want.all (fun q => m.pair.sent.any (fun f => f.fseq == q)) || !(m.hasToken && m.pair.streaming) then m
  else (m.partnerUnsync 10).raise 0x3212 0 1

/-! ### State transfer, the lead's side (R288, R289) -/

/-- An XREQ: the lead forwards from here on, with a delta for every commit, and starts the transfer. -/
def Mach.xreqTake (m : Mach) : Mach :=
  if m.st == .run && m.hasToken && m.pair.yielding.isNone then
    let m := m.stopForward
    let m := { m with pair := { m.pair with streaming := true, deltaAll := true, ptnUnsync := 0, xferItem := 0, xferOff := 0, xferAt := some m.now,
                                            xferStep := none, deltas := [] } }
    (m.setFld R.PRT_XFER_DONE 0).setFld R.PRT_XFER_TOTAL xferTotal
  else m

/-- Send the next block of up to 4 KiB; after the last, XDONE with the CSN of the last application. -/
def Mach.xferBlock (m : Mach) : Mach :=
  if m.pair.xferAt.isNone then m
  else
    let item := m.pair.xferItem
    let off := m.pair.xferOff
    let n := min 4096 (xferSize item - off)
    let m := foldM (List.range ((n + 119) / 120)) (fun i m =>
      let o := off + 120 * i
      m.linkSend 0x21 (leBytes 1 item ++ (leBytes 1 0 ++ (leBytes 4 o ++ (List.range (min 120 (off + n - o))).map (fun j => m.xferByte item (o + j)))))) m
    let m := m.setFld R.PRT_XFER_DONE (min (m.fld R.PRT_XFER_DONE + (n + 1023) / 1024) xferTotal)
    if off + n < xferSize item then { m with pair := { m.pair with xferOff := off + n } }
    else if item < 8 then { m with pair := { m.pair with xferItem := item + 1, xferOff := 0 } }
    else ({ m with pair := { m.pair with xferAt := none } }).linkSend 0x22 (leBytes 6 m.csn ++ leBytes 2 0)

/-- TRANSFER_STEP: some blocks at a point between two applications, at least 3 ms after the step before. Log 45 (DEDUCED). -/
def Mach.xferSend (m : Mach) (n : Nat) : Mach :=
  let due := match m.pair.xferStep with
    | some t => decide (t + 3000000 ≤ m.now)
    | none => true
  if m.st == .run && m.hasToken && m.pair.streaming && m.pair.xferAt.isSome && m.cu.app.isNone && due then
    let m := m.flushStream
    let m := { m with pair := { m.pair with xferStep := some m.now } }
    foldM (List.range n) (fun _ m => m.xferBlock) m
  else m

/-! ### State transfer, the joining module's side -/

/-- An XBLK. -/
def Mach.xblkTake (m : Mach) (p : List Byte) : Mach :=
  if m.pair.syncing && m.pair.xferCsn.isNone then
    let item := byteAt p 0
    let off := fieldAt p 2 4
    let d := p.drop 6
    let m := foldM d.zipIdx (fun (b, i) m => if off + i < xferSize item then m.xferPut item (off + i) b else m) m
    let m := { m with pair := { m.pair with xferItem := item, xferOff := off + d.length } }
    m.setFld R.PRT_XFER_DONE (min (((List.range item).map (fun i => (xferSize i + 1023) / 1024)).sum + (off + d.length) / 1024) xferTotal)
  else m

/-- An XDONE: the transfer is complete at a CSN; commits up to it are in what was received. -/
def Mach.xdoneTake (m : Mach) (p : List Byte) : Mach :=
  if m.pair.syncing && m.pair.xferCsn.isNone then
    let c := fieldAt p 0 6
    let m := m.xferApply.setFld64 R.IMG_CSN_LO c
    let m := { m with pair := { m.pair with xferCsn := some c, commits := m.pair.commits.filter (fun x => csnLater x.csn c) } }
    (m.markDirty (m.img.map (·.1))).syncDone
  else m

/-- TRANSFER_RESTART: not finished within 5 s. -/
def Mach.xferRestart (m : Mach) : Mach :=
  match m.pair.xferAt with
  | some t => if m.pair.syncing && decide (t + 5000000000 ≤ m.now) then (foldM allTasks (fun k m => m.dropForwarded k) m).startSync true else m
  | none => m

/-! ### Yield (R292) -/

/-- Steps 2 and 3: with the agreed HELD scans applied, the LEAD sends YIELD. -/
def Mach.sendYield (m : Mach) : Mach :=
  match m.pair.yielding with
  | none => m
  | some r =>
    if m.st == .run && m.hasToken && m.pair.yieldWaits.isNone && m.cu.app.isNone && m.nextHeld.isNone then
      let m := m.flushStream
      let m := m.linkSend 0x03 (leBytes 6 m.csn ++ (leBytes 1 r ++ (leBytes 1 0 ++ leBytes 4 (m.fld R.EVU_SEQ + 2 ^ 32 - 1))))
      ({ m with pair := { m.pair with yieldWaits := some m.now } }).satFld R.PRT_CNT_YIELDS 1
    else m

/-- A YIELD: the follower notes up to which CSN it applies. -/
def Mach.yieldTake (m : Mach) (f : LinkFrame) : Mach :=
  if m.isFollow && f.token then
    { m with pair := { m.pair with yieldCsn := some (fieldAt f.payload 0 6), yieldSeq := fieldAt f.payload 8 4, yieldReason := byteAt f.payload 6 } }
  else m

/-- The new lead forwards to the module that gave it the token, which has everything up to here (R292). -/
def Mach.followsNow (m : Mach) : Mach :=
  { m with pair := { m.pair with streaming := true, ptnFollow := true, deltaAll := false } }

/-- The follower leaves FOLLOW at a yield: the journal goes on behind the lead's last entry. -/
def Mach.yieldLeave (m : Mach) (role : Nat) : Mach :=
  let m := (foldM allTasks (fun k m => m.dropForwarded k) m).dropLead
  let m := { m with pair := { m.pair with yieldCsn := none }, olcEnd := some 0x09 }
  ((m.setFld R.EVU_SEQ (m.pair.yieldSeq + 1)).setFld R.PRT_STAT_ROLE role).ownTime

/-- The follower takes the token and sends TAKEN; after a requested yield the old lead follows. -/
def Mach.yieldToken (m : Mach) (role : Nat) : Mach :=
  let m := (m.takeToken role).satFld R.PRT_CNT_YIELDS 1
  let m := m.linkSend 0x04 (leBytes 6 m.csn ++ leBytes 2 0)
  if m.pair.yieldReason = 1 then m.hello else m.hello.followsNow

/-- Step 4: with every commit up to the CSN applied, the follower takes the token; CSN and event sequence go on without a jump. Log 46 (DEDUCED). -/
def Mach.finishYield (m : Mach) : Mach :=
  match m.pair.yieldCsn with
  | none => m
  | some c =>
    if m.isFollow && m.cu.app.isNone && m.pair.commits.all (fun x => csnLater x.csn c) && !csnLater c m.csn then
      let r := m.holderRole
      ((((m.yieldLeave r).yieldToken r).takeShadow).pubTakeover).resumeScans
    else m

/-- Step 5: the old lead gives the token up; after a requested yield it becomes FOLLOW, after a MAJOR fault UNSYNC with reason 11. Log 46 (DEDUCED). -/
def Mach.takenTake (m : Mach) (epoch : Nat) : Mach :=
  match m.pair.yielding, m.pair.yieldWaits with
  | some r, some _ =>
    let m := (m.giveToken.setFld R.PRT_EPOCH epoch).info 0x3202
    let m := { m with pair := { m.pair with ptnToken := true } }
    if r = 1 then m.becomeUnsync 11
    else
      let m := { m with pair := { m.pair with lastSeq := m.fld R.EVU_SEQ + 2 ^ 32 - 1, snapTimes := [] } }
      (m.setFld R.PRT_TDIFF 0).setRole 2
  | _, _ => m

/-- TAKEN_TIMEOUT: no TAKEN within 1 ms. Log 49 (DEDUCED). -/
def Mach.takenTimeout (m : Mach) : Mach :=
  match m.pair.yieldWaits with
  | some t => if m.hasToken && decide (t + 1000000 ≤ m.now) then m.becomeUnsync 11 else m
  | none => m

/-! ### Takeover (R276, R293, R298) -/

/-- CSN assignment goes on 2^20 later (R293), within 1 to 2^48 − 1. Log 53 (DEDUCED). -/
def csnJump (c : Nat) : Nat := (c + 2 ^ 20 - 1) % (2 ^ 48 - 1) + 1

/-- R293: take the token after the lease. Log 46 (DEDUCED). -/
def Mach.takeOver (m : Mach) (role : Nat) : Mach :=
  let m := (m.takeToken role).hello.satFld R.PRT_CNT_TAKES 1
  let m := m.raise 0x3201 0 2
  let m := m.takeShadow.setFld64 R.IMG_CSN_LO (csnJump m.csn)
  m.refreshAll.pubTakeover.resumeScans

/-- TOKEN_TAKE: the lease has expired and the guard has passed. -/
def Mach.leaseOut (m : Mach) : Mach :=
  match m.pair.leaseAt with
  | some t =>
    if m.st == .run && m.paired && !m.hasToken && decide (t + m.guardNs ≤ m.now) then
      if m.isFollow then
        let r := m.holderRole
        (m.unfollow r).takeOver r
      else if m.flag R.PRT_CFG_TAKEOVER_UNSYNC then
        let m := m.unfollow 3
        let m := { m with ret := { m.ret with formed := false } }.enterImage
        m.takeOver 0
      else (m.leaveRun .stop).raise 0x3211 0 2
    else m
  | none => m

/-! ### Joining RUN (R286) -/

/-- LISTEN_EXPIRY: the listen time of one lease has passed. -/
def Mach.listenOver (m : Mach) : Mach :=
  match m.pair.listenFrom with
  | some a =>
    if a + m.leaseNs ≤ m.now then
      let heard := match m.pair.ptnHbAt with
        | some t => decide (a ≤ t)
        | none => false
      if m.lanesDown && !heard then m.enterRun 0
      else if m.side = 0 then m.enterRun 1
      else m
    else m
  | none => m

/-- JOINWAIT_EXPIRY: side B, and no partner has taken the token within JOINWAIT of the own readiness. -/
def Mach.joinWaitOver (m : Mach) : Mach :=
  match m.pair.listenFrom, m.pair.readyFrom with
  | some a, some r =>
    if m.side = 1 ∧ a + m.leaseNs ≤ m.now ∧ r + m.fld R.PRT_CFG_JOINWAIT * 10000000 ≤ m.now then m.enterRun m.holderRole else m
  | _, _ => m

/-! ### Heartbeats of the partner (R265, R276, R277, R331) -/

/-- A heartbeat of the partner on a bay bus. -/
def Mach.heartbeat (m : Mach) (d : List Byte) : Mach :=
  let fl := byteAt d 0
  let token := fl.testBit 1
  let epoch := fieldAt d 4 4
  let count := fieldAt d 8 4
  let m := ({ m with pair := { m.pair with ptnHbAt := some m.now, ptnToken := token } }).setFlag R.PRT_STAT_PHB true
  let m := m.stat 4230 true
  if token then
    let m := (m.secondHolder epoch).adoptEpoch epoch
    let third := m.lanesDown && m.isFollow && countLater count m.pair.rxLinkCount
    let m := m.renewSeen count
    let m := if third then (m.becomeUnsync 9).raise 0x3203 0 2 else m
    m.joinRun
  else m

/-- PARTNER_HEARTBEAT_TIMEOUT. -/
def Mach.heartbeatLost (m : Mach) : Mach :=
  match m.pair.ptnHbAt with
  | some t => if m.flag R.PRT_STAT_PHB && decide (t + m.leaseNs ≤ m.now) then (m.setFlag R.PRT_STAT_PHB false).stat 4230 false else m
  | none => m

/-! ### Frames in sequence (R266, R270, R271) -/

/-- A RENEW over the link. -/
def Mach.renewTake (m : Mach) (f : LinkFrame) : Mach :=
  if m.hasToken || !f.token then m
  else
    let c := fieldAt f.payload 0 4
    let m := m.renewSeen c
    { m with pair := { m.pair with rxLinkCount := if countLater c m.pair.rxLinkCount then some c else m.pair.rxLinkCount } }

/-- A NOTICE of the follower, journalled as 0x3210 in its fault class (R280, R299). -/
def Mach.noticeTake (m : Mach) (p : List Byte) : Mach :=
  m.journal (fieldAt p 4 8) 0x3210 (0x30 + byteAt p 0 % 4) (1 + m.degradedAt (fieldAt p 4 8))

/-- A frame in its place in the sequence. -/
def Mach.linkTake (m : Mach) (f : LinkFrame) : Mach :=
  let own := m.fld R.PRT_EPOCH
  let d := (own + 2 ^ 32 - f.epoch) % 2 ^ 32
  if f.bad then m.linkViol
  else if m.pair.alien ∧ f.ty ≠ 0x01 then m
  else if f.ty ≠ 0x01 ∧ 1 ≤ d ∧ d < 2 ^ 31 then (m.satFld R.PRT_STREAM_OLDEP 1).hello
  else
    let m := if f.token then m.adoptEpoch f.epoch else m
    match f.ty with
    | 0x01 => m.helloTake f
    | 0x02 => m.renewTake f
    | 0x03 => m.yieldTake f
    | 0x04 => if m.pair.yieldWaits.isSome then m.takenTake f.epoch else m
    | 0x05 => m.ackTake f.payload
    | 0x06 => m.retxTake f.payload
    | 0x07 => m.noticeTake f.payload
    | 0x08 => m.timeTake f
    | 0x10 => m.streamTake f.payload
    | 0x11 => m.snapTake f.payload
    | 0x12 => m.commitTake f
    | 0x13 => m.delReqTake f.payload
    | 0x14 => m.deltaTake f.payload
    | 0x15 => { m with pair := { m.pair with ptnGstn := sset 0 m.pair.ptnGstn (byteAt f.payload 0) (fieldAt f.payload 4 4) } }
    | 0x20 => m.xreqTake
    | 0x21 => m.xblkTake f.payload
    | 0x22 => m.xdoneTake f.payload
    | _ => m.olcFrame f.payload

/-- Take the held frames that are now in their place. -/
def Mach.linkDrain : Nat → Mach → Mach
  | 0, m => m
  | n + 1, m =>
    match m.pair.rxNext with
    | none => m
    | some q =>
      match m.pair.rxHeld.find? (fun f => f.fseq == q) with
      | none => m
      | some f =>
        let m := { m with pair := { m.pair with rxHeld := m.pair.rxHeld.filter (fun x => x.fseq != q), rxNext := some ((q + 1) % 2 ^ 32) } }
        Mach.linkDrain n (m.linkTake f)

/-- A FOLLOW or joining module acknowledges what it has received without a gap (R281). -/
def Mach.linkAck (m : Mach) : Mach :=
  match m.pair.rxNext with
  | some q => if m.following then m.linkSend 0x05 (leBytes 4 (q + 2 ^ 32 - 1)) else m
  | none => m

/-- How far a frame number lies ahead of the one in turn. -/
def linkAhead (q n : Nat) : Nat := (n + 2 ^ 32 - q) % 2 ^ 32

/-- Does a gap still lack a frame, with number q in turn and the held frames? Numbers before q have come. -/
def Gap.open (g : Gap) (q : Nat) (held : List LinkFrame) : Bool :=
  let a := linkAhead q g.first
  let (from_, to_) := if a < 2 ^ 31 then (a, a + g.n) else (0, a + g.n - 2 ^ 32)
  decide ((held.filter (fun f => decide (from_ ≤ linkAhead q f.fseq ∧ linkAhead q f.fseq < to_))).length < to_ - from_)

/-- Forget the gaps that are filled. -/
def Mach.closeGaps (m : Mach) : Mach :=
  match m.pair.rxNext with
  | some q => { m with pair := { m.pair with gaps := m.pair.gaps.filter (fun g => g.open q m.pair.rxHeld) } }
  | none => { m with pair := { m.pair with gaps := [] } }

/-- Deliver the frame with the number in turn, and those held behind it. Log 51 (DESIGN CHOICE). -/
def Mach.linkAccept (m : Mach) (f : LinkFrame) : Mach :=
  let m := { m with pair := { m.pair with rxNext := some ((f.fseq + 1) % 2 ^ 32) } }
  let m := m.linkTake f
  (Mach.linkDrain m.pair.rxHeld.length m).closeGaps.linkAck

/-- The first number, counted from q in turn, of which neither a frame nor a gap is known. -/
def Mach.linkKnown (m : Mach) (q : Nat) : Nat :=
  ((m.pair.rxHeld.map (fun f => linkAhead q f.fseq + 1)) ++ (m.pair.gaps.map (fun g => linkAhead q g.first + g.n))).foldl max 0

/-- The frames before number q + d are sent, so those not known of are missing (R270): RETX once per gap. Log 51 (DESIGN CHOICE). -/
def Mach.linkGap (m : Mach) (l q d : Nat) : Mach :=
  let k := m.linkKnown q
  if d ≤ k then m
  else
    let first := (q + k) % 2 ^ 32
    let g : Gap := ⟨first, d - k, m.now⟩
    let m := ({ m with pair := { m.pair with gaps := m.pair.gaps ++ [g] } }).satFld (R.PRT_LANE_RETX l) 1
    m.linkSend 0x06 (leBytes 4 first ++ (leBytes 2 (d - k) ++ leBytes 2 0))

/-- A HELLO with number 0 starts the sequence anew (R267), but for the second copy of one that has, which comes on the other lane (R266). Log 51
(DESIGN CHOICE). -/
def Mach.linkStart (m : Mach) (l : Nat) (f : LinkFrame) : Mach :=
  if f.ty ≠ 0x01 ∨ f.fseq ≠ 0 then m
  else if m.pair.restart.any (fun r => r.1 != l && r.2 == f) then { m with pair := { m.pair with restart := none } }
  else { m with pair := { m.pair with rxNext := some 0, rxHeld := [], gaps := [], restart := some (l, f) } }

/-- A frame with a good check sequence on lane l (R266, R270, R271): in order, a duplicate, or behind a gap. An IDLE takes no place in the sequence. Log 51 (DESIGN CHOICE). -/
def Mach.linkRx (m : Mach) (l : Nat) (f : LinkFrame) : Mach :=
  if !m.linkOn then m
  else
    let m := (m.laneHeard l).linkStart l f
    if f.ty = 0x7F ∧ f.bad then m.linkViol
    else match m.pair.rxNext with
    | none => if f.ty = 0x7F then { m with pair := { m.pair with rxNext := some f.fseq } } else m.linkAccept f
    | some q =>
      let d := linkAhead q f.fseq
      if f.ty = 0x7F then (if 1 ≤ d ∧ d < 2 ^ 31 then m.linkGap l q d else m)
      else if d = 0 then m.linkAccept f
      else if d < 2 ^ 31 then
        let m := m.linkGap l q d
        if m.pair.rxHeld.any (fun x => x.fseq == f.fseq) then m
        else ({ m with pair := { m.pair with rxHeld := m.pair.rxHeld ++ [f] } }).closeGaps
      else m

/-- A copy whose CRC is wrong is discarded and counted; the lane's run of valid frames ends (R266, R269, R271). -/
def Mach.linkCrcError (m : Mach) (l : Nat) : Mach :=
  if m.linkOn then
    let m := m.satFld (R.PRT_LANE_CRCERR l) 1
    { m with pair := { m.pair with laneRun := setLinkLane m.pair.laneRun l 0 } }
  else m

/-- The first frame held from number q on, counted from it. -/
def firstHeld (q : Nat) (fs : List LinkFrame) : Option Nat :=
  (fs.map (fun f => linkAhead q f.fseq)).foldl (fun b x => match b with
    | none => some x
    | some y => some (min x y)) none

/-- GAP_TIMEOUT: a gap not filled within 200 µs is unrecoverable (R270, R284); what is held goes on behind it. -/
def Mach.gapTimeout (m : Mach) : Mach :=
  match m.pair.rxNext with
  | some q =>
    if m.pair.gaps.any (fun g => decide (g.since + 200000 ≤ m.now)) then
      let m := { m with pair := { m.pair with rxNext := (firstHeld q m.pair.rxHeld).map (fun d => (q + d) % 2 ^ 32) } }
      let m := m.gapLost
      (Mach.linkDrain m.pair.rxHeld.length m).closeGaps
    else m
  | none => m

/-- HELLO_SEND: every 10 ms while the two modules are not synchronised (R287). -/
def Mach.helloSend (m : Mach) : Mach := if m.linkOn && !m.isFollow && !m.pair.ptnFollow then m.hello else m

/-- IDLE_SEND (R269): the number names the next frame and is not consumed. -/
def Mach.idleSend (m : Mach) : Mach :=
  if m.linkOn then m.send (.link (LinkFrame.bytes ⟨0x7F, m.linkFlags, m.pair.txNext, m.fld R.PRT_EPOCH, []⟩)) else m

/-! ### What follows at once -/

/-- The pair's agenda after every command: forwarded snapshots, a yield's next step, the end of a synchronisation, and R265. -/
def Mach.pairSettle (m : Mach) : Mach := (m.feedFwd.finishYield.sendYield.streamOver.syncDone).showHolder.flushStream

end Sys2Proof.Machine
end

