-- ==== Sys2Proof/Machine/Settle.lean ====
section
/-!
DEFINITION. What time brings with it, what follows every command at once, and the frame every meaning stands in.
-/
namespace Sys2Proof.Machine
open Sys2Proof

/-- The time base reaches an instant: the counters that run with it, and the spans that end (R126, R367, R403, R430, R516). Log 1 (DEDUCED). -/
def Mach.pass (m : Mach) (t : Nat) : Mach :=
  let m := (m.runEngineCounters t).runWatchdog t
  ({ m with now := t }).endLeap.nodeAge.dspTime

/-- Everything that follows at once from a command's effect: the entry to FAULT (R419), an online change given up (R254), an entry to RUN
that waited, complete scans entering HELD (R58), the pair, the dispatcher, the records of waiting scans, the handles of long operations, the store's and the alarms' display, the display's power (R531), and last the
drivers (R311). Log 7 (DESIGN CHOICE). -/
def Mach.settle (m : Mach) : Mach :=
  let m := m.ppsSilent.enterFault.olcSettle.runDue.promote
  let m := m.pairSettle.olcSettle.dispatch.markHeld
  ((m.svcSettle.showRet.alarmsNow false).dspFollow.flushStream).drive

/-- A command at an instant of the time base: the time comes, the effect, and what follows at once. Log 1 (DEDUCED), 2 (DESIGN CHOICE). -/
def runAt (t : Nat) (f : Mach → Mach) (s : State) : Host.Outcome State Fault Refusal :=
  .next { s with m := (f (s.m.pass (max t s.m.now))).settle }

/-- An instruction of an engine: its effect, and what follows at once. Log 1 (DEDUCED). -/
def runEng (f : Mach → Mach) (s : State) : Host.Outcome State Fault Refusal :=
  .next { s with m := (f s.m).settle }

/-- What a step does on an empty queue: the time base advances by 10 ns (R386). Log 3 (DESIGN CHOICE). -/
def idleTick (s : State) : Host.Outcome State Fault Refusal := runAt (s.m.now + 10) id s

end Sys2Proof.Machine
end

