-- ==== Sys2Proof/Machine/BayRows.lean ====
section
/-!
DEFINITION. The commands of the bay buses (R325–R358). A command that names a frame or an instant whose condition the spec states has no effect
but the passing of time where that condition does not hold.
-/
namespace Sys2Proof.Machine
open Sys2Proof

/-- A bay-bus command: channel c is on the bus. Log 2 (DESIGN CHOICE). -/
def runBay (t c : Nat) (f : Mach → Mach) (s : State) : Host.Outcome State Fault Refusal := runAt t (fun m => if m.bayOn c then f m else m) s

/-! ### Error counters (R325, ISO 11898-1) -/

/-- Error-active or error-passive by the counters. Log 60 (PRESUMED). -/
def Mach.bayErr (m : Mach) (c : Nat) : Mach :=
  m.setBayState c (if 127 < m.fld (R.BB_ECR_TEC c) ∨ m.flag (R.BB_ECR_RP c) then 2 else 1)

/-- A frame received without error: REC falls by 1, or below the error-passive limit. Log 60 (PRESUMED). -/
def Mach.rxGood (m : Mach) (c : Nat) : Mach :=
  let m := m.lostArb c
  if m.flag (R.BB_ECR_RP c) then
    let (n, m) := m.fresh
    ((m.setFlag (R.BB_ECR_RP c) false).setFld (R.BB_ECR_REC c) (119 + (Config.freeWord n).toNat % 9)).bayErr c
  else m.setFld (R.BB_ECR_REC c) (m.fld (R.BB_ECR_REC c) - 1)

/-- A frame sent without error: TEC falls by 1. Log 60 (PRESUMED). -/
def Mach.txGood (m : Mach) (c : Nat) : Mach := (m.setFld (R.BB_ECR_TEC c) (m.fld (R.BB_ECR_TEC c) - 1)).bayErr c

/-- BIT_STUFF_CRC_FORM_ERROR (R351): the transmitter's counter rises by 8, the receiver's by 1. -/
def execBitStuffCrcFormError (t : Nat) (c : Fin 2) (tx : Bool) (s : State) : Host.Outcome State Fault Refusal :=
  runBay t c (fun m =>
    if tx then (m.setFld (R.BB_ECR_TEC c) (min 255 (m.fld (R.BB_ECR_TEC c) + 8))).bayErr c
    else if m.fld (R.BB_ECR_REC c) = 127 then (m.setFlag (R.BB_ECR_RP c) true).bayErr c
    else m.addFld (R.BB_ECR_REC c) 1) s

/-- The stations of a channel that a bus-off drops: configured, and not dropped out already. -/
def Mach.onBus (m : Mach) (c s : Nat) : Bool :=
  let x := m.sta c s
  x.conf && m.staState c s != ssIsolated && !(m.staState c s == ssAbsent && x.heard.isNone)

/-- BUS_OFF (R349, R351): every station of the channel drops out, in ascending order at one stamp. Log 60 (PRESUMED), 61 (DEDUCED). -/
def execBusOff (t : Nat) (c : Fin 2) (s : State) : Host.Outcome State Fault Refusal :=
  runBay t c (fun m =>
    let m := (m.txLost c).setFlag (R.BB_STAT_ENPEND c) false
    let m := m.setBay c { m.bay c with bus := none, offPend := false, sync := none }
    let m := ((m.setBayState c 3).satFld (R.BB_ECR_BOFF c) 1).raise (0x33C0 + c) 0 1
    foldM (allStations.filter (fun n => m.onBus c n)) (fun n m => m.dropout c n ssAbsent) m) s

/-- Turn a channel on: error-active, and the next frame begins. -/
def Mach.bayTurnOn (m : Mach) (c : Nat) : Mach := (m.setBayState c 1).txKick c

/-- BUS_OFF_RECOVERY (R325): error-active with both counters 0; off where EN has been cleared meanwhile. -/
def execBusOffRecovery (t : Nat) (c : Fin 2) (s : State) : Host.Outcome State Fault Refusal :=
  runAt t (fun m =>
    if m.fld (R.BB_STAT_STATE c) = 3 then
      let m := ((m.setFld (R.BB_ECR_TEC c) 0).setFld (R.BB_ECR_REC c) 0).setFlag (R.BB_ECR_RP c) false
      (if m.flag (R.BB_CFG_EN c) then m.bayTurnOn c else m.setBayState c 0).clear (0x33C0 + c) 0 1
    else m) s

/-! ### Channel and transmit buffers (R355, R356) -/

/-- A write of BBc.CFG.EN (R356): a channel on the bus goes off at the end of its frame. -/
def Mach.channelEn (m : Mach) (c : Nat) (on : Bool) : Mach :=
  let m := m.setFlag (R.BB_CFG_EN c) on
  if on then
    if (m.bay c).offPend then m.setFlag (R.BB_STAT_ENPEND c) true
    else if m.fld (R.BB_STAT_STATE c) = 0 then m.bayTurnOn c
    else m
  else if (m.bay c).bus.isSome then (m.setBay c { m.bay c with offPend := true }).setFlag (R.BB_STAT_ENPEND c) false
  else if m.bayOn c then m.setBayState c 0
  else m

/-- BB_CHANNEL_EN (R356). -/
def execBbChannelEn (t : Nat) (c : Fin 2) (on : Bool) (s : State) : Host.Outcome State Fault Refusal :=
  runAt t (fun m => if m.alive then m.channelEn c on else m) s

/-- A write of 1 to BBc.TXBUFn.CTRL.REQ (R355). -/
def Mach.txRequest (m : Mach) (c b : Nat) : Mach := (m.setFlag (R.BB_TXBUF_CTRL_REQ c b) true).txKick c

/-- TX_REQUEST (R355). -/
def execTxRequest (t : Nat) (c : Fin 2) (b : Fin 32) (s : State) : Host.Outcome State Fault Refusal :=
  runAt t (fun m => if m.alive then m.txRequest c b else m) s

/-- A write of 1 to BBc.TXBUFn.CTRL.CANCEL (R355): the frame waiting behind the buffers takes the place. -/
def Mach.txWithdraw (m : Mach) (c b : Nat) : Mach := ((m.txCancel c b).txRefill c).txKick c

/-- TX_CANCEL (R355). -/
def execTxCancel (t : Nat) (c : Fin 2) (b : Fin 32) (s : State) : Host.Outcome State Fault Refusal :=
  runAt t (fun m => if m.alive then m.txWithdraw c b else m) s

/-- TX_FRAME_DONE (R355): the frame leaves, its start of frame captured; a SYNC's capture is kept for its FOLLOW-UP (R340). -/
def execTxFrameDone (t : Nat) (c : Fin 2) (sof : Nat) (s : State) : Host.Outcome State Fault Refusal :=
  runAt t (fun m =>
    match (m.bay c).bus with
    | none => m
    | some n =>
      let id := m.fld (R.BB_TXBUF_ID c n)
      let d := m.txData c n
      let m := m.send (.can c id d)
      let m := ((m.setFlag (R.BB_TXBUF_CTRL_BUSY c n) false).setFlag (R.BB_TXBUF_CTRL_REQ c n) false).setFlag (R.BB_TXBUF_CTRL_DONE c n) true
      let m := ((m.setFld64 (R.BB_TXBUF_TS_LO c n) sof).addFld (R.BB_TXCNT c) 1).txGood c
      let sync := if id = idRef m.side ∧ byteAt d 0 = 1 then some (fieldAt d 2 2, sof) else (m.bay c).sync
      ((m.setBay c { m.bay c with bus := none, cancel := false, sync := sync }).txRefill c).frameEnd c) s

/-! ### Station time (R340) -/

/-- SYNC_SEND (R340): at a multiple of 10 ms. -/
def execSyncSend (t : Nat) (c : Fin 2) (s : State) : Host.Outcome State Fault Refusal :=
  runBay t c (fun m =>
    if m.holderRun && m.flag (R.BB_CFG_CONF c) && decide (m.now % 10000000 = 0) then
      let m := m.addFld (R.BB_RSEQ_RSEQ c) 1
      m.canSend c (idRef m.side) (m.refFrame 1 (m.fld (R.BB_RSEQ_RSEQ c)) 0)
    else m) s

/-- FOLLOW_UP_SEND (R340): the captured start of frame at the connector. -/
def execFollowUpSend (t : Nat) (c : Fin 2) (s : State) : Host.Outcome State Fault Refusal :=
  runBay t c (fun m =>
    match m.holderRun, (m.bay c).sync with
    | true, some (rseq, sof) =>
      (m.setBay c { m.bay c with sync := none }).canSend c (idRef m.side) (m.refFrame 2 rseq (sof + m.fld (R.BB_TXDLY_DELAY c) * 10))
    | _, _ => m) s

/-! ### Output refresh (R345) -/

/-- OUTR_REFRESH (R345): station s at (s − 1) / 16 of the refresh period, unless an urgent frame for it waits (R344). Log 63 (DEDUCED). -/
def execOutrRefresh (t : Nat) (c : Fin 2) (n : Fin 16) (s : State) : Host.Outcome State Fault Refusal :=
  runBay t c (fun m =>
    let per := m.fld (R.BB_TIMING_RFPER c)
    let st := n.val + 1
    if m.sendsOutputs && m.staSends c st && decide (0 < per) && decide (m.now % (per * 1000000) = n.val * (per * 62500)) && !m.txHas c (idOutu st m.side) then
      m.canSend c (idOutr st m.side) (m.outFrame c st 2 m.appliedCsn 0)
    else m) s

/-! ### Reception (R342, R343, R347, R351–R353) -/

/-- Whose frame an identifier announces (R328). -/
inductive CanClass where
  | ref (side : Nat)
  | outu (s side : Nat)
  | evt (s : Nat)
  | outr (s side : Nat)
  | sts (s : Nat)
  | svcReq (s : Nat)
  | svcResp (s : Nat)
  | hb (side : Nat)
  | other
  deriving DecidableEq, Repr

/-- The class of an identifier (R328). -/
def canClass (id : Nat) : CanClass :=
  if 0x010 ≤ id ∧ id ≤ 0x011 then .ref (id - 0x010)
  else if 0x040 ≤ id ∧ id ≤ 0x05F then .outu ((id - 0x040) / 2 + 1) (id % 2)
  else if 0x081 ≤ id ∧ id ≤ 0x090 then .evt (id - 0x080)
  else if 0x100 ≤ id ∧ id ≤ 0x11F then .outr ((id - 0x100) / 2 + 1) (id % 2)
  else if 0x181 ≤ id ∧ id ≤ 0x190 then .sts (id - 0x180)
  else if 0x200 ≤ id ∧ id ≤ 0x21F then (if id % 2 = 0 then .svcReq ((id - 0x200) / 2 + 1) else .svcResp ((id - 0x200) / 2 + 1))
  else if 0x7F0 ≤ id ∧ id ≤ 0x7F1 then .hb (id - 0x7F0)
  else .other

/-- The station whose frame it is. -/
def canStation (id : Nat) : Option Nat :=
  match canClass id with
  | .evt s => some s
  | .sts s => some s
  | .svcResp s => some s
  | .ref _ => none
  | .outu _ _ => none
  | .outr _ _ => none
  | .svcReq _ => none
  | .hb _ => none
  | .other => none

/-- A payload shorter than its layout, a STATION that differs from the identifier, or a COUNT of 0 or above 5 (R351). -/
def canBad (id : Nat) (d : List Byte) : Bool :=
  match canClass id with
  | .ref _ => decide (d.length < 16)
  | .outu s _ => decide (d.length < 24) || byteAt d 1 != s
  | .outr s _ => decide (d.length < 24) || byteAt d 1 != s
  | .evt s => decide (d.length < 16 ∨ byteAt d 2 = 0 ∨ 5 < byteAt d 2 ∨ d.length < 4 + 12 * byteAt d 2) || byteAt d 1 != s
  | .sts s => decide (d.length < 48) || byteAt d 1 != s
  | .svcReq s => decide (d.length < 64) || byteAt d 1 != s
  | .svcResp s => decide (d.length < 64) || byteAt d 1 != s
  | .hb _ => decide (d.length < 16)
  | .other => true

/-- Is an identifier one that only this module sends (R351): an identifier of its own side? -/
def Mach.ownId (m : Mach) (id : Nat) : Bool :=
  match canClass id with
  | .ref side => side == m.side
  | .outu _ side => side == m.side
  | .outr _ side => side == m.side
  | .hb side => side == m.side
  | .evt _ => false
  | .sts _ => false
  | .svcReq _ => false
  | .svcResp _ => false
  | .other => false

/-- A station's frame that a receive buffer has taken: discarded where it is malformed, where the package does not configure the station, and
where the station is isolated (R351, R352). Log 59 (DEDUCED). -/
def Mach.stationFrame (m : Mach) (c n : Nat) (f : CanFrame) (g : Mach → Mach) : Mach :=
  let (taken, m) := (m.rxGood c).rxStore c f.id.toNat f.sof f.data
  if !taken || !m.bayRuns then m
  else if canBad f.id.toNat f.data then (m.satFld (R.BB_VIOL_MALF c) 1).staViol c n
  else if !(m.sta c n).conf then (m.staViol c n).unconfigured c
  else if m.staState c n = ssIsolated then m
  else g m

/-- EVT_FRAME (R342). -/
def execEvtFrame (t : Nat) (c : Fin 2) (f : CanFrame) (s : State) : Host.Outcome State Fault Refusal :=
  runBay t c (fun m =>
    match canClass f.id.toNat with
    | .evt n => m.stationFrame c n f (fun m => m.evt c n f.data)
    | _ => m) s

/-- STS_FRAME (R343, R347, R348, R594). -/
def execStsFrame (t : Nat) (c : Fin 2) (f : CanFrame) (s : State) : Host.Outcome State Fault Refusal :=
  runBay t c (fun m =>
    match canClass f.id.toNat with
    | .sts n => m.stationFrame c n f (fun m => m.sts c n f.sof f.data)
    | _ => m) s

/-- SVC_RESPONSE (R347, R595): a module that does not run the stations' life takes nothing from it. -/
def execSvcResponse (t : Nat) (c : Fin 2) (f : CanFrame) (s : State) : Host.Outcome State Fault Refusal :=
  runBay t c (fun m =>
    match canClass f.id.toNat with
    | .svcResp n => m.stationFrame c n f (fun m =>
        if m.holderRun then m.svcResponse c n f.data else m.setSta c n { m.sta c n with heard := some m.now })
    | _ => m) s

/-- A frame that the partner sends (R328): one on an identifier of the other side, or a service request. -/
def Mach.partnerId (m : Mach) (id : Nat) : Bool :=
  match canClass id with
  | .ref side => side == 1 - m.side
  | .outu _ side => side == 1 - m.side
  | .outr _ side => side == 1 - m.side
  | .hb side => side == 1 - m.side
  | .svcReq _ => true
  | .evt _ => false
  | .sts _ => false
  | .svcResp _ => false
  | .other => false

/-- HEARTBEAT_FRAME (R265, R331): the partner's heartbeat, for a module in a pair. The partner's other frames are stored and counted, and nothing
is taken from them (R353). -/
def execHeartbeatFrame (t : Nat) (c : Fin 2) (f : CanFrame) (s : State) : Host.Outcome State Fault Refusal :=
  runBay t c (fun m =>
    if m.partnerId f.id.toNat then
      let (taken, m) := (m.rxGood c).rxStore c f.id.toNat f.sof f.data
      if !taken then m
      else if canBad f.id.toNat f.data then m.satFld (R.BB_VIOL_MALF c) 1
      else if canClass f.id.toNat = .hb (1 - m.side) ∧ m.linkOn then m.heartbeat f.data
      else m
    else m) s

/-- MALFORMED_FRAME (R351): `foreign` tells a classical or remote frame or a 29-bit identifier; otherwise the frame is discarded for its
identifier, its length or its contents. Log 59 (DEDUCED). -/
def execMalformedFrame (t : Nat) (c : Fin 2) (foreign : Bool) (f : CanFrame) (s : State) : Host.Outcome State Fault Refusal :=
  runBay t c (fun m =>
    if foreign then ((m.rxGood c).addFld (R.BB_RXCNT c) 1).malformed c
    else if canBad f.id.toNat f.data then
      let (taken, m) := (m.rxGood c).rxStore c f.id.toNat f.sof f.data
      let m := if taken then m.satFld (R.BB_VIOL_MALF c) 1 else m
      match canStation f.id.toNat with
      | some n => if m.bayRuns then m.staViol c n else m
      | none => m
    else m) s

/-- FOREIGN_TRANSMITTER (R351). -/
def execForeignTransmitter (t : Nat) (c : Fin 2) (f : CanFrame) (s : State) : Host.Outcome State Fault Refusal :=
  runBay t c (fun m =>
    if m.ownId f.id.toNat then
      let m := ((m.rxGood c).addFld (R.BB_RXCNT c) 1).satFld (R.BB_VIOL_FOREIGN c) 1
      if m.faultOn (0x33C2 + c) then m else m.raise (0x33C2 + c) 0 1
    else m) s

/-! ### The life of a station (R347, R349, R352, R595) -/

/-- EXCHANGE_TIMEOUT (R595): 20 ms without an answer. -/
def execExchangeTimeout (t : Nat) (c : Fin 2) (n : Fin 16) (s : State) : Host.Outcome State Fault Refusal :=
  runAt t (fun m =>
    match (m.sta c (n.val + 1)).exch with
    | some x => if m.holderRun && decide (x.since + 20000000 ≤ m.now) then m.exchFail c (n.val + 1) else m
    | none => m) s

/-- SYNC_WAIT_EXPIRY (R347): 1 s in SYNC. -/
def execSyncWaitExpiry (t : Nat) (c : Fin 2) (n : Fin 16) (s : State) : Host.Outcome State Fault Refusal :=
  runAt t (fun m =>
    let st := n.val + 1
    if m.holderRun && m.staState c st == ssSync && decide ((m.sta c st).since + 1000000000 ≤ m.now) then m.startImage c st else m) s

/-- STATION_DROPOUT (R347, R349): silence for TDROP. -/
def execStationDropout (t : Nat) (c : Fin 2) (n : Fin 16) (s : State) : Host.Outcome State Fault Refusal :=
  runAt t (fun m =>
    let st := n.val + 1
    match (m.sta c st).heard with
    | some h =>
      if m.bayRuns && m.staState c st != 0 && decide (h + m.fld (R.BB_TIMING_TDROP c) * 1000000 ≤ m.now) then m.dropout c st ssAbsent else m
    | none => m) s

/-- STATION_ISOLATION (R352): 16 violations within 1 s. -/
def execStationIsolation (t : Nat) (c : Fin 2) (n : Fin 16) (s : State) : Host.Outcome State Fault Refusal :=
  runAt t (fun m =>
    let st := n.val + 1
    let v := (m.sta c st).viol.filter (fun t => decide (m.now < t + 1000000000))
    if m.bayRuns && m.staState c st != 0 && m.staState c st != ssIsolated && decide (16 ≤ v.length) then
      (m.dropout c st ssIsolated).raise (staCode 3 c st) 0 1
    else m) s

/-- ISOLATION_END (R347): 10 s. -/
def execIsolationEnd (t : Nat) (c : Fin 2) (n : Fin 16) (s : State) : Host.Outcome State Fault Refusal :=
  runAt t (fun m =>
    let st := n.val + 1
    if m.staState c st == ssIsolated && decide ((m.sta c st).since + 10000000000 ≤ m.now) then m.setStaState c st ssAbsent else m) s

/-- CONFIG_RETRY (R347): the next STS of the station begins again. -/
def execConfigRetry (t : Nat) (c : Fin 2) (n : Fin 16) (s : State) : Host.Outcome State Fault Refusal :=
  runAt t (fun m =>
    let st := n.val + 1
    match (m.sta c st).retryAt with
    | some r => if r ≤ m.now then m.setSta c st { m.sta c st with retryAt := none } else m
    | none => m) s

/-! ### Heartbeats (R265, R332) -/

/-- HEARTBEAT_SEND (R332): a module in RUN without the token, every L / 3. Log 63 (DEDUCED). -/
def execHeartbeatSend (t : Nat) (s : State) : Host.Outcome State Fault Refusal :=
  runAt t (fun m =>
    let due := match m.pair.hbSent with
      | some u => decide (u + m.leaseNs / 3 ≤ m.now + 10000)
      | none => true
    if m.st == .run && m.paired && !m.hasToken && due then
      { m.sendHeartbeats with pair := { m.pair with hbSent := some m.now } }
    else m) s

end Sys2Proof.Machine
end

