-- ==== Sys2Proof/Machine/LocalOps.lean ====
section
/-!
DEFINITION. Scan-local data as an instruction reads and writes it (R91–R93, R137).
-/
namespace Sys2Proof.Machine
open Sys2Proof

/-- First byte of the preset area (R91). -/
def Mach.presetBase (m : Mach) (e : Nat) : Nat := 0x8000 - 1024 * m.fld (R.ENG_CFG_PRESET e)

/-- R92: does an access of `n` bytes keep natural alignment and the 32 KiB? -/
def localOk (a n : Nat) : Bool := a % n == 0 && decide (a + n ≤ 0x8000)

/-- One scan-local byte at the X2 stage: the preset area, or the working area with the stores that complete before (R98). -/
def Ctx.localByte (c : Ctx) (m : Mach) (a : Nat) : Byte :=
  if m.presetBase c.e ≤ a then sget 0 (m.eng c.e).preset a
  else (lastWr (m.eng c.e).flight (c.i + 4) (fun w => match w with
    | .ldata a' v => if a' = a then some v else none
    | _ => none)).getD (sget 0 (m.eng c.e).ldata a)

/-- `n` scan-local bytes as a little-endian number. -/
def Ctx.localNat (c : Ctx) (m : Mach) (a n : Nat) : Nat := leNat ((List.range n).map (fun i => c.localByte m (a + i)))

/-- A scan-local load of `n` bytes (R137): the register completes at MA; an access that breaks R92 raises LDATA. -/
def Mach.localLoad (m : Mach) (e : Nat) (gd : Guard) (f : FmtD) (n : Nat) (ext : Nat → Word) : Mach :=
  m.issue e gd .none none stMA [f.a] [] (fun c m =>
    let a := addrD (c.g f.a) f.off n
    if localOk a n then c.setG stMA f.r (ext (c.localNat m a n)) m else m.engineFault c.e 0x03 c.pc)

/-- A scan-local store of `n` bytes (R137), written at MA; a store into the preset area raises LDATA too. -/
def Mach.localStore (m : Mach) (e : Nat) (gd : Guard) (f : FmtD) (n : Nat) : Mach :=
  m.issue e gd .none none stMA [f.a, f.r] [] (fun c m =>
    let a := addrD (c.g f.a) f.off n
    if localOk a n && decide (a + n ≤ m.presetBase c.e) then
      foldM ((leBytes n (c.g f.r).toNat).zipIdx) (fun b m => c.put stMA (.ldata (a + b.2) b.1) m) m
    else m.engineFault c.e 0x03 c.pc)

end Sys2Proof.Machine
end

