-- ==== Sys2Proof/Machine/ImageOps.lean ====
section
/-!
DEFINITION. The image as instructions address it: ranges (R139), loads and stores of bits, words and lanes (R138–R141), gathers
and scatters (R118–R122).
-/
namespace Sys2Proof.Machine
open Sys2Proof

/-- The highest index of a space (R139, R143, R151). -/
def spaceTop (sp : Nat) : Nat :=
  if sp = spI then 8191 else if sp = spQ then 4095 else if sp = spM then 65535 else if sp = spW then 262143
  else if sp = spT then 8191 else if sp = spC then 4095 else 16383

/-- The keys of `n` consecutive elements. -/
def ikeys (sp i n : Nat) : List Nat := (List.range n).map (fun k => ikey sp (i + k))

/-- Load one element into g(r) at WB+1 (R138). -/
def Mach.imgLoad (m : Mach) (e : Nat) (gd : Guard) (f : FmtD) (sp : Nat) : Mach :=
  m.issue e gd .none none stWB1 [f.a] [] (fun c m =>
    let i := addrD (c.g f.a) f.off 1
    if spaceTop sp < i then m.engineFault c.e 0x04 c.pc
    else
      let (v, m) := c.read sp i (c.earlyImg [ikey sp i] m)
      c.setG stWB1 f.r (v.setWidth 32) m)

/-- Load 32 consecutive bits into g(r) (R138). -/
def Mach.imgLoadLanes (m : Mach) (e : Nat) (gd : Guard) (f : FmtD) (sp : Nat) : Mach :=
  m.issue e gd .none none stWB1 [f.a] [] (fun c m =>
    let i := addrD (c.g f.a) f.off 1
    if spaceTop sp < i + 31 then m.engineFault c.e 0x04 c.pc
    else
      let (bs, m) := c.readBits sp i 32 (c.earlyImg (ikeys sp i 32) m)
      c.setG stWB1 f.r (lanesOf bs) m)

/-- Write three lane registers: values, quality bits 0 and quality bits 1 (R120). -/
def Ctx.setQuality (c : Ctx) (st r : Nat) (pts : List (Bool × Nat)) (m : Mach) : Mach :=
  let m := c.setG st r (lanesOf (pts.map (·.1))) m
  let m := c.setG st (r + 1) (lanesOf (pts.map (fun p => p.2 % 2 == 1))) m
  c.setG st (r + 2) (lanesOf (pts.map (fun p => p.2 / 2 % 2 == 1))) m

/-- LDQ (R138): 32 values of I with their quality; r above 61 is a reserved opcode (R129). -/
def Mach.loadQuality (m : Mach) (e : Nat) (gd : Guard) (f : FmtD) : Mach :=
  m.issue e gd .none (if 61 < f.r.val then some 0x01 else none) stWB1 [f.a] [] (fun c m =>
    let i := addrD (c.g f.a) f.off 1
    if spaceTop spI < i + 31 then m.engineFault c.e 0x04 c.pc
    else c.setQuality stWB1 f.r ((List.range 32).map (fun k => c.point (i + k))) m)

/-- Store one element: the low bit of g(r), or the word (R138). -/
def Mach.imgStore (m : Mach) (e : Nat) (gd : Guard) (f : FmtD) (sp : Nat) : Mach :=
  m.issue e gd .none none stMA [f.a, f.r] [] (fun c m =>
    let i := addrD (c.g f.a) f.off 1
    if spaceTop sp < i then m.engineFault c.e 0x04 c.pc
    else
      let v : CellV := if sp = spW then (c.g f.r).setWidth 128 else bitV ((c.g f.r).getLsbD 0)
      c.write stMA sp i v m)

/-- Store the bits of g(r) under the mask g(r + 1) (R138, R141); r equal to 63 is a reserved opcode (R129). -/
def Mach.imgStoreLanes (m : Mach) (e : Nat) (gd : Guard) (f : FmtD) (sp : Nat) : Mach :=
  m.issue e gd .none (if f.r.val = 63 then some 0x01 else none) stMA [f.a, f.r, f.r + 1] [] (fun c m =>
    let i := addrD (c.g f.a) f.off 1
    if spaceTop sp < i + 31 then m.engineFault c.e 0x04 c.pc
    else foldM ((List.range 32).filter (fun k => (c.g (f.r.val + 1)).getLsbD k))
      (fun k m => c.write stMA sp (i + k) (bitV ((c.g f.r).getLsbD k)) m) m)

/-! ### Descriptors (R118, R122) -/

/-- One lane of a descriptor: the space and the index, none when the lane is disabled. -/
def laneOf (w : Nat) : Option (Nat × Nat) := if w / 2 ^ 31 % 2 = 1 then none else some (w / 2 ^ 18 % 8, w % 2 ^ 18)

/-- R122: is an enabled lane's entry bad: a space other than I, Q, M, E, or an index beyond it? -/
def laneBad (l : Nat × Nat) : Bool := !(l.1 == 0 || l.1 == 1 || l.1 == 2 || l.1 == 6) || decide (spaceTop l.1 < l.2)

/-- A descriptor's 32 lanes as read at X2, or none when its address or an entry breaks R118, R122 or R139. -/
def Ctx.descriptor (c : Ctx) (m : Mach) (a : Nat) : Option (List (Option (Nat × Nat))) :=
  if a % 128 ≠ 0 ∨ 0x7F80 < a then none
  else
    let ls := (List.range 32).map (fun k => laneOf (c.localNat m (a + 4 * k) 4))
    if ls.any (fun l => (l.map laneBad).getD false) then none else some ls

/-- One lane of a gather: value and quality (R119, R120). -/
def Ctx.lane (c : Ctx) (l : Option (Nat × Nat)) (m : Mach) : (Bool × Nat) × Mach :=
  match l with
  | none => ((false, 1), m)
  | some (sp, i) =>
    if sp = spI then (c.point i, m)
    else
      let (v, m) := c.read sp i m
      ((v != 0, 0), m)

/-- All lanes of a gather, lane 0 first. -/
def Ctx.lanes (c : Ctx) : List (Option (Nat × Nat)) → Mach → List (Bool × Nat) × Mach
  | [], m => ([], m)
  | l :: ls, m =>
    let (x, m) := c.lane l m
    let (xs, m) := c.lanes ls m
    (x :: xs, m)

/-- The image keys of a descriptor's enabled lanes. -/
def laneKeys (ls : List (Option (Nat × Nat))) : List Nat := ls.filterMap (fun l => l.map (fun x => ikey x.1 x.2))

/-- BGTH and BGTHQ (R119, R120). -/
def Mach.gather (m : Mach) (e : Nat) (gd : Guard) (f : FmtD) (quality : Bool) : Mach :=
  m.issue e gd .none (if quality && decide (61 < f.r.val) then some 0x01 else none) stWB5 [f.a] [] (fun c m =>
    match c.descriptor m (addrD (c.g f.a) f.off 128) with
    | none => m.engineFault c.e 0x05 c.pc
    | some ls =>
      let (xs, m) := c.lanes ls (c.earlyImg (laneKeys ls) m)
      if quality then c.setQuality stWB5 f.r xs m else c.setG stWB5 f.r (lanesOf (xs.map (·.1))) m)

/-- The writes of a scatter (R121): one for each lane set in the mask and enabled, the higher-numbered lane last. -/
def Ctx.scatter (c : Ctx) (st : Nat) (ls : List (Option (Nat × Nat))) (vals mask : Word) (m : Mach) : Mach :=
  foldM (ls.zipIdx) (fun (l, k) m =>
    match l with
    | some (sp, i) => if mask.getLsbD k then c.write st sp i (bitV (vals.getLsbD k)) m else m
    | none => m) m

/-- BSCT (R121): values from g(r), the mask from g(r + 1). -/
def Mach.scatterInstr (m : Mach) (e : Nat) (gd : Guard) (f : FmtD) : Mach :=
  m.issue e gd .none (if f.r.val = 63 then some 0x01 else none) stMA [f.a, f.r, f.r + 1] [] (fun c m =>
    match c.descriptor m (addrD (c.g f.a) f.off 128) with
    | none => m.engineFault c.e 0x05 c.pc
    | some ls => c.scatter stMA ls (c.g f.r) (c.g (f.r.val + 1)) m)

end Sys2Proof.Machine
end

