-- ==== Sys2Proof/Machine/EngImage.lean ====
section
/-!
DEFINITION. Image loads and stores, gathers and scatters (R119–R121, R138–R141).
-/
namespace Sys2Proof.Machine
open Sys2Proof

/-- LIB (R138): one value of I from the snapshot. -/
def execLib (e : Fin 16) (gd : Guard) (f : FmtD) (s : State) : Host.Outcome State Fault Refusal :=
  runEng (fun m => m.imgLoad e gd f spI) s

/-- LQB (R138). -/
def execLqb (e : Fin 16) (gd : Guard) (f : FmtD) (s : State) : Host.Outcome State Fault Refusal :=
  runEng (fun m => m.imgLoad e gd f spQ) s

/-- LMB (R138): sets the read-set bit of its block (R73). -/
def execLmb (e : Fin 16) (gd : Guard) (f : FmtD) (s : State) : Host.Outcome State Fault Refusal :=
  runEng (fun m => m.imgLoad e gd f spM) s

/-- LIW (R138). -/
def execLiw (e : Fin 16) (gd : Guard) (f : FmtD) (s : State) : Host.Outcome State Fault Refusal :=
  runEng (fun m => m.imgLoadLanes e gd f spI) s

/-- LQW (R138). -/
def execLqw (e : Fin 16) (gd : Guard) (f : FmtD) (s : State) : Host.Outcome State Fault Refusal :=
  runEng (fun m => m.imgLoadLanes e gd f spQ) s

/-- LMW (R138, R141). -/
def execLmw (e : Fin 16) (gd : Guard) (f : FmtD) (s : State) : Host.Outcome State Fault Refusal :=
  runEng (fun m => m.imgLoadLanes e gd f spM) s

/-- LDQ (R120, R138). -/
def execLdq (e : Fin 16) (gd : Guard) (f : FmtD) (s : State) : Host.Outcome State Fault Refusal :=
  runEng (fun m => m.loadQuality e gd f) s

/-- LWW (R138). -/
def execLww (e : Fin 16) (gd : Guard) (f : FmtD) (s : State) : Host.Outcome State Fault Refusal :=
  runEng (fun m => m.imgLoad e gd f spW) s

/-- SQB (R138): write(Q, i, g(r)[0]). -/
def execSqb (e : Fin 16) (gd : Guard) (f : FmtD) (s : State) : Host.Outcome State Fault Refusal :=
  runEng (fun m => m.imgStore e gd f spQ) s

/-- SMB (R138). -/
def execSmb (e : Fin 16) (gd : Guard) (f : FmtD) (s : State) : Host.Outcome State Fault Refusal :=
  runEng (fun m => m.imgStore e gd f spM) s

/-- SQW (R138). -/
def execSqw (e : Fin 16) (gd : Guard) (f : FmtD) (s : State) : Host.Outcome State Fault Refusal :=
  runEng (fun m => m.imgStoreLanes e gd f spQ) s

/-- SMW (R138, R141). -/
def execSmw (e : Fin 16) (gd : Guard) (f : FmtD) (s : State) : Host.Outcome State Fault Refusal :=
  runEng (fun m => m.imgStoreLanes e gd f spM) s

/-- SWW (R34, R138). -/
def execSww (e : Fin 16) (gd : Guard) (f : FmtD) (s : State) : Host.Outcome State Fault Refusal :=
  runEng (fun m => m.imgStore e gd f spW) s

/-- BGTH (R118, R119). -/
def execBgth (e : Fin 16) (gd : Guard) (f : FmtD) (s : State) : Host.Outcome State Fault Refusal :=
  runEng (fun m => m.gather e gd f false) s

/-- BGTHQ (R119, R120). -/
def execBgthq (e : Fin 16) (gd : Guard) (f : FmtD) (s : State) : Host.Outcome State Fault Refusal :=
  runEng (fun m => m.gather e gd f true) s

/-- BSCT (R121, R122). -/
def execBsct (e : Fin 16) (gd : Guard) (f : FmtD) (s : State) : Host.Outcome State Fault Refusal :=
  runEng (fun m => m.scatterInstr e gd f) s

end Sys2Proof.Machine
end

