-- ==== Sys2Proof/Machine/EngCustom.lean ====
section
/-!
DEFINITION. Custom instructions: the decode table's entries and their verification (R161–R163, R172, R175), and the
micro-sequence (R164–R171).
-/
namespace Sys2Proof.Machine
open Sys2Proof

/-! ### Entries of the decode table (R162, R163) -/

/-- A micro-operation word's fields (R165). -/
def uOp (w : Nat) : Nat := w / 2 ^ 26 % 64
def uDst (w : Nat) : Nat := w / 2 ^ 21 % 32
def uSa (w : Nat) : Nat := w / 2 ^ 16 % 32
def uSb (w : Nat) : Nat := w / 2 ^ 11 % 32
def uK (w : Nat) : Nat := w % 2 ^ 11

/-- An entry of the decode table as its header gives it (R162). -/
structure CustEntry where
  opc : Nat
  fmt : Nat
  nuop : Nat
  cyc : Nat
  dist : Nat
  flags : Nat
  shdmax : Nat
  maps : List Nat
  crc : Nat
  words : List Nat
  deriving DecidableEq, Repr

/-- The entry whose 160 bytes are given. -/
def CustEntry.ofBytes (b : List Byte) : CustEntry :=
  { opc := byteAt b 0, fmt := byteAt b 1, nuop := byteAt b 2, cyc := byteAt b 3, dist := byteAt b 4, flags := byteAt b 5,
    shdmax := fieldAt b 6 2, maps := (List.range 4).map (fun i => byteAt b (8 + i)), crc := fieldAt b 28 4,
    words := (List.range 32).map (fun i => fieldAt b (32 + 4 * i) 4) }

/-- Is the entry valid (R162)? -/
def CustEntry.valid (x : CustEntry) : Bool := x.opc.testBit 7

/-- Role and group size of operand-map byte `i` (R163). -/
def CustEntry.role (x : CustEntry) (i : Nat) : Nat := x.maps.getD i 0 % 16
def CustEntry.size (x : CustEntry) (i : Nat) : Nat := x.maps.getD i 0 / 16 % 4 + 1

/-- The micro-operations of the sequence. -/
def CustEntry.uops (x : CustEntry) : List Nat := x.words.take x.nuop

/-- Size of source group A, of source group B and of the destination group; 0 where MAP gives none (R163). -/
def CustEntry.sizeA (x : CustEntry) : Nat :=
  if x.fmt = 0 then (if x.role 1 = 1 then x.size 1 else 0) else if x.role 0 = 1 ∨ x.role 0 = 3 then x.size 0 else 0
def CustEntry.sizeB (x : CustEntry) : Nat := if x.fmt = 0 ∧ x.role 2 = 1 then x.size 2 else 0
def CustEntry.sizeD (x : CustEntry) : Nat :=
  if x.fmt = 0 then (if x.role 2 = 2 then x.size 2 else 0) else if x.role 0 = 2 ∨ x.role 0 = 3 then x.size 0 else 0

/-! ### Timing figures (R166, R172) -/

/-- Sequencer cycles of a micro-operation (R166). -/
def uCyc (op : Nat) : Nat :=
  if op ≤ 0x1A then 1 else if op = 0x1B then 0 else if op = 0x1C then 3 else if op ≤ 0x20 then 5 else if op = 0x21 then 9 else 0

/-- Passes of each micro-operation: K[7:5] + 1 inside a UREP body (R166). -/
def uPasses (ws : List Nat) (i : Nat) : Nat :=
  ((ws.zipIdx).filterMap (fun (w, u) =>
    if uOp w = 0x1B ∧ u < i ∧ i ≤ u + uK w % 32 then some (uK w / 32 % 8 + 1) else none)).foldl (· * ·) 1

/-- A sum over the micro-operations, each taken once per pass. -/
def uSum (ws : List Nat) (f : Nat → Nat) : Nat := ((ws.zipIdx).map (fun (w, i) => f (uOp w) * uPasses ws i)).sum

/-- The cycle count of R172. -/
def CustEntry.cycles (x : CustEntry) : Nat := max 1 (uSum x.uops uCyc)

/-- Is a micro-operation an image write (UWQB, UWMB, UWWW, USCT)? -/
def uWrites (op : Nat) : Bool := decide (0x22 ≤ op ∧ op ≤ 0x25)

/-! ### Verification at load (R175) -/

/-- Does a micro-operation compute a value into d? -/
def uComputes (op : Nat) : Bool := decide ((1 ≤ op ∧ op ≤ 0x18) ∨ (0x1C ≤ op ∧ op ≤ 0x21))

/-- Is an operand code defined in R165, on a field that MAP gives a matching role (D05)? -/
def CustEntry.readable (x : CustEntry) (code : Nat) : Bool :=
  if code ≤ 7 then true
  else if code ≤ 0x0B then decide (code - 8 < x.sizeA)
  else if code ≤ 0x0F then decide (code - 12 < x.sizeB)
  else if code = 0x10 then x.fmt == 0 && (x.role 3 == 1 || x.role 3 == 2)
  else if code = 0x11 then (if x.fmt = 0 then x.role 2 == 3 || x.role 2 == 4 else x.role 1 == 1 || x.role 1 == 2)
  else decide (code ≤ 0x16)

/-- D02: a MAP byte holds a role of its field with a permitted group size; unused MAP bytes are 0. -/
def mapOk (fmt i v : Nat) : Bool :=
  let role := v % 16
  let top := if fmt = 0 then [1, 1, 4, 2].getD i 0 else [3, 2, 0, 0].getD i 0
  let grp := if fmt = 0 then (i == 1 && role == 1) || (i == 2 && (role == 1 || role == 2)) else i == 0 && 1 ≤ role
  v / 64 == 0 && decide (role ≤ top) && (v / 16 % 4 == 0 || grp)

/-- The indexes of the micro-operations that break a rule. Log 26 (DEDUCED). -/
def uBreaks (ws : List Nat) (p : Nat → Nat → Bool) : List Nat :=
  (ws.zipIdx).filterMap (fun (w, i) => if p w i then some i else none)

/-- D07: a USKZ or USKNZ range ends inside the sequence; one that starts in a UREP body ends in it; one that contains a UREP
contains its whole body. -/
def skipBad (ws : List Nat) (w i : Nat) : Bool :=
  let e := i + uK w % 32
  (uOp w == 0x19 || uOp w == 0x1A) &&
    (decide (ws.length ≤ e) || (ws.zipIdx).any (fun (v, u) =>
      uOp v == 0x1B && (let be := u + uK v % 32
        (decide (u < i ∧ i ≤ be) && decide (be < e)) || (decide (i < u ∧ u ≤ e) && decide (e < be)))))

/-- D08: a UREP body holds 1–31 micro-operations inside the sequence, passes 1–7, and no UREP. -/
def repBad (ws : List Nat) (w i : Nat) : Bool :=
  let n := uK w % 32
  uOp w == 0x1B && (n == 0 || uK w / 32 % 8 == 0 || decide (ws.length ≤ i + n) ||
    ((ws.drop (i + 1)).take n).any (fun v => uOp v == 0x1B))

/-- The breaks of one rule of R175, the header's (0xFF) first, then micro-operation indexes in ascending order. -/
def CustEntry.breaks (x : CustEntry) (n : Nat) (bytes : List Byte) (rule : Nat) : List Nat :=
  let hdr (bad : Bool) : List Nat := if bad then [0xFF] else []
  let ws := x.uops
  match rule with
  | 1 => hdr (x.opc % 16 != n || x.opc / 16 % 8 != 0 || x.flags / 8 != 0)
  | 2 => hdr (decide (1 < x.fmt) || (List.range 4).any (fun i => !mapOk x.fmt i (x.maps.getD i 0)))
  | 3 => hdr (x.nuop == 0 || decide (32 < x.nuop)) ++
      ((List.range 32).filter (fun i => decide (x.nuop ≤ i) && x.words.getD i 0 != 0))
  | 4 => uBreaks ws (fun w _ => decide (0x27 < uOp w))
  | 5 => uBreaks ws (fun w _ => !x.readable (uDst w) || !x.readable (uSa w) || !x.readable (uSb w))
  | 6 => uBreaks ws (fun w _ =>
      (uComputes (uOp w) && decide (7 < uDst w)) || (uOp w == 0x26 && decide (x.sizeD ≤ uK w % 4)) ||
      (uOp w == 0x27 && !(x.fmt == 0 && x.role 0 == 1)))
  | 7 => uBreaks ws (skipBad ws)
  | 8 => uBreaks ws (repBad ws)
  | 9 => hdr (x.cycles != x.cyc || decide (40 < x.cyc))
  | 10 => hdr (x.dist == 0 || decide (40 < x.dist) || decide (x.dist < x.cyc) ||
      (x.flags.testBit 0 && decide (x.dist < x.cyc + 1)))
  | 11 => hdr (x.flags.testBit 0 != ws.any (fun w => uOp w == 0x27) || x.flags.testBit 1 != ws.any (fun w => uOp w == 0x26) ||
      x.flags.testBit 2 != ws.any (fun w => uWrites (uOp w)))
  | 12 => let k := uSum ws (fun op => if op = 0x25 then 32 else if uWrites op then 1 else 0)
      hdr (x.shdmax != k || decide (2048 < k))
  | 13 => hdr (crc32 (bytes.take 28 ++ (bytes.drop 32).take 128) != BitVec.ofNat 32 x.crc)
  | _ => []

/-- The first break of one entry: index and rule. An entry whose VALID bit is clear is not verified. Log 26 (DEDUCED). -/
def custCheckEntry (n : Nat) (bytes : List Byte) : Option (Nat × Nat) :=
  let x := CustEntry.ofBytes bytes
  if x.valid then
    (List.range 13).findSome? (fun r => ((x.breaks n bytes (r + 1)).head?).map (fun i => (i, r + 1)))
  else none

/-- R175: the first break of a decode table: entry, index and rule. -/
def custCheck (tbl : List Byte) : Option (Nat × Nat × Nat) :=
  (List.range 16).findSome? (fun n => custCheckEntry n (sliceAt tbl (160 * n) 160) |>.map (fun r => (n, r)))

/-! ### The micro-sequence (R164–R171) -/

/-- The operands of one execution: members of the source groups, C, IMM and the snapshot time (R165). -/
structure CustArgs where
  a : List Word
  b : List Word
  c : Word
  imm : Word
  snapt : Nat
  deriving DecidableEq, Repr

/-- A micro-sequence under way: its temporaries, its own image writes, its destination members, its destination predicate, the image keys it
has read, the sequencer cycles it has taken (R167), a fault, and the module with the read-set bits set so far. -/
structure CustRun where
  t : SMap Word := []
  own : SMap (Option CellV) := []
  outs : List (Nat × Word) := []
  pd : Option Bool := none
  keys : List Nat := []
  cyc : Nat := 0
  fault : Option Nat := none
  m : Mach
  deriving DecidableEq, Repr

/-- The value of an operand code (R165). -/
def CustArgs.val (x : CustArgs) (u : CustRun) (rix code : Nat) : Word :=
  if code ≤ 7 then sget 0 u.t code
  else if code ≤ 0x0B then x.a.getD (code - 8) 0
  else if code ≤ 0x0F then x.b.getD (code - 12) 0
  else match code with
    | 0x10 => x.c
    | 0x11 => x.imm
    | 0x13 => 0xFFFFFFFF#32
    | 0x14 => BitVec.ofNat 32 x.snapt
    | 0x15 => BitVec.ofNat 32 (x.snapt / 2 ^ 32)
    | 0x16 => BitVec.ofNat 32 rix
    | _ => 0

/-- A truth value as 0 or 1. -/
def boolW (b : Bool) : Word := if b then 1 else 0

/-- The computing micro-operations 0x01–0x18 (R166): the new value of d from d, a, b and K. -/
def uCompute (op : Nat) (d a b : Word) (k : Nat) : Word :=
  match op with
  | 0x01 => a
  | 0x02 => BitVec.ofNat 32 k
  | 0x03 => a &&& b
  | 0x04 => a ||| b
  | 0x05 => a ^^^ b
  | 0x06 => a &&& ~~~b
  | 0x07 => ~~~a
  | 0x08 => (a &&& b) ||| (d &&& ~~~b)
  | 0x09 => (a &&& b) ||| (a &&& d) ||| (b &&& d)
  | 0x0A => a + b
  | 0x0B => a - b
  | 0x0C => a + (BitVec.ofNat 11 k).signExtend 32
  | 0x0D => popcount a
  | 0x0E => a <<< (k % 32)
  | 0x0F => a >>> (k % 32)
  | 0x10 => a <<< amount b
  | 0x11 => a >>> amount b
  | 0x12 => BitVec.ofNat 32 (bitsOf a (k % 32) (k / 32 % 32 + 1))
  | 0x13 => boolW (a.getLsbD (k % 32))
  | 0x14 => boolW (a == b)
  | 0x15 => boolW (a.ult b)
  | 0x16 => boolW (a.slt b)
  | 0x17 => boolW (anyLane a b)
  | 0x18 => boolW (allLanes a b)
  | _ => d

/-- Read an element: an earlier write of the sequence, else as the scan reads it (R169). -/
def CustRun.read (u : CustRun) (c : Ctx) (sp i : Nat) : CellV × CustRun :=
  match sget none u.own (ikey sp i) with
  | some v => (v, u)
  | none =>
    let (v, m) := c.read sp i u.m
    (v, { u with m := m, keys := u.keys ++ [ikey sp i] })

/-- Write an element (R170); writes to I, to W:258048–262143 and to reserved Q addresses have no effect (R34, R140). -/
def CustRun.write (u : CustRun) (sp i : Nat) (v : CellV) : CustRun :=
  if sp = spI ∨ (sp = spW ∧ 258048 ≤ i) ∨ (sp = spQ ∧ 2112 ≤ i) then u else { u with own := sset none u.own (ikey sp i) (some v) }

/-- All value lanes of a gather, lane 0 first. -/
def CustRun.lanes (c : Ctx) : List (Option (Nat × Nat)) → CustRun → List Bool × CustRun
  | [], u => ([], u)
  | none :: ls, u =>
    let (xs, u) := CustRun.lanes c ls u
    (false :: xs, u)
  | some (sp, i) :: ls, u =>
    let (v, u) := u.read c sp i
    let (xs, u) := CustRun.lanes c ls u
    ((v != 0) :: xs, u)

/-- One micro-operation that is not skipped: the run after it, and how many micro-operations after it it skips. Log 113 (DESIGN CHOICE). -/
def CustRun.one (u : CustRun) (c : Ctx) (x : CustArgs) (rix w : Nat) : Nat × CustRun :=
  let op := uOp w
  let k := uK w
  let a := x.val u rix (uSa w)
  let b := x.val u rix (uSb w)
  let i := (a + BitVec.ofNat 32 k).toNat
  let desc := (a + BitVec.ofNat 32 (128 * (k % 256))).toNat
  let setT (u : CustRun) (v : Word) : CustRun := { u with t := sset 0 u.t (uDst w) v }
  let rd (sp : Nat) : Nat × CustRun :=
    if spaceTop sp < i then (0, { u with fault := some 0x04 })
    else
      let (v, u) := u.read c sp i
      (0, setT u (v.setWidth 32))
  let wr (sp : Nat) (v : CellV) : Nat × CustRun :=
    if spaceTop sp < i then (0, { u with fault := some 0x04 }) else (0, u.write sp i v)
  if uComputes op && decide (op ≤ 0x18) then (0, setT u (uCompute op (sget 0 u.t (uDst w)) a b k))
  else match op with
    | 0x19 => (if a.getLsbD 0 then 0 else k % 32, u)
    | 0x1A => (if a.getLsbD 0 then k % 32 else 0, u)
    | 0x1C =>
      let ad := (a + BitVec.ofNat 32 (4 * k)).toNat
      if localOk ad 4 then (0, setT u (BitVec.ofNat 32 (c.localNat u.m ad 4))) else (0, { u with fault := some 0x03 })
    | 0x1D => rd spI
    | 0x1E => if spaceTop spI < i then (0, { u with fault := some 0x04 }) else (0, setT u (BitVec.ofNat 32 (c.point i).2))
    | 0x1F => rd spM
    | 0x20 => rd spW
    | 0x21 =>
      match c.descriptor u.m desc with
      | none => (0, { u with fault := some 0x05 })
      | some ls =>
        let (bs, u) := CustRun.lanes c ls u
        (0, setT u (lanesOf bs))
    | 0x22 => wr spQ (bitV (b.getLsbD 0))
    | 0x23 => wr spM (bitV (b.getLsbD 0))
    | 0x24 => wr spW (b.setWidth 128)
    | 0x25 =>
      match c.descriptor u.m desc with
      | none => (0, { u with fault := some 0x05 })
      | some ls =>
        let mask := x.val u rix (uDst w)
        (0, (ls.zipIdx).foldl (fun u (l, n) => match l with
          | some (sp, i) => if mask.getLsbD n then u.write sp i (bitV (b.getLsbD n)) else u
          | none => u) u)
    | 0x26 => (0, { u with outs := u.outs ++ [(k % 4, a)] })
    | 0x27 => (0, { u with pd := some (a.getLsbD 0) })
    | _ => (0, u)

/-- The cycles of a micro-operation that has no fault (R166, R167). -/
def CustRun.took (u : CustRun) (w : Nat) : CustRun := if u.fault.isSome then u else { u with cyc := u.cyc + uCyc (uOp w) }

/-- A UREP body that has run its passes is passed over without taking its cycles again. -/
def CustRun.untook (u : CustRun) (ws : List Nat) : CustRun :=
  if u.fault.isSome then u else { u with cyc := u.cyc - (ws.map (fun v => uCyc (uOp v))).sum }

/-- One pass of a UREP body (R168); `sk` micro-operations are still to be skipped. -/
def CustRun.body (c : Ctx) (x : CustArgs) (rix : Nat) : List Nat → Nat → CustRun → CustRun
  | [], _, u => u
  | w :: ws, sk, u =>
    if u.fault.isSome then u
    else if sk ≠ 0 then CustRun.body c x rix ws (sk - 1) (u.took w)
    else
      let (sk, u) := u.one c x rix w
      CustRun.body c x rix ws sk (u.took w)

/-- The cycles that the further passes of a skipped UREP body take (R167). -/
def skippedPasses (w : Nat) (ws : List Nat) : Nat :=
  if uOp w = 0x1B then uK w / 32 % 8 * ((ws.take (uK w % 32)).map (fun v => uCyc (uOp v))).sum else 0

/-- The whole sequence (R167): a UREP runs its passes, and its body is then passed over. -/
def CustRun.sequence (c : Ctx) (x : CustArgs) : List Nat → Nat → CustRun → CustRun
  | [], _, u => u
  | w :: ws, sk, u =>
    if u.fault.isSome then u
    else if sk ≠ 0 then CustRun.sequence c x ws (sk - 1) ({ u with cyc := u.cyc + skippedPasses w ws }.took w)
    else if uOp w = 0x1B then
      let n := uK w % 32
      let u := (List.range (uK w / 32 % 8 + 1)).foldl (fun u p => CustRun.body c x p (ws.take n) 0 u) u
      CustRun.sequence c x ws n (u.untook (ws.take n))
    else
      let (sk, u) := u.one c x 0 w
      CustRun.sequence c x ws sk (u.took w)

/-- Entry n of the decode store. -/
def Mach.custEntry (m : Mach) (n : Nat) : CustEntry := CustEntry.ofBytes (sgets 0 m.decode (160 * n) 160)

/-- Fields of the instruction word: E.pd or the top of F.d, E.a, E.b, E.c, F.d and F.imm14 (R114, R163). -/
def custPd (w : Nat) : Nat := w / 2 ^ 16 % 16
def custA (w : Nat) : Nat := w / 2 ^ 10 % 64
def custB (w : Nat) : Nat := w / 2 ^ 4 % 64
def custC (w : Nat) : Nat := w % 16
def custD (w : Nat) : Nat := w / 2 ^ 14 % 64
def custImm (w : Nat) : Nat := w % 2 ^ 14

/-- First register of source group A and of the destination group. -/
def CustEntry.baseA (x : CustEntry) (w : Nat) : Nat := if x.fmt = 0 then custA w else custD w
def CustEntry.baseD (x : CustEntry) (w : Nat) : Nat := if x.fmt = 0 then custB w else custD w

/-- The registers of a group. -/
def groupRegs (base size : Nat) : List Nat := (List.range size).map (base + ·)

/-- General registers and predicates a custom instruction reads. -/
def CustEntry.readsG (x : CustEntry) (w : Nat) : List Nat := groupRegs (x.baseA w) x.sizeA ++ groupRegs (custB w) x.sizeB
def CustEntry.readsP (x : CustEntry) (w : Nat) : List Nat := if x.fmt = 0 ∧ x.role 3 = 1 then [custC w] else []

/-- The operand values of an execution (R163, R164). -/
def CustEntry.args (x : CustEntry) (c : Ctx) (w : Nat) : CustArgs :=
  { a := (groupRegs (x.baseA w) x.sizeA).map c.g,
    b := (groupRegs (custB w) x.sizeB).map c.g,
    c := if x.role 3 = 1 then boolW (c.p (custC w)) else BitVec.ofNat 32 (custC w),
    imm := if x.fmt = 0 then (if x.role 2 = 3 then (BitVec.ofNat 6 (custB w)).signExtend 32 else BitVec.ofNat 32 (custB w))
      else if x.role 1 = 2 then (BitVec.ofNat 14 (custImm w)).signExtend 32 else BitVec.ofNat 32 (custImm w),
    snapt := c.now }

/-- Put the results of a finished sequence in flight (R170, R172). -/
def Ctx.custResults (c : Ctx) (x : CustEntry) (w : Nat) (u : CustRun) (m : Mach) : Mach :=
  let st := 3 + x.dist
  let m := foldM u.own (fun (key, v) m => match v with
    | some v => c.put st (.shade key v) m
    | none => m) m
  let m := foldM u.outs (fun (n, v) m => c.setG st (x.baseD w + n) v m) m
  match u.pd with
  | some b => c.setP (2 + x.dist) (custPd w) b m
  | none => m

/-- Keep a fault for the cycle of its micro-operation (R171); of two the one of the earlier cycle stands. -/
def Ctx.later (c : Ctx) (cycle code : Nat) (m : Mach) : Mach :=
  let en := m.eng c.e
  m.setEng c.e { en with flt := match en.flt with
    | some x => if x.1 ≤ cycle then some x else some (cycle, code, c.pc)
    | none => some (cycle, code, c.pc) }

/-- A custom instruction (R160–R174); an entry whose VALID bit is clear raises CUST_UNDEF whatever the guard (R107, R162). -/
def Mach.custom (m : Mach) (e : Nat) (gd : Guard) (n w : Nat) : Mach :=
  let x := m.custEntry n
  m.issue e gd .none (if x.valid then none else some 0x02) (3 + x.dist) (x.readsG w) (x.readsP w) (fun c m =>
    let u := CustRun.sequence c (x.args c w) x.uops 0 { m := m }
    match u.fault with
    | some code => c.later (c.i + 3 + u.cyc) code u.m
    | none => c.custResults x w u (c.earlyImg u.keys u.m))

/-- CUSTOM_INSTRUCTION (R160): C0–C15 by the decode table. -/
def execCustomInstruction (e : Fin 16) (gd : Guard) (n : Fin 16) (w : BitVec 20) (s : State) :
    Host.Outcome State Fault Refusal :=
  runEng (fun m => m.custom e gd n w.toNat) s

end Sys2Proof.Machine
end

