-- ==== Sys2Proof/Machine/PkgCheck.lean ====
section
/-!
DEFINITION. The checks of a package (R478, steps 5 to 16) with the place of the first offending item (R493): header, directory, CRCs and
digests, task table (R19), decode table (R175), retained ranges (R192), parameter mapping (R458), pair declaration (R263), and
the ranges of every other item.
-/
namespace Sys2Proof.Machine
open Sys2Proof

/-- A failed check: R478 code, directory index of the section (0xFF header or directory), byte offset, and for code 0x0C the decode
table entry, micro-operation index and rule. -/
structure PkgBad where
  code : Nat
  sect : Nat := 0xFF
  off : Nat := 0
  entry : Nat := 0
  uop : Nat := 0
  rule : Nat := 0
  deriving DecidableEq, Repr

/-- The first failure among checks in order. Log 88 (DEDUCED). -/
def firstBad (xs : List (Option PkgBad)) : Option PkgBad := xs.findSome? id

/-- A failure unless a condition holds. -/
def must (ok : Bool) (b : PkgBad) : Option PkgBad := if ok then none else some b

/-! ### Steps 5 to 10 -/

/-- Step 5 (R476): MAGIC, FORMAT, HCRC, and LEN against the length announced. Log 86 (DEDUCED), 88 (DEDUCED). -/
def chkHeader (p : List Byte) (len : Nat) : Option PkgBad :=
  must (fieldAt p 0 4 == 0x58424B53 && fieldAt p 4 2 == 1 && (crc32 (sliceAt p 0 252)).toNat == fieldAt p 252 4 && pkgLen p == len)
    { code := 0x05 }

/-- Step 6. -/
def chkHwtype (p : List Byte) : Option PkgBad := must (fieldAt p 6 2 == 0x6016) { code := 0x06, off := 6 }

/-- Step 7. -/
def chkFwmin (p : List Byte) (build : Nat) : Option PkgBad := must (decide (fieldAt p 16 4 ≤ build)) { code := 0x07, off := 16 }

/-- Section types this firmware knows, and those marked M and P (R477). -/
def knownTypes : List Nat := (List.range 19).map (· + 1)
def mandatoryTypes : List Nat := [1, 2, 3, 4, 5, 9, 10, 13, 15, 18]
def programTypes : List Nat := [1, 2, 3, 4, 5, 6, 7]

/-- An entry of the directory in itself. -/
def secFits (p : List Byte) (s : PkgSec) : Bool :=
  s.off % 64 == 0 && decide (256 + 16 * pkgCount p ≤ s.off ∧ s.off + s.len ≤ pkgLen p ∧ s.flags < 4) &&
    (s.flags.testBit 0 == programTypes.contains s.ty) && (knownTypes.contains s.ty || !s.flags.testBit 1) &&
    !((pkgSecs p).any (fun x => decide (x.idx < s.idx) && x.ty == s.ty && knownTypes.contains s.ty))

/-- Step 8: the directory meets R476 and R477 and lies within LEN. Log 88 (DEDUCED). -/
def chkDirectory (p : List Byte) : Option PkgBad :=
  firstBad (
    [must (decide (4096 ≤ pkgLen p ∧ pkgLen p ≤ 29360128)) { code := 0x08, off := 8 },
     must (decide (1 ≤ pkgCount p ∧ pkgCount p ≤ 64 ∧ 256 + 16 * pkgCount p ≤ pkgLen p)) { code := 0x08, off := 12 }] ++
    (pkgSecs p).map (fun s => must (secFits p s) { code := 0x08, off := 256 + 16 * s.idx }) ++
    [must (mandatoryTypes.all (fun t => (pkgSec p t).isSome)) { code := 0x08, off := 256 }])

/-- Step 9. -/
def chkCrcs (p : List Byte) : Option PkgBad :=
  firstBad ((pkgSecs p).map (fun s => must ((crc32 (sliceAt p s.off s.len)).toNat == s.crc) { code := 0x09, sect := s.idx }))

/-- Step 10. Log 86 (DEDUCED). -/
def chkDigest (p dig : List Byte) : Option PkgBad := must (pkgDigest p == sliceAt p 32 32 && pkgDigest p == dig) { code := 0x0A, off := 32 }

/-! ### Step 11: the task table (R19) -/

/-- The offset of the item of a register in the task table; of task k's first item when it has none. -/
def taskOff (is : List PkgItem) (k a : Nat) : Nat :=
  match is.find? (fun i => i.ty == 1 && i.addr == a) with
  | some i => i.off
  | none => match is.find? (fun i => i.ty == 1 && decide (0x70000 + 0x80 * k ≤ i.addr ∧ i.addr < 0x70080 + 0x80 * k)) with
    | some i => i.off
    | none => 0

/-- Engine of segment j in a task entry. -/
def entryEng (is : List PkgItem) (k j : Nat) : Nat := taskVal is k 0x10 0 / 16 ^ j % 16

/-- Is the engine split the one with an audit engine (R424)? -/
def itemAudit (is : List PkgItem) : Bool := ((itemVal is 0x12000C).getD 0x100).testBit 8

/-- The faults of R19 in task k's entry, as the offsets of the registers at fault. -/
def taskFaults (is : List PkgItem) (k : Nat) : List Nat :=
  let v := fun off => taskVal is k off 0
  let n := v 0x14 % 16
  let per := v 4
  let wd := taskVal is k 0x7C (wdDefault per)
  let slot := fun x => taskCfg x (taskVal is x 0 0) / 2 ^ 24 % 32
  let cfg := v 0
  let fst := v 0x30 % 4096
  let cnt := v 0x30 / 65536 % 1024
  (if [0, 4, 0x10, 0x14].all (fun o => (itemVal is (0x70000 + 0x80 * k + o)).isSome) then [] else [0]) ++
  (if (List.range k).any (fun x => hasEntry is x && slot x == slot k) then [0] else []) ++
  (if (List.range n).any (fun j => (List.range j).any (fun i => entryEng is k i == entryEng is k j)) then [0x10] else []) ++
  (if itemAudit is && (List.range n).any (fun j => entryEng is k j == auditEngine) then [0x10] else []) ++
  (if !cfg.testBit 1 && (cfg.testBit 2 || decide (0 < cnt) || (List.range 4).any (fun g => v (0x20 + 4 * g) != 0)) then [0] else []) ++
  (if 512 < cnt ∨ 4096 < fst + cnt then [0x30] else []) ++
  (if per ≤ v 8 then [8] else []) ++
  (if wd < 10 ∨ 200000 < wd ∨ 10 * wd < 2 * per then [0x7C] else [])

/-- Step 11: the item at fault with the lowest offset. -/
def chkTasks (p : List Byte) : Option PkgBad :=
  let is := pkgItems p
  let offs := (allTasks.filter (hasEntry is)).flatMap (fun k => (taskFaults is k).map (fun o => taskOff is k (0x70000 + 0x80 * k + o)))
  match offs with
  | [] => none
  | o :: os => some { code := 0x0B, sect := ((pkgSec p 1).map (·.idx)).getD 0xFF, off := os.foldl min o }

/-! ### Steps 12 to 15 -/

/-- Step 12 (R175). -/
def chkDecode (p : List Byte) : Option PkgBad :=
  let sect := ((pkgSec p 4).map (·.idx)).getD 0xFF
  if (pkgBody p 4).length ≠ 2560 then some { code := 0x0C, sect := sect, uop := 0xFF }
  else match custCheck (pkgBody p 4) with
    | some (n, i, r) => some { code := 0x0C, sect := sect, off := 160 * n, entry := n, uop := i, rule := r }
    | none => none

/-- Do two ranges of one space meet? -/
def rangesMeet (a b : Nat × Nat × Nat) : Bool := a.1 == b.1 && decide (a.2.1 < b.2.1 + b.2.2 ∧ b.2.1 < a.2.1 + a.2.2)

/-- A retained range in itself: inside M, W:0–258047, T or C, and M on 32-bit boundaries. -/
def rangeFits (r : Nat × Nat × Nat) : Bool :=
  if r.1 = spM then r.2.1 % 32 == 0 && r.2.2 % 32 == 0 && decide (r.2.1 + r.2.2 ≤ 65536)
  else if r.1 = spW then decide (r.2.1 + r.2.2 ≤ 258048)
  else if r.1 = spT then decide (r.2.1 + r.2.2 ≤ 8192)
  else if r.1 = spC then decide (r.2.1 + r.2.2 ≤ 4096)
  else false

/-- Does a range hold all or none of a chain (R192)? Log 29 (DEDUCED). -/
def chainWhole (r : Nat × Nat × Nat) (ch : Nat × Nat) : Bool :=
  !rangesMeet r (spC, ch.1, ch.2) || (r.1 == spC && decide (r.2.1 ≤ ch.1 ∧ ch.1 + ch.2 ≤ r.2.1 + r.2.2))

/-- Step 13 (R192). Log 29 (DEDUCED). -/
def chkRanges (p : List Byte) : Option PkgBad :=
  match pkgSec p 7 with
  | none => none
  | some s =>
    let rs := pkgRanges p
    let bad := fun o => ({ code := 0x0D, sect := s.idx, off := o } : PkgBad)
    firstBad (
      (rs.zipIdx).map (fun (r, i) =>
        must (decide (i < 64) && rangeFits r && ((rs.take i).all (fun x => !rangesMeet x r)) && (pkgChains p).all (chainWhole r) &&
          decide (((rs.take (i + 1)).map rangeBits).sum / 8 ≤ 262144) && decide (fieldAt (pkgBody p 7) (12 * i + 1) 3 = 0)) (bad (12 * i))) ++
      [must (s.len % 12 == 0) (bad (12 * rs.length))])

/-- Step 14 (R458). -/
def chkParams (p : List Byte) : Option PkgBad :=
  match pkgSec p 8 with
  | none => none
  | some s =>
    let xs := pkgParams p
    let bad := fun o => ({ code := 0x0E, sect := s.idx, off := o } : PkgBad)
    firstBad (
      (xs.zipIdx).map (fun (x, i) =>
        let w := (spW, x.1, x.2.1)
        must (decide (i < 64 ∧ x.2.2 + 4 * x.2.1 ≤ 262144) &&
          (pkgRanges p).any (fun r => r.1 == spW && decide (r.2.1 ≤ x.1 ∧ x.1 + x.2.1 ≤ r.2.1 + r.2.2)) &&
          (xs.take i).all (fun y => !rangesMeet (spW, y.1, y.2.1) w &&
            !decide (y.2.2 < x.2.2 + 4 * x.2.1 ∧ x.2.2 < y.2.2 + 4 * y.2.1))) (bad (12 * i))) ++
      [must (s.len % 12 == 0) (bad (12 * xs.length))])

/-- Step 15 (R263): a package that declares pair operation configures a bay-bus channel. -/
def chkPair (p : List Byte) : Option PkgBad :=
  let is := pkgItems p
  if ((itemVal is 0xD0000).getD 0).testBit 0 && !(List.range 2).any (fun c => ((itemVal is (0xB0000 + 0x8000 * c)).getD 0).testBit 1) then
    some { code := 0x0F, sect := ((pkgSec p 14).map (·.idx)).getD 0xFF,
           off := ((is.find? (fun i => i.addr == 0xD0000)).map (·.off)).getD 0 }
  else none

/-! ### Step 16: the range of every other item -/

/-- A register item in itself (R477). -/
def itemFits (i : PkgItem) : Bool := match pkgRow i.addr with
  | some r => r.inSect i.ty && r.fits i.val
  | none => false

/-- Offsets at fault in a section's register items. -/
def badItems (p : List Byte) (s : PkgSec) : List Nat := (sectItems p s).filterMap (fun i => if itemFits i then none else some i.off)

/-- Offsets at fault in the per-engine entries of the code banks or preset areas. -/
def badEngines (body : List Byte) (size : Nat → Nat) (top : Nat) : List Nat :=
  let es := engEntries body size 16 0
  let ends := es.foldl (fun _ x => x.2.2 + size x.2.1) 0
  ((es.zipIdx).filterMap (fun (x, i) =>
    if decide (x.1 < 16 ∧ size x.2.1 ≤ top) && (es.take i).all (fun y => y.1 != x.1) && decide (x.2.2 + size x.2.1 ≤ body.length) then none
    else some (x.2.2 - 4))) ++ (if ends = body.length then [] else [ends])

/-- A run in itself. -/
def runFits (ty : Nat) (body : List Byte) (r : PkgRun) : Bool :=
  decide (r.off + r.count * runSize ty r.sp ≤ body.length) && byteAt body (r.off - 7) == 0 &&
  (if ty = 5 then
    (r.sp == spT && decide (r.first + r.count ≤ 8192) &&
      (List.range r.count).all (fun i =>
        let c := TCell.ofV (BitVec.ofNat 128 (fieldAt body (r.off + 16 * i) 16))
        decide (c.kind ≤ 5 ∧ c.flags < 2 ∧ c.owner < 32))) ||
    (r.sp == spE && decide (r.first + r.count ≤ 16384) && (List.range r.count).all (fun i => decide (byteAt body (r.off + i) < 4))) ||
    (r.sp == spC && (List.range r.count).all (fun i =>
      let f := fieldAt body (r.off + 8 * i) 4
      let n := fieldAt body (r.off + 8 * i + 4) 4
      decide (f % 4 = 0 ∧ 2 ≤ n ∧ n ≤ 4 ∧ f + n ≤ 4096)))
  else
    (r.sp == spM && decide (r.first + r.count ≤ 65536) && (List.range r.count).all (fun i => decide (byteAt body (r.off + i) < 2))) ||
    (r.sp == spW && decide (r.first + r.count ≤ 258048)) || (r.sp == spC && decide (r.first + r.count ≤ 4096)))

/-- Offsets at fault in image runs. -/
def badRuns (ty : Nat) (body : List Byte) : List Nat :=
  let rs := pkgRuns ty body (body.length / 8) 0
  let ends := rs.foldl (fun _ r => r.off + r.count * runSize ty r.sp) 0
  rs.filterMap (fun r => if runFits ty body r then none else some (r.off - 8)) ++ (if ends = body.length then [] else [ends])

/-- Offsets at fault in the tables of the event-unit section. -/
def badEvu (body : List Byte) : List Nat :=
  let o := 8 * (itemCount 9 body).1
  (if body.length = o + evuTables then [] else [o]) ++
  (List.range 4096).filterMap (fun i => if fieldAt body (o + 2 * i) 2 < 8192 then none else some (o + 2 * i)) ++
  (List.range 4352).filterMap (fun i =>
    let w := fieldAt body (o + 8192 + 4 * i) 4
    if decide (w < 64) && (!w.testBit 0 || chatterRange i) && (!w.testBit 4 || decide (128 ≤ i ∧ i < 2176)) then none
    else some (o + 8192 + 4 * i))

/-- The range of a SETPAR item (R339). -/
def paramFits (x : Nat × Nat) : Bool :=
  if 1 ≤ x.1 ∧ x.1 ≤ 0x40 then decide (x.2 < 65536)
  else if x.1 = 0x41 then decide (x.2 < 2)
  else if x.1 = 0x42 ∨ x.1 = 0x43 then true
  else if x.1 = 0x44 then decide (20 ≤ x.2 ∧ x.2 ≤ 10000)
  else if x.1 = 0x45 then decide (10 ≤ x.2 ∧ x.2 ≤ 1000)
  else if x.1 = 0x46 then decide (x.2 ≤ 1000)
  else false

/-- Offsets at fault in the stations; a configured station needs its channel configured and its apply delay given. -/
def badStations (is : List PkgItem) (body : List Byte) : List Nat :=
  let o := 8 * (itemCount 11 body).1
  let hs := staHeads body 32 o
  let r := hs.foldl (fun (a : Nat × List Nat × List (Nat × Nat)) h =>
    let ok := decide (h.1 < 2 ∧ 1 ≤ h.2.1 ∧ h.2.1 ≤ 16) && !a.2.2.contains (h.1, h.2.1) && h.2.2.all paramFits &&
      ((itemVal is (0xB0000 + 0x8000 * h.1)).getD 0).testBit 1 &&
      (itemVal is (0xB010C + 0x8000 * h.1 + 16 * (h.2.1 - 1))).isSome
    (a.1 + 4 + 8 * h.2.2.length, if ok then a.2.1 else a.2.1 ++ [a.1], (h.1, h.2.1) :: a.2.2)) (o, [], [])
  r.2.1 ++ (if r.1 = body.length then [] else [r.1])

/-- Offsets at fault in the subscription and publication entries. -/
def badGoose (is : List PkgItem) (body : List Byte) : List Nat :=
  let o := 8 * (itemCount 12 body).1
  let ns := (subBlocks is).length
  let np := (pubBlocks is).length
  let mac := fun x => decide (0x010CCD010000 ≤ x ∧ x ≤ 0x010CCD0101FF)
  (if body.length = o + 1024 * (ns + np) then [] else [o]) ++
  (List.range ns).filterMap (fun i =>
    let e := goosSub body (o + 1024 * i)
    let point := fun n => decide (2176 ≤ n ∧ n ≤ 4223)
    if mac e.mac && decide (e.appid < 0x4000 ∧ 1 ≤ e.members.length ∧ e.members.length ≤ 64) &&
        (match e.status with | some n => point n | none => true) &&
        e.members.all (fun x => (match x.qual with | some q => decide (q < e.members.length) | none => true) &&
          (if x.ty = 0 then point x.target else if x.ty = 1 then point x.target && x.target % 2 == 0
           else if x.ty ≤ 6 then decide (258048 ≤ x.target ∧ x.target ≤ 262143) else decide (x.ty ≤ 9))) then none
    else some (o + 1024 * i)) ++
  (List.range np).filterMap (fun i =>
    let q := o + 1024 * (ns + i)
    let e := goosPub body q
    let qbit := fun n => decide (1056 ≤ n ∧ n ≤ 2079)
    if decide (e.vlan < 32768 ∧ e.members.length ≤ 64) &&
        decide (1 ≤ goosTmin body q ∧ goosTmin body q ≤ 100 ∧ 100 ≤ goosTmax body q ∧ goosTmax body q ≤ 60000) &&
        e.members.all (fun x => if x.ty = 0 then qbit x.source else if x.ty = 1 then qbit x.source && qbit (x.source + 1)
          else if x.ty ≤ 5 then decide (x.source < 258048) else x.ty == 6) then none
    else some q)

/-- The waveform table of R519 and R520. -/
def badWaves (body : List Byte) : Bool :=
  let o := fieldAt body 8 4
  let n := byteAt body o
  let tlo := fun b => sint16 (fieldAt body (o + 4 + 8 * b) 2)
  let thi := fun b => sint16 (fieldAt body (o + 6 + 8 * b) 2)
  let fcount := fun b k => byteAt body (o + 9 + 8 * b + k)
  let code := fun b t f => byteAt body (o + 4 + 8 * n + 16 * (768 * b + t) + f / 4) / 4 ^ (f % 4) % 4
  !(decide (1 ≤ n ∧ n ≤ 16) &&
    (List.range n).all (fun b =>
      decide (tlo b < thi b ∧ 50 ≤ byteAt body (o + 8 + 8 * b) ∧ byteAt body (o + 8 + 8 * b) ≤ 100) &&
      (b + 1 == n || thi b == tlo (b + 1)) &&
      (List.range 3).all (fun k => decide (1 ≤ fcount b k ∧ fcount b k ≤ 64)) &&
      [0, 2].all (fun k => (List.range 256).all (fun t =>
        let fs := List.range (fcount b k)
        (fs.filter (fun f => code b (256 * k + t) f == 1)).length == (fs.filter (fun f => code b (256 * k + t) f == 2)).length))))

/-- R513: the frame time in source clocks against the highest frame rate, on the 400 MHz clock. -/
def frameFits (is : List PkgItem) (body : List Byte) : Bool :=
  let t0 := (itemVal is 0x100010).getD 0
  let t1 := (itemVal is 0x100014).getD 0
  let byte := fun (v k : Nat) => v / 256 ^ k % 256
  let lines := byte t1 0 + byte t1 1 + fieldAt body 2 2 + byte t1 2
  let clocks := byte t0 0 + byte t0 1 + fieldAt body 0 2 / 8 + byte t0 2
  let o := fieldAt body 8 4
  let fr := (List.range (byteAt body o)).foldl (fun x b => max x (byteAt body (o + 8 + 8 * b))) 0
  decide (lines * clocks * byte t0 3 * fr ≤ 400000000)

/-- An element of a page (R529). -/
def elemFits (body : List Byte) (a : Nat) : Bool :=
  decide (1 ≤ byteAt body a ∧ byteAt body a ≤ 4 ∧ byteAt body (a + 1) < 2 ∧ fieldAt body (a + 2) 2 % 8 = 0 ∧ fieldAt body (a + 6) 2 % 8 = 0 ∧
    fieldAt body (a + 2) 2 + fieldAt body (a + 6) 2 ≤ fieldAt body 0 2 ∧ fieldAt body (a + 4) 2 + fieldAt body (a + 8) 2 ≤ fieldAt body 2 2)

/-- Offsets at fault in the display section (R511, R513, R520, R528, R529). -/
def badDisplay (is : List PkgItem) (body : List Byte) : List Nat :=
  let page := fun i => fieldAt body 16 4 + 16 * i
  (if decide (8 ≤ fieldAt body 0 2 ∧ fieldAt body 0 2 ≤ 1872 ∧ fieldAt body 0 2 % 8 = 0 ∧ 1 ≤ fieldAt body 2 2 ∧ fieldAt body 2 2 ≤ 1404) then []
   else [0]) ++
  (if decide (1 ≤ fieldAt body 6 2 ∧ fieldAt body 6 2 ≤ 256) then [] else [6]) ++
  (if decide (fieldAt body 24 2 ≤ 1024) then [] else [24]) ++
  (if frameFits is body then [] else [32]) ++
  (if badWaves body then [fieldAt body 8 4] else []) ++
  (List.range (fieldAt body 6 2)).filterMap (fun i =>
    if decide (fieldAt body (page i + 12) 2 ≤ 512) &&
        (List.range (fieldAt body (page i + 12) 2)).all (fun e => elemFits body (fieldAt body (page i + 8) 4 + 32 * e)) then none
    else some (page i))

/-- Offsets at fault in the service roles (R543): exactly one entry for each of the roles, in their order. -/
def badRoles (body : List Byte) : List Nat :=
  (if body.length = 144 then [] else [0]) ++
  (List.range 3).filterMap (fun i =>
    if decide (byteAt body (48 * i) = i + 1 ∧ byteAt body (48 * i + 1) < 4) then none else some (48 * i))

/-- Offsets at fault in a section. -/
def badSect (p : List Byte) (s : PkgSec) : List Nat :=
  let body := sliceAt p s.off s.len
  let is := pkgItems p
  let whole := if s.len % 8 = 0 then [] else [s.len / 8 * 8]
  badItems p s ++
  (match s.ty with
  | 1 | 10 | 13 | 14 | 15 => whole
  | 2 => badEngines body codeSize 65536
  | 3 => badEngines body presetSize 16384
  | 5 | 6 => badRuns s.ty body
  | 9 => badEvu body
  | 11 => badStations is body
  | 12 => badGoose is body
  | 16 => badDisplay is body
  | 18 => badRoles body
  | _ => [])

/-- Registers with a field that has no package default must be given where their section is (the scope chapter's rule on "from the
package"). Log 88 (DEDUCED). -/
def missing (p : List Byte) (s : PkgSec) : Bool :=
  let is := pkgItems p
  (pkgRows.filter (fun r => r.sect == s.ty && r.need)).any (fun r => r.addrs.any (fun a => (itemVal is a).isNone))

/-- Step 16. Log 88 (DEDUCED). -/
def chkItems (p : List Byte) : Option PkgBad :=
  firstBad (must (decide (pkgStart p < 2)) { code := 0x10, off := 14 } ::
    (pkgSecs p).map (fun s =>
      match badSect p s with
      | o :: os => some { code := 0x10, sect := s.idx, off := os.foldl min o }
      | [] => must (!missing p s) { code := 0x10, sect := s.idx, off := s.len }))

/-- Steps 5 to 16 of R478, for a package of an announced length and digest and a firmware build. -/
def pkgCheck (p : List Byte) (len : Nat) (dig : List Byte) (build : Nat) : Option PkgBad :=
  chkHeader p len <|> chkHwtype p <|> chkFwmin p build <|> chkDirectory p <|> chkCrcs p <|> chkDigest p dig <|> chkTasks p <|>
    chkDecode p <|> chkRanges p <|> chkParams p <|> chkPair p <|> chkItems p

/-- Steps 5 to 8, on a header and directory (R481). -/
def pkgCheckHead (p : List Byte) (len build : Nat) : Option PkgBad :=
  chkHeader p len <|> chkHwtype p <|> chkFwmin p build <|> chkDirectory p

end Sys2Proof.Machine
end

