-- ==== Sys2Proof/Machine/BootOps.lean ====
section
/-!
DEFINITION. Resets and the start (R416, R419, R420, R433, R434, R592): what a reset keeps, the boot ROM's look at the update journal (R489),
the power-up scan of the retained store (R42, R231, R447–R449, R455, R464), CONFIG with the check and load of the package (R478, R479),
and the loader (R488–R490).
-/
namespace Sys2Proof.Machine
open Sys2Proof

/-! ### What a reset keeps (R592) -/

/-- Registers kept by every reset: the RTC block in PD0, the values set at manufacture, the firmware image's values, and WDG.RSTCNT
and WDG.OPT. -/
def keptAlways (a : Nat) : Bool :=
  a / 0x10000 == R.RTC_SEC.addr / 0x10000 ||
    [R.EVU_DIDLY.addr, R.FIO_RBDLY.addr, (R.BB_TXDLY 0).addr, (R.BB_TXDLY 1).addr, R.STA_MAC_LO.addr, R.STA_MAC_HI.addr, (R.STA_SP_DLY 0).addr,
      (R.STA_SP_DLY 1).addr, R.UPD_FWBUILD.addr, R.UPD_FWPVER.addr, R.WDG_RSTCNT.addr, R.WDG_OPT.addr].contains a ||
    decide ((R.UPD_SERIAL 0).addr ≤ a ∧ a ≤ (R.UPD_SERIAL 3).addr)

/-- WDG registers a module reset puts back (R439): CTL, and CFG and REMAIN of every slot. -/
def wdgReset (a : Nat) : Bool :=
  a == R.WDG_CTL.addr || (decide ((R.WDG_SLOT_CFG 0).addr ≤ a) && decide ((a - (R.WDG_SLOT_CFG 0).addr) % 32 ≤ 4))

/-- Registers kept by a module reset beside those (R439, R440, R572). -/
def keptModule (a : Nat) : Bool :=
  (a / 0x10000 == R.WDG_CTL.addr / 0x10000 && !wdgReset a) ||
    [R.PWR_PFW.addr, R.PWR_STARTDUR.addr, R.DIAG_LFLT.addr, R.DIAG_LFLTT_LO.addr, R.DIAG_LFLTT_HI.addr, R.DIAG_SPARE.addr].contains a

/-- The fault records kept by every module reset: only power-on and their own clear end them (R86, R127). -/
def keptFatal (a : Nat) : Bool :=
  a == R.IMG_FSTAT.addr || (a / 0x10000 == (R.ENG_FLT 0).addr / 0x10000 && [(R.ENG_FLT 0).addr, (R.ENG_FLTT_LO 0).addr, (R.ENG_FLTT_HI 0).addr].contains
    (a % 0x1000 + (R.ENG_FLT 0).addr / 0x10000 * 0x10000))

/-- Is the register at an address kept by a reset of a cause? -/
def regKept (cause a : Nat) : Bool := keptAlways a || (cause != 0 && (keptModule a || keptFatal a))

/-- The parts of the time keeper that lie in PD0. Log 74 (DESIGN CHOICE). -/
def TimeK.inPd0 (k : TimeK) : TimeK :=
  { cal := k.cal, calAt := k.calAt, rd := k.rd, rdSub := k.rdSub, wr := k.wr, pd0Utc := k.pd0Utc, utcOk := k.utcOk, aonLost := k.aonLost, alarmBak := k.alarmBak, cmtWait := k.cmtWait }

/-- What the flash of the retained store holds. -/
def RetStore.stored (r : RetStore) : RetStore :=
  { recs := r.recs, seq := r.seq, sectors := r.sectors, opened := r.opened, half0 := r.half0, half1 := r.half1, recCsn := r.recCsn, recSeq := r.recSeq,
    rjLost := r.rjLost, rjLostT := r.rjLostT }

/-- What the key and the update store hold. -/
def Upd.stored (u : Upd) : Upd :=
  { key := u.key, store := u.store, lines := u.lines, updates := u.updates, resumes := u.resumes, freshDone := u.freshDone, freshRes := u.freshRes }

/-- The module after a reset of a cause, before anything runs (R592). The terminals' switches and clamp phases, the discharge of the
display's rails, the stores and PD0 are not registers. -/
def Mach.cleared (m : Mach) (cause : Nat) : Mach :=
  let m := m.setHc false
  { now := m.now, free := m.free, out := m.out, regs := m.regs.filter (fun e => regKept cause e.1), tk := m.tk.inPd0, ret := m.ret.stored,
    upd := m.upd.stored, fio := { sw := m.fio.sw, clamp := m.fio.clamp, clampAt := m.fio.clampAt, onAt := m.fio.onAt, hcEnd := m.fio.hcEnd },
    sup := { resets := m.sup.resets, scarlet := if cause = 0 then [] else m.sup.scarlet }, dsp := m.dspReset.dsp }

/-- The cause, and the watchdog as it comes out of the reset (R434, R439). Log 79 (DEDUCED). -/
def Mach.watchdogStart (m : Mach) (cause : Nat) : Mach :=
  let m := m.setFld R.WDG_RSTCAUSE_CAUSE cause
  let m := ((m.setFlag R.WDG_STAT_HW (m.flag R.WDG_OPT_WDG_HW)).setFlag R.WDG_STAT_CLK false).setFlag R.WDG_STAT_SUSP false
  let m := (m.setFlag R.WDG_STAT_HOLD false).setFlag R.WDG_STAT_RUN true
  let m := if m.flag R.WDG_OPT_WDG_HW then m else m.setFlag R.WDG_CTL_START true
  m.slotOn 44 20000

/-! ### The update journal (R488, R489) -/

/-- The lines behind the last STAGED line, itself included. -/
def updTail (ls : List UpdLine) : List UpdLine :=
  ls.foldl (fun a l => if l.ty = 1 then [l] else a ++ [l]) []

/-- Is an image armed: an ARMED line without a later COMPLETE or ABANDON? A further image, once STAGED, discards an armed one (R487). Log 92 (DEDUCED). -/
def updArmed (ls : List UpdLine) : Bool := ls.foldl (fun a l => if l.ty = 2 then true else if l.ty = 1 ∨ l.ty = 4 ∨ l.ty = 5 then false else a) false

/-- Sectors with a DONE line behind the last ARMED line. -/
def updDone (ls : List UpdLine) : List Nat :=
  ls.foldl (fun a l => if l.ty = 2 then [] else if l.ty = 3 then a ++ [l.sector] else a) []

/-- Has the loader written FAILED for the image in hand? -/
def updFailed (ls : List UpdLine) : Bool := ls.foldl (fun a l => if l.ty = 1 ∨ l.ty = 4 then false else if l.ty = 6 then true else a) false

/-- Write a line of the update journal for the image in the store. A STAGED line erases the older sector: the lines before the previous STAGED
line are gone. Log 92 (DEDUCED). -/
def Mach.updLine (m : Mach) (ty sector : Nat) : Mach :=
  let ls := m.upd.lines
  let keep := if ty = 1 then updTail ls else ls
  let l : UpdLine := { ty := ty, sector := sector, build := fieldAt m.upd.store 16 4, seq := (ls.getLast?.map (fun x => x.seq + 1)).getD 0,
                       dig := sliceAt m.upd.store 48 8 }
  { m with upd := { m.upd with lines := keep ++ [l] } }

/-- UPD.FWSTAT, FWSBUILD and FWCNT as the update journal has them. -/
def Mach.showFw (m : Mach) : Mach :=
  let ls := m.upd.lines
  let staged := updTail ls
  let last := (staged.getLast?.map (·.ty)).getD 0
  let st := if updFailed ls then 5 else if m.st = .loader then 4 else if updArmed ls then 3 else if last = 1 then 2 else 0
  let m := ((m.setFld R.UPD_FWSTAT_STATE st).setFld R.UPD_FWSTAT_CODE (if last = 5 then 0x0B else 0)).setFld R.UPD_FWSTAT_SECTOR (updDone ls).length
  let m := m.setFld R.UPD_FWSBUILD (if st = 2 ∨ st = 3 ∨ st = 4 then fieldAt m.upd.store 16 4 else 0)
  m.rset R.UPD_FWCNT.addr (BitVec.ofNat 32 (min m.upd.updates 65535 + min m.upd.resumes 65535 * 65536))

/-! ### The firmware image (R485, R486, R489) -/

/-- The header checks of R486 in their order: the code of the first failure. -/
def Mach.fwHeader (m : Mach) (h : List Byte) (force : Bool) : Option Nat :=
  let zeros := fun (o n : Nat) => (sliceAt h o n).all (· == 0)
  if !(fieldAt h 0 4 == 0x465A4C42 && fieldAt h 4 2 == 256 && decide (fieldAt h 8 4 < 2) && zeros 14 2 && zeros 28 4 && zeros 144 112) then some 0x01
  else if fieldAt h 6 2 ≠ 0x6016 then some 0x02
  else if fieldAt h 8 4 = 1 ∧ sliceAt h 32 16 ≠ m.serialBytes then some 0x03
  else if m.rget R.UPD_FWPVER.addr >>> 16 < BitVec.ofNat 32 (fieldAt h 24 4) then some 0x04
  else if !Config.signatureOk (sliceAt h 0 80) (sliceAt h 80 64) then some 0x05
  else if fieldAt h 20 4 < 1 ∨ 4062976 < fieldAt h 20 4 then some 0x07
  else if fieldAt h 16 4 < m.fld R.UPD_FWBUILD ∧ !force then some 0x09
  else none

/-- DIGEST over the stored payload. -/
def fwDigestOk (img : List Byte) : Bool := sha256 (sliceAt img 256 (fieldAt img 20 4)) == sliceAt img 48 32

/-- Sectors of the firmware region an image needs. -/
def fwSectors (img : List Byte) : Nat := (256 + fieldAt img 20 4 + 65535) / 65536

/-- One sector of the loader (R489, R490); `ok` tells that the update store and the sector read back right. Log 92 (DEDUCED). -/
def Mach.loaderSector (m : Mach) (ok : Bool) : Mach :=
  let ls := m.upd.lines
  let img := m.upd.store
  if m.st ≠ .loader ∨ !updArmed ls ∨ updFailed ls then m
  else
    let done := updDone ls
    if !ok || (m.fwHeader img true).isSome || !fwDigestOk img then
      if done.isEmpty then (m.updLine 5 0).requestReset 5 0 else ((m.updLine 6 0).showFw)
    else
      let m := ((m.updLine 3 done.length).checkIn 44).showFw
      if fwSectors img ≤ done.length + 1 then
        let m := m.updLine 4 0
        let m := { m with upd := { m.upd with updates := m.upd.updates + 1, freshDone := true } }
        let m := (m.setFld R.UPD_FWBUILD (fieldAt img 16 4)).setFld R.UPD_FWPVER_PVER (fieldAt img 12 2)
        m.showFw.requestReset 5 0
      else m

/-- Enter LOADER; work done before a reset is resumed. Log 92 (DEDUCED). -/
def Mach.enterLoader (m : Mach) (fwOk : Bool) : Mach :=
  let resumed := !(updDone m.upd.lines).isEmpty && updArmed m.upd.lines && !updFailed m.upd.lines
  let m := if resumed then { m with upd := { m.upd with resumes := m.upd.resumes + 1, freshRes := true } } else m
  let m := (m.setState .loader).showFw
  if !fwOk && !updArmed m.upd.lines then m.setFld R.UPD_FWSTAT_STATE 5 else m

/-! ### The power-up scan (R42, R231, R447–R449, R455, R464) -/

/-- The record being written at the front of a log bank. Log 81 (DEDUCED). -/
def Mach.frontRecord (m : Mach) (b : Nat) : Option Rec := m.ret.recs.find? (fun r => !r.done && r.sector / 8 == b)

/-- R444, R446, R449: what a cut leaves of the records being written: of each bank the front one is complete or not as its marker line reads;
the others have not begun. Log 81 (DEDUCED). -/
def Mach.cutRecords (m : Mach) : Mach :=
  let fronts := logBanks.filterMap (fun b => (m.frontRecord b).map (·.seq))
  let m := { m with ret := { m.ret with recs := m.ret.recs.filter (fun r => r.done || fronts.contains r.seq) } }
  foldM fronts (fun q m =>
    let (n, m) := m.fresh
    if (Config.freeWord n).getLsbD 0 then m.markRec q else m) m

/-- The last record before the append point of each log bank (R449). -/
def Mach.lastRecords (m : Mach) : List Rec :=
  logBanks.filterMap (fun b => newestBy (fun r => r.line) (m.ret.recs.filter (fun r => r.sector == 8 * b + m.openSector b)))

/-- The newest CSN recorded in the store (R42, R457). Log 53 (DEDUCED). -/
def Mach.recordedCsn (m : Mach) : Option Nat :=
  let cs := (m.recsOf 0x21).map (·.key) ++ m.markers.map (·.2.1)
  match cs with
  | [] => none
  | c :: r => some (r.foldl (fun b x => if csnLater x b then x else b) c)

/-- The sequence numbers go on behind what the store recorded (R42, R231). Log 53 (DEDUCED). -/
def Mach.resumeNumbers (m : Mach) : Mach :=
  let m := match m.recordedCsn with
    | some c => m.setFld64 R.IMG_CSN_LO (csnJump c)
    | none => m.setFld64 R.IMG_CSN_LO 0
  m.setFld R.EVU_SEQ (match newestBy (fun x => x.1) m.markers with
    | some x => x.2.2 + 2 ^ 24
    | none => 0)

/-- R449: the append point of a log bank is the second line behind the last one that does not read erased. Log 81 (DEDUCED). -/
def Mach.appendPoint (m : Mach) (b : Nat) : Mach :=
  let s := 8 * b + m.openSector b
  let x := m.sector s
  let last := ((m.ret.recs.filter (fun r => r.sector == s)).map (fun r => r.line + recLines r.payload.length)).foldl max 2
  if 2048 ≤ x.top then m else m.setSector s { x with top := min 2048 (last + 1) }

/-- R449: verdicts on the last record of each bank; an invalid one is dropped and noted. It answers how many were invalid. How many lines the
unit has programmed in its life the scan reads from the store (R468). Log 85 (DESIGN CHOICE), 104 (DEDUCED). -/
def Mach.verdicts (m : Mach) : Nat × Mach :=
  let ls := m.lastRecords
  let bad := ls.filter (fun r => !r.done)
  let m := foldM logBanks (fun b m => m.appendPoint b) m
  let m := { m with ret := { m.ret with recs := m.ret.recs.filter (fun r => r.done) } }
  let m := foldM ls (fun r m => m.putRecNow 0x03 (if r.done then 1 else 2) r.seq []) m
  let (n, m) := m.fresh
  let (i, m) := m.fresh
  let (j, m) := m.fresh
  let m := m.setFld64 R.RET_LINES_LO ((Config.freeWord i).toNat + (Config.freeWord j).toNat * 2 ^ 32)
  (bad.length, (m.setFld R.RET_SCANT_TIME ((Config.freeWord n).toNat % 15001)).setFld R.RET_SCANT_VERDICTS ls.length)

/-- R455: the newest generation, and whether a chunk record of it is missing. -/
def Mach.newestGen (m : Mach) : Mach :=
  let gens := (m.recsOf 0x10).map Rec.gen ++ m.commits.map (·.key)
  match m.newestCommit with
  | none => { m with ret := { m.ret with gens := gens.foldl max 0 } }
  | some r =>
    let n := ((m.recsOf 0x10).filter (fun x => x.gen == r.key)).length
    let m := { m with ret := { m.ret with gens := gens.foldl max 0, bad := n < fieldAt r.payload 24 4 } }
    (m.setFld R.RET_GEN r.key).setFld64 R.RET_SAVET_LO (fieldAt r.payload 8 8)

/-- R433: the reset count against its mirror. After an AON reset the count is the mirror's. -/
def Mach.resetMirror (m : Mach) : Mach :=
  let mir := newestBy (fun r => r.seq) (m.recsOf 0x22)
  let m := if m.tk.aonLost then m.setFld R.WDG_RSTCNT_COUNT ((mir.map (·.key)).getD 0) else m
  if mir.map (·.key) = some (m.fld R.WDG_RSTCNT_COUNT) then m else m.putRecNow 0x22 0 (m.fld R.WDG_RSTCNT_COUNT) []

/-- R459: the protect level is the newest PROTECT record's. -/
def Mach.storedProtect (m : Mach) : Mach :=
  m.setFld R.RET_PROT_LEVEL (((newestBy (fun r => r.seq) (m.recsOf 0x23)).map (·.arg)).getD 0)

/-- Is a save cut: a RETCHUNK newer than the newest RETCOMMIT (0x3506)? -/
def Mach.cutSave (m : Mach) : Bool :=
  (m.recsOf 0x10).any (fun x => decide (((m.newestCommit).map (·.key)).getD 0 < x.gen))

/-! ### CONFIG (R416, R420, R430, R478, R479) -/

/-- R438: the scarlet resets the last stage has left. Log 77 (DEDUCED). -/
def Mach.scarletEvents (m : Mach) : Mach :=
  let t := m.fld64 R.WDG_RSTT_LO
  let m := foldM m.sup.scarlet (fun n m =>
    ((((m.journal t (0x3130 + n) 0x33 (1 + m.degradedAt t)).setFld R.DIAG_LFLT_CODE (0x3130 + n)).setFld R.DIAG_LFLT_CLASS 3).setFlag
      R.DIAG_LFLT_VALID true).setFld64 R.DIAG_LFLTT_LO t) m
  { m with sup := { m.sup with scarlet := [] } }

/-- The status bits a start finds (R183). -/
def Mach.startStatus (m : Mach) : Mach :=
  (((m.stat 4226 (m.side == 1)).setStat 4232 2 m.tq).setStat 4234 2 (m.fld R.TB_STAT_TSRC)).stat 4240 (m.flag R.PWR_STAT_VSUP_OK)

/-- The domains and watchdog slots of every start (R429, R430, R559). Log 54 (DEDUCED). -/
def Mach.startFunctions (m : Mach) : Mach :=
  let m := foldM [7, 8, 9] (fun d m => m.domain d true) m
  foldM [(32, 100), (35, 500), (36, 1000), (38, 2000), (39, 2000), (41, 10000), (42, 20000)] (fun s m => m.slotOn s.1 s.2) m

/-- The system firmware starts: CONFIG up to the package. -/
def Mach.enterConfig (m : Mach) : Mach :=
  let m := m.setState .config
  let m := m.resumeNumbers
  let (bad, m) := m.verdicts
  let m := m.newestGen.resetMirror
  let m := m.storedProtect.showImage
  let m := (m.setFlag R.RET_STAT_BUSY false).showWear
  let m := (m.startFunctions.info 0x3000).startStatus.scarletEvents
  let m := foldM (List.range bad) (fun _ m => m.note 0x3501) m
  let m := if m.cutSave then m.raise 0x3506 0 1 else m
  let m := (m.info 0x3500).timeStartEvents
  let m := if m.upd.freshDone then m.info 0x3588 else m
  let m := if m.upd.freshDone && m.upd.freshRes then m.note 0x3589 else m
  ({ m with upd := { m.upd with freshDone := false, freshRes := m.upd.freshRes && !m.upd.freshDone } }).showFw

/-- The bank's capacitance as the charge curve of this start measures it, and whether it is aged (R572). Log 56 (DESIGN CHOICE). -/
def Mach.measureBank (m : Mach) : Mach :=
  let (n, m) := m.fresh
  let c := (Config.freeWord n).toNat % 2 ^ 12
  (m.setFld R.PWR_HOLDUP_CAP c).setFlag R.PWR_STAT_AGED (decide (c < 400))

/-- A reset of a cause (R592), the boot ROM's check (R489), and the start of the system firmware or of the loader. `sideB` is the strap
of R262, `fwOk` that the firmware region passes its check. Log 101 (DEDUCED). -/
def Mach.moduleReset (m : Mach) (cause : Nat) (sideB fwOk : Bool) : Mach :=
  let m := (if m.alive then m.cutRecords else m).cleared cause
  let m := (m.setState .boot).watchdogStart cause
  let m := ((m.domain 2 true).domain 11 true).setFld R.PRT_STAT_SIDE sideB.toNat
  let m := m.loadTimeBase
  let (n, m) := m.fresh
  let m := { m with bootAt := some m.now, svc := { session := (Config.entropy n).val + 1 } }
  let m := ((m.setFlag R.PWR_STAT_VSUP_OK true).setFlag R.PWR_STAT_CHG true).measureBank
  if updArmed m.upd.lines || !fwOk then m.enterLoader fwOk else m.enterConfig

/-- MODULE_RESET: a reset that is due, or the release of the reset at a cold start. Log 6 (DEDUCED), 77 (DEDUCED). -/
def Mach.resetNow (m : Mach) (sideB fwOk : Bool) : Mach :=
  match m.sup.due with
  | some (c, a) => if a ≤ m.now ∧ m.st ≠ .off then m.moduleReset c sideB fwOk else m
  | none => if m.st = .boot then m.moduleReset 0 sideB fwOk else m

/-- VSUP_START (R563, R569): the cold start begins; a power cycle releases the hold of R420 with its record. Log 9 (DESIGN CHOICE), 103 (DEDUCED). -/
def Mach.vsupStart (m : Mach) : Mach :=
  if m.st = .off then
    let m := (m.cleared 0).setState .boot
    { m with sup := { m.sup with resets := [] } }
  else m

/-! ### The package (R478, R479, R493) -/

/-- The package is refused. Log 89 (DESIGN CHOICE). -/
def Mach.pkgRefused (m : Mach) (b : PkgBad) : Mach :=
  let m := ((m.setFld R.UPD_PKGSTAT_STATE 2).setFld R.UPD_PKGSTAT_CODE b.code).rset R.UPD_PKGDET.addr (BitVec.ofNat 32 (b.sect + b.off * 256))
  let m := m.rset R.UPD_PKGDET2.addr (BitVec.ofNat 32 (b.entry + b.uop * 256 + b.rule * 65536))
  let m := if m.flag R.UPD_KEYSTAT_PRESENT && m.flag R.UPD_KEYSTAT_SFDPOK then m.keyLog 0x05 m.keyHdr.active m.activeDig b.code else m
  (m.enableBays.setState .stop).raise 0x3581 0 2

/-- Functions the loaded package uses: their watchdog slots (R430), the time keeper's settings, the display's content (R535). -/
def Mach.pkgFunctions (m : Mach) : Mach :=
  let m := if m.tk.pd0Utc.isNone then m.utcAtStart else m
  let m := foldM [0, 1] (fun c m => if m.flag (R.BB_CFG_CONF c) then m.slotOn (33 + c) 500 else m) m
  let m := if m.paired then m.slotOn 37 100 else m
  let m := if m.dspOn then m.slotOn 40 10000 else m
  let m := if m.audOn then m.slotOn 43 10000 else m
  let m := foldM (allTasks.filter m.taskOn) (fun k m =>
    m.setFld (R.WDG_SLOT_CFG_PERIOD (m.fld (R.TSK_CFG_WDSLOT k))) (m.fld (R.TSK_WDPER k))) m
  ((m.stat 4227 (m.flag R.PRT_CFG_TWIN)).assignedQuads).dspBegin

/-- Engines retired before the reset stay retired (R428, R440). Log 78 (DEDUCED). -/
def Mach.stillRetired (m : Mach) : Mach :=
  let mask := m.fld R.DIAG_SPARE_RETIRED
  foldM ((List.range 16).filter (fun e => mask.testBit e && e != auditEngine)) (fun e m => m.retireEngine e) m

/-- The package of the active slot is verified and loaded. -/
def Mach.pkgLoaded (m : Mach) (p : List Byte) (slot : Nat) : Mach :=
  let mask := m.fld R.DIAG_SPARE_RETIRED
  let m := foldM ((List.range 16).filter (fun e => mask.testBit e)) (fun e m => m.setEng e { m.eng e with retired := true, power := .heldOut }) m
  let m := (m.loadPkg p).setFld R.UPD_PKGSTAT_STATE 1
  let m := (((m.setFld R.UPD_KEYSTAT_RUNSLOT slot).showKey).info 0x3580).showImage
  let m := (m.stillRetired.loadWatchdog (pkgItems p)).pkgFunctions.hello
  if resetLoop m.sup.resets then m.holdReset else m.waitSource

/-- The code of a failure of steps 1 to 4 of R478. -/
def Mach.keyCode (m : Mach) (present sfdpOk : Bool) : Option Nat :=
  if !present then some 0x01
  else if !sfdpOk then some 0x02
  else if m.upd.key.hdr.isNone then some 0x03
  else if 1 < m.keyHdr.active ∨ m.keyHdr.slotState m.keyHdr.active ≠ 2 then some 0x04
  else none

/-- CONFIG_LOAD (R473, R474, R478, R479): the key answers with a JEDEC ID, `key` tells what reading it finds; a blank key takes a first header. Log 6 (DEDUCED), 85 (DESIGN CHOICE), 89 (DESIGN CHOICE). -/
def Mach.configLoad (m : Mach) (present : Bool) (key : KeyRead) (jedec : Nat) : Mach :=
  if m.st = .config ∧ m.fld R.UPD_PKGSTAT_STATE = 0 then
    let m := (m.setFlag R.UPD_KEYSTAT_PRESENT present).setFlag R.UPD_KEYSTAT_SFDPOK (present && key != .unfit)
    let m := if present then m.setFld R.UPD_KEYID jedec else m
    let (n, m) := m.fresh
    let m := m.rset R.UPD_PKGREAD.addr (Config.freeWord n)
    let usable := present && key != .unfit
    let m := if usable && key != .noHeader && m.upd.key.hdr.isNone then m.writeHdr (fun _ => blankHdr) else m
    let m := if usable then m.showKey.keyStart else m
    match m.keyCode present (key != .unfit) with
    | some c => m.pkgRefused { code := c }
    | none =>
      let h := m.keyHdr
      let p := m.slotBytes h.active (h.slotLen h.active)
      match pkgCheck p (h.slotLen h.active) (h.slotDig h.active) (m.fld R.UPD_FWBUILD) with
      | some b => m.pkgRefused b
      | none => m.pkgLoaded p h.active
  else m

end Sys2Proof.Machine
end

