-- ==== Sys2Proof/Machine/PowerOps.lean ====
section
/-!
DEFINITION. The hold-up bank and the power-fail warning (R562, R564–R566), ride-through, and SAVE (R456, R533, R568, R569).
-/
namespace Sys2Proof.Machine
open Sys2Proof

/-- The hold-up bank reaches 32.3 V or falls below 32.0 V (R562). Log 102 (DEDUCED). -/
def Mach.holdup (m : Mach) (ok : Bool) : Mach :=
  if m.st = .off then m
  else
    let m := m.setFlag R.PWR_STAT_HOLDUP_OK ok
    if m.alive then m.stat 4245 ok else m

/-- The states a warning leads from into SAVE (R416, R566). -/
def Mach.savable (m : Mach) : Bool := m.st == .config || m.st == .stop || m.st == .run

/-- R442: an erase step is aborted; the sector counts as not erased. -/
def Mach.abortErase (m : Mach) : Mach :=
  if m.ret.erase.isSome then ({ m with ret := { m.ret with erase := none } }).resumeWatch else m

/-- A channel is switched off, after the frame in progress (R356, R568). -/
def Mach.bayOff (m : Mach) (c : Nat) : Mach :=
  let m := (m.setFlag (R.BB_CFG_EN c) false).setFlag (R.BB_STAT_ENPEND c) false
  if (m.bay c).bus.isSome then m.setBay c { m.bay c with offPend := true }
  else if m.bayOn c then m.setBayState c 0
  else m

/-- SAVE entry (R568): RUN is left, the engine quads, the station ports and the bay buses go off, the save begins. Log 103 (DEDUCED). -/
def Mach.enterSave (m : Mach) : Mach :=
  let m := ((m.leaveRun .save).setFlag R.PWR_STAT_SAVE true).setFlag R.PWR_STAT_RIDE false
  let m := foldM [0, 1] (fun c m => m.bayOff c) (m.saveQuads.domain 7 false)
  let m := if (m.bay 0).bus.isSome || (m.bay 1).bus.isSome then m else m.domain 8 false
  m.startSave 0

/-- POWER_FAIL_WARNING (R442, R461, R533, R564, R565): SAVE follows at once when HOLDUP_OK is 0. Log 102 (DEDUCED). -/
def Mach.powerFail (m : Mach) : Mach :=
  if m.st = .off ∨ m.st = .save ∨ m.warn.isSome then m
  else
    let h := m.flag R.PWR_STAT_HOLDUP_OK
    let m := ((m.setFlag R.PWR_STAT_PFW true).setFlag R.PWR_STAT_VSUP_OK false).setFlag R.PWR_STAT_CHG false
    let m := ({ m with warn := some (m.now, h) }).satFld R.PWR_PFW_WARNINGS 1
    if m.alive then
      let m := (m.stat 4240 false).stat 4241 true
      let m := ({ m with olcEnd := some 0x08 }).abortErase.parAbandon.dspWarn
      if m.savable then (if h then m.setFlag R.PWR_STAT_RIDE true else m.enterSave) else m
    else m

/-- RIDE_THROUGH (R534, R565): VSUP is above the return threshold again. Where no SAVE follows a warning, it ends whenever VSUP returns. Log 102 (DEDUCED). -/
def Mach.rideThrough (m : Mach) : Mach :=
  match m.warn with
  | none => m
  | some (a, h) =>
    let inTime := h && decide (m.now ≤ a + 5100000)
    if m.st = .off ∨ m.st = .save ∨ (m.savable ∧ !inTime) then m
    else
      let m := ((m.setFlag R.PWR_STAT_PFW false).setFlag R.PWR_STAT_VSUP_OK true).setFlag R.PWR_STAT_CHG true
      let m := ({ m with warn := none }).setFlag R.PWR_STAT_RIDE false
      let m := if inTime then m.satFld R.PWR_PFW_RIDES 1 else m
      if m.alive then ((m.stat 4241 false).stat 4240 true).dspReturn else m

/-- SAVE_ENTRY (R565): 5.0 ms ± 0.1 ms after the warning. Log 103 (DEDUCED). -/
def Mach.saveEntry (m : Mach) : Mach :=
  match m.warn with
  | some (a, true) => if m.savable ∧ a + 4900000 ≤ m.now then m.enterSave else m
  | _ => m

/-- Are the writes of SAVE complete, and is the display state ready (R456, R533, R568)? Log 103 (DEDUCED). -/
def Mach.saveDone (m : Mach) : Bool :=
  m.ret.save.isNone && m.ret.savePend.isNone && m.cu.app.isNone && m.upd.actPend.isNone && m.ret.recs.all (fun r => r.done) &&
    (!(m.dspOn && m.dsp.warned) || (m.dsp.saved.isSome && decide (m.dsp.readyAt ≤ m.now)))

/-- R456: the DISPLAY records. -/
def Mach.putDisplay (m : Mach) : Mach :=
  match m.dsp.saved with
  | some ps => foldM (ps.zipIdx) (fun x m => m.putRecNow 0x24 0 x.2 x.1) m
  | none => m

/-- The module without supply: nothing runs but PD0. Log 9 (DESIGN CHOICE). -/
def Mach.shutDown (m : Mach) : Mach := (m.setFld R.PWR_DOM_ON 1).setState .off

/-- SAVE_COMPLETE (R568, R569): the module shuts down, or resets with cause 6 when VSUP is above the return threshold. Log 103 (DEDUCED). -/
def Mach.saveComplete (m : Mach) (vsup : Bool) : Mach :=
  if m.st = .save ∧ m.saveDone ∧ m.sup.due.isNone then
    let m := foldM [11, 9, 8] (fun d m => m.domain d false) m.putDisplay
    if vsup then m.requestReset 6 0 else m.shutDown
  else m

/-- BANK_EXHAUSTED (R566): after a warning in a state without SAVE. -/
def Mach.bankOut (m : Mach) : Mach :=
  if m.warn.isSome ∧ !m.savable ∧ m.st ≠ .save ∧ m.st ≠ .off then (if m.alive then m.cutRecords else m).shutDown else m

end Sys2Proof.Machine
end

