-- ==== Sys2Proof/Machine/BootRows.lean ====
section
/-!
DEFINITION. The commands of power, resets and the start (R416, R489, R558–R570).
-/
namespace Sys2Proof.Machine
open Sys2Proof

/-- VSUP_START (R563). -/
def execVsupStart (t : Nat) (s : State) : Host.Outcome State Fault Refusal := runAt t (fun m => m.vsupStart) s

/-- MODULE_RESET (R592): with the strap SIDE_SEL (R262), and whether the firmware region passes the boot ROM's check. -/
def execModuleReset (t : Nat) (sideB fwOk : Bool) (s : State) : Host.Outcome State Fault Refusal := runAt t (fun m => m.resetNow sideB fwOk) s

/-- LOADER_SECTOR (R489). -/
def execLoaderSector (t : Nat) (ok : Bool) (s : State) : Host.Outcome State Fault Refusal := runAt t (fun m => m.loaderSector ok) s

/-- CONFIG_LOAD (R478). -/
def execConfigLoad (t : Nat) (present : Bool) (sfdpOk : KeyRead) (jedec : BitVec 24) (s : State) : Host.Outcome State Fault Refusal :=
  runAt t (fun m => m.configLoad present sfdpOk jedec.toNat) s

/-- TIME_SOURCE_WAIT_END (R394). -/
def execTimeSourceWaitEnd (t : Nat) (s : State) : Host.Outcome State Fault Refusal :=
  runAt t (fun m => match m.tk.waitEnd with
    | some a => if m.st = .config ∧ a ≤ m.now then m.endConfig else m
    | none => m) s

/-- HOLDUP_OK_REACHED (R562): a waiting entry to RUN follows at once. -/
def execHoldupOkReached (t : Nat) (s : State) : Host.Outcome State Fault Refusal := runAt t (fun m => m.holdup true) s

/-- HOLDUP_OK_LOST (R562). -/
def execHoldupOkLost (t : Nat) (s : State) : Host.Outcome State Fault Refusal := runAt t (fun m => m.holdup false) s

/-- POWER_FAIL_WARNING (R564). -/
def execPowerFailWarning (t : Nat) (s : State) : Host.Outcome State Fault Refusal := runAt t (fun m => m.powerFail) s

/-- RIDE_THROUGH (R565). -/
def execRideThrough (t : Nat) (s : State) : Host.Outcome State Fault Refusal := runAt t (fun m => m.rideThrough) s

/-- SAVE_ENTRY (R568). -/
def execSaveEntry (t : Nat) (s : State) : Host.Outcome State Fault Refusal := runAt t (fun m => m.saveEntry) s

/-- SAVE_COMPLETE (R569). -/
def execSaveComplete (t : Nat) (vsup : Bool) (s : State) : Host.Outcome State Fault Refusal := runAt t (fun m => m.saveComplete vsup) s

/-- BANK_EXHAUSTED (R566). -/
def execBankExhausted (t : Nat) (s : State) : Host.Outcome State Fault Refusal := runAt t (fun m => m.bankOut) s

/-- KEY_ACTIVATION_DONE (R256): within SAVE too. -/
def execKeyActivationDone (t : Nat) (ok : Bool) (s : State) : Host.Outcome State Fault Refusal := runAt t (fun m => if m.alive then m.activationDone ok else m) s

end Sys2Proof.Machine
end

