-- ==== Sys2Proof/Machine/DspRows.lean ====
section
/-!
DEFINITION. The commands of the display (R512–R537).
-/
namespace Sys2Proof.Machine
open Sys2Proof

/-- DSP_ENABLE (R515, R516). -/
def execDspEnable (t : Nat) (s : State) : Host.Outcome State Fault Refusal := runAt t (fun m => if m.st == .off then m else m.dspEnable) s

/-- DSP_DISABLE (R516). -/
def execDspDisable (t : Nat) (s : State) : Host.Outcome State Fault Refusal := runAt t (fun m => m.dspDisable) s

/-- RAILS_READY (R515). -/
def execRailsReady (t : Nat) (s : State) : Host.Outcome State Fault Refusal := runAt t (fun m => m.dspReady) s

/-- DISCHARGE_COMPLETE (R516). -/
def execDischargeComplete (t : Nat) (s : State) : Host.Outcome State Fault Refusal := runAt t (fun m => m.dspOff) s

/-- PANEL_FRAME (R513, R524–R527). -/
def execPanelFrame (t : Nat) (s : State) : Host.Outcome State Fault Refusal := runAt t (fun m => m.panelFrame) s

/-- DISPLAY_POLL (R530). -/
def execDisplayPoll (t : Nat) (s : State) : Host.Outcome State Fault Refusal := runAt t (fun m => m.dspPoll) s

/-- THERMISTOR_MEASUREMENT (R518): in 0.1 °C, every 1 s. -/
def execThermistorMeasurement (t : Nat) (temp : Int) (s : State) : Host.Outcome State Fault Refusal := runAt t (fun m => if m.alive && m.dspOn then m.thermistor temp else m) s

/-- RAIL_FAULT (R517), with the rails in range. -/
def execRailFault (t : Nat) (ok : Fin 32) (s : State) : Host.Outcome State Fault Refusal := runAt t (fun m => m.dspRailFault ok) s

/-- RAIL_RETRY (R517). -/
def execRailRetry (t : Nat) (s : State) : Host.Outcome State Fault Refusal := runAt t (fun m => m.dspRetry) s

end Sys2Proof.Machine
end

