-- ==== Sys2Proof/Machine/EngArith.lean ====
section
/-!
DEFINITION. Arithmetic, constants, shifts and lane boolean instructions (R131–R134): each reads its registers at X1 and writes one
general register.
-/
namespace Sys2Proof.Machine
open Sys2Proof

/-- NOP (R131): no operation; it takes its slot and counts its step. -/
def execNop (e : Fin 16) (gd : Guard) (_f : FmtA) (s : State) : Host.Outcome State Fault Refusal :=
  runEng (fun m => m.issue e gd .none none stDE [] [] (fun _ m => m)) s

/-- ADD (R131): modulo 2^32. -/
def execAdd (e : Fin 16) (gd : Guard) (f : FmtA) (s : State) : Host.Outcome State Fault Refusal :=
  runEng (fun m => m.compute e gd stX2 [f.a, f.b] [] f.d (fun c => c.g f.a + c.g f.b)) s

/-- SUB (R131). -/
def execSub (e : Fin 16) (gd : Guard) (f : FmtA) (s : State) : Host.Outcome State Fault Refusal :=
  runEng (fun m => m.compute e gd stX2 [f.a, f.b] [] f.d (fun c => c.g f.a - c.g f.b)) s

/-- ADDI (R131): imm8 sign-extended. -/
def execAddi (e : Fin 16) (gd : Guard) (f : FmtB) (s : State) : Host.Outcome State Fault Refusal :=
  runEng (fun m => m.compute e gd stX2 [f.a] [] f.d (fun c => c.g f.a + sext8 f.imm)) s

/-- MUL (R131): the low half of the product. -/
def execMul (e : Fin 16) (gd : Guard) (f : FmtA) (s : State) : Host.Outcome State Fault Refusal :=
  runEng (fun m => m.compute e gd stMA [f.a, f.b] [] f.d (fun c => c.g f.a * c.g f.b)) s

/-- MULH (R131): the high half; x[0] selects signed or unsigned. -/
def execMulh (e : Fin 16) (gd : Guard) (f : FmtA) (s : State) : Host.Outcome State Fault Refusal :=
  runEng (fun m => m.compute e gd stMA [f.a, f.b] [] f.d (fun c => mulHigh f.x (c.g f.a) (c.g f.b))) s

/-- DIV (R131, R132). -/
def execDiv (e : Fin 16) (gd : Guard) (f : FmtA) (s : State) : Host.Outcome State Fault Refusal :=
  runEng (fun m => m.compute e gd stWB14 [f.a, f.b] [] f.d (fun c => divide f.x (c.g f.a) (c.g f.b))) s

/-- REM (R131, R132). -/
def execRem (e : Fin 16) (gd : Guard) (f : FmtA) (s : State) : Host.Outcome State Fault Refusal :=
  runEng (fun m => m.compute e gd stWB14 [f.a, f.b] [] f.d (fun c => remainder f.x (c.g f.a) (c.g f.b))) s

/-- MOVI (R131): imm14 sign-extended. -/
def execMovi (e : Fin 16) (gd : Guard) (f : FmtF) (s : State) : Host.Outcome State Fault Refusal :=
  runEng (fun m => m.compute e gd stX2 [] [] f.d (fun _ => sext14 f.imm)) s

/-- MOVHI (R131): imm14 into bits 31:18. -/
def execMovhi (e : Fin 16) (gd : Guard) (f : FmtF) (s : State) : Host.Outcome State Fault Refusal :=
  runEng (fun m => m.compute e gd stX2 [] [] f.d (fun _ => zext14 f.imm <<< 18)) s

/-- INSM (R131): imm14 into bits 17:4. -/
def execInsm (e : Fin 16) (gd : Guard) (f : FmtF) (s : State) : Host.Outcome State Fault Refusal :=
  runEng (fun m => m.compute e gd stX2 [f.d] [] f.d (fun c => (c.g f.d &&& 0xFFFC000F#32) ||| (zext14 f.imm <<< 4))) s

/-- ORI (R131): imm8 zero-extended. -/
def execOri (e : Fin 16) (gd : Guard) (f : FmtB) (s : State) : Host.Outcome State Fault Refusal :=
  runEng (fun m => m.compute e gd stX2 [f.a] [] f.d (fun c => c.g f.a ||| zext8 f.imm)) s

/-- SHL (R131). -/
def execShl (e : Fin 16) (gd : Guard) (f : FmtA) (s : State) : Host.Outcome State Fault Refusal :=
  runEng (fun m => m.compute e gd stX2 [f.a, f.b] [] f.d (fun c => c.g f.a <<< amount (c.g f.b))) s

/-- SHR (R131): zero fill. -/
def execShr (e : Fin 16) (gd : Guard) (f : FmtA) (s : State) : Host.Outcome State Fault Refusal :=
  runEng (fun m => m.compute e gd stX2 [f.a, f.b] [] f.d (fun c => c.g f.a >>> amount (c.g f.b))) s

/-- SRA (R131): sign fill. -/
def execSra (e : Fin 16) (gd : Guard) (f : FmtA) (s : State) : Host.Outcome State Fault Refusal :=
  runEng (fun m => m.compute e gd stX2 [f.a, f.b] [] f.d (fun c => (c.g f.a).sshiftRight (amount (c.g f.b)))) s

/-- SHLI (R131): the amount is imm8[4:0]. -/
def execShli (e : Fin 16) (gd : Guard) (f : FmtB) (s : State) : Host.Outcome State Fault Refusal :=
  runEng (fun m => m.compute e gd stX2 [f.a] [] f.d (fun c => c.g f.a <<< amount (zext8 f.imm))) s

/-- SHRI (R131). -/
def execShri (e : Fin 16) (gd : Guard) (f : FmtB) (s : State) : Host.Outcome State Fault Refusal :=
  runEng (fun m => m.compute e gd stX2 [f.a] [] f.d (fun c => c.g f.a >>> amount (zext8 f.imm))) s

/-- SRAI (R131). -/
def execSrai (e : Fin 16) (gd : Guard) (f : FmtB) (s : State) : Host.Outcome State Fault Refusal :=
  runEng (fun m => m.compute e gd stX2 [f.a] [] f.d (fun c => (c.g f.a).sshiftRight (amount (zext8 f.imm)))) s

/-- POPC (R131). -/
def execPopc (e : Fin 16) (gd : Guard) (f : FmtA) (s : State) : Host.Outcome State Fault Refusal :=
  runEng (fun m => m.compute e gd stX2 [f.a] [] f.d (fun c => popcount (c.g f.a))) s

/-- EXT (R131): x selects byte or half-word, zero or sign extension. -/
def execExt (e : Fin 16) (gd : Guard) (f : FmtA) (s : State) : Host.Outcome State Fault Refusal :=
  runEng (fun m => m.compute e gd stX2 [f.a] [] f.d (fun c => extend f.x (c.g f.a))) s

/-- AND (R134). -/
def execAnd (e : Fin 16) (gd : Guard) (f : FmtA) (s : State) : Host.Outcome State Fault Refusal :=
  runEng (fun m => m.compute e gd stX2 [f.a, f.b] [] f.d (fun c => c.g f.a &&& c.g f.b)) s

/-- OR (R134). -/
def execOr (e : Fin 16) (gd : Guard) (f : FmtA) (s : State) : Host.Outcome State Fault Refusal :=
  runEng (fun m => m.compute e gd stX2 [f.a, f.b] [] f.d (fun c => c.g f.a ||| c.g f.b)) s

/-- XOR (R134). -/
def execXor (e : Fin 16) (gd : Guard) (f : FmtA) (s : State) : Host.Outcome State Fault Refusal :=
  runEng (fun m => m.compute e gd stX2 [f.a, f.b] [] f.d (fun c => c.g f.a ^^^ c.g f.b)) s

/-- ANDN (R134). -/
def execAndn (e : Fin 16) (gd : Guard) (f : FmtA) (s : State) : Host.Outcome State Fault Refusal :=
  runEng (fun m => m.compute e gd stX2 [f.a, f.b] [] f.d (fun c => c.g f.a &&& ~~~ c.g f.b)) s

/-- NOR (R134). -/
def execNor (e : Fin 16) (gd : Guard) (f : FmtA) (s : State) : Host.Outcome State Fault Refusal :=
  runEng (fun m => m.compute e gd stX2 [f.a, f.b] [] f.d (fun c => ~~~ (c.g f.a ||| c.g f.b))) s

/-- XNOR (R134). -/
def execXnor (e : Fin 16) (gd : Guard) (f : FmtA) (s : State) : Host.Outcome State Fault Refusal :=
  runEng (fun m => m.compute e gd stX2 [f.a, f.b] [] f.d (fun c => ~~~ (c.g f.a ^^^ c.g f.b))) s

/-- LMUX (R134): lanes of g(a) where g(b) is set, else lanes of g(d). -/
def execLmux (e : Fin 16) (gd : Guard) (f : FmtA) (s : State) : Host.Outcome State Fault Refusal :=
  runEng (fun m => m.compute e gd stX2 [f.a, f.b, f.d] [] f.d (fun c => (c.g f.a &&& c.g f.b) ||| (c.g f.d &&& ~~~ c.g f.b))) s

/-- PSPR (R134): the predicate b[3:0], read at DE, in every lane. -/
def execPspr (e : Fin 16) (gd : Guard) (f : FmtA) (s : State) : Host.Outcome State Fault Refusal :=
  runEng (fun m => m.compute e gd stX2 [] [f.b.val % 16] f.d (fun c => if c.p (f.b.val % 16) then 0xFFFFFFFF#32 else 0)) s

end Sys2Proof.Machine
end

