-- ==== Sys2Proof/Machine/CellOps.lean ====
section
/-!
DEFINITION. Timer, counter and edge instructions as shared operations on their cells (R143–R152, R206).
-/
namespace Sys2Proof.Machine
open Sys2Proof

/-- Read a cell and run `k` on its index, its content and the state; a cell beyond its space raises IMG_RANGE (R143, R151). -/
def Mach.cellInstr (m : Mach) (e : Nat) (gd : Guard) (f : FmtD) (sp st : Nat) (gs : List Nat)
    (k : Ctx → Nat → CellV → Mach → Mach) : Mach :=
  m.issue e gd .none none st (f.a.val :: gs) [] (fun c m =>
    let i := addrD (c.g f.a) f.off 1
    if spaceTop sp < i then m.engineFault c.e 0x04 c.pc
    else
      let (v, m) := c.read sp i (c.earlyImg [ikey sp i] m)
      k c i v m)

/-- Write a cell at MA when its content changes (R143, R151). -/
def Ctx.writeIf (c : Ctx) (sp i : Nat) (old new : CellV) (m : Mach) : Mach :=
  if old = new then m else c.write stMA sp i new m

/-- A timer instruction of a kind (R143–R147): the result holds Q and, in bit 1, whether the cell is timing. -/
def Mach.timer (m : Mach) (e : Nat) (gd : Guard) (f : FmtD) (kind : Nat) : Mach :=
  m.cellInstr e gd f spT stWB1 [f.r] (fun c i v m =>
    let (t, q) := timerEval kind (TCell.ofV v) c.now ((c.g f.r).getLsbD 0)
    let m := c.writeIf spT i v t.toV m
    c.setG stWB1 f.r (BitVec.ofNat 32 (q.toNat + 2 * t.timing.toNat)) m)

/-- A counter instruction on one cell (R151): `step` gives the cell after it from the cell and g(r). -/
def Mach.counter (m : Mach) (e : Nat) (gd : Guard) (f : FmtD) (step : Word → Word → Word) : Mach :=
  m.cellInstr e gd f spC stWB1 [f.r] (fun c i v m =>
    let w := step (v.setWidth 32) (c.g f.r)
    c.setG stWB1 f.r w (c.writeIf spC i v (w.setWidth 128) m))

/-- Read `k` counter cells from index `i`, the lowest first. -/
def Ctx.readChain (c : Ctx) (i : Nat) : Nat → Mach → List CellV × Mach
  | 0, m => ([], m)
  | k + 1, m =>
    let (v, m) := c.read spC i m
    let (vs, m) := c.readChain (i + 1) k m
    (v :: vs, m)

/-- The number whose 32-bit words are given, the lowest first. -/
def chainValue (vs : List CellV) : Nat := vs.foldr (fun v n => v.toNat % 2 ^ 32 + 2 ^ 32 * n) 0

/-- CCHN (R152). -/
def Mach.chain (m : Mach) (e : Nat) (gd : Guard) (f : FmtD) : Mach :=
  m.issue e gd .none none stWB1 [f.a, f.r] [] (fun c m =>
    let i := addrD (c.g f.a) f.off 1
    let k := (c.g f.r).toNat / 4 % 4 + 1
    if spaceTop spC < i + k - 1 then m.engineFault c.e 0x04 c.pc
    else
      let (vs, m) := c.readChain i k (c.earlyImg (ikeys spC i k) m)
      let n := chainStep k ((c.g f.r).toNat % 4) (chainValue vs)
      let m := foldM vs.zipIdx (fun (v, j) m => c.writeIf spC (i + j) v (BitVec.ofNat 128 (n / 2 ^ (32 * j) % 2 ^ 32)) m) m
      c.setG stWB1 f.r (BitVec.ofNat 32 n) m)

/-- An edge instruction (R151, R206): `out` from the input and the cell. A cell whose PRIMED mark is set gives 0, takes the input
and counts as changed. -/
def Mach.edge (m : Mach) (e : Nat) (gd : Guard) (f : FmtD) (out : Bool → Bool → Bool) : Mach :=
  m.cellInstr e gd f spE stWB1 [f.r] (fun c i v m =>
    let inp := (c.g f.r).getLsbD 0
    let pr := c.primed m i
    let m := if pr then c.write stMA spE i (bitV inp) m else c.writeIf spE i v (bitV inp) m
    c.setG stWB1 f.r (if !pr && out inp (v != 0) then 1 else 0) m)

end Sys2Proof.Machine
end

