-- ==== Sys2Proof/Machine/EngCells.lean ====
section
/-!
DEFINITION. Timer, counter and edge instructions (R143–R152).
-/
namespace Sys2Proof.Machine
open Sys2Proof

/-- TON (R146): on-delay timer. -/
def execTon (e : Fin 16) (gd : Guard) (f : FmtD) (s : State) : Host.Outcome State Fault Refusal :=
  runEng (fun m => m.timer e gd f 1) s

/-- TOF (R146): off-delay timer. -/
def execTof (e : Fin 16) (gd : Guard) (f : FmtD) (s : State) : Host.Outcome State Fault Refusal :=
  runEng (fun m => m.timer e gd f 2) s

/-- TP (R146): pulse timer. -/
def execTp (e : Fin 16) (gd : Guard) (f : FmtD) (s : State) : Host.Outcome State Fault Refusal :=
  runEng (fun m => m.timer e gd f 3) s

/-- TPX (R146): retriggerable pulse timer. -/
def execTpx (e : Fin 16) (gd : Guard) (f : FmtD) (s : State) : Host.Outcome State Fault Refusal :=
  runEng (fun m => m.timer e gd f 4) s

/-- TONR (R146): retentive on-delay timer. -/
def execTonr (e : Fin 16) (gd : Guard) (f : FmtD) (s : State) : Host.Outcome State Fault Refusal :=
  runEng (fun m => m.timer e gd f 5) s

/-- TRST (R150): IDLE with start time 0. -/
def execTrst (e : Fin 16) (gd : Guard) (f : FmtD) (s : State) : Host.Outcome State Fault Refusal :=
  runEng (fun m => m.cellInstr e gd f spT stMA [] (fun c i v m => c.writeIf spT i v (TCell.ofV v).idle.toV m)) s

/-- TPRE (R150): the preset field from g(r). -/
def execTpre (e : Fin 16) (gd : Guard) (f : FmtD) (s : State) : Host.Outcome State Fault Refusal :=
  runEng (fun m => m.cellInstr e gd f spT stMA [f.r] (fun c i v m =>
    c.writeIf spT i v ({ TCell.ofV v with preset := (c.g f.r).toNat } : TCell).toV m)) s

/-- TRD (R150): the elapsed time. Where R150 states no value for the kind and state the cell holds, a free value. Log 27 (DESIGN CHOICE). -/
def execTrd (e : Fin 16) (gd : Guard) (f : FmtD) (s : State) : Host.Outcome State Fault Refusal :=
  runEng (fun m => m.cellInstr e gd f spT stWB1 [] (fun c _ v m =>
    match timerRead (TCell.ofV v) c.now with
    | some n => c.setG stWB1 f.r (BitVec.ofNat 32 n) m
    | none =>
      let (n, m) := m.fresh
      c.setG stWB1 f.r (Config.freeWord n) m)) s

/-- CTU (R151): one step up when g(r)[0] is 1. -/
def execCtu (e : Fin 16) (gd : Guard) (f : FmtD) (s : State) : Host.Outcome State Fault Refusal :=
  runEng (fun m => m.counter e gd f (fun w r => if r.getLsbD 0 then countUp w else w)) s

/-- CTD (R151): one step down when g(r)[0] is 1. -/
def execCtd (e : Fin 16) (gd : Guard) (f : FmtD) (s : State) : Host.Outcome State Fault Refusal :=
  runEng (fun m => m.counter e gd f (fun w r => if r.getLsbD 0 then countDown w else w)) s

/-- CTUD (R151): up for 0b01, down for 0b10. -/
def execCtud (e : Fin 16) (gd : Guard) (f : FmtD) (s : State) : Host.Outcome State Fault Refusal :=
  runEng (fun m => m.counter e gd f (fun w r =>
    if r.toNat % 4 = 1 then countUp w else if r.toNat % 4 = 2 then countDown w else w)) s

/-- CCHN (R152): a chained counter. -/
def execCchn (e : Fin 16) (gd : Guard) (f : FmtD) (s : State) : Host.Outcome State Fault Refusal :=
  runEng (fun m => m.chain e gd f) s

/-- CLDC (R151): the cell takes g(r); no result register. -/
def execCldc (e : Fin 16) (gd : Guard) (f : FmtD) (s : State) : Host.Outcome State Fault Refusal :=
  runEng (fun m => m.cellInstr e gd f spC stMA [f.r] (fun c i v m => c.writeIf spC i v ((c.g f.r).setWidth 128) m)) s

/-- EDR (R151): rising edge. -/
def execEdr (e : Fin 16) (gd : Guard) (f : FmtD) (s : State) : Host.Outcome State Fault Refusal :=
  runEng (fun m => m.edge e gd f (fun inp cell => inp && !cell)) s

/-- EDF (R151): falling edge. -/
def execEdf (e : Fin 16) (gd : Guard) (f : FmtD) (s : State) : Host.Outcome State Fault Refusal :=
  runEng (fun m => m.edge e gd f (fun inp cell => cell && !inp)) s

/-- EDB (R151): either edge. -/
def execEdb (e : Fin 16) (gd : Guard) (f : FmtD) (s : State) : Host.Outcome State Fault Refusal :=
  runEng (fun m => m.edge e gd f (fun inp cell => xor inp cell)) s

end Sys2Proof.Machine
end

