-- ==== Sys2Proof/Machine/EngControl.lean ====
section
/-!
DEFINITION. Control flow (R108–R113, R153, R154), deferred actions (R155, R156), system access (R157–R159) and reserved opcodes
(R107, R160).
-/
namespace Sys2Proof.Machine
open Sys2Proof

/-- Branch: the slot after the two delay slots issues at `target` (R108). -/
def Ctx.branchTo (c : Ctx) (target : Nat) (m : Mach) : Mach := m.setEng c.e { m.eng c.e with tgt := some target }

/-- BR (R153). -/
def execBr (e : Fin 16) (gd : Guard) (f : FmtC) (s : State) : Host.Outcome State Fault Refusal :=
  runEng (fun m => m.issue e gd .branch none stDE [] [] (fun c m => c.branchTo f.target.toNat m)) s

/-- CALL (R110, R153, R154): LINK takes the PC of slot i + 3; at PC 16,381 or above that address does not exist. -/
def execCall (e : Fin 16) (gd : Guard) (f : FmtC) (s : State) : Host.Outcome State Fault Refusal :=
  runEng (fun m => m.issue e gd .branch none stDE [] [] (fun c m =>
    if 16381 ≤ c.pc then m.engineFault c.e 0x07 c.pc
    else c.branchTo f.target.toNat (c.put stDE (.link (c.pc + 3)) m))) s

/-- RET (R110, R153): branch to LINK. -/
def execRet (e : Fin 16) (gd : Guard) (_f : FmtC) (s : State) : Host.Outcome State Fault Refusal :=
  runEng (fun m => m.issue e gd .branch none stDE [] [] (fun c m => c.branchTo c.link (c.readLk false m))) s

/-- LPB (R111, R153): when LOOP is not 0, decrement it and branch. -/
def execLpb (e : Fin 16) (gd : Guard) (f : FmtC) (s : State) : Host.Outcome State Fault Refusal :=
  runEng (fun m => m.issue e gd .branch none stDE [] [] (fun c m =>
    let m := c.readLk true m
    if c.loop = 0 then m else c.branchTo f.target.toNat (c.put stDE (.loop (c.loop - 1)) m))) s

/-- MTLK (R153): LINK takes g(s)[13:0] at X2. -/
def execMtlk (e : Fin 16) (gd : Guard) (f : FmtC) (s : State) : Host.Outcome State Fault Refusal :=
  runEng (fun m => m.issue e gd .none none stX2 [f.s] [] (fun c m => c.put stX2 (.link ((c.g f.s).toNat % 2 ^ 14)) m)) s

/-- MTLP (R153): LOOP takes g(s) at X2. -/
def execMtlp (e : Fin 16) (gd : Guard) (f : FmtC) (s : State) : Host.Outcome State Fault Refusal :=
  runEng (fun m => m.issue e gd .none none stX2 [f.s] [] (fun c m => c.put stX2 (.loop (c.g f.s)) m)) s

/-- MFS (R129, R153, R154): selector 0 LINK, 1 LOOP, 2 and 3 SNAPT; above 3 a reserved opcode. -/
def execMfs (e : Fin 16) (gd : Guard) (f : FmtA) (s : State) : Host.Outcome State Fault Refusal :=
  runEng (fun m => m.issue e gd .none (if 3 < f.b.val then some 0x01 else none) stX2 [] [] (fun c m =>
    let m := if f.b.val < 2 then c.readLk (f.b.val == 1) m else m
    c.setG stX2 f.d (match f.b.val with
      | 0 => BitVec.ofNat 32 c.link
      | 1 => c.loop
      | 2 => BitVec.ofNat 32 c.now
      | _ => BitVec.ofNat 32 (c.now / 2 ^ 32)) m)) s

/-- HALT (R104): nothing more is issued; the segment has halted at its halt instant. -/
def execHalt (e : Fin 16) (gd : Guard) (_f : FmtA) (s : State) : Host.Outcome State Fault Refusal :=
  runEng (fun m => m.issue e gd .halt none stDE [] [] (fun c m => m.setEng c.e { m.eng c.e with drain := true })) s

/-- WDCK (R155): a deferred check-in entry for the watchdog slot of the scan's task. -/
def execWdck (e : Fin 16) (gd : Guard) (_f : FmtA) (s : State) : Host.Outcome State Fault Refusal :=
  runEng (fun m => m.issue e gd .none none stMA [] [] (fun c m => c.put stMA (.act (.wdck (m.fld (R.TSK_CFG_WDSLOT c.k)))) m)) s

/-- MVRQ (R156): a deferred request for channel d[3:0] with descriptor index imm14. -/
def execMvrq (e : Fin 16) (gd : Guard) (f : FmtF) (s : State) : Host.Outcome State Fault Refusal :=
  runEng (fun m => m.issue e gd .none none stMA [] [] (fun c m => c.put stMA (.act (.mvrq (f.d.val % 16) f.imm.toNat)) m)) s

/-- The scan constants of R157. -/
def Ctx.scanConst (c : Ctx) (sel : Nat) : Option Word :=
  let s := c.sc.snap
  match sel with
  | 0 => some (BitVec.ofNat 32 (c.k + c.j * 2 ^ 8))
  | 1 => some (BitVec.ofNat 32 (s.trig + s.tidx * 2 ^ 16))
  | 2 => some (BitVec.ofNat 32 s.scsn)
  | 3 => some (BitVec.ofNat 32 (s.scsn / 2 ^ 32 % 2 ^ 16))
  | 4 => some (BitVec.ofNat 32 s.bndn)
  | 5 => some (BitVec.ofNat 32 (s.bndn / 2 ^ 32))
  | 6 => some (BitVec.ofNat 32 s.period)
  | 7 => some (BitVec.ofNat 32 s.phase)
  | 8 => some (BitVec.ofNat 32 s.utcoff)
  | _ => none

/-- SRD (R157, R159). -/
def execSrd (e : Fin 16) (gd : Guard) (f : FmtF) (s : State) : Host.Outcome State Fault Refusal :=
  runEng (fun m => m.issue e gd .none none stWB [] [] (fun c m =>
    match c.scanConst f.imm.toNat with
    | some v => c.setG stWB f.d v m
    | none => m.engineFault c.e 0x09 c.pc)) s

/-- The write of an SWR (R158): ENGe.PERFCTL of the executing engine from g(d), or SCANMAX or RESPMAX of the scan's task. -/
def Ctx.swrWrite (c : Ctx) (sel : Nat) (v : Word) : Option Wr :=
  match sel with
  | 0x1000 => some (.perf (v.getLsbD 0) (v.getLsbD 1))
  | 0x1001 => some (.tmax false c.k)
  | 0x1002 => some (.tmax true c.k)
  | _ => none

/-- SWR (R158, R159): it acts at WB; a selector of no row raises SRACC. -/
def Mach.swr (m : Mach) (e : Nat) (gd : Guard) (d : Fin 64) (sel : Nat) : Mach :=
  m.issue e gd .none none stWB [d] [] (fun c m =>
    match c.swrWrite sel (c.g d) with
    | some w => c.put stWB w m
    | none => m.engineFault c.e 0x09 c.pc)

/-- SWR 0x1000 (R158): EN of the executing engine's PERFCTL from g(d)[0]; the counters are cleared when g(d)[1] is 1. The words of SWR with a
selector of no row are this command's too (R159). Log 110 (DESIGN CHOICE). -/
def execSwrPerfctl (e : Fin 16) (gd : Guard) (f : FmtF) (s : State) : Host.Outcome State Fault Refusal :=
  runEng (fun m => m.swr e gd f.d f.imm.toNat) s

/-- SWR 0x1001 (R158): TSKk.SCANMAX of the scan's task is set to 0. -/
def execSwrScanmax (e : Fin 16) (gd : Guard) (d : Fin 64) (s : State) : Host.Outcome State Fault Refusal := runEng (fun m => m.swr e gd d 0x1001) s

/-- SWR 0x1002 (R158): TSKk.RESPMAX of the scan's task is set to 0. -/
def execSwrRespmax (e : Fin 16) (gd : Guard) (d : Fin 64) (s : State) : Host.Outcome State Fault Refusal := runEng (fun m => m.swr e gd d 0x1002) s

/-- Opcodes 0x70–0x7F (R107, R160), and the words beyond the given code (R90): RSVD_OP whatever the guard. -/
def execReservedOpcode (e : Fin 16) (gd : Guard) (_w : BitVec 27) (s : State) : Host.Outcome State Fault Refusal :=
  runEng (fun m => m.issue e gd .none (some 0x01) stDE [] [] (fun _ m => m)) s

end Sys2Proof.Machine
end

