-- ==== Sys2Proof/Machine/EngLocal.lean ====
section
/-!
DEFINITION. Scan-local loads and stores (R137).
-/
namespace Sys2Proof.Machine
open Sys2Proof

/-- LDB (R137): a byte, zero-extended. -/
def execLdb (e : Fin 16) (gd : Guard) (f : FmtD) (s : State) : Host.Outcome State Fault Refusal :=
  runEng (fun m => m.localLoad e gd f 1 (fun v => BitVec.ofNat 32 v)) s

/-- LDBS (R137): a byte, sign-extended. -/
def execLdbs (e : Fin 16) (gd : Guard) (f : FmtD) (s : State) : Host.Outcome State Fault Refusal :=
  runEng (fun m => m.localLoad e gd f 1 (fun v => (BitVec.ofNat 8 v).signExtend 32)) s

/-- LDH (R137): a half-word, zero-extended. -/
def execLdh (e : Fin 16) (gd : Guard) (f : FmtD) (s : State) : Host.Outcome State Fault Refusal :=
  runEng (fun m => m.localLoad e gd f 2 (fun v => BitVec.ofNat 32 v)) s

/-- LDHS (R137): a half-word, sign-extended. -/
def execLdhs (e : Fin 16) (gd : Guard) (f : FmtD) (s : State) : Host.Outcome State Fault Refusal :=
  runEng (fun m => m.localLoad e gd f 2 (fun v => (BitVec.ofNat 16 v).signExtend 32)) s

/-- LDW (R137): a word. -/
def execLdw (e : Fin 16) (gd : Guard) (f : FmtD) (s : State) : Host.Outcome State Fault Refusal :=
  runEng (fun m => m.localLoad e gd f 4 (fun v => BitVec.ofNat 32 v)) s

/-- STB (R137): the low byte of g(r). -/
def execStb (e : Fin 16) (gd : Guard) (f : FmtD) (s : State) : Host.Outcome State Fault Refusal :=
  runEng (fun m => m.localStore e gd f 1) s

/-- STH (R137): the low half-word of g(r). -/
def execSth (e : Fin 16) (gd : Guard) (f : FmtD) (s : State) : Host.Outcome State Fault Refusal :=
  runEng (fun m => m.localStore e gd f 2) s

/-- STW (R137): the word of g(r). -/
def execStw (e : Fin 16) (gd : Guard) (f : FmtD) (s : State) : Host.Outcome State Fault Refusal :=
  runEng (fun m => m.localStore e gd f 4) s

end Sys2Proof.Machine
end

