-- ==== Sys2Proof/Machine/EngPred.lean ====
section
/-!
DEFINITION. Compare and predicate instructions (R135, R136): each writes one predicate at X1, combined with the predicate c names.
-/
namespace Sys2Proof.Machine
open Sys2Proof

/-- CMPEQ (R135): equal. -/
def execCmpeq (e : Fin 16) (gd : Guard) (f : FmtE) (s : State) : Host.Outcome State Fault Refusal :=
  runEng (fun m => m.predicate e gd f [f.a, f.b] [] (fun c => cmpEq (c.g f.a) (c.g f.b))) s

/-- CMPNE (R135): not equal. -/
def execCmpne (e : Fin 16) (gd : Guard) (f : FmtE) (s : State) : Host.Outcome State Fault Refusal :=
  runEng (fun m => m.predicate e gd f [f.a, f.b] [] (fun c => cmpNe (c.g f.a) (c.g f.b))) s

/-- CMPLT (R135): signed less-than. -/
def execCmplt (e : Fin 16) (gd : Guard) (f : FmtE) (s : State) : Host.Outcome State Fault Refusal :=
  runEng (fun m => m.predicate e gd f [f.a, f.b] [] (fun c => cmpLt (c.g f.a) (c.g f.b))) s

/-- CMPLTU (R135): unsigned less-than. -/
def execCmpltu (e : Fin 16) (gd : Guard) (f : FmtE) (s : State) : Host.Outcome State Fault Refusal :=
  runEng (fun m => m.predicate e gd f [f.a, f.b] [] (fun c => cmpLtu (c.g f.a) (c.g f.b))) s

/-- CMPLE (R135): signed less-or-equal. -/
def execCmple (e : Fin 16) (gd : Guard) (f : FmtE) (s : State) : Host.Outcome State Fault Refusal :=
  runEng (fun m => m.predicate e gd f [f.a, f.b] [] (fun c => cmpLe (c.g f.a) (c.g f.b))) s

/-- CMPLEU (R135): unsigned less-or-equal. -/
def execCmpleu (e : Fin 16) (gd : Guard) (f : FmtE) (s : State) : Host.Outcome State Fault Refusal :=
  runEng (fun m => m.predicate e gd f [f.a, f.b] [] (fun c => cmpLeu (c.g f.a) (c.g f.b))) s

/-- CMPEQI (R135): the b field as a signed imm6. -/
def execCmpeqi (e : Fin 16) (gd : Guard) (f : FmtE) (s : State) : Host.Outcome State Fault Refusal :=
  runEng (fun m => m.predicate e gd f [f.a] [] (fun c => cmpEq (c.g f.a) (sext6 f.b))) s

/-- CMPLTI (R135): signed, the b field as imm6. -/
def execCmplti (e : Fin 16) (gd : Guard) (f : FmtE) (s : State) : Host.Outcome State Fault Refusal :=
  runEng (fun m => m.predicate e gd f [f.a] [] (fun c => cmpLt (c.g f.a) (sext6 f.b))) s

/-- TSTB (R135): bit b[4:0] of g(a). -/
def execTstb (e : Fin 16) (gd : Guard) (f : FmtE) (s : State) : Host.Outcome State Fault Refusal :=
  runEng (fun m => m.predicate e gd f [f.a] [] (fun c => testBit5 (c.g f.a) f.b)) s

/-- ANY (R135). -/
def execAny (e : Fin 16) (gd : Guard) (f : FmtE) (s : State) : Host.Outcome State Fault Refusal :=
  runEng (fun m => m.predicate e gd f [f.a, f.b] [] (fun c => anyLane (c.g f.a) (c.g f.b))) s

/-- ALL (R135). -/
def execAll (e : Fin 16) (gd : Guard) (f : FmtE) (s : State) : Host.Outcome State Fault Refusal :=
  runEng (fun m => m.predicate e gd f [f.a, f.b] [] (fun c => allLanes (c.g f.a) (c.g f.b))) s

/-- PAND (R135, R136): the fields name predicates a[3:0] and b[3:0]. -/
def execPand (e : Fin 16) (gd : Guard) (f : FmtE) (s : State) : Host.Outcome State Fault Refusal :=
  runEng (fun m => m.predicate e gd f [] [f.a.val % 16, f.b.val % 16] (fun c => c.p (f.a.val % 16) && c.p (f.b.val % 16))) s

/-- POR (R135, R136): the fields name predicates a[3:0] and b[3:0]. -/
def execPor (e : Fin 16) (gd : Guard) (f : FmtE) (s : State) : Host.Outcome State Fault Refusal :=
  runEng (fun m => m.predicate e gd f [] [f.a.val % 16, f.b.val % 16] (fun c => c.p (f.a.val % 16) || c.p (f.b.val % 16))) s

/-- PXOR (R135, R136): the fields name predicates a[3:0] and b[3:0]. -/
def execPxor (e : Fin 16) (gd : Guard) (f : FmtE) (s : State) : Host.Outcome State Fault Refusal :=
  runEng (fun m => m.predicate e gd f [] [f.a.val % 16, f.b.val % 16] (fun c => xor (c.p (f.a.val % 16)) (c.p (f.b.val % 16)))) s

/-- PANDN (R135, R136): the fields name predicates a[3:0] and b[3:0]. -/
def execPandn (e : Fin 16) (gd : Guard) (f : FmtE) (s : State) : Host.Outcome State Fault Refusal :=
  runEng (fun m => m.predicate e gd f [] [f.a.val % 16, f.b.val % 16] (fun c => c.p (f.a.val % 16) && !c.p (f.b.val % 16))) s

/-- PNOR (R135, R136): the fields name predicates a[3:0] and b[3:0]. -/
def execPnor (e : Fin 16) (gd : Guard) (f : FmtE) (s : State) : Host.Outcome State Fault Refusal :=
  runEng (fun m => m.predicate e gd f [] [f.a.val % 16, f.b.val % 16] (fun c => !(c.p (f.a.val % 16) || c.p (f.b.val % 16)))) s

end Sys2Proof.Machine
end

