-- ==== Sys2Proof/Machine/FieldRows.lean ====
section
/-!
DEFINITION. The commands of the field side: on-board inputs (R210–R216, R301–R307), output switches, clamp phases, readback and
supervision (R308–R319, R593), and the health contact (R321).
-/
namespace Sys2Proof.Machine
open Sys2Proof

/-- A command of the field side, which is supplied from CONFIG on (R559). Log 2 (DESIGN CHOICE). -/
def runField (t : Nat) (f : Mach → Mach) (s : State) : Host.Outcome State Fault Refusal := runAt t (fun m => if m.alive then f m else m) s

/-! ### Inputs -/

/-- The change of one accepted input (R210–R212): its run began one filter time before the sample that accepts it; FIRST stamps the first
sample that departed from the accepted level. -/
def Mach.diChange (m : Mach) (n first : Nat) : Option PtChange :=
  let beg := m.now - m.diTime n
  if m.flag (R.FIO_DIG_STAT_OK (n / 16)) && decide (first ≤ beg) then
    let at0 := if m.flag (R.EVU_DI_CFG_STAMP n) then beg else first
    some { idx := n, v := !(m.pt n).sv, q := m.diQ n, stamp := at0 - m.fld R.EVU_DIDLY_DELAY * 10 }
  else none

/-- DI_TRANSITION_ACCEPTED (R210): the inputs accepted at one sample, with the sample that first departed, are one change. -/
def execDiTransitionAccepted (t : Nat) (ins : List (Fin 64 × Nat)) (s : State) : Host.Outcome State Fault Refusal :=
  runField t (fun m => if m.now % 100 = 0 then m.source (ins.filterMap (fun x => m.diChange x.1 x.2)) else m) s

/-- Release a blocked point (R215): the source's value and quality, and a CHREL entry. Log 30 (DEDUCED). -/
def Mach.chatterRelease (m : Mach) (i : Nat) : Mach :=
  match m.chatter i with
  | some (_, _, quiet) =>
    let p := m.pt i
    if p.blocked && decide (p.lastAcc + quiet ≤ m.now) then
      let m := (m.setPt i { p with blocked := false, trans := [] }).showBlocked i
      m.change { pts := [{ idx := i, v := p.sv, q := p.sq, stamp := m.now, kind := 4 }] }
    else m
  | none => m

/-- CHATTER_RELEASE (R215). -/
def execChatterRelease (t : Nat) (i : Fin 4352) (s : State) : Host.Outcome State Fault Refusal := runField t (fun m => m.chatterRelease i) s

/-- WIRE_BREAK_MEASUREMENT (R304): the current of a monitored input in µA. Log 55 (DEDUCED). -/
def execWireBreakMeasurement (t : Nat) (n : Fin 64) (cur : Nat) (s : State) : Host.Outcome State Fault Refusal :=
  runField t (fun m =>
    if m.flag (diBit R.FIO_WBEN_LO n) then m.setDi n ((m.di n).measure cur) else m) s

/-- A declared break or restoration (R304, R305). -/
def Mach.declareWire (m : Mach) (n : Nat) : Mach :=
  let d := m.di n
  let decl := 3 - d.cls
  if m.flag (diBit R.FIO_WBEN_LO n) ∧ 20 ≤ d.run ∧ d.cls ≠ 0 ∧ decl ≠ d.decl then
    let was := m.flag (diBit R.FIO_WB_LO n)
    let m := m.setDi n { d with decl := decl }
    let m := m.setFlag (diBit R.FIO_WB_LO n) (decl == 2)
    if (decl == 2) = was then m
    else
      let m := m.ownSource [{ idx := n, v := (m.pt n).sv, q := m.diQ n, stamp := m.now }]
      if was then m.clear 0x31C8 n 1 else m.raise 0x31C8 n 1
  else m

/-- WIRE_BREAK_DECLARATION (R305). -/
def execWireBreakDeclaration (t : Nat) (n : Fin 64) (s : State) : Host.Outcome State Fault Refusal := runField t (fun m => m.declareWire n) s

/-- INPUT_GROUP_ABSENT (R307): once for each absence, one from the start on included. Log 54 (DEDUCED). -/
def execInputGroupAbsent (t : Nat) (g : Fin 4) (s : State) : Host.Outcome State Fault Refusal :=
  runField t (fun m =>
    if !m.faultOn (0x31C4 + g) then
      let m := (m.setFlag (R.FIO_DIG_STAT_OK g) false).satFld (R.FIO_DIG_STAT_LOSSCNT g) 1
      (m.sourceQuality ((List.range 16).map (fun i => 16 * g.val + i)) 1 m.now).raise (0x31C4 + g) 0 2
    else m) s

/-- INPUT_GROUP_RETURN (R307): the 16 current values and qualities as one change. Log 54 (DEDUCED). -/
def execInputGroupReturn (t : Nat) (g : Fin 4) (levels : BitVec 16) (s : State) : Host.Outcome State Fault Refusal :=
  runField t (fun m =>
    if m.flag (R.FIO_DIG_STAT_OK g) then m
    else
      let m := m.setFlag (R.FIO_DIG_STAT_OK g) true
      let m := m.source ((List.range 16).map (fun i => { idx := 16 * g.val + i, v := levels.getLsbD i, q := m.diQ (16 * g.val + i), stamp := m.now }))
      m.clear (0x31C4 + g) 0 2) s

/-! ### Switches, clamp phases and readback -/

/-- READBACK_TRANSITION (R316): a run of 2 µs, stamped with the first sample that departed. -/
def execReadbackTransition (t : Nat) (n : Fin 32) (first : Nat) (s : State) : Host.Outcome State Fault Refusal :=
  runField t (fun m =>
    if first + 2000 ≤ m.now then
      let v := !m.flag (R.FIO_DO_STAT_RB n)
      let m := m.setFlag (R.FIO_DO_STAT_RB n) v
      (m.ownSource [{ idx := 64 + n.val, v := v, q := m.doQ n, stamp := first - m.fld R.FIO_RBDLY_DELAY * 10 }]).doCheck n
    else m) s

/-- SWITCH_TRANSITION_END (R593): the switch follows its command; a turn-off under load begins the clamp phase (R318). It runs whatever the
module's state. Log 57 (DEDUCED). -/
def execSwitchTransitionEnd (t : Nat) (n : Fin 32) (load : Bool) (s : State) : Host.Outcome State Fault Refusal :=
  runAt t (fun m =>
    let on := m.fio.cmd.getLsbD n
    if on != m.fio.sw.getLsbD n && !m.fio.clamp.getLsbD n then
      let m := { m with fio := { m.fio with sw := bitPut m.fio.sw n on } }
      let m := if on then m.addFld (R.FIO_DO_CNT_ONS n) 1
        else if load then { m with fio := { m.fio with clamp := bitPut m.fio.clamp n true, clampAt := sset 0 m.fio.clampAt n m.now } }
        else m
      m.doCheck n
    else m) s

/-- CLAMP_PHASE_END (R318, R319), whatever the module's state: a pending enable turns the switch on. Log 57 (DEDUCED). -/
def execClampPhaseEnd (t : Nat) (n : Fin 32) (s : State) : Host.Outcome State Fault Refusal :=
  runAt t (fun m =>
    if m.fio.clamp.getLsbD n then
      { m with fio := { m.fio with clamp := bitPut m.fio.clamp n false, clampAt := sset 0 m.fio.clampAt n 0,
                                   onAt := if m.fio.cmd.getLsbD n then sset 0 m.fio.onAt n m.now else m.fio.onAt } }
    else m) s

/-- CLAMP_LONG (R319): a clamp phase beyond 2 ms. -/
def execClampLong (t : Nat) (n : Fin 32) (s : State) : Host.Outcome State Fault Refusal :=
  runField t (fun m =>
    if m.fio.clamp.getLsbD n && decide (sget 0 m.fio.clampAt n + 2000000 ≤ m.now) then
      (m.setFlag (R.FIO_DO_STAT_CLAMPLONG n) true).raise 0x31C9 n 1
    else m) s

/-! ### Supervision of the outputs (R313, R314) -/

/-- OVERLOAD: the channel is latched off. -/
def execOverload (t : Nat) (n : Fin 32) (s : State) : Host.Outcome State Fault Refusal :=
  runField t (fun m =>
    if m.fio.sw.getLsbD n && !m.flag (R.FIO_DO_STAT_OVL n) then (m.satFld (R.FIO_DO_CNT_TRIPS n) 1).doRaise n (R.FIO_DO_STAT_OVL n) 0x3160 0
    else m) s

/-- OVER_TEMPERATURE: the channel is latched off. -/
def execOverTemperature (t : Nat) (n : Fin 32) (s : State) : Host.Outcome State Fault Refusal :=
  runField t (fun m =>
    if m.flag (R.FIO_DO_STAT_OTMP n) then m else (m.satFld (R.FIO_DO_CNT_TRIPS n) 1).doRaise n (R.FIO_DO_STAT_OTMP n) 0x3160 1) s

/-- GROUP_OVERCURRENT: all 16 channels are latched off. -/
def execGroupOvercurrent (t : Nat) (h : Fin 2) (s : State) : Host.Outcome State Fault Refusal :=
  runField t (fun m =>
    if m.flag (R.FIO_DOG_STAT_GTRIP h) then m
    else (((m.setFlag (R.FIO_DOG_STAT_GTRIP h) true).groupHist h).raise (0x31C0 + h) 0 2).doQuality (groupChannels h)) s

/-- OPEN_WIRE_ON_STATE: switch on, with FIO.DOn.CFG.OWON. -/
def execOpenWireOnState (t : Nat) (n : Fin 32) (s : State) : Host.Outcome State Fault Refusal :=
  runField t (fun m =>
    if m.fio.sw.getLsbD n && m.flag (R.FIO_DO_CFG_OWON n) && !m.flag (R.FIO_DO_STAT_OPENON n) then
      m.doRaise n (R.FIO_DO_STAT_OPENON n) 0x3180 0
    else m) s

/-- OPEN_WIRE_OFF_STATE: switch off, clamp phase ended, readback off, with FIO.DOn.CFG.OWOFF. -/
def execOpenWireOffState (t : Nat) (n : Fin 32) (s : State) : Host.Outcome State Fault Refusal :=
  runField t (fun m =>
    if !m.fio.sw.getLsbD n && !m.fio.clamp.getLsbD n && !m.flag (R.FIO_DO_STAT_RB n) && m.flag (R.FIO_DO_CFG_OWOFF n) &&
        !m.flag (R.FIO_DO_STAT_OPENOFF n) then
      m.doRaise n (R.FIO_DO_STAT_OPENOFF n) 0x3180 1
    else m) s

/-- OPEN_WIRE_CLEARED: the on-state or the off-state condition ends. -/
def execOpenWireCleared (t : Nat) (n : Fin 32) (on : Bool) (s : State) : Host.Outcome State Fault Refusal :=
  runField t (fun m =>
    if on then m.doClear n (R.FIO_DO_STAT_OPENON n) 0x3180 0 else m.doClear n (R.FIO_DO_STAT_OPENOFF n) 0x3180 1) s

/-- READBACK_MISSING: readback off 100 µs after the driver turned the switch on. -/
def execReadbackMissing (t : Nat) (n : Fin 32) (s : State) : Host.Outcome State Fault Refusal :=
  runField t (fun m =>
    if m.fio.cmd.getLsbD n && !m.fio.clamp.getLsbD n && !m.flag (R.FIO_DO_STAT_RB n) && !m.flag (R.FIO_DO_STAT_RBERR n) &&
        decide (sget 0 m.fio.onAt n + 100000 ≤ m.now) then
      m.doRaise n (R.FIO_DO_STAT_RBERR n) 0x31A0 0
    else m) s

/-- EXTERNAL_FEED: ALONE or LEAD, switch off, clamp phase ended, readback on for 1 ms. Log 58 (DEDUCED). -/
def execExternalFeed (t : Nat) (n : Fin 32) (s : State) : Host.Outcome State Fault Refusal :=
  runField t (fun m =>
    if m.st == .run && decide (m.role ≤ 1) && !m.fio.sw.getLsbD n && !m.fio.clamp.getLsbD n && m.flag (R.FIO_DO_STAT_RB n) &&
        !m.flag (R.FIO_DO_STAT_RBFEED n) then
      m.doRaise n (R.FIO_DO_STAT_RBFEED n) 0x31A0 1
    else m) s

/-- FIELD_SUPPLY_ABSENT: VFLD below 16.0 V, once for each absence, one from the start on included. Log 54 (DEDUCED). -/
def execFieldSupplyAbsent (t : Nat) (h : Fin 2) (s : State) : Host.Outcome State Fault Refusal :=
  runField t (fun m =>
    if !m.faultOn (0x31C2 + h) then
      ((((m.setFlag (R.FIO_DOG_STAT_VFLDOK h) false).groupHist h).stat (4242 + h) false).raise (0x31C2 + h) 0 1).doQuality (groupChannels h)
    else m) s

/-- FIELD_SUPPLY_PRESENT: VFLD above 17.0 V. Log 54 (DEDUCED). -/
def execFieldSupplyPresent (t : Nat) (h : Fin 2) (s : State) : Host.Outcome State Fault Refusal :=
  runField t (fun m =>
    if m.flag (R.FIO_DOG_STAT_VFLDOK h) then m
    else (((m.setFlag (R.FIO_DOG_STAT_VFLDOK h) true).stat (4242 + h) true).clear (0x31C2 + h) 0 1).doQuality (groupChannels h)) s

/-- OVL_REARM (R314). -/
def execOvlRearm (t : Nat) (n : Fin 32) (s : State) : Host.Outcome State Fault Refusal := runField t (fun m => m.rearmOvl n) s

/-- OTMP_REARM (R314). -/
def execOtmpRearm (t : Nat) (n : Fin 32) (s : State) : Host.Outcome State Fault Refusal := runField t (fun m => m.rearmOtmp n) s

/-- GTRIP_REARM (R314). -/
def execGtripRearm (t : Nat) (h : Fin 2) (s : State) : Host.Outcome State Fault Refusal := runField t (fun m => m.rearmGroup h) s

/-! ### The health contact (R321) -/

/-- HEALTH_CONTACT_REFRESH. -/
def execHealthContactRefresh (t : Nat) (s : State) : Host.Outcome State Fault Refusal :=
  runField t (fun m => if m.hcMay then { m with fio := { m.fio with hcAt := m.now } }.setHc true else m) s

/-- HEALTH_CONTACT_TIMEOUT: 10 ms without a refresh. -/
def execHealthContactTimeout (t : Nat) (s : State) : Host.Outcome State Fault Refusal :=
  runField t (fun m => if m.fio.hcAt + 10000000 ≤ m.now then m.setHc false else m) s

end Sys2Proof.Machine
end

