-- ==== Sys2Proof/Machine/MovRows.lean ====
section
/-!
DEFINITION. The commands of the move engine (R494–R511).
-/
namespace Sys2Proof.Machine
open Sys2Proof

/-- A rising edge of a request line adds a request to each of its channels (R494, R497). -/
def Mach.requestLine (m : Mach) (l : Nat) : Mach := foldM (lineChannels l) (fun c m => m.movRequest c) m

/-- REQUEST_LINE (R497). -/
def execRequestLine (t : Nat) (line : Fin 5) (s : State) : Host.Outcome State Fault Refusal := runAt t (fun m => if m.alive then m.requestLine line else m) s

/-- BURST (R499): `bad` is the offset in the burst of a byte whose DRAM read cannot be corrected (R505). -/
def execBurst (t : Nat) (bad : Option (Fin 64)) (s : State) : Host.Outcome State Fault Refusal := runAt t (fun m => m.movBoundary (bad.map (fun (x : Fin 64) => x.val))) s

/-- MOV_CH_EN (R506). -/
def execMovChEn (t : Nat) (c : Fin 16) (on : Bool) (s : State) : Host.Outcome State Fault Refusal := runAt t (fun m => if m.st == .off then m else m.movEnable c on) s

/-- MOV_CH_ABORT (R506). -/
def execMovChAbort (t : Nat) (c : Fin 16) (keep : Bool) (s : State) : Host.Outcome State Fault Refusal := runAt t (fun m => if m.st == .off then m else m.movAbort c keep) s

/-- MOV_ERR_RESTART (R505). -/
def execMovErrRestart (t : Nat) (c : Fin 16) (s : State) : Host.Outcome State Fault Refusal := runAt t (fun m => m.movRestart c) s

end Sys2Proof.Machine
end

