-- ==== Sys2Proof/Machine/OlcRows.lean ====
section
/-!
DEFINITION. The commands of the online change (R233–R261) that no client sends.
-/
namespace Sys2Proof.Machine
open Sys2Proof

/-- OLC_LOAD_STEP (R236). -/
def execOlcLoadStep (t : Nat) (s : State) : Host.Outcome State Fault Refusal := runAt t (fun m => m.olcStep) s

/-- DRAIN_START (R247). -/
def execDrainStart (t : Nat) (s : State) : Host.Outcome State Fault Refusal := runAt t (fun m => m.drainStart) s

/-- DRAIN_COMPLETE (R249). -/
def execDrainComplete (t : Nat) (s : State) : Host.Outcome State Fault Refusal := runAt t (fun m => m.drainComplete) s

/-- SWAP_COMMIT (R250). -/
def execSwapCommit (t : Nat) (s : State) : Host.Outcome State Fault Refusal := runAt t (fun m => m.swapCommit) s

/-- OLC_ABANDON (R254). -/
def execOlcAbandon (t : Nat) (s : State) : Host.Outcome State Fault Refusal := runAt t (fun m => m.drainLate) s

end Sys2Proof.Machine
end

