-- ==== Sys2Proof/Machine/PairRows.lean ====
section
/-!
DEFINITION. The commands of the redundant pair (R262–R300). A frame command carries the frame as one lane delivers it; the sequence layer decides
whether it is the first copy, a duplicate or behind a gap (R266, R270), so a frame's effect may come with the frame that fills a gap.
-/
namespace Sys2Proof.Machine
open Sys2Proof

/-- A received frame of a type. -/
def linkFrame (ty : Nat) (f : LinkRx) : LinkFrame := ⟨ty, f.flags.toNat, f.fseq.toNat, f.epoch.toNat, f.payload⟩

/-- A copy of a frame on its lane: one whose CRC is wrong goes no further (R266, R271). -/
def Mach.linkCopy (m : Mach) (ty : Nat) (f : LinkRx) : Mach :=
  let x := linkFrame ty f
  if f.crc = x.crc then m.linkRx f.lane x else m.linkCrcError f.lane

/-- A well-formed frame of a type is received. Log 2 (DESIGN CHOICE). -/
def runLink (t ty : Nat) (f : LinkRx) (s : State) : Host.Outcome State Fault Refusal :=
  runAt t (fun m => if (linkFrame ty f).bad then m else m.linkCopy ty f) s

/-! ### Frames -/

/-- HELLO: identity, role and digests of the partner (R287, R290). -/
def execHello (t : Nat) (f : LinkRx) (s : State) : Host.Outcome State Fault Refusal := runLink t 0x01 f s

/-- RENEW: a renewal of the lease (R273). -/
def execRenew (t : Nat) (f : LinkRx) (s : State) : Host.Outcome State Fault Refusal := runLink t 0x02 f s

/-- LINK_YIELD: the holder yields (R292). -/
def execLinkYield (t : Nat) (f : LinkRx) (s : State) : Host.Outcome State Fault Refusal := runLink t 0x03 f s

/-- TAKEN: the partner has taken the token (R292). -/
def execTaken (t : Nat) (f : LinkRx) (s : State) : Host.Outcome State Fault Refusal := runLink t 0x04 f s

/-- ACK: the follower's acknowledgement (R281). -/
def execAck (t : Nat) (f : LinkRx) (s : State) : Host.Outcome State Fault Refusal := runLink t 0x05 f s

/-- RETX: frames asked for again (R270). -/
def execRetx (t : Nat) (f : LinkRx) (s : State) : Host.Outcome State Fault Refusal := runLink t 0x06 f s

/-- NOTICE: a fault of the follower (R280). -/
def execNotice (t : Nat) (f : LinkRx) (s : State) : Host.Outcome State Fault Refusal := runLink t 0x07 f s

/-- STREAM: stream records (R279, R280). -/
def execStream (t : Nat) (f : LinkRx) (s : State) : Host.Outcome State Fault Refusal := runLink t 0x10 f s

/-- SNAP_FRAME: a snapshot marker (R279, R280). -/
def execSnapFrame (t : Nat) (f : LinkRx) (s : State) : Host.Outcome State Fault Refusal := runLink t 0x11 f s

/-- COMMIT_FRAME: a commit record (R279, R282). -/
def execCommitFrame (t : Nat) (f : LinkRx) (s : State) : Host.Outcome State Fault Refusal := runLink t 0x12 f s

/-- DELREQ: a delta request (R282). -/
def execDelreq (t : Nat) (f : LinkRx) (s : State) : Host.Outcome State Fault Refusal := runLink t 0x13 f s

/-- DELTA: a delta part (R282, R289). -/
def execDelta (t : Nat) (f : LinkRx) (s : State) : Host.Outcome State Fault Refusal := runLink t 0x14 f s

/-- GSTN: a stNum of the lead (R381). -/
def execGstn (t : Nat) (f : LinkRx) (s : State) : Host.Outcome State Fault Refusal := runLink t 0x15 f s

/-- XREQ: a state transfer request (R289). -/
def execXreq (t : Nat) (f : LinkRx) (s : State) : Host.Outcome State Fault Refusal := runLink t 0x20 f s

/-- XBLK: a block of state (R288). -/
def execXblk (t : Nat) (f : LinkRx) (s : State) : Host.Outcome State Fault Refusal := runLink t 0x21 f s

/-- XDONE: the completion CSN (R289). -/
def execXdone (t : Nat) (f : LinkRx) (s : State) : Host.Outcome State Fault Refusal := runLink t 0x22 f s

/-- OLC_FRAME: online-change coordination (R258, R259). -/
def execOlcFrame (t : Nat) (f : LinkRx) (s : State) : Host.Outcome State Fault Refusal := runLink t 0x30 f s

/-- IDLE: nothing to send; the number tells of a gap (R269). -/
def execIdle (t : Nat) (f : LinkRx) (s : State) : Host.Outcome State Fault Refusal := runLink t 0x7F f s

/-- TIME_LEAD: a TIME frame of subtype 0, the lead's time (R285). -/
def execTimeLead (t : Nat) (f : LinkRx) (s : State) : Host.Outcome State Fault Refusal :=
  if byteAt f.payload 0 = 0 then runLink t 0x08 f s else runAt t id s

/-- DELAY_REQUEST: a TIME frame of subtype 1, a delay request, answered (R285). -/
def execDelayRequest (t : Nat) (f : LinkRx) (s : State) : Host.Outcome State Fault Refusal :=
  if byteAt f.payload 0 = 1 then runLink t 0x08 f s else runAt t id s

/-- DELAY_RESPONSE: a TIME frame of subtype 2, a delay response: the one-way delay (R285). -/
def execDelayResponse (t : Nat) (f : LinkRx) (s : State) : Host.Outcome State Fault Refusal :=
  if byteAt f.payload 0 = 2 then runLink t 0x08 f s else runAt t id s

/-- MALFORMED_LINK_FRAME (R271): an unknown type, LEN above 128 or a short payload; it takes its place in the sequence and is discarded. -/
def execMalformedLinkFrame (t : Nat) (ty : BitVec 8) (f : LinkRx) (s : State) : Host.Outcome State Fault Refusal :=
  runAt t (fun m => if (linkFrame ty.toNat f).bad then m.linkCopy ty.toNat f else m) s

/-! ### Instants -/

/-- RENEWAL (R272). -/
def execRenewal (t : Nat) (s : State) : Host.Outcome State Fault Refusal := runAt t (fun m => m.renewal) s

/-- FENCE (R275). -/
def execFence (t : Nat) (s : State) : Host.Outcome State Fault Refusal := runAt t (fun m => m.fence) s

/-- TOKEN_TAKE (R276, R293, R298). -/
def execTokenTake (t : Nat) (s : State) : Host.Outcome State Fault Refusal := runAt t (fun m => m.leaseOut) s

/-- HELLO_SEND (R287). -/
def execHelloSend (t : Nat) (s : State) : Host.Outcome State Fault Refusal := runAt t (fun m => m.helloSend) s

/-- TAKEN_TIMEOUT (R292). -/
def execTakenTimeout (t : Nat) (s : State) : Host.Outcome State Fault Refusal := runAt t (fun m => m.takenTimeout) s

/-- AGREEMENT_TIMEOUT (R281). -/
def execAgreementTimeout (t : Nat) (s : State) : Host.Outcome State Fault Refusal := runAt t (fun m => m.agreeTimeout) s

/-- GAP_TIMEOUT (R270). -/
def execGapTimeout (t : Nat) (s : State) : Host.Outcome State Fault Refusal := runAt t (fun m => m.gapTimeout) s

/-- TIME_SEND (R285). -/
def execTimeSend (t : Nat) (s : State) : Host.Outcome State Fault Refusal := runAt t (fun m => m.timeSend) s

/-- DELAY_MEASURE (R285). -/
def execDelayMeasure (t : Nat) (s : State) : Host.Outcome State Fault Refusal := runAt t (fun m => m.delayMeasure) s

/-- FOLLOWER_APPLY (R283). -/
def execFollowerApply (t : Nat) (s : State) : Host.Outcome State Fault Refusal := runAt t (fun m => m.followerApply) s

/-- TRANSFER_RESTART (R289). -/
def execTransferRestart (t : Nat) (s : State) : Host.Outcome State Fault Refusal := runAt t (fun m => m.xferRestart) s

/-- IDLE_SEND (R269). -/
def execIdleSend (t : Nat) (s : State) : Host.Outcome State Fault Refusal := runAt t (fun m => m.idleSend) s

/-- LISTEN_EXPIRY (R286). -/
def execListenExpiry (t : Nat) (s : State) : Host.Outcome State Fault Refusal := runAt t (fun m => m.listenOver) s

/-- JOINWAIT_EXPIRY (R286). -/
def execJoinwaitExpiry (t : Nat) (s : State) : Host.Outcome State Fault Refusal := runAt t (fun m => m.joinWaitOver) s

/-- PARTNER_HEARTBEAT_TIMEOUT (R265). -/
def execPartnerHeartbeatTimeout (t : Nat) (s : State) : Host.Outcome State Fault Refusal := runAt t (fun m => m.heartbeatLost) s

/-- TRANSFER_STEP (R288): the lead sends the next n + 1 blocks. -/
def execTransferStep (t : Nat) (n : Fin 64) (s : State) : Host.Outcome State Fault Refusal := runAt t (fun m => m.xferSend (n.val + 1)) s

/-- LANE_DOWN (R269). -/
def execLaneDown (t : Nat) (l : Fin 2) (s : State) : Host.Outcome State Fault Refusal := runAt t (fun m => m.laneDown l) s

/-- LANE_UP (R269). -/
def execLaneUp (t : Nat) (l : Fin 2) (s : State) : Host.Outcome State Fault Refusal := runAt t (fun m => m.laneBack l) s

end Sys2Proof.Machine
end

