-- ==== Sys2Proof/Machine/PortRows.lean ====
section
/-!
DEFINITION. The commands of the station ports (R359–R385).
-/
namespace Sys2Proof.Machine
open Sys2Proof

/-! ### GOOSE (R373–R381) -/

/-- GOOSE_FRAME (R373–R377). -/
def execGooseFrame (t : Nat) (h : PortHead) (g : GooseMsg) (s : State) : Host.Outcome State Fault Refusal := runAt t (fun m => m.hwFrame h (fun m => m.gooseFrame h.sof g)) s

/-- GOOSE_TAL_EXPIRY (R378). -/
def execGooseTalExpiry (t : Nat) (b : Fin 128) (s : State) : Host.Outcome State Fault Refusal := runAt t (fun m => m.gooseExpiry b) s

/-- GOOSE_RETRANSMISSION (R381). -/
def execGooseRetransmission (t : Nat) (b : Fin 32) (s : State) : Host.Outcome State Fault Refusal := runAt t (fun m => m.pubAgain b) s

/-! ### PTP (R369–R372) -/

/-- ANNOUNCE (R369, R370). -/
def execAnnounce (t : Nat) (h : PortHead) (a : AnnounceMsg) (s : State) : Host.Outcome State Fault Refusal := runAt t (fun m => m.ptpFrame h (fun m => m.ptpAnnounce h.port a)) s

/-- SYNC (R371). -/
def execSync (t : Nat) (h : PortHead) (y : SyncMsg) (s : State) : Host.Outcome State Fault Refusal := runAt t (fun m => m.ptpFrame h (fun m => m.ptpSync h.port h.sof y)) s

/-- FOLLOW_UP (R371). -/
def execFollowUp (t : Nat) (h : PortHead) (y : SyncMsg) (s : State) : Host.Outcome State Fault Refusal := runAt t (fun m => m.ptpFrame h (fun m => m.ptpFollowUp h.port y)) s

/-- PDELAY_REQ (R369). -/
def execPdelayReq (t : Nat) (h : PortHead) (d : PdelayMsg) (egress : Nat) (s : State) : Host.Outcome State Fault Refusal := runAt t (fun m => m.ptpFrame h (fun m => m.pdelayReq h.port h.sof egress d)) s

/-- PDELAY_RESP (R369). -/
def execPdelayResp (t : Nat) (h : PortHead) (d : PdelayMsg) (s : State) : Host.Outcome State Fault Refusal := runAt t (fun m => m.ptpFrame h (fun m => m.pdelayResp h.port h.sof d)) s

/-- PDELAY_RESP_FOLLOW_UP (R369). -/
def execPdelayRespFollowUp (t : Nat) (h : PortHead) (d : PdelayMsg) (s : State) : Host.Outcome State Fault Refusal := runAt t (fun m => m.ptpFrame h (fun m => m.pdelayRespFollowUp h.port d)) s

/-- PDELAY_REQ_SEND (R369), every 1 s on each port. -/
def execPdelayReqSend (t : Nat) (p : Fin 2) (egress : Nat) (s : State) : Host.Outcome State Fault Refusal := runAt t (fun m => m.pdelaySend p egress) s

/-- ANNOUNCE_RECEIPT_TIMEOUT (R370). -/
def execAnnounceReceiptTimeout (t : Nat) (p : Fin 2) (s : State) : Host.Outcome State Fault Refusal := runAt t (fun m => m.announceTimeout p) s

/-- PTP_OFFSET_TIMEOUT (R371). -/
def execPtpOffsetTimeout (t : Nat) (p : Fin 2) (s : State) : Host.Outcome State Fault Refusal := runAt t (fun m => m.ptpOffsetTimeout p) s

/-! ### PRP (R364–R368) -/

/-- PRP_SUPERVISION_SEND (R365), every 2000 ms in PRP mode. -/
def execPrpSupervisionSend (t : Nat) (s : State) : Host.Outcome State Fault Refusal := runAt t (fun m => if m.alive && m.fld R.STA_CFG_MODE == 0 then m.portSend (.prpSupervision 0x01154E000100 1) else m) s

/-- PRP_SUPERVISION_FRAME (R360): a frame for the supervisor; its reception keeps the node table (R367). -/
def execPrpSupervisionFrame (t : Nat) (h : PortHead) (s : State) : Host.Outcome State Fault Refusal := runAt t (fun m => m.supFrame h id) s

/-- A node has been silent for 60 s (R367). -/
def Mach.nodeOut (m : Mach) (mac : Nat) : Mach :=
  match sget none m.sp.nodes mac with
  | some n => if n.seen + 60000000000 ≤ m.now then m.setNode mac none else m
  | none => m

/-- PRP_NODE_TIMEOUT (R367). -/
def execPrpNodeTimeout (t : Nat) (mac : BitVec 48) (s : State) : Host.Outcome State Fault Refusal := runAt t (fun m => m.nodeOut mac.toNat) s

/-- PRP_LAN_SILENCE (R368). -/
def execPrpLanSilence (t : Nat) (p : Fin 2) (s : State) : Host.Outcome State Fault Refusal := runAt t (fun m => m.lanSilent p) s

/-! ### ARP and ICMP (R362) -/

/-- ARP_REQUEST (R362). -/
def execArpRequest (t : Nat) (h : PortHead) (ip : BitVec 32) (s : State) : Host.Outcome State Fault Refusal := runAt t (fun m => m.supFrame h (fun m => if ip.toNat = m.fld R.STA_IPADDR then m.portSend (.arpReply h.mac.toNat) else m)) s

/-- ICMP_ECHO (R362): up to 1472 bytes of data are answered. -/
def execIcmpEcho (t : Nat) (h : PortHead) (ip : BitVec 32) (data : List (BitVec 8)) (s : State) : Host.Outcome State Fault Refusal := runAt t (fun m => m.supFrame h (fun m =>
    if ip.toNat = m.fld R.STA_IPADDR ∧ data.length ≤ 1472 then m.portSend (.echoReply h.mac.toNat data) else m)) s

/-- A gratuitous ARP is due 1 s after a link-up (R362). -/
def Mach.garp (m : Mach) (p : Nat) : Mach :=
  match (m.port p).garpAt with
  | some a => if a ≤ m.now then (m.setPort p { m.port p with garpAt := none }).portSend .gratuitousArp else m
  | none => m

/-- GRATUITOUS_ARP (R362). -/
def execGratuitousArp (t : Nat) (p : Fin 2) (s : State) : Host.Outcome State Fault Refusal := runAt t (fun m => m.garp p) s

/-! ### Links and discarded frames (R359, R363, R383) -/

/-- PORT_LINK_UP (R359, R368): at 10, 100 or 1000 Mbit/s. -/
def execPortLinkUp (t : Nat) (p : Fin 2) (speed : Fin 3) (s : State) : Host.Outcome State Fault Refusal := runAt t (fun m => m.linkUp p speed) s

/-- PORT_LINK_DOWN (R359). -/
def execPortLinkDown (t : Nat) (p : Fin 2) (s : State) : Host.Outcome State Fault Refusal := runAt t (fun m => m.linkDown p) s

/-- SP_PORT_EN (R363). -/
def execSpPortEn (t : Nat) (p : Fin 2) (on : Bool) (s : State) : Host.Outcome State Fault Refusal := runAt t (fun m => if m.st == .off then m else m.portEnable p on) s

/-- PORT_NEGOTIATION_RESTART (R363). -/
def execPortNegotiationRestart (t : Nat) (p : Fin 2) (s : State) : Host.Outcome State Fault Refusal := runAt t (fun m => m.portRestart p) s

/-- A discarded frame (R383): 0 an Ethertype outside R360, a pause frame, an IPv4 fragment or option, or another UDP port; 1 an FCS error, runt or
oversize; 2 the own source MAC; 3 a PTP message of another version or domain, or malformed. -/
def Mach.discard (m : Mach) (h : PortHead) (why : Nat) : Mach :=
  let p := h.port.val
  match why with
  | 0 => m.hwFrame h (fun m => m.satFld (R.STA_SP_DROPTYPE p) 1)
  | 1 => if m.alive && m.portUp p then m.satFld (R.STA_SP_RXERR p) 1 else m
  | 2 => if h.mac.toNat = m.ownMac then m.hwFrame h id else m
  | _ => m.ptpFrame h (fun m => m.ptpBad)

/-- DISCARDED_PORT_FRAME (R383). -/
def execDiscardedPortFrame (t : Nat) (h : PortHead) (why : Fin 4) (s : State) : Host.Outcome State Fault Refusal := runAt t (fun m => m.discard h why) s

end Sys2Proof.Machine
end

