-- ==== Sys2Proof/Machine/ScanRows.lean ====
section
/-!
DEFINITION. The commands of tasks, scans and engines: boundaries (R48–R53), quads and light (R11–R13, R24, R560), segment start and
halt (R21, R59, R104), the commit unit's start and completion (R36, R39), timer expiries (R199, R200), changes held back
(R31), engine faults (R123), and the clearing of their records (R86, R126, R127).
-/
namespace Sys2Proof.Machine
open Sys2Proof

/-! ### Boundaries -/

/-- The next boundary of task k (TSKk.NBND). Log 50 (DEDUCED). -/
def Mach.nbnd (m : Mach) (k : Nat) : Nat := m.fld64 (R.TSK_NBND_LO k)

/-- R49–R51: a skipped boundary at an instant. Log 19 (DEDUCED). -/
def Mach.skipBoundary (m : Mach) (k b : Nat) : Mach :=
  let old := m.fld (R.TSK_STAT_CONSKIP k)
  let m := (m.taskEvent k 0x45 b).setFlag (R.TSK_STAT_OVRW k) true
  let m := ((m.stat (4320 + k) true).satFld (R.TSK_STAT_CONSKIP k) 1).satFld (R.TSK_SKIPS k) 1
  if old < m.fld (R.TSK_STAT_CONSKIP k) ∧ m.fld (R.TSK_STAT_CONSKIP k) = m.fld (R.TSK_CFG_OVRLIM k) then
    ((m.taskEvent k 0x46 b).setFlag (R.TSK_STAT_OVRF k) true).raise (0x3020 + k) 0 2
  else m

/-- R48, R50, R52: a taken boundary fixes its snapshot at the boundary instant. -/
def Mach.takeBoundary (m : Mach) (k b : Nat) : Mach :=
  let m := m.setTask k { m.task k with anyTaken := true, lastTaken := b, served := false, bndAt := some b }
  (m.setFld (R.TSK_STAT_CONSKIP k) 0).trigger k b 0 0

/-- R430: a task slot counts from the first boundary after the entry to RUN. Log 19 (DEDUCED). -/
def Mach.boundarySlot (m : Mach) (k : Nat) : Mach :=
  let n := m.fld (R.TSK_CFG_WDSLOT k)
  if m.role ≤ 2 ∧ !m.flag (R.WDG_SLOT_CFG_EN n) ∧ !(m.olcOpen && m.olcTask k) then m.slotOn n (m.fld (R.TSK_WDPER k)) else m

/-- R53: the restart budget is renewed at every boundary. -/
def Mach.renewBudget (m : Mach) (k : Nat) : Mach :=
  (m.setFld (R.TSK_BUDGET_RSTLEFT k) (m.fld (R.TSK_BUDGET_RSTBUD k))).setTask k { m.task k with budgetLogged := false }

/-- A boundary of task k: taken or skipped by the holder; inside the window of an online change counted once (R248); passed by a module
that fixes no snapshots of its own (R280, R292). Log 50 (DEDUCED). -/
def Mach.boundary (m : Mach) (k : Nat) : Mach :=
  let b := m.nbnd k
  if m.st == .run && m.taskOn k && decide (b ≤ m.now) then
    let m := (m.renewBudget k).setFld64 (R.TSK_NBND_LO k) (b + m.periodNs k)
    let m := m.boundarySlot k
    if !m.hasToken || m.following || m.pair.yielding.isSome then m
    else if m.olcOpen && m.olcTask k then m.windowSkip k b
    else if !(m.task k).anyTaken || (m.task k).served then m.takeBoundary k b
    else m.skipBoundary k b
  else m

/-- BOUNDARY (R48). -/
def execBoundary (t : Nat) (k : Fin 32) (s : State) : Host.Outcome State Fault Refusal := runAt t (fun m => m.boundary k) s

/-! ### Quads and light -/

/-- The engines of the segments of task k that have no dependency. -/
def Mach.firstEngines (m : Mach) (k : Nat) : List Nat :=
  ((List.range (m.fld (R.TSK_SEGCFG_SEGCNT k))).filter (fun j => (segDeps (m.fld (R.TSK_SEGDEP_DEP k)) j).isEmpty)).map (fun j => m.fld (segMap k j))

/-- Request the power-up of the dark quads of task k ahead of its boundary (R24). -/
def Mach.requestQuads (m : Mach) (k : Nat) : Mach :=
  if m.st == .run && m.taskOn k && decide (m.nbnd k ≤ m.now + 26100) then
    foldM ((m.taskEngines k).map (· / 4)).eraseDups (fun q m => if (m.quad q).on then m else m.setQuad q { m.quad q with req := true }) m
  else m

/-- QUAD_POWER_UP_REQUEST (R24). -/
def execQuadPowerUpRequest (t : Nat) (k : Fin 32) (s : State) : Host.Outcome State Fault Refusal := runAt t (fun m => m.requestQuads k) s

/-- QUAD_POWER_UP (R11): a requested power-up completes. -/
def execQuadPowerUp (t : Nat) (q : Fin 4) (s : State) : Host.Outcome State Fault Refusal :=
  runAt t (fun m => if (m.quad q).req && !(m.quad q).down && m.alive then m.quadOn q else m) s

/-- Does an audit in hand keep quad q at least dim (R426)? -/
def Mach.auditHolds (m : Mach) (q : Nat) : Bool :=
  match m.sup.audit with
  | some a => a.engs.any (fun e => e / 4 == q) || (a.running && m.fld R.DIAG_AUD_ENG / 4 == q)
  | none => false

/-- Does a scan in SNAP or RUN still have a segment to run on quad q? Its engines stay powered, since no dependent segment of a
boundary scan waits for a power-up (R24). Log 15 (DEDUCED). -/
def Mach.scanNeeds (m : Mach) (q : Nat) : Bool := m.waitsOn (fun e => e / 4 == q)

/-- May quad q power down (R12, R560)? Log 15 (DEDUCED). -/
def Mach.quadIdle (m : Mach) (q : Nat) : Bool :=
  let es := (List.range 4).map (fun i => 4 * q + i)
  (m.quad q).on && !(m.quad q).req && !m.auditHolds q && !m.scanNeeds q &&
    es.all (fun e => (m.eng e).power != .lit && m.framesUsed e == 0 && !m.readySegs.any (fun r => r.2.2.1 == e)) &&
    (m.tasksOn.filter (fun k => (m.taskEngines k).any (fun e => e / 4 == q))).all (fun k =>
      !m.eventTask k && (m.st != .run || decide (m.now + 56000 < m.nbnd k)))

/-- QUAD_POWER_DOWN (R560). -/
def execQuadPowerDown (t : Nat) (q : Fin 4) (s : State) : Host.Outcome State Fault Refusal :=
  runAt t (fun m => if m.quadIdle q then (m.quadOff q).setQuad q { down := true } else m) s

/-- QUAD_POWER_DOWN_COMPLETE (R560, R570): a wake request that waited starts the power-up. -/
def execQuadPowerDownComplete (t : Nat) (q : Fin 4) (s : State) : Host.Outcome State Fault Refusal :=
  runAt t (fun m => if (m.quad q).down then m.setQuad q { m.quad q with down := false } else m) s

/-- SNAPSHOT_LEAD (R24): the engines of segments without dependency are lit 1 µs ahead of the boundary when they are free. -/
def execSnapshotLead (t : Nat) (k : Fin 32) (s : State) : Host.Outcome State Fault Refusal :=
  runAt t (fun m =>
    if m.st == .run && m.taskOn k && decide (m.nbnd k ≤ m.now + 1100) then
      foldM (m.firstEngines k) (fun e m =>
        if (m.eng e).act.isNone then (m.light e).setEng e { (m.light e).eng e with wantTill := m.nbnd k } else m) m
    else m) s

/-! ### Segments -/

/-- May a task's scan start a segment? One in RUN may; one in SNAP may when every segment of it that starts has its engine free, with a
frame free there (R58). Log 17 (DEDUCED). -/
def Mach.startsOn (m : Mach) (k : Nat) : Bool :=
  (m.task k).run.isSome ||
    (m.readySegs.filter (fun r => r.1 == k)).all (fun r =>
      (m.eng r.2.2.1).act.isNone && (m.eng r.2.2.1).power != .heldOut && decide (m.framesUsed r.2.2.1 < 3))

/-- The ready segment that starts on engine e next: the highest priority, then the first ready in steps of 10 ns, then the lowest task (R20). None while that scan
may not start yet (R58). Log 17 (DEDUCED). -/
def Mach.nextSeg (m : Mach) (e : Nat) : Option (Nat × Nat) :=
  ((m.readySegs.filter (fun r => r.2.2.1 == e)).foldl (fun (b : Option (Nat × Nat × Nat × Nat × Nat)) r => match b with
    | none => some r
    | some x =>
      if r.2.2.2.1 < x.2.2.2.1 ∨ (r.2.2.2.1 = x.2.2.2.1 ∧ (r.2.2.2.2 / 10 < x.2.2.2.2 / 10 ∨ (r.2.2.2.2 / 10 = x.2.2.2.2 / 10 ∧ r.1 < x.1))) then some r else some x)
    none).bind (fun r => if m.startsOn r.1 then some (r.1, r.2.1) else none)

/-- A scan in SNAP enters RUN with its first segment; anchored while the restart budget is used up (R58, R79, R82, R83). Log 17 (DEDUCED). -/
def Mach.enterScan (m : Mach) (k : Nat) : Mach :=
  match (m.task k).run, (m.task k).snap with
  | none, some sc =>
    let anch := !m.following && (sc.anchored || m.fld (R.TSK_BUDGET_RSTLEFT k) == 0)
    let first := anch && !sc.anchored
    let sc := { sc with anchored := anch, anchOrd := if first then m.cu.orders else sc.anchOrd, started := m.now }
    let m := m.setTask k { m.task k with snap := none, run := some sc }
    let m := if first then ({ m with cu := { m.cu with orders := m.cu.orders + 1 } }).taskEvent k 0x48 m.now else m
    if anch then m.addFld (R.TSK_ANCHORS k) 1 else m
  | _, _ => m

/-- The state of an engine at segment start (R87, R91). -/
def Eng.fresh (en : Eng) (k j pc : Nat) : Eng :=
  { en with act := some (k, j), drain := false, pc := pc, slot := 0, steps := 0, ds := 0, tgt := none, g := [], p := [], link := 0, loop := 0,
            flight := [], ends := [], de := pc, flt := none, ldata := [] }

/-- Start the next segment of engine e when it is lit and free and has a free frame (R21, R59, R66, R89). Log 7 (DESIGN CHOICE), 17 (DEDUCED). -/
def Mach.startSegment (m : Mach) (e : Nat) : Mach :=
  let en := m.eng e
  if m.st == .run && en.power == .lit && en.act.isNone && decide (en.freeAt ≤ m.now) && decide (m.framesUsed e < 3) then
    match m.nextSeg e with
    | none => m
    | some (k, j) =>
      let m := m.enterScan k
      match (m.task k).run with
      | none => m
      | some sc =>
        let m := m.setTask k { m.task k with run := some (sc.setSeg j { sc.seg j with st := .running, eng := e }) }
        let m := m.setEng e ((m.eng e).fresh k j (m.fld (R.ENG_SEG_ENTRY e k)))
        m.perf e (R.ENG_SEGSTART e) 1
  else m

/-- SEGMENT_START (R21). -/
def execSegmentStart (t : Nat) (e : Fin 16) (s : State) : Host.Outcome State Fault Refusal := runAt t (fun m => m.startSegment e) s

/-- The scan of task k has its last segment halted: complete, with its scan time (R58). -/
def Mach.scanHalted (m : Mach) (k : Nat) : Mach :=
  match (m.task k).run with
  | some sc =>
    if sc.segs.all (fun x => x.st == .halted) then
      (m.setTask k { m.task k with run := some { sc with complete := true } }).maxFld (R.TSK_SCANMAX k) ((m.now - sc.started) / 10)
    else m
  | none => m

/-- R104: the halt instant. Shade entries, deferred actions and SWR writes in flight are in place; other results are discarded. A fault that a
custom instruction still raises comes first (R171). -/
def Mach.halt (m : Mach) (e : Nat) : Mach :=
  let en := m.eng e
  match en.act with
  | some (k, j) =>
    if !en.drain then m
    else match en.flt with
    | some x => m.engineFault e x.2.1 x.2.2
    | none =>
      let ws := (en.flight.map (·.w)).filter (fun w => w.isShade || w.isSwr)
      let m := m.complete e ws
      let m := (m.perf e (R.ENG_SEGHALT e) 1).maxFld (R.ENG_STEPMAX e) en.steps
      let m := m.setEng e { m.eng e with act := none, drain := false, flight := [], ends := [] }
      match (m.task k).run with
      | some sc => (m.setTask k { m.task k with run := some (sc.setSeg j { sc.seg j with st := .halted }) }).scanHalted k
      | none => m
  | none => m

/-- HALT_INSTANT (R104). -/
def execHaltInstant (t : Nat) (e : Fin 16) (s : State) : Host.Outcome State Fault Refusal := runAt t (fun m => m.halt e) s

/-- The codes of R123. -/
def engFaultCode (c : Nat) : Bool := decide ((1 ≤ c ∧ c ≤ 9) ∨ (0x10 ≤ c ∧ c ≤ 0x13))

/-- ENGINE_FAULT (R123): a fault with a code and a PC on the segment that runs on an engine. -/
def execEngineFault (t : Nat) (e : Fin 16) (code : Fin 64) (pc : BitVec 14) (s : State) : Host.Outcome State Fault Refusal :=
  runAt t (fun m => if engFaultCode code && (m.eng e).act.isSome then m.engineFault e code pc.toNat else m) s

/-! ### Commits -/

/-- APPLICATION_START (R39). -/
def execApplicationStart (t : Nat) (s : State) : Host.Outcome State Fault Refusal := runAt t Mach.commitNext s

/-- APPLICATION_COMPLETE (R36). -/
def execApplicationComplete (t : Nat) (s : State) : Host.Outcome State Fault Refusal := runAt t Mach.appComplete s

/-! ### Timer expiries -/

/-- Does a boundary scan of task k serve an expiry at an instant (R200): the task's last boundary snapshot was fixed in that step, or a boundary of that step
is due that the task will take? Log 38 (DEDUCED). -/
def Mach.boundaryServes (m : Mach) (k x : Nat) : Bool :=
  let tk := m.task k
  tk.bndAt.map (· / 10) == some (x / 10) ||
    (m.nbnd k / 10 == x / 10 && (!tk.anyTaken || tk.served) && !(m.olcOpen && m.olcTask k))

/-- Fire every registration whose instant has been reached: one trigger per owning task, naming its lowest cell; a boundary
taken in the same step serves the expiry (R199, R200). A module that fixes no snapshots fires and removes them without a trigger. Log 38 (DEDUCED). -/
def Mach.fireTimers (m : Mach) : Mach :=
  if m.st == .run && m.cu.app.all (fun a => decide (m.now < a.doneAt)) then
    let due := m.exp.filter (fun e => match e.2 with
      | some x => decide (x ≤ m.now)
      | none => false)
    let m := { m with exp := m.exp.filter (fun e => match e.2 with
      | some x => decide (m.now < x)
      | none => false) }.addFld R.IMG_EXPCNT due.length
    foldM m.tasksOn (fun k m =>
      let mine := due.filter (fun e => (TCell.ofV (m.cell spT e.1)).owner == k)
      match mine with
      | [] => m
      | (i, x) :: _ =>
        if m.eventTask k && m.flag (R.TSK_CFG_TMRWAKE k) && !m.boundaryServes k (x.getD m.now) then m.trigger k (x.getD m.now) 2 i else m) m
  else m

/-- TIMER_EXPIRY (R199). -/
def execTimerExpiry (t : Nat) (s : State) : Host.Outcome State Fault Refusal := runAt t Mach.fireTimers s

/-! ### Changes held back (R31) -/

/-- Release the first change held back, once the share has room. -/
def Mach.releaseHeld (m : Mach) : Mach :=
  match m.ev.held with
  | [] => m
  | c :: cs =>
    if m.shareBits + m.changeBits c ≤ shareCap then
      let m := { m with ev := { m.ev with held := cs } }
      (m.maxFld R.IMG_SNPWAIT ((m.now - c.heldAt) / 10)).writeChange c
    else m

/-- HELD_CHANGE_RELEASE (R31). -/
def execHeldChangeRelease (t : Nat) (s : State) : Host.Outcome State Fault Refusal := runAt t Mach.releaseHeld s

/-- SNAPSHOT_HOLD_QUIET (R31): 10 s without a held change clear 0x3013. -/
def execSnapshotHoldQuiet (t : Nat) (s : State) : Host.Outcome State Fault Refusal :=
  runAt t (fun m => match m.ev.lastHold with
    | some a => if decide (a + 10000000000 ≤ m.now) && m.ev.held.isEmpty then m.clear 0x3013 0 1 else m
    | none => m) s

/-! ### Clearing records -/

/-- A write of 1 to ENGe.PERFCTL.CLR (R126): the counters at offsets 0x104 to 0x128 become 0. -/
def Mach.perfClear (m : Mach) (e : Nat) : Mach := foldM (List.range 10) (fun i m => m.rset ((R.ENG_LITCYC e).addr + 4 * i) 0) m

/-- PERFCTL_CLR (R126). -/
def execPerfctlClr (t : Nat) (e : Fin 16) (s : State) : Host.Outcome State Fault Refusal := runAt t (fun m => m.perfClear e) s

/-- A write of 1 to IMG.FSTAT.SHDOVF (R86): every field of IMG.FSTAT reads 0. -/
def Mach.fstatClear (m : Mach) : Mach := m.rset R.IMG_FSTAT.addr 0

/-- FSTAT_CLEAR (R86). -/
def execFstatClear (t : Nat) (s : State) : Host.Outcome State Fault Refusal := runAt t (fun m => m.fstatClear) s

/-- A write of 1 to ENGe.FLT.VALID (R127): every field of ENGe.FLT and both halves of ENGe.FLTT read 0. -/
def Mach.fltClear (m : Mach) (e : Nat) : Mach := (m.rset (R.ENG_FLT e).addr 0).setFld64 (R.ENG_FLTT_LO e) 0

/-- FLT_CLEAR (R127). -/
def execFltClear (t : Nat) (e : Fin 16) (s : State) : Host.Outcome State Fault Refusal := runAt t (fun m => m.fltClear e) s

end Sys2Proof.Machine
end

