-- ==== Sys2Proof/Machine/SupRows.lean ====
section
/-!
DEFINITION. The commands of self-diagnosis, audit and the watchdog (R416–R440).
-/
namespace Sys2Proof.Machine
open Sys2Proof

/-- A command of the supervisor under its system firmware: from CONFIG on. Log 2 (DESIGN CHOICE). -/
def runSup (t : Nat) (f : Mach → Mach) (s : State) : Host.Outcome State Fault Refusal := runAt t (fun m => if m.alive then f m else m) s

/-! ### Tests of the supervisor (R421, R422) -/

/-- LOCKSTEP_MISMATCH (R421). -/
def execLockstepMismatch (t : Nat) (s : State) : Host.Outcome State Fault Refusal := runSup t (fun m => m.raise 0x31D2 0 3) s

/-- RAIL_CLOCK_FAULT (R421): XO32 stopped alone is MINOR, any other is FATAL. -/
def execRailClockFault (t : Nat) (xo32 : Bool) (s : State) : Host.Outcome State Fault Refusal :=
  runSup t (fun m => if xo32 then (if m.faultOn 0x31E5 then m else m.raise 0x31E5 0 1) else m.raise 0x31D1 0 3) s

/-- XO32_RESTART (R421). -/
def execXo32Restart (t : Nat) (s : State) : Host.Outcome State Fault Refusal := runSup t (fun m => m.clear 0x31E5 0 1) s

/-- SRAM_SCRUB_PASS (R421, R422): the corrected errors of the pass, by region and address. -/
def execSramScrubPass (t : Nat) (errs : List (Fin 6 × BitVec 28)) (s : State) : Host.Outcome State Fault Refusal :=
  runSup t (fun m => foldM errs (fun x m => m.corrected x.1 x.2.toNat) m) s

/-- A hardware-class engine fault of an engine without a running segment: which task and segment its record names is not stated. Log 78 (DEDUCED). -/
def Mach.idleFault (m : Mach) (e code pc : Nat) : Mach :=
  let (n, m) := m.fresh
  let w := code + 2 ^ 6 + pc * 2 ^ 8 + (Config.freeWord n).toNat % 256 * 2 ^ 22 + 2 ^ 31
  let m := ((m.rset (R.ENG_FLT e).addr (BitVec.ofNat 32 w)).addFld (R.ENG_FLTCNT e) 1).setFld64 (R.ENG_FLTT_LO e) m.now
  (m.holdOut e).raise 0x31E0 e 2

/-- An uncorrectable error in a region (R422): 0 code banks, 1 scan-local data, 2 shade frames, of engine e at a PC; 3 image store, 4 snapshot
store, 5 supervisor memory; 6 DRAM; 7 flash. -/
def Mach.uncorrectable (m : Mach) (r e pc : Nat) : Mach :=
  let m := m.setFlag ⟨R.DIAG_ECCUNC.addr, r, 1⟩ true
  if r ≤ 2 then (if (m.eng e).act.isSome then m.engineFault e (0x10 + r) pc else m.idleFault e (0x10 + r) pc)
  else if r ≤ 5 then m.raise 0x31D3 0 3
  else if r = 6 then m.raise 0x31E3 0 2
  else m

/-- UNCORRECTABLE_ERROR (R422). -/
def execUncorrectableError (t : Nat) (r : Fin 8) (e : Fin 16) (pc : BitVec 14) (s : State) : Host.Outcome State Fault Refusal :=
  runSup t (fun m => m.uncorrectable r e pc.toNat) s

/-- CODE_BANK_CHECK (R421): a mismatching active bank is written again from the reference copy. Log 78 (DEDUCED). -/
def execCodeBankCheck (t : Nat) (bad : List (Fin 16)) (s : State) : Host.Outcome State Fault Refusal :=
  runSup t (fun m => foldM bad (fun e m => (m.raise 0x31E2 e.val 2).rewriteBank e.val) m) s

/-- The journal entries of a DRAM block that cannot be corrected are discarded and counted as lost (R230, R421). Log 78 (DEDUCED). -/
def Mach.dropJournal (m : Mach) (seqs : List (BitVec 32)) : Mach :=
  let gone (j : JEntry) : Bool := seqs.any (fun q => q.toNat == j.seq)
  let lost := m.ev.rjPend.filter gone
  let m := { m with ev := { m.ev with ring := m.ev.ring.filter (fun j => !gone j), rjPend := m.ev.rjPend.filter (fun j => !gone j),
                                      ringLostT := if m.ev.ringLost = 0 then (lost.headD ⟨0, 0, 0, 0, 0⟩).time else m.ev.ringLostT,
                                      ringLost := min (m.ev.ringLost + lost.length) (2 ^ 32 - 1) } }
  if lost.isEmpty then m else (m.satFld R.EVU_LOSTRJ lost.length).setFlag R.EVU_STAT_RJLOST true

/-- DRAM_SCRUB (R421): corrected errors, and an affected block with the sequence numbers of its journal entries. -/
def execDramScrub (t : Nat) (errs : List (BitVec 28)) (bad : Option (List (BitVec 32))) (s : State) : Host.Outcome State Fault Refusal :=
  runSup t (fun m =>
    let m := foldM errs (fun a m => m.corrected 6 a.toNat) m
    match bad with
    | some seqs => (m.uncorrectable 6 0 0).dropJournal seqs
    | none => m) s

/-- FLASH_SCRUB (R421, R447): corrected errors, and the records that fail their check. Log 81 (DEDUCED). -/
def execFlashScrub (t : Nat) (errs : List (BitVec 28)) (bad : List Nat) (s : State) : Host.Outcome State Fault Refusal :=
  runSup t (fun m =>
    let m := foldM errs (fun a m => m.corrected 7 a.toNat) m
    if bad.isEmpty then m
    else (m.uncorrectable 7 0 0).showRet |> fun m => { m with ret := { m.ret with recs := m.ret.recs.filter (fun r => !(r.done && bad.contains r.seq)) } }) s

/-! ### Engine BIST, audit and sparing (R423–R428) -/

/-- An engine held out returns to service, as its quad's power allows. -/
def Mach.returnEngine (m : Mach) (e : Nat) : Mach :=
  if (m.eng e).power = .heldOut ∧ !(m.eng e).retired then
    m.setEng e { m.eng e with power := if (m.quad (e / 4)).on then .dim else .dark }
  else m

/-- A BIST result: 0 pass, 1 fail; a test that a ready segment has stopped counts as not run (R423). -/
def Mach.bistDone (m : Mach) (e res : Nat) : Mach :=
  if res = 2 then m
  else
    let m := (m.setFld R.DIAG_BIST_LASTENG e).addFld R.DIAG_BIST_RUNS 1
    if res = 0 then m.returnEngine e
    else ((m.setFlag R.DIAG_BIST_FAIL true).raise 0x31D5 e 2).retireEngine e

/-- ENGINE_BIST (R423): of a dim engine without a ready segment, or of one held out. -/
def execEngineBist (t : Nat) (e : Fin 16) (res : Fin 3) (s : State) : Host.Outcome State Fault Refusal :=
  runSup t (fun m =>
    let p := (m.eng e).power
    if !(m.eng e).retired && (p == .heldOut || (p == .dim && (res == 2 || !m.readySegs.any (fun r => r.2.2.1 == e.val)))) then m.bistDone e res else m) s

/-- Has a task a scan in RUN, HELD or COMMIT? -/
def Mach.inFlight (m : Mach) (k : Nat) : Bool := (m.task k).run.isSome || (m.task k).held.isSome || (m.task k).inCommit

/-- The segments of a waiting scan move from engine e to engine a. -/
def moveScan (e a : Nat) (sc : Scan) : Scan := { sc with segs := sc.segs.map (fun (x : Seg) => if x.eng = e then { x with eng := a } else x) }

/-- R428: no affected task has a scan in flight; the spare takes the engine's segments. Log 78 (DEDUCED). -/
def Mach.spareSwap (m : Mach) : Mach :=
  match m.sup.moving with
  | none => m
  | some (e, a, _) =>
    let ks := m.tasksOf e
    if ks.any (fun k => m.inFlight k) then m
    else
      let m := m.remap ks e a
      let m := foldM ks (fun k m => m.setTask k { m.task k with snap := (m.task k).snap.map (moveScan e a) }) m
      let m := ((m.setFld (R.ENG_CFG_ROLE a) 1).setFld R.DIAG_SPARE_FROM e).setFld R.DIAG_SPARE_TO a
      ({ m with sup := { m.sup with moving := none } }.eventQuads.stat 4252 true |>.stat 4251 false).info 0x31D7

/-- SPARE_SWAP (R428). -/
def execSpareSwap (t : Nat) (s : State) : Host.Outcome State Fault Refusal := runSup t (fun m => m.spareSwap) s

/-- AUDIT_START (R426): when the application of the selected commit has ended. -/
def execAuditStart (t : Nat) (s : State) : Host.Outcome State Fault Refusal :=
  runSup t (fun m =>
    match m.sup.audit with
    | some a =>
      if !a.running && m.audOn && !(m.cu.app.any (fun (x : App) => x.task == a.task)) then
        (({ m with sup := { m.sup with audit := some { a with running := true } } }).setFlag R.DIAG_AUD_BUSY true).setFld R.DIAG_AUD_TASK a.task
      else m
    | none => m) s

/-- R427: a confirmed mismatch: each engine of a differing segment is held out, or retired at its second within 24 h. -/
def Mach.confirmMismatch (m : Mach) (es : List Nat) : Mach :=
  let m := (m.auditDrop.satFld R.DIAG_AUDMISM_CONF 1).raise 0x31D8 0 2
  foldM es.eraseDups (fun e m =>
    let again := m.sup.confirmed.any (fun (x : Nat × Nat) => x.1 == e && decide (m.now < x.2 + 86400000000000))
    let m := { m with sup := { m.sup with confirmed := (m.sup.confirmed.filter (fun (x : Nat × Nat) => x.1 != e)) ++ [(e, m.now)] } }
    let m := match (m.eng e).act with
      | some (k, _) => m.squashRun k 4
      | none => m
    if again then m.retireEngine e else if (m.eng e).retired then m else m.holdOut e) m

/-- R427: the digests of an audit, in the order of the segments. -/
def Mach.auditResult (m : Mach) (ds : List (BitVec 64)) : Mach :=
  match m.sup.audit with
  | none => m
  | some a =>
    if !a.running || ds.length != a.digests.length then m
    else if ds = a.digests then m.auditDrop.addFld R.DIAG_AUDCNT 1
    else match a.first with
      | none => { m with sup := { m.sup with audit := some { a with first := some ds } } }
      | some f =>
        if f = ds then
          m.confirmMismatch (((a.digests.zip ds).zip a.engs).filterMap (fun x => if x.1.1 = x.1.2 then none else some x.2))
        else
          let e := m.fld R.DIAG_AUD_ENG
          let m := (m.holdOut e).setFld (R.ENG_CFG_ROLE e) 3
          let m := m.setEng e { m.eng e with retired := true }
          let m := m.setFld R.DIAG_SPARE_RETIRED (m.fld R.DIAG_SPARE_RETIRED ||| 2 ^ e)
          ((m.auditEnd.satFld R.DIAG_AUDMISM_SELF 1).raise 0x31D9 0 1).stat 4251 false

/-- AUDIT_COMPLETE (R427). -/
def execAuditComplete (t : Nat) (digests : List (BitVec 64)) (s : State) : Host.Outcome State Fault Refusal := runSup t (fun m => m.auditResult digests) s

/-- AUDIT_TIMEOUT (R425): 100 ms after the application. -/
def execAuditTimeout (t : Nat) (s : State) : Host.Outcome State Fault Refusal :=
  runSup t (fun m => match m.sup.audit with
    | some a => if a.since + 100000000 ≤ m.now then m.auditAbandon else m
    | none => m) s

/-! ### The watchdog (R429–R437) -/

/-- WATCHDOG_AMBER (R432). Log 80 (DEDUCED). -/
def execWatchdogAmber (t : Nat) (n : Fin 48) (s : State) : Host.Outcome State Fault Refusal :=
  runAt t (fun m => if m.wdOut n && !m.amber n then m.amberStage n else m) s

/-- WATCHDOG_SCARLET (R432): of every slot that has run out a second time. Log 80 (DEDUCED). -/
def execWatchdogScarlet (t : Nat) (s : State) : Host.Outcome State Fault Refusal :=
  runAt t (fun m =>
    let ns := (List.range 48).filter (fun n => m.wdOut n && m.amber n)
    if ns.isEmpty || m.st == .off then m else m.scarletStage ns) s

/-- WATCHDOG_CLOCK_FAIL (R435). -/
def execWatchdogClockFail (t : Nat) (s : State) : Host.Outcome State Fault Refusal :=
  runAt t (fun m =>
    if m.flag R.WDG_STAT_RUN && m.st != .off then
      let m := (m.setFlag R.WDG_STAT_CLKFAIL true).setFlag R.WDG_STAT_CLK (!m.flag R.WDG_STAT_CLK)
      if m.alive then m.raise 0x31D0 0 2 else m
    else m) s

/-- RC_OSCILLATOR_RESET (R435): both clocks have stopped. -/
def execRcOscillatorReset (t : Nat) (s : State) : Host.Outcome State Fault Refusal :=
  runAt t (fun m => if m.flag R.WDG_STAT_RUN && m.st != .off then m.requestReset 2 0 else m) s

/-- SUSPENSION_CUT (R436): a suspension has reached 80 ms. -/
def execSuspensionCut (t : Nat) (s : State) : Host.Outcome State Fault Refusal :=
  runAt t (fun m => match m.sup.suspAt with
    | some a =>
      if a + 80000000 ≤ m.now then
        let m := m.resumeWatch.setFlag R.WDG_STAT_SUSPCUT true
        if m.alive then m.raise 0x31DC 0 1 else m
      else m
    | none => m) s

/-- A write of 1 to WDG.CTL.START (R434, R439), while LOCK is clear. Log 79 (DEDUCED). -/
def Mach.wdgStart (m : Mach) : Mach :=
  if m.flag R.WDG_CTL_LOCK then m else (m.setFlag R.WDG_CTL_START true).setFlag R.WDG_STAT_RUN true

/-- A write of 0 to WDG.CTL.START, while LOCK is clear: the field is 0, and the watchdog goes on (R5, R434). -/
def Mach.wdgUnstart (m : Mach) : Mach := if m.flag R.WDG_CTL_LOCK then m else m.setFlag R.WDG_CTL_START false

/-- WDG_START (R434, R439): no write stops the watchdog once it runs. -/
def execWdgStart (t : Nat) (s : State) : Host.Outcome State Fault Refusal := runAt t (fun m => if m.st == .off then m else m.wdgStart) s

/-- WDG_CLKSEL (R435, R439). -/
def execWdgClksel (t : Nat) (sel : Bool) (s : State) : Host.Outcome State Fault Refusal := runAt t (fun m => if m.st == .off then m else m.wdgClk sel) s

/-- WDG_LOCK (R439). -/
def execWdgLock (t : Nat) (s : State) : Host.Outcome State Fault Refusal := runAt t (fun m => if m.st == .off then m else m.wdgLock) s

/-- A write of 1 to WDG.RSTCNT.CLR (R433): the count and its mirror. -/
def Mach.rstcntClear (m : Mach) : Mach := (m.setFld R.WDG_RSTCNT_COUNT 0).putRec 0x22 0 0 []

/-- WDG_RSTCNT_CLR (R433). -/
def execWdgRstcntClr (t : Nat) (s : State) : Host.Outcome State Fault Refusal := runSup t (fun m => m.rstcntClear) s

/-- SYSTEM_SLOT_CHECK_IN (R430): slot 32 + n. -/
def execSystemSlotCheckIn (t : Nat) (n : Fin 16) (s : State) : Host.Outcome State Fault Refusal :=
  runAt t (fun m => if m.st == .off then m else m.checkIn (32 + n.val)) s

/-! ### Faults (R418, R419) -/

/-- DIAG_FCLR (R418). -/
def execDiagFclr (t : Nat) (s : State) : Host.Outcome State Fault Refusal := runSup t (fun m => m.faultClear) s

/-- FAULT_RESTART (R419, R420): FRESTART seconds after the entry to FAULT; 0 and the hold of R420 leave the module there. -/
def execFaultRestart (t : Nat) (s : State) : Host.Outcome State Fault Refusal :=
  runAt t (fun m => match m.sup.faultAt with
    | some a =>
      let d := m.fld R.DIAG_CFG_FRESTART
      if m.st == .fault && decide (d ≠ 0 ∧ a + d * 1000000000 ≤ m.now) && !m.flag R.WDG_STAT_HOLD && m.sup.due.isNone then m.requestReset 3 0 else m
    | none => m) s

end Sys2Proof.Machine
end

