-- ==== Sys2Proof/Machine/TimeRows.lean ====
section
/-!
DEFINITION. The commands of time keeping (R386–R415).
-/
namespace Sys2Proof.Machine
open Sys2Proof

/-! ### Sources and discipline (R390–R403) -/

/-- SOURCE_MEASUREMENT (R400): the once-per-second measurement of the source in use. -/
def execSourceMeasurement (t : Nat) (s : State) : Host.Outcome State Fault Refusal := runAt t (fun m => m.measure) s

/-- SOURCE_UPGRADE_WAIT (R391). -/
def execSourceUpgradeWait (t : Nat) (s : State) : Host.Outcome State Fault Refusal := runAt t (fun m => m.upgradeSrc) s

/-- IRIG_FRAME (R397): decoded at its on-time mark, captured at `cap`. -/
def execIrigFrame (t : Nat) (cap : Nat) (f : IrigFrame) (s : State) : Host.Outcome State Fault Refusal := runAt t (fun m => if m.alive then m.irig cap f else m) s

/-- IRIG_TIMEOUT (R390): 3 s without a valid frame. -/
def execIrigTimeout (t : Nat) (s : State) : Host.Outcome State Fault Refusal := runAt t (fun m => m.irigSilent) s

/-- PPS_EDGE (R390, R399). -/
def execPpsEdge (t : Nat) (cap : Nat) (width : Nat) (s : State) : Host.Outcome State Fault Refusal := runAt t (fun m => if m.alive then m.pps cap width else m) s

/-- HOLDOVER_LIMIT (R400). -/
def execHoldoverLimit (t : Nat) (s : State) : Host.Outcome State Fault Refusal := runAt t (fun m => m.holdLimit) s

/-- LEAP_SECOND (R403). -/
def execLeapSecond (t : Nat) (s : State) : Host.Outcome State Fault Refusal := runAt t (fun m => m.applyLeap) s

/-! ### The calendar and PD0 (R404–R411) -/

/-- CALENDAR_ROLLOVER (R404, R408). -/
def execCalendarRollover (t : Nat) (s : State) : Host.Outcome State Fault Refusal := runAt t (fun m => m.rollover) s

/-- XO32_TRIM (R404): while the time quality is LOCKED. Log 75 (DEDUCED). -/
def execXo32Trim (t : Nat) (trim : BitVec 12) (s : State) : Host.Outcome State Fault Refusal := runAt t (fun m => if m.alive && m.tq == tqLocked then m.setFld R.RTC_TRIM_TRIM trim.toNat else m) s

/-- RTC_SEC_READ (R405), with the sub-second count of that instant. -/
def execRtcSecRead (t : Nat) (sub : Fin 32768) (s : State) : Host.Outcome State Fault Refusal := runAt t (fun m => if m.st == .off then m else m.secRead sub) s

/-- R407: a commit; `busy` tells that a roll-over is in progress, for whose end it waits. -/
def Mach.rtcCommit (m : Mach) (busy : Bool) : Mach :=
  if busy then ({ m with tk := { m.tk with cmtWait := true } }).setFlag R.RTC_STAT_CMTBUSY true else m.commitCal

/-- RTC_COMMIT (R407). -/
def execRtcCommit (t : Nat) (busy : Bool) (s : State) : Host.Outcome State Fault Refusal := runAt t (fun m => if m.st == .off then m else m.rtcCommit busy) s

/-- BACKUP_SWITCH (R410). -/
def execBackupSwitch (t : Nat) (onBak : Bool) (low : Bool) (s : State) : Host.Outcome State Fault Refusal := runAt t (fun m => m.backupSwitch onBak low) s

/-- AON_RESET (R411): both rails are below 1.6 V, so the module is off. -/
def execAonReset (t : Nat) (s : State) : Host.Outcome State Fault Refusal := runAt t (fun m => if m.st == .off then m.aonReset else m) s

end Sys2Proof.Machine
end

