-- ==== Sys2Proof/Machine/RegOps.lean ====
section
/-!
DEFINITION. Reads and writes of the register map by service clients (R5, R6, R55, R587–R592): what a register shows, what a read brings
with it, and what the written bits do.
-/
namespace Sys2Proof.Machine
open Sys2Proof

/-! ### What a register shows -/

/-- A word with fields put in place. -/
def overlay (w : Word) (fs : List (Fld × Nat)) : Word := fs.foldl (fun (w : Word) (x : Fld × Nat) => bitsSet w x.1.lsb x.1.width x.2) w

/-- The scans of a task in RUN and HELD. -/
def Task.scans (x : Task) : List Scan := x.run.toList ++ x.held.toList

/-- Entries in the frame of the segment now in RUN on engine e (IMG.SHDe.CUR). -/
def Mach.shadeUsed (m : Mach) (e : Nat) : Nat :=
  match (m.eng e).act with
  | some (k, j) =>
    match (m.task k).run with
    | some sc => match sc.segs[j]? with
      | some g => g.frame.length + g.deferred.length
      | none => 0
    | none => 0
  | none => 0

/-- Points of I:0–95 and I:128–4351 with a quality (IMG.QCNT0, IMG.QCNT1). -/
def Mach.countQ (m : Mach) (q : Nat) : Nat :=
  ((List.range 4352).filter (fun i => (decide (i < 96) || decide (128 ≤ i)) && (m.pt i).q == q)).length

/-- The registered expiry instants (R199). -/
def Mach.expiries (m : Mach) : List Nat := m.exp.filterMap (fun (e : Nat × Option Nat) => e.2)

/-- The block IMG. -/
def Mach.viewImg (m : Mach) (a : Nat) : List (Fld × Nat) :=
  let low := match m.expiries with
    | [] => 0
    | x :: xs => xs.foldl min x
  if a = R.IMG_CMTSTAT.addr then
    [(R.IMG_CMTSTAT_BUSY, m.cu.app.isSome.toNat), (R.IMG_CMTSTAT_TASK, (m.cu.app.map (·.task)).getD 0),
     (R.IMG_CMTSTAT_QUEUED, (allTasks.filter (fun k => (m.task k).held.isSome && !(m.task k).inCommit)).length)]
  else if (R.IMG_SHD 0).addr ≤ a ∧ a ≤ (R.IMG_SHD 15).addr then
    let e := (a - (R.IMG_SHD 0).addr) / 4
    [(R.IMG_SHD_CUR e, m.shadeUsed e), (R.IMG_SHD_FRM e, m.framesUsed e)]
  else if a = R.IMG_ANCH.addr then
    [(R.IMG_ANCH, bitSum (allTasks.filter (fun k => (m.task k).scans.any (·.anchored) || m.cu.app.any (fun (x : App) => x.task == k && x.anchored))))]
  else if a = R.IMG_DEFER.addr then
    [(R.IMG_DEFER_COUNT, (allTasks.filter (fun k => !(m.task k).inCommit && ((m.task k).held.bind (·.deferredAt)).isSome)).length)]
  else if a = R.IMG_SNPSTAT.addr then [(R.IMG_SNPSTAT_USED, (m.shareBits + 511) / 512)]
  else if a = R.IMG_TMRACT.addr then [(R.IMG_TMRACT_COUNT, m.expiries.length)]
  else if a = R.IMG_NEXP_LO.addr then [(R.IMG_NEXP_LO, low)]
  else if a = R.IMG_NEXP_HI.addr then [(R.IMG_NEXP_HI, low / 2 ^ 32)]
  else if a = R.IMG_QCNT0.addr then [(R.IMG_QCNT0_INVAL, m.countQ 1), (R.IMG_QCNT0_SUBST, m.countQ 2)]
  else if a = R.IMG_QCNT1.addr then [(R.IMG_QCNT1_QUEST, m.countQ 3)]
  else []

/-- The block EVU. -/
def Mach.viewEvu (m : Mach) (a : Nat) : List (Fld × Nat) :=
  let i := m.fld R.EVU_PTSEL_INDEX
  let p := m.pt i
  let n := m.fld R.EVU_SLSEL_ENTRY
  if a = R.EVU_STAT.addr then
    [(R.EVU_STAT_FIFOLVL, m.ev.fifo.length), (R.EVU_STAT_FLUSH, (m.ret.recs.any (fun r => r.ty == 0x20 && !r.done)).toNat)]
  else if a = R.EVU_RINGNEW.addr then [(R.EVU_RINGNEW, ((m.ev.ring.findRev? (fun j => !j.isMarker)).map (·.seq)).getD 0)]
  else if a = R.EVU_RINGOLD.addr then [(R.EVU_RINGOLD, ((m.ev.ring.find? (fun j => !j.isMarker)).map (·.seq)).getD 0)]
  else if a = R.EVU_RINGCNT.addr then [(R.EVU_RINGCNT_COUNT, m.ev.ring.length)]
  else if a = R.EVU_RJPEND.addr then [(R.EVU_RJPEND_COUNT, m.ev.rjPend.length)]
  else if a = R.EVU_PTDATA.addr then
    [(R.EVU_PTDATA_VALUE, p.v.toNat), (R.EVU_PTDATA_QUAL, p.q), (R.EVU_PTDATA_CHEN, p.chEn.toNat), (R.EVU_PTDATA_CHPRF, p.chPrf),
     (R.EVU_PTDATA_BLOCKED, p.blocked.toNat)]
  else if a = R.EVU_PTWAKE.addr then [(R.EVU_PTWAKE, p.wake)]
  else if a = R.EVU_SLDATA.addr then
    [(R.EVU_SLDATA_INDEX, sget 0 m.ev.slist n),
     (R.EVU_SLDATA_VALID, (m.tasksOn.any (fun k => decide (m.fld (R.TSK_SENSLST_FIRST k) ≤ n ∧
        n < m.fld (R.TSK_SENSLST_FIRST k) + m.fld (R.TSK_SENSLST_COUNT k)))).toNat)]
  else []

/-- The block FIO. Log 55 (DEDUCED). -/
def Mach.viewFio (m : Mach) (a : Nat) : List (Fld × Nat) :=
  let i := m.fld R.FIO_DISEL_INPUT % 64
  let mon := m.flag (diBit R.FIO_WBEN_LO i)
  let d := m.di i
  if a = R.FIO_STAT.addr then
    [(R.FIO_STAT_HC, m.fio.hc.toNat), (R.FIO_STAT_DIGOK, bitSum ((List.range 4).filter (fun g => m.flag (R.FIO_DIG_STAT_OK g)))),
     (R.FIO_STAT_VFLDOK, bitSum ((List.range 2).filter (fun h => m.flag (R.FIO_DOG_STAT_VFLDOK h)))),
     (R.FIO_STAT_GTRIP, bitSum ((List.range 2).filter (fun h => m.flag (R.FIO_DOG_STAT_GTRIP h))))]
  else if a = R.FIO_DIMEAS.addr then
    [(R.FIO_DIMEAS_CUR, if mon then min d.cur 4095 else 0),
     (R.FIO_DIMEAS_CLASS, if !mon || d.decl == 0 then 3 else if d.decl == 2 then 2 else if (m.pt i).sv then 0 else 1)]
  else if (R.FIO_DO_CFG 0).addr ≤ a ∧ a < (R.FIO_DO_CFG 32).addr ∧ a % 16 = 4 then
    let n := (a - (R.FIO_DO_CFG 0).addr) / 16
    let clamp := m.fio.clamp.getLsbD n
    [(R.FIO_DO_STAT_CMD n, (m.fio.cmd.getLsbD n).toNat), (R.FIO_DO_STAT_SW n, (m.fio.sw.getLsbD n).toNat),
     (R.FIO_DO_STAT_CLAMP n, clamp.toNat), (R.FIO_DO_STAT_ENPEND n, (clamp && m.fio.cmd.getLsbD n).toNat)]
  else []

/-- The engine and task blocks. Log 25 (DESIGN CHOICE). -/
def Mach.viewEng (m : Mach) (a : Nat) : List (Fld × Nat) :=
  let e := (a - 0x60000) / 0x1000
  let (k, j) := ((m.eng e).act).getD (0, 0)
  if a = (R.ENG_STAT e).addr then
    [(R.ENG_STAT_STATE e, m.engState e), (R.ENG_STAT_ACTIVE e, (m.eng e).act.isSome.toNat), (R.ENG_STAT_DRAIN e, (m.eng e).drain.toNat),
     (R.ENG_STAT_TASK e, k), (R.ENG_STAT_SEG e, j)]
  else []
def Mach.viewTsk (m : Mach) (a : Nat) : List (Fld × Nat) :=
  let k := (a - 0x70000) / 0x80
  let x := m.task k
  if a = (R.TSK_STAT k).addr then
    [(R.TSK_STAT_RUN k, x.run.isSome.toNat), (R.TSK_STAT_HELD k, (x.held.isSome || x.inCommit).toNat),
     (R.TSK_STAT_ANCH k, (x.run.any (·.anchored)).toNat)]
  else []

/-- The other blocks. Log 56 (DESIGN CHOICE). -/
def Mach.viewMisc (m : Mach) (a : Nat) : List (Fld × Nat) :=
  if a = R.TB_NOW_LO.addr then [(R.TB_NOW_LO, m.now)]
  else if a = R.TB_NOW_HI.addr then [(R.TB_NOW_HI, m.now / 2 ^ 32)]
  else if a = R.RTC_SEC.addr then [(R.RTC_SEC_SEC, m.tk.rd.sec), (R.RTC_SEC_SUBSEC, m.tk.rdSub)]
  else if a = R.RTC_TIME.addr then [(R.RTC_TIME_MIN, m.tk.rd.min), (R.RTC_TIME_HOUR, m.tk.rd.hour), (R.RTC_TIME_WDAY, m.tk.rd.wday)]
  else if a = R.RTC_DATE.addr then [(R.RTC_DATE_DAY, m.tk.rd.day), (R.RTC_DATE_MON, m.tk.rd.mon), (R.RTC_DATE_YEAR, m.tk.rd.year)]
  else if a = R.WDG_STAT.addr then [(R.WDG_STAT_SUSP, m.sup.suspAt.isSome.toNat)]
  else if a / 0x10000 = 5 ∧ (R.WDG_SLOT_REMAIN 0).addr ≤ a ∧ a % 0x20 = 4 then
    let n := (a - (R.WDG_SLOT_REMAIN 0).addr) / 0x20
    [(R.WDG_SLOT_REMAIN_VALUE n, (m.wdLeft n + 99999) / 100000)]
  else if a = R.PWR_DOM.addr then [(⟨R.PWR_DOM_ON.addr, 10, 1⟩, (decide (1 ≤ m.dspState ∧ m.dspState ≤ 4) || m.dsp.dischAt.isSome).toNat), (R.PWR_DOM_ENPEND, 8 * bitSum ((List.range 4).filter (fun q => (m.quad q).down && (m.quad q).req)))]
  else if a = R.CLK_STAT.addr then
    [(R.CLK_STAT_REF25OK, 1), (R.CLK_STAT_XO32OK, (!m.faultOn 0x31E5).toNat), (R.CLK_STAT_PLLLOCK, 1)]
  else if a = (R.BB_STAT 0).addr ∨ a = (R.BB_STAT 1).addr then
    let c := (a - (R.BB_STAT 0).addr) / 0x8000
    [(R.BB_STAT_REFTX c, (m.holderRun && m.flag (R.BB_CFG_CONF c) && m.bayOn c).toNat)]
  else if a = R.PRT_MISM.addr then
    [(R.PRT_MISM_RECENT, min 3 (m.pair.mismatches.filter (fun t => decide (m.now < t + 10000000000))).length)]
  else if a = R.PRT_PVER.addr then [(R.PRT_PVER_OWN, m.fld R.UPD_FWPVER_PVER)]
  else if a = R.RET_DIRTY.addr then [(R.RET_DIRTY_CHUNKS, m.ret.dirty.length)]
  else if (R.RET_BANK 0).addr ≤ a ∧ a ≤ (R.RET_BANK 15).addr then
    let b := (a - (R.RET_BANK 0).addr) / 4
    [(R.RET_BANK_APPEND b, (m.sector (8 * b + m.openSector b)).top), (R.RET_BANK_OPEN b, m.openSector b),
     (R.RET_BANK_ERASED b, (m.erasedAhead b).length), (R.RET_BANK_USABLE b, m.usable b)]
  else []

/-- The fields of a register that show what the state holds elsewhere. -/
def Mach.viewFlds (m : Mach) (a : Nat) : List (Fld × Nat) :=
  match a / 0x10000 with
  | 0x6 => m.viewEng a
  | 0x7 => m.viewTsk a
  | 0x8 => m.viewImg a
  | 0x9 => m.viewEvu a
  | 0xA => m.viewFio a
  | _ => m.viewMisc a

/-- The fields whose value the spec leaves to a measurement, to a condition outside the model, or undefined: each read shows a free
value. Log 56 (DESIGN CHOICE). -/
def Mach.freeFlds (m : Mach) (a : Nat) : List Fld :=
  if a = R.PWR_VSUP.addr then [R.PWR_VSUP_VSUP]
  else if a = R.PWR_HOLDUP.addr then [R.PWR_HOLDUP_VBANK]
  else if a = R.CLK_STAT.addr then (if m.faultOn 0x31D1 then [R.CLK_STAT_REF25OK, R.CLK_STAT_PLLLOCK] else [])
  else if a = R.RTC_VBAK.addr then [R.RTC_VBAK_VBAK, R.RTC_VBAK_VAONM]
  else if a / 0x10000 = 0x6 ∧ a % 0x1000 = 8 then
    let e := (a - 0x60000) / 0x1000
    if (m.eng e).power = .lit then [] else [R.ENG_PC_PC e]
  else if a = (R.FIO_DOG_STAT 0).addr ∨ a = (R.FIO_DOG_STAT 1).addr then [R.FIO_DOG_STAT_VFLD ((a - (R.FIO_DOG_STAT 0).addr) / 16)]
  else if a = (R.FIO_DOG_CUR 0).addr ∨ a = (R.FIO_DOG_CUR 1).addr then [R.FIO_DOG_CUR_CUR ((a - (R.FIO_DOG_CUR 0).addr) / 16)]
  else if (R.FIO_DO_CUR 0).addr ≤ a ∧ a < (R.FIO_DO_CUR 32).addr ∧ a % 16 = 8 then [R.FIO_DO_CUR_CUR ((a - (R.FIO_DO_CUR 0).addr) / 16)]
  else []

/-- ENGe.PC of a lit engine. Log 25 (DESIGN CHOICE). -/
def Mach.litPc (m : Mach) (a : Nat) : List (Fld × Nat) :=
  if a / 0x10000 = 0x6 ∧ a % 0x1000 = 8 then [(R.ENG_PC_PC ((a - 0x60000) / 0x1000), (m.eng ((a - 0x60000) / 0x1000)).de)] else []

/-- FIO.DOGh.CUR.MAX and PWR.VSUP.MIN go on from the value held, or from the 0 or 0xFFFF written (R324, R572): the largest current and
the lowest VSUP since, which no command gives, are free. Log 56 (DESIGN CHOICE). -/
def Mach.extreme (m : Mach) (a : Nat) : Mach :=
  if a = (R.FIO_DOG_CUR 0).addr ∨ a = (R.FIO_DOG_CUR 1).addr then
    let (n, m) := m.fresh
    m.maxFld ⟨a, 16, 16⟩ ((Config.freeWord n).toNat % 2 ^ 16)
  else if a = R.PWR_VSUP.addr then
    let (n, m) := m.fresh
    m.setFld R.PWR_VSUP_MIN (min (m.fld R.PWR_VSUP_MIN) ((Config.freeWord n).toNat % 2 ^ 16))
  else m

/-- What a register shows, without a read's effects. WO bits are never stored, and reserved bits are 0 (R6). Log 25 (DESIGN CHOICE), 56 (DESIGN CHOICE), 105 (DEDUCED). -/
def Mach.regView (m : Mach) (a : Nat) : Word × Mach :=
  let m := m.extreme a
  let w := overlay (m.rget a) (m.viewFlds a ++ m.litPc a)
  (m.freeFlds a).foldl (fun (x : Word × Mach) f =>
    let (n, m) := x.2.fresh
    (bitsSet x.1 f.lsb f.width (if f.width = 14 then (Config.enginePc n).toNat else (Config.freeWord n).toNat), m)) (w, m)

/-! ### Reads (R55, R405, R590) -/

/-- The _LO registers, by the address of the first member (R55). -/
def loBases : List Nat :=
  [0x30000, 0x30020, 0x50014, 0x50020, 0x50028, 0x50108, 0x60010, 0x60020, 0x7004C, 0x70054, 0x7005C, 0x70064, 0x7006C, 0x80000, 0x80104,
   0x80110, 0x80210, 0x80218, 0x80228, 0x90028, 0xA000C, 0xA0014, 0xB1008, 0xB3008, 0xC0010, 0xC028C, 0xD0014, 0xF0010, 0xF0030, 0x120014]

/-- Is it a _LO register? -/
def isLo (a : Nat) : Bool := (regRow a).any (fun (r : RegRow) => loBases.contains r.base)

/-- One read of a register: the latched half where one waits for it; else what the register shows, a _LO register latching its _HI half. A
read of RTC.SEC takes a new copy (R405). Log 105 (DEDUCED). -/
def Mach.readReg (m : Mach) (l : List (Nat × Word)) (a : Nat) : Word × List (Nat × Word) × Mach :=
  match l.find? (fun x => x.1 == a) with
  | some x => (x.2, l.filter (fun x => x.1 != a), m)
  | none =>
    let m := if a = R.RTC_SEC.addr then (let (n, m) := m.fresh; m.secRead (Config.freeWord n).toNat) else m
    let (w, m) := m.regView a
    if isLo a then
      let (h, m) := m.regView (a + 4)
      (w, (a + 4, h) :: l, m)
    else (w, l, m)

/-- The reads of one request, in the order listed (R590). -/
def Mach.readRegs (m : Mach) : List (Nat × Word) → List Nat → List Word × Mach
  | _, [] => ([], m)
  | l, a :: rest =>
    let (w, l, m) := m.readReg l a
    let (ws, m) := m.readRegs l rest
    (w :: ws, m)

/-- A read by the supervisor, with its own latch. -/
def Mach.supRead (m : Mach) (a : Nat) : Mach :=
  if isLo a then
    let (h, m) := m.regView (a + 4)
    { m with latch := sset none m.latch (a + 4) (some h) }
  else { m with latch := sset none m.latch a none }

/-! ### Writes (R5, R555) -/

/-- The written bits of one field under its access code: the new bits, where `b` are those in the mask. `otp` tells that the write
programs fuses: a field already programmed keeps its value. Log 93 (DEDUCED), 105 (DEDUCED). -/
def fieldWrite (otp : Bool) (f : FieldRow) (w mask v : Word) : Word :=
  let fm : Word := BitVec.ofNat 32 ((2 ^ f.width - 1) <<< f.lsb)
  let b := mask &&& fm
  match f.acc with
  | .ro => w
  | .rw => (w &&& ~~~b) ||| (v &&& b)
  | .wo => w
  | .w1c => w &&& ~~~(v &&& b)
  | .stk => w &&& ~~~(v &&& b)
  | .rwl => w
  | .otp => if otp && bitsOf w f.lsb f.width == 0 then w ||| (v &&& b) else w

/-- The serial number's registers, programmed at manufacture (R493). -/
def isSerial (a : Nat) : Bool := decide ((R.UPD_SERIAL 0).addr ≤ a ∧ a ≤ (R.UPD_SERIAL 3).addr)

/-- The generic write: every field under its access code. -/
def Mach.writePlain (m : Mach) (otp : Bool) (a : Nat) (mask v : Word) : Mach :=
  m.rset a ((regFields a).foldl (fun (w : Word) f => fieldWrite (otp && !isSerial a) f w mask v) (m.rget a))

/-- Is a 1 written to a bit? -/
def wrote (mask v : Word) (i : Nat) : Bool := mask.getLsbD i && v.getLsbD i

/-- The value a write presents for a field, where the mask covers bits of it. -/
def written (old mask v : Word) (f : Fld) : Option Nat :=
  if bitsOf mask f.lsb f.width = 0 then none else some (bitsOf ((old &&& ~~~mask) ||| (v &&& mask)) f.lsb f.width)

/-- Put the written bits of one calendar field. -/
def calPut (old : Nat) (w mask v : Word) (f : Fld) : Nat := (written (overlay w [(f, old)]) mask v f).getD old

/-- The write holding set of the calendar (R406). -/
def Mach.rtcWrite (m : Mach) (a : Nat) (mask v : Word) : Mach :=
  let c := m.tk.wr
  let c := if a = R.RTC_SEC.addr then { c with sec := calPut c.sec 0 mask v R.RTC_SEC_SEC }
    else if a = R.RTC_TIME.addr then { c with min := calPut c.min 0 mask v R.RTC_TIME_MIN, hour := calPut c.hour 0 mask v R.RTC_TIME_HOUR }
    else { c with day := calPut c.day 0 mask v R.RTC_DATE_DAY, mon := calPut c.mon 0 mask v R.RTC_DATE_MON,
                  year := calPut c.year 0 mask v R.RTC_DATE_YEAR }
  { m with tk := { m.tk with wr := c } }

/-- The blocks of the engines, the tasks, the image and the watchdog (R86, R126, R127, R183, R433–R435). -/
def Mach.writeCore (m : Mach) (otp : Bool) (a : Nat) (mask v : Word) : Mach :=
  let e := (a - 0x60000) / 0x1000
  if a / 0x10000 = 6 ∧ a % 0x1000 = 0x18 then (if wrote mask v 31 then m.fltClear e else m)
  else if a / 0x10000 = 6 ∧ a % 0x1000 = 0x100 then onlyIf (wrote mask v 1) (fun m => m.perfClear e) (m.writePlain otp a mask v)
  else if a / 0x10000 = 7 ∧ a % 0x80 = (R.TSK_STAT 0).addr % 0x80 then
    let k := (a - 0x70000) / 0x80
    let m := m.writePlain otp a mask v
    m.stat (4320 + k) (m.flag (R.TSK_STAT_OVRW k))
  else if a = R.IMG_FSTAT.addr then (if wrote mask v 0 then m.fstatClear else m)
  else if a = R.WDG_CTL.addr then
    let m := if mask.getLsbD 1 then m.wdgClk (v.getLsbD 1) else m
    let m := if mask.getLsbD 0 then (if v.getLsbD 0 then m.wdgStart else m.wdgUnstart) else m
    onlyIf (wrote mask v 2) (fun m => m.wdgLock) m
  else if a = R.WDG_RSTCNT.addr then (if wrote mask v 31 then m.rstcntClear else m)
  else if a = R.DIAG_FCLR.addr then (if wrote mask v 0 then m.faultClear else m)
  else m.writePlain otp a mask v

/-- The blocks of the field side, the bays, the station ports and the calendar (R314, R355, R356, R363, R406, R407, R410). -/
def Mach.writeOuter (m : Mach) (otp : Bool) (a : Nat) (mask v : Word) : Mach :=
  let d := a - (R.FIO_DOG_STAT 0).addr
  let c := (a - 0xB0000) / 0x8000
  if a = (R.FIO_DOG_STAT 0).addr ∨ a = (R.FIO_DOG_STAT 1).addr then (if wrote mask v 1 then m.rearmGroup (d / 16) else m)
  else if a / 0x10000 = 0xA ∧ (R.FIO_DO_STAT 0).addr ≤ a ∧ a % 16 = 4 then
    let n := (a - (R.FIO_DO_STAT 0).addr) / 16
    let m := m.writePlain otp a (mask &&& ~~~0x300#32) v
    onlyIf (wrote mask v 9) (fun m => m.rearmOtmp n) (onlyIf (wrote mask v 8) (fun m => m.rearmOvl n) m)
  else if a / 0x10000 = 0xB ∧ a % 0x8000 = 0 then (if mask.getLsbD 0 then m.channelEn c (v.getLsbD 0) else m)
  else if a / 0x10000 = 0xB ∧ 0x3000 ≤ a % 0x8000 ∧ (a % 0x8000 - 0x3000) % 0x60 = 0 then
    let b := (a % 0x8000 - 0x3000) / 0x60
    let m := m.writePlain otp a (mask &&& ~~~1#32) v
    onlyIf (wrote mask v 1) (fun m => m.txWithdraw c b) (onlyIf (wrote mask v 0) (fun m => m.txRequest c b) m)
  else if a = (R.STA_SP_CFG 0).addr ∨ a = (R.STA_SP_CFG 1).addr then
    if mask.getLsbD 0 then m.portEnable ((a - (R.STA_SP_CFG 0).addr) / 0x40) (v.getLsbD 0) else m
  else if a = R.RTC_SEC.addr ∨ a = R.RTC_TIME.addr ∨ a = R.RTC_DATE.addr then m.rtcWrite a mask v
  else if a = R.RTC_CMD.addr then (if wrote mask v 0 then m.rtcCommit false else m)
  else if a = R.RTC_STAT.addr then onlyIf (wrote mask v 2) (fun m => m.showBakLow) (m.writePlain otp a mask v)
  else m.writePlain otp a mask v

/-- The blocks of the move engine, the retained store and the display (R459, R505, R506, R515, R516). A program channel's control comes
from the package. -/
def Mach.writeSub (m : Mach) (otp : Bool) (a : Nat) (mask v : Word) : Mach :=
  let c := (a - 0xE0100) / 0x40
  if a / 0x10000 = 0xE ∧ 0xE0100 ≤ a ∧ a < 0xE0500 ∧ a % 0x40 = 0 then
    let m := m.writePlain otp a (mask &&& ~~~(if m.progCh c then 0x9#32 else 0x1#32)) v
    let m := if mask.getLsbD 0 then m.movEnable c (v.getLsbD 0) else m
    onlyIf (wrote mask v 1) (fun m => m.movAbort c (wrote mask v 2)) m
  else if a / 0x10000 = 0xE ∧ 0xE0100 ≤ a ∧ a < 0xE0500 ∧ a % 0x40 = 0x18 then (if wrote mask v 4 then m.movRestart c else m)
  else if a = R.RET_PROT.addr then
    match written (m.rget a) mask v R.RET_PROT_LEVEL with
    | some l => if m.mayProtect l then m.setProtect l else m
    | none => m
  else if a = R.DSP_CTRL.addr then (if mask.getLsbD 0 then (if v.getLsbD 0 then m.dspEnable else m.dspDisable) else m)
  else m.writePlain otp a mask v

/-- A write of the bits in a mask. A reserved offset ignores it (R6). Log 105 (DEDUCED), 106 (DESIGN CHOICE). -/
def Mach.writeReg (m : Mach) (otp : Bool) (a : Nat) (mask v : Word) : Mach :=
  if (regFields a).isEmpty then m
  else match a / 0x10000 with
    | 0x4 => m.writeOuter otp a mask v
    | 0x5 => m.writeCore otp a mask v
    | 0x6 => m.writeCore otp a mask v
    | 0x7 => m.writeCore otp a mask v
    | 0x8 => m.writeCore otp a mask v
    | 0xA => m.writeOuter otp a mask v
    | 0xB => m.writeOuter otp a mask v
    | 0xC => m.writeOuter otp a mask v
    | 0xE => m.writeSub otp a mask v
    | 0xF => m.writeSub otp a mask v
    | 0x10 => m.writeSub otp a mask v
    | 0x12 => m.writeCore otp a mask v
    | _ => m.writePlain otp a mask v

end Sys2Proof.Machine
end

