-- ==== Sys2Proof/Machine/RegRows.lean ====
section
/-!
DEFINITION. The commands that read and write registers one at a time.
-/
namespace Sys2Proof.Machine
open Sys2Proof

/-- LO_REGISTER_READ (R55): a read of a _LO register by the supervisor latches the _HI half; the next read of that _HI register takes the
latched half. -/
def execLoRegisterRead (t : Nat) (a : BitVec 24) (s : State) : Host.Outcome State Fault Refusal :=
  runAt t (fun m => if m.st == .off then m else m.supRead a.toNat) s

/-- REGISTER_WRITE (R5, R555): one masked write; an address outside the map is refused (R587). -/
def execRegisterWrite (t : Nat) (a : BitVec 24) (mask value : BitVec 32) (s : State) : Host.Outcome State Fault Refusal :=
  runAt t (fun m => if m.st == .off || regOutside a.toNat then m else m.writeReg true a.toNat mask value) s

end Sys2Proof.Machine
end

