-- ==== Sys2Proof/Machine/RetRows.lean ====
section
/-!
DEFINITION. The commands of the retained store (R441–R468).
-/
namespace Sys2Proof.Machine
open Sys2Proof

/-- A command of the retained store: from CONFIG on (R464). Log 2 (DESIGN CHOICE). -/
def runRet (t : Nat) (f : Mach → Mach) (s : State) : Host.Outcome State Fault Refusal := runAt t (fun m => if m.alive then f m else m) s

/-- How far a count modulo `n` has advanced. -/
def advanced (n new old : Nat) : Nat := (new + n - old % n) % n

/-- R229, R457: a flush of the retained journal takes at most 8192 entries; one with none to take records the numbers when they have advanced. Log 83 (DEDUCED). -/
def Mach.flushJournal (m : Mach) : Mach :=
  let es := m.ev.rjPend.take 8192
  if es.isEmpty then
    if 2 ^ 19 ≤ advanced (2 ^ 48) m.csn m.ret.recCsn ∨ 2 ^ 22 ≤ advanced (2 ^ 32) (m.fld R.EVU_SEQ) m.ret.recSeq then m.putRec 0x21 0 m.csn [] else m
  else
    let m := m.rjWrite es
    { m with ev := { m.ev with rjPend := m.ev.rjPend.drop es.length } }

/-- RETAINED_JOURNAL_FLUSH (R229, R457): not within SAVE, which flushes for itself (R456). Log 75 (DEDUCED). -/
def execRetainedJournalFlush (t : Nat) (s : State) : Host.Outcome State Fault Refusal :=
  runRet t (fun m => if m.st == .save then m else m.flushJournal) s

/-- PERIODIC_SAVE (R454). Log 75 (DEDUCED). -/
def execPeriodicSave (t : Nat) (s : State) : Host.Outcome State Fault Refusal :=
  runRet t (fun m =>
    if m.st == .run && m.fld R.RET_CFG_PSAVE != 0 && m.ret.save.isNone && m.ret.savePend.isNone then m.startSave 2 else m) s

/-- RECORD_WRITE_COMPLETE (R446, R453): the marker line of the record with a SEQ is programmed, or its lines fail verification (R466). -/
def execRecordWriteComplete (t : Nat) (seq : Nat) (fail : Bool) (s : State) : Host.Outcome State Fault Refusal :=
  runRet t (fun m => if fail then m.recFail seq else if m.ret.recs.any (fun r => r.seq == seq && !r.done) then (m.markRec seq).saveRec seq else m) s

/-- The sector a bank gives up next (R451): the first behind the erased ones, or one without a valid SECTOR record. -/
def Mach.oldestSector (m : Mach) (b : Nat) : Option Nat :=
  (((List.range 7).map (fun i => 8 * b + (m.openSector b + 1 + i) % 8)).filter (fun n =>
    let x := m.sector n
    !x.retired && !(x.opened && x.top == 2))).head?

/-- R451: copy the live records of a sector to append points, each as it stands. Log 81 (DEDUCED). -/
def Mach.copyLive (m : Mach) (n : Nat) : Mach :=
  foldM (m.ret.recs.filter (fun r => r.sector == n && r.done && m.live r)) (fun r m =>
    let k := recLines r.payload.length
    let (s, l, m) := m.placeIn m.chooseBank k
    let m := { m with ret := { m.ret with recs := m.ret.recs.map (fun (x : Rec) => if x = r then { x with sector := s, line := l } else x) } }
    m.countLines k) m

/-- R451, R564: reclaim a sector of a log bank. Log 81 (DEDUCED). -/
def Mach.reclaim (m : Mach) (b : Nat) : Mach :=
  if 2 ≤ b ∧ m.st ≠ .save ∧ m.warn.isNone ∧ m.ret.erase.isNone ∧ (m.erasedAhead b).length < 2 then
    match m.oldestSector b with
    | some n => if m.ret.recs.any (fun r => r.sector == n && !r.done) then m else ((m.copyLive n).startErase n).showRet
    | none => m
  else m

/-- RECLAIM (R451). -/
def execReclaim (t : Nat) (b : Fin 16) (s : State) : Host.Outcome State Fault Refusal := runRet t (fun m => m.reclaim b) s

/-- SECTOR_ERASE_DONE (R448, R460): the SECTOR record opens the sector; a parameter store goes on with its next one. -/
def execSectorEraseDone (t : Nat) (s : State) : Host.Outcome State Fault Refusal :=
  runRet t (fun m => match m.ret.erase, m.sup.suspAt with
    | some n, some a =>
      if m.now < a then m
      else
        let m := m.eraseDone n
        let m := match m.ret.pstore with
          | some p =>
            let left := p.sectors.filter (fun x => x != n)
            let m := { m with ret := { m.ret with pstore := some { p with sectors := left } } }
            match left with
            | x :: _ => m.startErase x
            | [] => m
          | none => m
        m.showRet
    | some n, none => (m.eraseDone n).showRet
    | none, _ => m) s

/-- R460: the last PIMAGE of a store is valid. -/
def Mach.parDone (m : Mach) (p : ParStore) : Mach :=
  let i := { p.image with mark := (m.ret.seq + 128, m.csn, m.fld R.EVU_SEQ) }
  let m := { m with ret := { m.ret with pstore := none, seq := m.ret.seq + 129, recCsn := m.csn, recSeq := m.fld R.EVU_SEQ,
                                        half0 := if p.half = 0 then some i else m.ret.half0,
                                        half1 := if p.half = 1 then some i else m.ret.half1 } }
  let m := m.countLines (128 * recLines 2048 + recLines 32)
  (((m.setFld R.RET_PSTAT_RESULT 0).showImage).showRet).info 0x3508

/-- R460, R463, R466: lines of a sector of the half fail verification three times: the sector is retired, and the store ends without an image. -/
def Mach.parFailed (m : Mach) (s : Nat) : Mach :=
  let m := { m.retireSector s with ret := { (m.retireSector s).ret with pstore := none } }
  ((m.setFld R.RET_PSTAT_RESULT 7).showRet).note 0x3509

/-- PARAM_STORE_COMPLETE (R460): every sector of the half is open, and the records are written, or the lines of a sector of the half fail. Log 84 (DEDUCED). -/
def execParamStoreComplete (t : Nat) (fail : Option (Fin 8)) (s : State) : Host.Outcome State Fault Refusal :=
  runRet t (fun m => match m.ret.pstore with
    | some p => if p.sectors.isEmpty then (match fail with
      | some j => m.parFailed (8 * p.half + j.val)
      | none => m.parDone p) else m
    | none => m) s

/-- PROT_LEVEL_WRITE (R459): a write that breaks the rule is ignored. -/
def execProtLevelWrite (t : Nat) (l : Fin 4) (s : State) : Host.Outcome State Fault Refusal :=
  runRet t (fun m => if m.mayProtect l then m.setProtect l else m) s

end Sys2Proof.Machine
end

