-- ==== Sys2Proof/Machine/SvcOps.lean ====
section
/-!
DEFINITION. The service protocol up to the operations (R538–R549, R554, R556): messages, authentication, the session, the client table, the
order of the checks, and the answers.
-/
namespace Sys2Proof.Machine
open Sys2Proof

/-! ### Messages (R541) -/

/-- A well-formed request. `signed` is what its MAC covers. -/
structure SvcReq where
  uart : Bool
  role : Nat
  op : Nat
  client : Nat
  session : Nat
  reqid : Nat
  body : List Byte
  mac : List Byte
  signed : List Byte
  deriving DecidableEq, Repr

/-- What an operation answers: STATUS [7:0] and [15:8], the body, and the module after it. -/
structure SvcAns where
  status : Nat
  detail : Nat
  body : List Byte
  m : Mach
  deriving DecidableEq, Repr

/-- Status codes (R554). -/
def stOk : Nat := 0x00
def stAuth : Nat := 0x02
def stRole : Nat := 0x03
def stState : Nat := 0x04
def stOp : Nat := 0x05
def stLength : Nat := 0x06
def stRange : Nat := 0x07
def stSession : Nat := 0x08
def stStale : Nat := 0x09
def stHandle : Nat := 0x0A
def stSeq : Nat := 0x0B
def stRefused : Nat := 0x0C
def stAbandoned : Nat := 0x0D
def stClients : Nat := 0x0E
def stDupid : Nat := 0x0F

/-- The bytes of a UART frame between its delimiters, for bytes sent (R539): each 0x7E or 0x7D is escaped. -/
def uartStuff : List Byte → List Byte
  | [] => []
  | b :: bs => if b = 0x7E ∨ b = 0x7D then 0x7D :: (b ^^^ 0x20) :: uartStuff bs else b :: uartStuff bs

/-- The bytes sent, from those between the delimiters; `esc` tells that the byte before was 0x7D. None where the frame ends within an escape or
holds a delimiter. -/
def uartUnstuff : Bool → List Byte → Option (List Byte)
  | esc, [] => if esc then none else some []
  | true, b :: bs => (uartUnstuff false bs).map (fun r => (b ^^^ 0x20) :: r)
  | false, b :: bs =>
    if b = 0x7D then uartUnstuff true bs
    else if b = 0x7E then none
    else (uartUnstuff false bs).map (fun r => b :: r)

/-- What stands between the delimiters of a message's frame: the message and its CRC-32 (R539). Log 98 (DEDUCED). -/
def uartPart (b : List Byte) : List Byte := uartStuff (b ++ leBytes 4 (crc32 b).toNat)

/-- The message of a frame, unless its CRC fails or it is too long (R539). Log 98 (DEDUCED). -/
def uartMessage (bs : List Byte) : Option (List Byte) :=
  (uartUnstuff false bs).bind (fun x =>
    let b := x.take (x.length - 4)
    if 4 ≤ x.length ∧ x.length ≤ 1476 ∧ x.drop (x.length - 4) = leBytes 4 (crc32 b).toNat then some b else none)

/-- The message that the bytes of a command hold: on the UART those of a frame between its delimiters. Log 98 (DEDUCED). -/
def svcMessage (uart : Bool) (bs : List Byte) : Option (List Byte) := if uart then uartMessage bs else some bs

/-- A message as a request, unless it is malformed (R539, R556). -/
def svcParse (uart : Bool) (bs : List Byte) : Option SvcReq :=
  (svcMessage uart bs).bind fun b =>
  let n := b.length
  if 44 ≤ n ∧ n ≤ 1472 ∧ fieldAt b 0 2 = 0x53A7 ∧ byteAt b 2 = 1 ∧ byteAt b 3 = 0 ∧ fieldAt b 26 2 + 44 = n then
    some { uart := uart, role := byteAt b 4, op := fieldAt b 6 2, client := fieldAt b 8 8, session := fieldAt b 16 4, reqid := fieldAt b 20 4,
           body := (b.drop 28).take (n - 44), mac := b.drop (n - 16), signed := b.take (n - 16) }
  else none

/-- The bytes of a response: `key` none where no key signs it. -/
def svcBytes (r : SvcReq) (loader : Bool) (key : Option (List Byte)) (status detail : Nat) (body : List Byte) : List Byte :=
  let a := leBytes 2 0x53A7 ++ (leBytes 1 1 ++ (leBytes 1 1 ++ (leBytes 1 r.role ++ (leBytes 1 loader.toNat ++ (leBytes 2 r.op ++
    (leBytes 8 r.client ++ (leBytes 4 r.session ++ (leBytes 4 r.reqid ++ (leBytes 1 status ++ (leBytes 1 detail ++
    (leBytes 2 body.length ++ body)))))))))))
  a ++ (match key with
    | some k => (hmac256 k a).take 16
    | none => List.replicate 16 0)

/-- Send a reply on the transport and port of its request (R538), on the UART as a frame (R539). -/
def Mach.svcSend (m : Mach) (msg : SvcMsg) (b : List Byte) : Mach :=
  match msg.port with
  | none => m.send (.uart (0x7E :: (uartPart b ++ [0x7E])))
  | some h => if m.fld R.STA_CFG_MODE = 0 then m.portSend (.udp msg.src b) else m.portSend1 h.port.toNat none (.udp msg.src b)

/-- A message reaches the module: on a station port as a frame for the supervisor (R361); on the UART while firmware or the loader runs. -/
def Mach.svcReceive (m : Mach) (msg : SvcMsg) (f : Mach → Mach) : Mach :=
  match msg.port with
  | some h => m.supFrame h f
  | none => if m.st == .off || m.st == .boot then m else f m

/-- A NOTE of the protocol, at most once per second for each client identity and transport (R556). -/
def Mach.svcNote (m : Mach) (client : Nat) (uart : Bool) (code : Nat) : Mach :=
  if !m.alive || m.svc.notes.any (fun (x : (Nat × Bool × Nat) × Nat) => x.1 == (client, uart, code) && decide (m.now < x.2 + 1000000000)) then m
  else ({ m with svc := { m.svc with notes := m.svc.notes.filter (fun (x : (Nat × Bool × Nat) × Nat) => x.1 != (client, uart, code)) ++ [((client, uart, code), m.now)] } }).note code

/-! ### Authentication (R542–R544) -/

/-- Has the module no package keys? -/
def Mach.keyless (m : Mach) : Bool := m.upd.roles.isEmpty

/-- Does the loader wait for a new image over the UART (R490)? -/
def Mach.loaderWaits (m : Mach) : Bool := m.st == .loader && (updFailed m.upd.lines || !updArmed m.upd.lines)

/-- The key of a role on a transport, where the module accepts it there. -/
def Mach.roleKey (m : Mach) (uart : Bool) (role : Nat) : Option (List Byte) :=
  if role = 0 ∨ 3 < role ∨ m.st = .loader then none
  else if m.keyless then (if role = 3 ∧ uart then some ((List.range 32).map Config.commissioningKey) else none)
  else match m.upd.roles[role - 1]? with
    | some k => if (if uart then k.uart else k.ports) then some k.key else none
    | none => none

/-- The key that signs the answer, or none for role 0; nothing where the request is not authentic. -/
def Mach.svcAuth (m : Mach) (r : SvcReq) : Option (Option (List Byte)) :=
  if r.role = 0 then (if r.mac = List.replicate 16 0 then some none else none)
  else match m.roleKey r.uart r.role with
    | some k => if (hmac256 k r.signed).take 16 = r.mac then some (some k) else none
    | none => none

/-! ### The client table (R546, R547) -/

/-- Is b later than a, modulo 2^32? -/
def idLater (a b : Nat) : Bool := decide (1 ≤ (b + 2 ^ 32 - a) % 2 ^ 32 ∧ (b + 2 ^ 32 - a) % 2 ^ 32 < 2 ^ 31)

def Client.is (c : Client) (r : SvcReq) : Bool := c.id == r.client && c.uart == r.uart
def Mach.svcClient (m : Mach) (r : SvcReq) : Option Client := m.svc.clients.find? (fun c => c.is r)

/-- Has a client an open handle? -/
def Mach.hasHandle (m : Mach) (c : Client) : Bool := m.svc.handles.any (fun h => h.client == c.id && h.uart == c.uart)

/-- The client heard longest ago of those without an open handle. -/
def Mach.idleClient (m : Mach) : Option Client :=
  (m.svc.clients.filter (fun c => !m.hasHandle c)).foldl (fun (b : Option Client) c => match b with
    | none => some c
    | some x => if c.heard < x.heard then some c else some x) none

def Mach.setClients (m : Mach) (cs : List Client) : Mach := { m with svc := { m.svc with clients := cs } }

/-- The request's client in the table, heard now; none where the table has no room for it. -/
def Mach.takeClient (m : Mach) (r : SvcReq) : Option Mach :=
  let new : Client := { id := r.client, uart := r.uart, reqs := [], heard := m.now }
  if (m.svcClient r).isSome then
    some (m.setClients (m.svc.clients.map (fun (c : Client) => if c.is r then { c with heard := m.now } else c)))
  else if m.svc.clients.length < 16 then some (m.setClients (m.svc.clients ++ [new]))
  else match m.idleClient with
    | some o => some ((m.setClients (m.svc.clients.filter (fun c => c != o) ++ [new])).svcNote r.client r.uart 0x3707)
    | none => none

/-- Store an executed request with its response: the last 64 of each client. -/
def Mach.keepAnswer (m : Mach) (r : SvcReq) (resp : List Byte) : Mach :=
  m.setClients (m.svc.clients.map (fun (c : Client) =>
    if c.is r then { c with reqs := (c.reqs ++ [(r.reqid, r.mac, resp)]).drop (c.reqs.length + 1 - 64) } else c))

/-! ### Who may do what, and when (R544, R550) -/

/-- The states CONFIG to FAULT, and STOP and RUN. -/
def Mach.inFirmware (m : Mach) : Bool := m.alive
def Mach.inStopRun (m : Mach) : Bool := m.st == .stop || m.st == .run

/-- The operations of the table. -/
def opCodes : List Nat :=
  [opIdent, opStatus, opRegRead, opRegWrite, opImgRead, opJournalRead, opMode, opRestart, opYield, opFaultClear, opPkgDownload, opPkgActivate, opOlcLoad,
   opOlcSwap, opOlcCancel, opParamStore, opParamLoad, opProtect, opFwUpdate, opFwCommit, opFwStatus, opPbufRead, opStep, opProgress, opAbort]

/-- The operations of R544. -/
def commissionOps : List Nat :=
  [opIdent, opStatus, opFwStatus, opRegRead, opJournalRead, opStep, opProgress, opAbort, opRestart, opPkgDownload, opPkgActivate, opFwUpdate, opFwCommit]

/-- The lowest role of an operation. -/
def Mach.opRole (m : Mach) (op : Nat) (uart : Bool) (body : List Byte) : Nat :=
  if op = opIdent then 0
  else if op = opStatus ∨ op = opImgRead ∨ op = opJournalRead ∨ op = opPbufRead then 1
  else if op = opRegRead then
    if (List.range (body.length / 4)).any (fun i => [4, 5, 14].contains (fieldAt body (4 * i) 4 / 0x10000)) then 3 else 1
  else if op = opYield ∨ op = opFaultClear then 2
  else if op = opParamStore then (if byteAt body 0 = 1 then 3 else 2)
  else if op = opFwStatus then (if m.keyless then 0 else 1)
  else if op = opFwUpdate then (if m.loaderWaits && uart then 0 else 3)
  else 3

/-- Is the module in a state that accepts an operation? -/
def Mach.opState (m : Mach) (op : Nat) (uart : Bool) : Bool :=
  if op = opIdent ∨ op = opRestart ∨ op = opFwStatus then true
  else if op = opImgRead ∨ op = opMode ∨ op = opPkgDownload ∨ op = opPkgActivate ∨ op = opParamStore ∨ op = opProtect ∨ op = opPbufRead then m.inStopRun
  else if op = opYield then m.st == .run && m.isLead && m.pair.ptnFollow
  else if op = opOlcLoad ∨ op = opOlcSwap ∨ op = opOlcCancel then m.st == .run
  else if op = opParamLoad then m.st == .stop
  else if op = opFwUpdate then m.inFirmware || (m.loaderWaits && uart)
  else m.inFirmware

/-- The operation whose role and states count: of a handle's requests, the handle's. Log 97 (DEDUCED). -/
def Mach.ruledBy (m : Mach) (r : SvcReq) : Option Nat :=
  if r.op = opStep ∨ r.op = opProgress ∨ r.op = opAbort then (m.handle (fieldAt r.body 0 2)).map (·.op) else some r.op

/-- Is the role too low? -/
def Mach.roleLow (m : Mach) (r : SvcReq) : Bool :=
  match m.ruledBy r with
  | some op => opCodes.contains op && decide (r.role < m.opRole op r.uart (if op = r.op then r.body else []))
  | none => false

/-- Is the state wrong? With the commissioning key only the operations of R544 are accepted. -/
def Mach.stateBad (m : Mach) (r : SvcReq) : Bool :=
  opCodes.contains r.op && ((m.keyless && r.role == 3 && !commissionOps.contains r.op) ||
    (if r.op = opProgress ∨ r.op = opAbort then false
     else match m.ruledBy r with
       | some op => !m.opState op r.uart
       | none => false))

/-! ### Answers of the operations -/

def ansOk (body : List Byte) (m : Mach) : SvcAns := ⟨stOk, 0, body, m⟩
def ansErr (status : Nat) (m : Mach) : SvcAns := ⟨status, 0, [], m⟩
def ansRefused (detail : Nat) (m : Mach) : SvcAns := ⟨stRefused, detail, [], m⟩

/-- A code the spec does not name: a free value. Log 99 (DEDUCED). -/
def Mach.freeCode (m : Mach) : Nat × Mach :=
  let (n, m) := m.fresh
  ((Config.freeWord n).toNat % 256, m)

/-- A refusal whose code the spec does not name. Log 99 (DEDUCED). -/
def Mach.ansRefusedFree (m : Mach) : SvcAns :=
  let (c, m) := m.freeCode
  ansRefused c m

/-- Record a refusal of an online-change request (R255). -/
def Mach.olcRefuse (m : Mach) (code : Nat) : Mach := (m.setFld R.IMG_OLCSTAT_RESULT code).setFlag R.IMG_OLCSTAT_REFUSED true

/-- R463: what a parameter operation turned away leaves in RET.PSTAT. Log 84 (DEDUCED). -/
def Mach.parRefuse (m : Mach) (code : Nat) : Mach := (m.setFld R.RET_PSTAT_RESULT code).note 0x3509

/-- The checks every operation shares, then the operation. Log 97 (DEDUCED). -/
def Mach.svcExecute (m : Mach) (r : SvcReq) (f : SvcReq → Mach → SvcAns) : SvcAns :=
  let par := (r.op == opParamStore || r.op == opParamLoad) && m.alive
  let olc := (r.op == opOlcLoad || r.op == opOlcSwap) && m.inFirmware
  if m.roleLow r then ansErr stRole ((onlyIf par (fun m => m.parRefuse 2) m).svcNote r.client r.uart 0x3703)
  else if m.stateBad r then ansErr stState (onlyIf olc (fun m => m.olcRefuse 0x0A) (onlyIf par (fun m => m.parRefuse 3) m))
  else f r m

/-- A request with a valid MAC and session, of a client in the table (R547, R548). Log 97 (DEDUCED). -/
def Mach.svcAnswer (m : Mach) (msg : SvcMsg) (r : SvcReq) (key : Option (List Byte)) (f : SvcReq → Mach → SvcAns) : Mach :=
  let loader := m.st == .loader
  let reqs := ((m.svcClient r).map (·.reqs)).getD []
  match reqs.find? (fun x => x.1 == r.reqid) with
  | some x =>
    if x.2.1 = r.mac then m.svcSend msg x.2.2
    else (m.svcNote r.client r.uart 0x3702).svcSend msg (svcBytes r loader key stDupid 0 [])
  | none =>
    if (match reqs.getLast? with
      | some x => idLater x.1 r.reqid
      | none => true) then
      let a := m.svcExecute r f
      let resp := svcBytes r loader key a.status a.detail a.body
      (a.m.keepAnswer r resp).svcSend msg resp
    else (m.svcNote r.client r.uart 0x3702).svcSend msg (svcBytes r loader key stStale 0 [])

/-- A well-formed request (R542, R545, R546). Log 98 (DEDUCED). -/
def Mach.svcRequest (m : Mach) (msg : SvcMsg) (r : SvcReq) (f : SvcReq → Mach → SvcAns) : Mach :=
  let loader := m.st == .loader
  match m.svcAuth r with
  | none => (m.svcNote r.client r.uart 0x3700).svcSend msg (svcBytes r loader none stAuth 0 [])
  | some key =>
    if r.op ≠ opIdent ∧ r.session ≠ m.svc.session then m.svcSend msg (svcBytes r loader key stSession 0 [])
    else match m.takeClient r with
      | none => m.svcSend msg (svcBytes r loader key stClients 0 [])
      | some m => m.svcAnswer msg r key f

/-- A request of one operation. Log 98 (DEDUCED). -/
def Mach.svcOp (m : Mach) (msg : SvcMsg) (op : Nat) (f : SvcReq → Mach → SvcAns) : Mach :=
  match svcParse msg.port.isNone msg.bytes with
  | some r => if r.op = op then m.svcReceive msg (fun m => m.svcRequest msg r f) else m
  | none => m

/-- A message that no operation takes (R556): malformed or, on the UART, of a frame that failed, it is discarded, and an empty frame ignored (R539); of
an unknown operation, it is answered so. Log 98 (DEDUCED). -/
def Mach.svcDiscard (m : Mach) (msg : SvcMsg) : Mach :=
  let uart := msg.port.isNone
  let drop := fun (m : Mach) => m.svcReceive msg (fun m => m.svcNote (fieldAt ((svcMessage uart msg.bytes).getD []) 8 8) uart 0x3701)
  match svcParse uart msg.bytes with
  | none => if uart && msg.bytes.isEmpty then m else drop m
  | some r =>
    if !opCodes.contains r.op then m.svcReceive msg (fun m => m.svcRequest msg r (fun _ m => ansErr stOp m))
    else if uart then drop m else m

end Sys2Proof.Machine
end

