-- ==== Sys2Proof/Machine/SvcFns.lean ====
section
/-!
DEFINITION. The operations of the service protocol (R550–R555): what each does and answers, once the shared checks have passed.
-/
namespace Sys2Proof.Machine
open Sys2Proof

/-! ### Shared -/

/-- An operation whose body has one length. -/
def withLen (n : Nat) (f : SvcReq → Mach → SvcAns) (r : SvcReq) (m : Mach) : SvcAns := if r.body.length = n then f r m else ansErr stLength m

/-- The values of some registers, read once. -/
def Mach.regBytes (m : Mach) (as : List Nat) : List Byte × Mach :=
  let (ws, m) := m.readRegs [] as
  (ws.flatMap (fun (w : Word) => leBytes 4 w.toNat), m)

/-- An answer that holds the values of some registers. Log 100 (DEDUCED). -/
def Mach.ansRegs (m : Mach) (as : List Nat) : SvcAns :=
  let (b, m) := m.regBytes as
  ansOk b m

/-- The journal entry of the executed operations of R557. -/
def SvcAns.executed (a : SvcAns) : SvcAns := { a with m := a.m.info 0x3708 }

/-- Open a handle (R551): at most 8 at one time, and each number once within a session. Log 99 (DEDUCED). -/
def Mach.openHandle (m : Mach) (r : SvcReq) (h : Handle) : SvcAns :=
  if 8 ≤ m.svc.handles.length ∨ 65535 < m.svc.nextHandle then m.ansRefusedFree
  else
    let no := m.svc.nextHandle
    let h := { h with no := no, op := r.op, client := r.client, uart := r.uart, stepAt := m.now }
    let m := { m with svc := { m.svc with handles := m.svc.handles ++ [h], nextHandle := no + 1 } }
    ansOk (leBytes 2 no) (if m.alive then m.info 0x3704 else m)

/-- A handle to fill in. -/
def newHandle : Handle := { no := 0, op := 0, client := 0, uart := false }

/-- A long operation refused as it is requested (R557). -/
def Mach.refuseLong (m : Mach) (detail : Nat) : SvcAns := ansRefused detail (if m.alive then m.note 0x3706 else m)

/-! ### Reading -/

/-- IDENT: the identity of the module. -/
def svcIdent : SvcReq → Mach → SvcAns :=
  withLen 0 (fun _ m =>
    let dig := (List.range 8).flatMap (fun n => leBytes 4 (m.rget (R.UPD_PKGDIG n).addr).toNat)
    ansOk (leBytes 2 0x6016 ++ (leBytes 1 m.st.code ++ (leBytes 1 m.role ++ (leBytes 4 m.svc.session ++ (m.serialBytes ++
      (leBytes 4 (m.rget R.UPD_FWBUILD.addr).toNat ++ (leBytes 4 (m.rget R.UPD_FWPVER.addr).toNat ++ (dig ++ leBytes 8 m.now)))))))) m)

/-- STATUS: the state registers. -/
def svcStatus : SvcReq → Mach → SvcAns :=
  withLen 0 (fun _ m => m.ansRegs [R.DIAG_MSTATE.addr, R.DIAG_FSUM.addr, R.PRT_STAT.addr, R.TB_STAT.addr, R.IMG_OLCSTAT.addr, R.UPD_FWSTAT.addr])

/-- REG_READ (R590): 1 to 64 addresses in the order listed. -/
def svcRegRead (r : SvcReq) (m : Mach) : SvcAns :=
  let n := r.body.length / 4
  if r.body.length % 4 ≠ 0 ∨ n = 0 ∨ 64 < n then ansErr stLength m
  else
    let as := (List.range n).map (fun i => fieldAt r.body (4 * i) 4)
    if as.any regOutside then ansErr stRange m else m.ansRegs as

/-- REG_WRITE (R555): 1 to 32 items of address, mask and value, in item order; the register after each. Log 100 (DEDUCED). -/
def svcRegWrite (r : SvcReq) (m : Mach) : SvcAns :=
  let n := r.body.length / 12
  if r.body.length % 12 ≠ 0 ∨ n = 0 ∨ 32 < n then ansErr stLength m
  else
    let items := (List.range n).map (fun i => (fieldAt r.body (12 * i) 4, fieldAt r.body (12 * i + 4) 4, fieldAt r.body (12 * i + 8) 4))
    if items.any (fun x => regOutside x.1) then ansErr stRange m
    else
      let (b, m) := items.foldl (fun (acc : List Byte × Mach) x =>
        let (w, m) := (acc.2.writeReg false x.1 (BitVec.ofNat 32 x.2.1) (BitVec.ofNat 32 x.2.2)).regView x.1
        (acc.1 ++ leBytes 4 w.toNat, m)) ([], m)
      (ansOk b m).executed

/-- Elements of a space code of R44, with 0 for I, and the bytes of one element in IMG_READ. -/
def imgCount (sp : Nat) : Nat :=
  match sp with
  | 0 => 8192
  | 1 => 4096
  | 2 => 65536
  | 3 => 262144
  | 4 => 8192
  | 5 => 4096
  | 6 => 16384
  | _ => 0

/-- One element of the image. -/
def Mach.imgElement (m : Mach) (sp i : Nat) : List Byte :=
  if sp = spI then leBytes 1 ((m.pt i).v.toNat + 2 * (m.pt i).q) else leBytes (spBytes sp) (m.cell sp i).toNat

/-- IMG_READ: elements of one space, at one point. Log 100 (DEDUCED). -/
def svcImgRead : SvcReq → Mach → SvcAns :=
  withLen 12 (fun r m =>
    let sp := byteAt r.body 0
    let first := fieldAt r.body 4 4
    let n := fieldAt r.body 8 4
    let w := if sp = spI then 1 else spBytes sp
    if n = 0 ∨ 1428 < n * w ∨ imgCount sp < first + n then ansErr stRange m
    else ansOk ((List.range n).flatMap (fun i => m.imgElement sp (first + i))) m)

/-- FW_STATUS. -/
def svcFwStatus : SvcReq → Mach → SvcAns := withLen 0 (fun _ m => m.ansRegs [R.UPD_FWSTAT.addr, R.UPD_FWSBUILD.addr, R.UPD_FWCNT.addr])

/-- PBUF_READ: bytes of the program buffer. -/
def svcPbufRead : SvcReq → Mach → SvcAns :=
  withLen 8 (fun r m =>
    let off := fieldAt r.body 0 4
    let n := fieldAt r.body 4 4
    if n = 0 ∨ 1420 < n ∨ 0x400000 < off + n then ansErr stRange m
    else ansOk ((List.range n).map (fun i => m.pbufByte (0x0F000000 + off + i))) m)

/-! ### Modes, restart, faults -/

/-- MODE (R416, R562): STOP, which cancels an entry to RUN that waits, or RUN with a verified package. -/
def svcMode : SvcReq → Mach → SvcAns :=
  withLen 1 (fun r m =>
    match byteAt r.body 0 with
    | 0 =>
      let m := if m.st = .run then m.leaveRun .stop else m.cancelRun
      (ansOk (leBytes 1 m.st.code) m).executed
    | 1 =>
      if m.st = .run then (ansOk (leBytes 1 m.st.code) m).executed
      else if !m.keyed then ansErr stState m
      else
        let b := leBytes 1 m.st.code
        let m := m.tryRun
        (ansOk (if m.st = .run then leBytes 1 m.st.code else b) m).executed
    | _ => ansErr stRange m)

/-- RESTART (R419, R420): the reset comes 10 ms after the response, and the record of R420 is emptied. -/
def svcRestart : SvcReq → Mach → SvcAns :=
  withLen 0 (fun _ m =>
    let m := { m with sup := { m.sup with resets := [] } }
    (ansOk [] (m.requestReset 4 10000000)).executed)

/-- YIELD (R292). -/
def svcYield : SvcReq → Mach → SvcAns := withLen 0 (fun _ m => (ansOk [] (m.startYield 3)).executed)

/-- FAULT_CLEAR (R418). -/
def svcFaultClear : SvcReq → Mach → SvcAns :=
  withLen 0 (fun _ m =>
    let (b, m) := m.faultClear.regBytes [R.DIAG_FSUM.addr]
    (ansOk b m).executed)

/-- PROTECT (R459): raised at any time, lowered only in STOP. -/
def svcProtect : SvcReq → Mach → SvcAns :=
  withLen 4 (fun r m =>
    let l := byteAt r.body 0
    if 3 < l then ansErr stRange m
    else if !m.mayProtect l then ansErr stState m
    else (ansOk (leBytes 1 l) (m.setProtect l)).executed)

/-! ### Packages (R481–R483) -/

/-- The slot a staging writes: the one ACTIVE does not name; slot A where it names none. -/
def Mach.stageSlot (m : Mach) : Nat := if m.keyHdr.active = 0 then 1 else 0

/-- Staging ends without success: UPD.STGSTAT, 0x3583 and the target left as it is. -/
def Mach.stageFailed (m : Mach) (code : Nat) : Mach :=
  let m := { m with upd := { m.upd with stg := none } }
  ((m.setFld R.UPD_STGSTAT_STATE 3).setFld R.UPD_STGSTAT_CODE code).note 0x3583

/-- A staging that has begun leaves a record of its end in the key journal. Log 43 (DEDUCED), 91 (DEDUCED). -/
def Mach.stageEnd (m : Mach) (code : Nat) : Mach :=
  match m.upd.stg with
  | some g => (if m.keyHdr.slotState g.slot = 1 then m.keyLog 0x03 g.slot g.dig code else m).stageFailed code
  | none => m

/-- Is a staging, an activation or an online change in ARMED or WINDOW in progress (0x23)? -/
def Mach.stageBusy (m : Mach) : Bool := m.upd.stg.isSome || m.upd.actPend.isSome || m.olcState == olcArmed || m.olcState == olcWindow

/-- PKG_DOWNLOAD (R481, R482): `keyOk` tells that the key answers. Log 91 (DEDUCED). -/
def svcPkgDownload (keyOk : Bool) : SvcReq → Mach → SvcAns :=
  withLen 36 (fun r m =>
    let len := fieldAt r.body 0 4
    if len < 4096 ∨ 29360128 < len then ansErr stRange m
    else
      let m := m.setFlag R.UPD_KEYSTAT_PRESENT keyOk
      let code : Option Nat :=
        if m.stageBusy then some 0x23
        else if m.flag R.UPD_KEYSTAT_ACTPEND && m.verified then some 0x20
        else if !keyOk then some 0x21
        else none
      match code with
      | some c => (if c = 0x23 then m.note 0x3583 else m.stageFailed c).refuseLong c
      | none =>
        let (n, m) := m.fresh
        let a := m.openHandle r { newHandle with total := (Config.freeWord n).toNat }
        if a.status ≠ stOk then a
        else
          let m := { a.m with upd := { a.m.upd with stg := some ⟨m.stageSlot, len, sliceAt r.body 4 32, 0, false⟩ } }
          let m := ((m.setFld R.UPD_STGSTAT_STATE 1).setFld R.UPD_STGSTAT_SLOT m.stageSlot).setFld R.UPD_STGSTAT_CODE 0
          { a with m := (m.setFld R.UPD_STGPROG_DONE 0).setFld R.UPD_STGPROG_TOTAL ((len + 1023) / 1024) })

/-- PKG_ACTIVATE (R483): the other slot, VALID with this digest; refused with code 0x04 where no such slot is. Log 90 (DEDUCED). -/
def svcPkgActivate (keyOk : Bool) : SvcReq → Mach → SvcAns :=
  withLen 32 (fun r m =>
    let m := m.setFlag R.UPD_KEYSTAT_PRESENT keyOk
    let other := ([0, 1] : List Nat).filter (fun s => s != m.keyHdr.active && m.keyHdr.slotState s == 2 && m.keyHdr.slotDig s == r.body)
    if m.upd.stg.isSome || m.upd.actPend.isSome then ansRefused 0x23 m
    else if !keyOk then ansRefused 0x21 m
    else match other with
      | s :: _ => (ansOk (leBytes 1 s) (m.activate s)).executed
      | [] => ansRefused 0x04 m)

/-- What the first STEP of a download must carry: the package header and the section directory. -/
def headLen (data : List Byte) : Nat := if data.length < 256 then 256 else 256 + 16 * min (pkgCount data) 64

/-- The target is marked WRITING and erased (R481). Log 91 (DEDUCED). -/
def Mach.stageBegin (m : Mach) (g : Staging) : Mach :=
  let m := (m.writeHdr (fun h => h.setSlot g.slot 1 g.len g.dig)).keyLog 0x02 g.slot g.dig 0
  let k := m.upd.key
  { m with upd := { m.upd with staged := none, key := if g.slot = 0 then { k with slotA := [] } else { k with slotB := [] } } }

/-- Program data into the target. -/
def Mach.stageData (m : Mach) (slot off : Nat) (data : List Byte) : Mach :=
  let k := m.upd.key
  { m with upd := { m.upd with key :=
      if slot = 0 then { k with slotA := ssets 0xFF k.slotA off data } else { k with slotB := ssets 0xFF k.slotB off data } } }

/-- A STEP is refused with a code, and the operation ends. -/
def Mach.stepRefused (m : Mach) (h : Handle) (code : Nat) : SvcAns := ansRefused code (m.handleDone h 2 code)

/-- A data step of a download (R481). -/
def Mach.pkgStep (m : Mach) (h : Handle) (off : Nat) (data : List Byte) (keyOk : Bool) : SvcAns :=
  match m.upd.stg with
  | none => ansErr stAbandoned m
  | some g =>
    let bad := if off = 0 then pkgCheckHead data g.len (m.fld R.UPD_FWBUILD) else none
    if off ≠ g.got then ansErr stSeq m
    else if g.len < off + data.length then ansErr stRange m
    else if off = 0 ∧ data.length < headLen data then ansErr stLength m
    else match bad with
      | some b => (m.stageEnd b.code).stepRefused h b.code
      | none =>
        let m := m.setFlag R.UPD_KEYSTAT_PRESENT keyOk
        let m := if off = 0 ∧ keyOk then m.stageBegin g else m
        if !keyOk then (m.stageEnd 0x21).stepRefused h 0x21
        else
          let got := off + data.length
          let last := got == g.len
          let m := m.stageData g.slot off data
          let m := { m with upd := { m.upd with stg := some { g with got := got, readBack := last } } }
          let m := m.setFld R.UPD_STGPROG_DONE (got / 1024)
          ansOk [] (m.setHandle { h with done := h.done + 1, lastOff := off, lastData := data, stepAt := m.now, driven := !last })

/-- STAGING_READBACK (R481, R482): the target read back and checked, and marked VALID. Log 91 (DEDUCED). -/
def Mach.stagingReadback (m : Mach) (ok : Bool) : Mach :=
  match m.upd.stg with
  | none => m
  | some g =>
    if !g.readBack then m
    else
      let p := m.slotBytes g.slot g.len
      let code : Option Nat :=
        if !ok then some 0x21
        else match pkgCheck p g.len g.dig (m.fld R.UPD_FWBUILD) with
          | some b => some (if b.code = 0x0A then 0x22 else b.code)
          | none => none
      let h := (m.runningOp opPkgDownload).getD newHandle
      match code with
      | some c => (m.stageEnd c).handleDone h 2 c
      | none =>
        let m := (m.writeHdr (fun x => x.setSlot g.slot 2 g.len g.dig)).keyLog 0x03 g.slot g.dig 0
        let m := { m with upd := { m.upd with stg := none, staged := some p } }
        let m := ((m.setFld R.UPD_STGSTAT_STATE 2).setFld R.UPD_STGSTAT_CODE 0).info 0x3582
        let m := m.olcStop 0x0B
        m.handleDone { h with total := h.done } 1 0

/-! ### Online change (R236) -/

/-- OLC_LOAD. -/
def svcOlcLoad : SvcReq → Mach → SvcAns :=
  withLen 0 (fun r m =>
    if (m.runningOp opOlcLoad).isSome then m.ansRefusedFree
    else if m.olcState ≠ olcIdle then ansErr stState m
    else match m.olcCheck, m.upd.staged with
      | none, some p =>
        let a := m.openHandle r newHandle
        if a.status = stOk then { a with m := (a.m.olcBegin p).olcHandle } else a
      | some c, _ => (m.olcRefuse c).refuseLong c
      | none, none => m.refuseLong 0x01)

/-- OLC_SWAP: the drain start. -/
def svcOlcSwap : SvcReq → Mach → SvcAns :=
  withLen 0 (fun _ m =>
    if m.olcState ≠ olcReady then ansErr stState m
    else match m.swapCheck with
      | some c => (m.olcRefuse c).refuseLong c
      | none =>
        let m := m.olcSwap
        ansOk (leBytes 8 (m.fld64 R.IMG_OLCDRN_LO)) m)

/-- OLC_CANCEL. -/
def svcOlcCancel : SvcReq → Mach → SvcAns :=
  withLen 0 (fun _ m =>
    if m.olcState = olcIdle ∨ m.olcState = olcWindow then ansErr stState m else ansOk [] (m.olcStop 0x0B))

/-! ### Parameters (R460–R463) -/

/-- Is a parameter operation or the power-up scan in progress? -/
def Mach.parBusy (m : Mach) : Bool := m.ret.pstore.isSome || m.flag R.RET_STAT_BUSY

/-- PARAM_STORE: `img` is the image an engineer client supplies for source 1. -/
def svcParamStore (img : List Byte) : SvcReq → Mach → SvcAns :=
  withLen 4 (fun r m =>
    let src := byteAt r.body 0
    if 1 < src then ansErr stRange m
    else if m.parBusy || (m.runningOp opParamStore).isSome then (m.parRefuse 1).refuseLong 1
    else
      let a := m.openHandle r { newHandle with total := 137 }
      if a.status = stOk then { a with m := a.m.parStart src (ssets 0 [] 0 (img.take 262144)) } else a)

/-- The word of a parameter image at an offset of its array. -/
def parWord (i : ParImage) (off : Nat) : Nat := leNat ((List.range 4).map (fun j => sget 0 i.data (off + j)))

/-- PARAM_LOAD (R462): every mapped word from the newest valid image. Log 84 (DEDUCED). -/
def svcParamLoad : SvcReq → Mach → SvcAns :=
  withLen 4 (fun r m =>
    if m.parBusy then ansRefused 1 (m.parRefuse 1)
    else match m.newestImage with
      | none => ansRefused 4 (m.parRefuse 4)
      | some (_, i) =>
        if i.digest ≠ m.ret.parDigest ∧ !(byteAt r.body 0).testBit 0 then ansRefused 5 (m.parRefuse 5)
        else
          let m := foldM m.parWords (fun x m => m.setCell spW x.1 (BitVec.ofNat 128 (parWord i x.2))) m
          (ansOk [] ((m.setFld R.RET_PSTAT_RESULT 0).info 0x350A)).executed)

/-! ### Firmware (R486, R487, R490) -/

/-- UPD.FWSTAT while an image is received. -/
def Mach.fwReceiving (m : Mach) : Mach := (m.setFld R.UPD_FWSTAT_STATE 1).setFld R.UPD_FWSTAT_CODE 0

/-- An image is refused, or its reception ends: what has been written of it is discarded. -/
def Mach.fwRefused (m : Mach) (code : Nat) : Mach :=
  let m := if m.upd.fwLen.isSome then { m with upd := { m.upd with fwLen := none, store := [] } } else m
  let m := m.showFw.setFld R.UPD_FWSTAT_CODE code
  if m.alive then m.note 0x3586 else m

/-- FW_UPDATE. -/
def svcFwUpdate : SvcReq → Mach → SvcAns :=
  withLen 4 (fun r m =>
    if (m.runningOp opFwUpdate).isSome then m.ansRefusedFree
    else
      let (n, m) := m.fresh
      let a := m.openHandle r { newHandle with total := (Config.freeWord n).toNat, force := (byteAt r.body 0).testBit 0 || m.st == .loader }
      if a.status = stOk then { a with m := a.m.fwReceiving } else a)

/-- A data step of a firmware image; `ok` tells that the store's flash has not failed. -/
def Mach.fwStep (m : Mach) (h : Handle) (off : Nat) (data : List Byte) (ok : Bool) : SvcAns :=
  let m1 := fun (m : Mach) (last : Bool) => m.setHandle { h with done := h.done + 1, lastOff := off, lastData := data, stepAt := m.now, driven := !last }
  match m.upd.fwLen with
  | none =>
    if off ≠ 0 then ansErr stSeq m
    else if data.length ≠ 256 then ansErr stLength m
    else match m.fwHeader data h.force with
      | some c => (m.fwRefused c).stepRefused h c
      | none =>
        let m := { m with upd := { m.upd with store := data, fwLen := some (256 + fieldAt data 20 4) } }
        if ok then ansOk [] (m1 m false) else (m.fwRefused 0x0A).stepRefused h 0x0A
  | some len =>
    if off ≠ m.upd.store.length then ansErr stSeq m
    else if len < off + data.length then ansErr stRange m
    else if !ok then (m.fwRefused 0x0A).stepRefused h 0x0A
    else
      let m := { m with upd := { m.upd with store := m.upd.store ++ data } }
      ansOk [] (m1 m (off + data.length == len))

/-- FW_DIGEST_CHECK (R486): DIGEST over the stored payload, and the STAGED line. In LOADER the image goes to the loader at once (R490). Log 92 (DEDUCED). -/
def Mach.fwDigestCheck (m : Mach) (ok : Bool) : Mach :=
  match m.upd.fwLen, m.runningOp opFwUpdate with
  | some len, some h =>
    if m.upd.store.length ≠ len then m
    else
      let code : Option Nat := if !ok then some 0x0A else if fwDigestOk m.upd.store then none else some 0x06
      match code with
      | some c => (m.fwRefused c).handleDone h 2 c
      | none =>
        let m := { m with upd := { m.upd with fwLen := none } }
        let m := m.updLine 1 0
        let m := if m.st = .loader then m.updLine 2 0 else m.info 0x3585
        m.showFw.handleDone { h with total := h.done } 1 0
  | _, _ => m

/-- FW_COMMIT (R487): a staged image is armed; a restart at once is a service restart (R420). Log 92 (DEDUCED). -/
def svcFwCommit : SvcReq → Mach → SvcAns :=
  withLen 4 (fun r m =>
    if m.olcState ≠ olcIdle ∨ m.flag R.IMG_OLCSTAT_KEYPEND then ansRefused 0x08 (m.setFld R.UPD_FWSTAT_CODE 0x08)
    else if m.upd.fwLen.isSome ∨ (m.upd.lines.getLast?.map (·.ty)) ≠ some 1 then ansErr stState m
    else
      let m := ((m.updLine 2 0).showFw).info 0x3587
      ansOk [] (if (byteAt r.body 0).testBit 0 then { m with sup := { m.sup with resets := [] } }.requestReset 4 10000000 else m))

/-! ### Reading the journal (R228, R230, R552) -/

/-- The entries of a source in their order: the DRAM ring, or the retained journal. -/
def Mach.journalOf (m : Mach) (source : Nat) : List JEntry :=
  if source = 0 then m.ev.ring
  else ((m.recsOf 0x20).flatMap (fun r => (List.range (r.payload.length / 16)).map (fun i => JEntry.ofBytes (sliceAt r.payload (16 * i) 16))))

/-- JOURNAL_READ: opens a handle on a source, from a sequence number on. -/
def svcJournalRead : SvcReq → Mach → SvcAns :=
  withLen 8 (fun r m =>
    let src := byteAt r.body 0
    if 1 < src then ansErr stRange m
    else if (m.runningOp opJournalRead).isSome then m.ansRefusedFree
    else
      let (n, m) := m.fresh
      m.openHandle r { newHandle with total := (Config.freeWord n).toNat, source := src, first := fieldAt r.body 4 4 })

/-- The entries from a sequence number on, and whether it lies before the oldest held. -/
def entriesFrom (js : List JEntry) (first : Nat) : List JEntry × Bool :=
  match js.find? (fun j => !j.isMarker) with
  | some o =>
    if idLater first o.seq then (js, true)
    else (js.dropWhile (fun j => j.isMarker || (j.seq != first && !idLater first j.seq)), false)
  | none => (js, false)

/-- The entries behind the one with some bytes, and whether that one is no longer held. -/
def entriesAfter (js : List JEntry) (prev : List Byte) : List JEntry × Bool :=
  match js.dropWhile (fun j => j.bytes != prev) with
  | _ :: rest => (rest, false)
  | [] => (js, true)

/-- A step of a journal read: up to 88 entries from a position; a repeat of the last offset is answered from the position it had. Log 100 (DEDUCED). -/
def Mach.journalStep (m : Mach) (h : Handle) (off : Nat) : SvcAns :=
  let again := decide (0 < h.done) && off == h.lastOff && off != h.taken
  if off ≠ h.taken ∧ !again then ansErr stSeq m
  else
    let prev := if again then h.lastData else h.prev
    let js := m.journalOf h.source
    let (es, gone) := if prev.isEmpty then entriesFrom js h.first else entriesAfter js prev
    let es := es.take 88
    let (n, m) := m.fresh
    let seq := match es.find? (fun j => !j.isMarker) with
      | some j => j.seq
      | none => (Config.freeWord n).toNat
    let m := m.setHandle { h with done := h.done + 1, taken := off + es.length, lastOff := off, lastData := prev, stepAt := m.now,
                                  prev := (es.getLast?.map (·.bytes)).getD prev }
    ansOk (leBytes 4 seq ++ (leBytes 2 es.length ++ (leBytes 2 gone.toNat ++ es.flatMap JEntry.bytes))) m

/-! ### Handles (R551–R553) -/

/-- The handle a request names, where its client owns it. -/
def Mach.ownHandle (m : Mach) (r : SvcReq) : Option Handle :=
  (m.handle (fieldAt r.body 0 2)).bind (fun (h : Handle) => if h.client = r.client ∧ h.uart = r.uart then some h else none)

/-- STEP (R552). Log 99 (DEDUCED). -/
def svcStep (keyOk : Bool) (r : SvcReq) (m : Mach) : SvcAns :=
  if r.body.length < 8 then ansErr stLength m
  else match m.ownHandle r with
    | none => ansErr stHandle m
    | some h =>
      let off := fieldAt r.body 4 4
      let data := r.body.drop 8
      if h.state = 3 then ansErr stAbandoned m
      else if h.state = 2 then ansRefused h.detail m
      else if h.state = 1 then ansErr stSeq m
      else if h.op = opJournalRead then (if data.isEmpty then m.journalStep h off else ansErr stLength m)
      else if h.op = opPkgDownload ∨ h.op = opFwUpdate then
        if data.isEmpty then ansErr stLength m
        else if 0 < h.done ∧ off = h.lastOff then
          (if data = h.lastData then ansOk [] (m.setHandle { h with stepAt := m.now }) else ansErr stSeq m)
        else if !h.driven then ansErr stSeq m
        else if h.op = opPkgDownload then m.pkgStep h off data keyOk
        else m.fwStep h off data keyOk
      else ansErr stSeq m

/-- PROGRESS (R553). -/
def svcProgress : SvcReq → Mach → SvcAns :=
  withLen 4 (fun r m =>
    match m.handle (fieldAt r.body 0 2) with
    | none => ansErr stHandle m
    | some h =>
      ansOk (leBytes 2 h.no ++ (leBytes 1 h.state ++ (leBytes 1 0 ++ (leBytes 4 h.done ++ (leBytes 4 h.total ++ (leBytes 1 h.detail ++ leBytes 3 0)))))) m)

/-- A client-driven operation, or the checks behind it, is given up (R551): no function's code names it. Log 99 (DEDUCED). -/
def Mach.abandonOp (m : Mach) (h : Handle) : Mach :=
  let (c, m) := m.freeCode
  let m := if h.op = opPkgDownload then m.stageEnd c
    else if h.op = opFwUpdate then m.fwRefused c else m
  m.handleDone h 3 c

/-- ABORT (R553): the cancel of R236, an abandonment with result 6, or the end of the operation. Log 99 (DEDUCED). -/
def svcAbort : SvcReq → Mach → SvcAns :=
  withLen 4 (fun r m =>
    match m.ownHandle r with
    | none => ansErr stHandle m
    | some h =>
      if h.state = 3 then ansErr stAbandoned m
      else if h.state = 2 then ansRefused h.detail m
      else if h.state = 1 then ansErr stState m
      else if h.op = opOlcLoad then ansOk [] (m.olcStop 0x0B)
      else if h.op = opParamStore then ansOk [] m.parAbandon
      else ansOk [] (m.abandonOp h))

/-- HANDLE_IDLE_TIMEOUT (R551): no STEP for 60 s. -/
def Mach.handleIdle (m : Mach) (no : Nat) : Mach :=
  match m.handle no with
  | some h => if h.state = 0 ∧ h.driven ∧ (h.op = opPkgDownload ∨ h.op = opFwUpdate ∨ h.op = opJournalRead) ∧ h.stepAt + 60000000000 ≤ m.now then
      m.abandonOp h else m
  | none => m

/-- HANDLE_CLOSE (R553): 60 s after its end. -/
def Mach.handleClose (m : Mach) (no : Nat) : Mach :=
  match m.handle no with
  | some h => match h.endAt with
    | some a => if a + 60000000000 ≤ m.now then
        { m with svc := { m.svc with handles := m.svc.handles.filter (fun (x : Handle) => x.no != no) } } else m
    | none => m
  | none => m

end Sys2Proof.Machine
end

