-- ==== Sys2Proof/Machine/SvcRows.lean ====
section
/-!
DEFINITION. The commands of the service protocol (R538–R557), and those of staging and firmware images that follow a last step.
-/
namespace Sys2Proof.Machine
open Sys2Proof

/-- STAGING_READBACK (R481): `ok` tells that the key reads back what was written. -/
def execStagingReadback (t : Nat) (ok : Bool) (s : State) : Host.Outcome State Fault Refusal := runAt t (fun m => if m.alive then m.stagingReadback ok else m) s

/-- FW_DIGEST_CHECK (R486, R490): `ok` tells that the store's flash has not failed. -/
def execFwDigestCheck (t : Nat) (ok : Bool) (s : State) : Host.Outcome State Fault Refusal := runAt t (fun m => m.fwDigestCheck ok) s

/-- SERVICE_MESSAGE_DISCARD (R556). -/
def execServiceMessageDiscard (t : Nat) (msg : SvcMsg) (s : State) : Host.Outcome State Fault Refusal := runAt t (fun m => m.svcDiscard msg) s

/-- IDENT (R550). -/
def execIdent (t : Nat) (msg : SvcMsg) (s : State) : Host.Outcome State Fault Refusal := runAt t (fun m => m.svcOp msg opIdent svcIdent) s

/-- STATUS (R550). -/
def execStatus (t : Nat) (msg : SvcMsg) (s : State) : Host.Outcome State Fault Refusal := runAt t (fun m => m.svcOp msg opStatus svcStatus) s

/-- REG_READ (R550, R590). -/
def execRegRead (t : Nat) (msg : SvcMsg) (s : State) : Host.Outcome State Fault Refusal := runAt t (fun m => m.svcOp msg opRegRead svcRegRead) s

/-- REG_WRITE (R555). -/
def execRegWrite (t : Nat) (msg : SvcMsg) (s : State) : Host.Outcome State Fault Refusal := runAt t (fun m => m.svcOp msg opRegWrite svcRegWrite) s

/-- IMG_READ (R550). -/
def execImgRead (t : Nat) (msg : SvcMsg) (s : State) : Host.Outcome State Fault Refusal := runAt t (fun m => m.svcOp msg opImgRead svcImgRead) s

/-- JOURNAL_READ (R552). -/
def execJournalRead (t : Nat) (msg : SvcMsg) (s : State) : Host.Outcome State Fault Refusal := runAt t (fun m => m.svcOp msg opJournalRead svcJournalRead) s

/-- MODE (R416, R550, R562). -/
def execMode (t : Nat) (msg : SvcMsg) (s : State) : Host.Outcome State Fault Refusal := runAt t (fun m => m.svcOp msg opMode svcMode) s

/-- RESTART (R419, R420, R550). -/
def execRestart (t : Nat) (msg : SvcMsg) (s : State) : Host.Outcome State Fault Refusal := runAt t (fun m => m.svcOp msg opRestart svcRestart) s

/-- YIELD (R292). -/
def execYield (t : Nat) (msg : SvcMsg) (s : State) : Host.Outcome State Fault Refusal := runAt t (fun m => m.svcOp msg opYield svcYield) s

/-- FAULT_CLEAR (R418). -/
def execFaultClear (t : Nat) (msg : SvcMsg) (s : State) : Host.Outcome State Fault Refusal := runAt t (fun m => m.svcOp msg opFaultClear svcFaultClear) s

/-- PKG_DOWNLOAD (R481, R482): `keyOk` tells that the key answers. -/
def execPkgDownload (t : Nat) (msg : SvcMsg) (keyOk : Bool) (s : State) : Host.Outcome State Fault Refusal := runAt t (fun m => m.svcOp msg opPkgDownload (svcPkgDownload keyOk)) s

/-- PKG_ACTIVATE (R483): `keyOk` tells that the key answers. -/
def execPkgActivate (t : Nat) (msg : SvcMsg) (keyOk : Bool) (s : State) : Host.Outcome State Fault Refusal := runAt t (fun m => m.svcOp msg opPkgActivate (svcPkgActivate keyOk)) s

/-- OLC_LOAD (R236). -/
def execOlcLoad (t : Nat) (msg : SvcMsg) (s : State) : Host.Outcome State Fault Refusal := runAt t (fun m => m.svcOp msg opOlcLoad svcOlcLoad) s

/-- OLC_SWAP (R246). -/
def execOlcSwap (t : Nat) (msg : SvcMsg) (s : State) : Host.Outcome State Fault Refusal := runAt t (fun m => m.svcOp msg opOlcSwap svcOlcSwap) s

/-- OLC_CANCEL (R236). -/
def execOlcCancel (t : Nat) (msg : SvcMsg) (s : State) : Host.Outcome State Fault Refusal := runAt t (fun m => m.svcOp msg opOlcCancel svcOlcCancel) s

/-- PARAM_STORE (R460): with the image of an engineer client for source 1. -/
def execParamStore (t : Nat) (msg : SvcMsg) (img : List (BitVec 8)) (s : State) : Host.Outcome State Fault Refusal := runAt t (fun m => m.svcOp msg opParamStore (svcParamStore img)) s

/-- PARAM_LOAD (R462). -/
def execParamLoad (t : Nat) (msg : SvcMsg) (s : State) : Host.Outcome State Fault Refusal := runAt t (fun m => m.svcOp msg opParamLoad svcParamLoad) s

/-- PROTECT (R459). -/
def execProtect (t : Nat) (msg : SvcMsg) (s : State) : Host.Outcome State Fault Refusal := runAt t (fun m => m.svcOp msg opProtect svcProtect) s

/-- FW_UPDATE (R486). -/
def execFwUpdate (t : Nat) (msg : SvcMsg) (s : State) : Host.Outcome State Fault Refusal := runAt t (fun m => m.svcOp msg opFwUpdate svcFwUpdate) s

/-- FW_COMMIT (R487). -/
def execFwCommit (t : Nat) (msg : SvcMsg) (s : State) : Host.Outcome State Fault Refusal := runAt t (fun m => m.svcOp msg opFwCommit svcFwCommit) s

/-- FW_STATUS (R550). -/
def execFwStatus (t : Nat) (msg : SvcMsg) (s : State) : Host.Outcome State Fault Refusal := runAt t (fun m => m.svcOp msg opFwStatus svcFwStatus) s

/-- PBUF_READ (R550). -/
def execPbufRead (t : Nat) (msg : SvcMsg) (s : State) : Host.Outcome State Fault Refusal := runAt t (fun m => m.svcOp msg opPbufRead svcPbufRead) s

/-- STEP (R552): `keyOk` tells that the key, or the flash of the update store, takes the data. -/
def execStep (t : Nat) (msg : SvcMsg) (keyOk : Bool) (s : State) : Host.Outcome State Fault Refusal := runAt t (fun m => m.svcOp msg opStep (svcStep keyOk)) s

/-- PROGRESS (R553). -/
def execProgress (t : Nat) (msg : SvcMsg) (s : State) : Host.Outcome State Fault Refusal := runAt t (fun m => m.svcOp msg opProgress svcProgress) s

/-- ABORT (R553). -/
def execAbort (t : Nat) (msg : SvcMsg) (s : State) : Host.Outcome State Fault Refusal := runAt t (fun m => m.svcOp msg opAbort svcAbort) s

/-- HANDLE_IDLE_TIMEOUT (R551). -/
def execHandleIdleTimeout (t : Nat) (h : BitVec 16) (s : State) : Host.Outcome State Fault Refusal := runAt t (fun m => m.handleIdle h.toNat) s

/-- HANDLE_CLOSE (R553). -/
def execHandleClose (t : Nat) (h : BitVec 16) (s : State) : Host.Outcome State Fault Refusal := runAt t (fun m => m.handleClose h.toNat) s

end Sys2Proof.Machine
end

