-- ==== Sys2Proof/Machine/Dispatch.lean ====
section
/-!
DEFINITION. The meaning of every command: one arm per constructor of `Instr`, each one direct call of its meaning.
-/
namespace Sys2Proof.Machine

def exec (i : Instr) (s : State) : Host.Outcome State Fault Refusal :=
  match i with
  | .vsupStart t => Sys2Proof.Machine.execVsupStart t s
  | .moduleReset t sideB fwOk => Sys2Proof.Machine.execModuleReset t sideB fwOk s
  | .loaderSector t ok => Sys2Proof.Machine.execLoaderSector t ok s
  | .configLoad t present sfdpOk jedec => Sys2Proof.Machine.execConfigLoad t present sfdpOk jedec s
  | .timeSourceWaitEnd t => Sys2Proof.Machine.execTimeSourceWaitEnd t s
  | .holdupOkReached t => Sys2Proof.Machine.execHoldupOkReached t s
  | .powerFailWarning t => Sys2Proof.Machine.execPowerFailWarning t s
  | .rideThrough t => Sys2Proof.Machine.execRideThrough t s
  | .saveEntry t => Sys2Proof.Machine.execSaveEntry t s
  | .saveComplete t vsup => Sys2Proof.Machine.execSaveComplete t vsup s
  | .quadPowerUpRequest t k => Sys2Proof.Machine.execQuadPowerUpRequest t k s
  | .quadPowerUp t q => Sys2Proof.Machine.execQuadPowerUp t q s
  | .quadPowerDown t q => Sys2Proof.Machine.execQuadPowerDown t q s
  | .snapshotLead t k => Sys2Proof.Machine.execSnapshotLead t k s
  | .boundary t k => Sys2Proof.Machine.execBoundary t k s
  | .segmentStart t e => Sys2Proof.Machine.execSegmentStart t e s
  | .haltInstant t e => Sys2Proof.Machine.execHaltInstant t e s
  | .applicationStart t => Sys2Proof.Machine.execApplicationStart t s
  | .applicationComplete t => Sys2Proof.Machine.execApplicationComplete t s
  | .timerExpiry t => Sys2Proof.Machine.execTimerExpiry t s
  | .heldChangeRelease t => Sys2Proof.Machine.execHeldChangeRelease t s
  | .engineFault t e code pc => Sys2Proof.Machine.execEngineFault t e code pc s
  | .nop e gd f => Sys2Proof.Machine.execNop e gd f s
  | .add e gd f => Sys2Proof.Machine.execAdd e gd f s
  | .sub e gd f => Sys2Proof.Machine.execSub e gd f s
  | .addi e gd f => Sys2Proof.Machine.execAddi e gd f s
  | .mul e gd f => Sys2Proof.Machine.execMul e gd f s
  | .mulh e gd f => Sys2Proof.Machine.execMulh e gd f s
  | .div e gd f => Sys2Proof.Machine.execDiv e gd f s
  | .rem e gd f => Sys2Proof.Machine.execRem e gd f s
  | .movi e gd f => Sys2Proof.Machine.execMovi e gd f s
  | .movhi e gd f => Sys2Proof.Machine.execMovhi e gd f s
  | .insm e gd f => Sys2Proof.Machine.execInsm e gd f s
  | .ori e gd f => Sys2Proof.Machine.execOri e gd f s
  | .shl e gd f => Sys2Proof.Machine.execShl e gd f s
  | .shr e gd f => Sys2Proof.Machine.execShr e gd f s
  | .sra e gd f => Sys2Proof.Machine.execSra e gd f s
  | .shli e gd f => Sys2Proof.Machine.execShli e gd f s
  | .shri e gd f => Sys2Proof.Machine.execShri e gd f s
  | .srai e gd f => Sys2Proof.Machine.execSrai e gd f s
  | .popc e gd f => Sys2Proof.Machine.execPopc e gd f s
  | .ext e gd f => Sys2Proof.Machine.execExt e gd f s
  | .and e gd f => Sys2Proof.Machine.execAnd e gd f s
  | .or e gd f => Sys2Proof.Machine.execOr e gd f s
  | .xor e gd f => Sys2Proof.Machine.execXor e gd f s
  | .andn e gd f => Sys2Proof.Machine.execAndn e gd f s
  | .nor e gd f => Sys2Proof.Machine.execNor e gd f s
  | .xnor e gd f => Sys2Proof.Machine.execXnor e gd f s
  | .lmux e gd f => Sys2Proof.Machine.execLmux e gd f s
  | .pspr e gd f => Sys2Proof.Machine.execPspr e gd f s
  | .cmpeq e gd f => Sys2Proof.Machine.execCmpeq e gd f s
  | .cmpne e gd f => Sys2Proof.Machine.execCmpne e gd f s
  | .cmplt e gd f => Sys2Proof.Machine.execCmplt e gd f s
  | .cmpltu e gd f => Sys2Proof.Machine.execCmpltu e gd f s
  | .cmple e gd f => Sys2Proof.Machine.execCmple e gd f s
  | .cmpleu e gd f => Sys2Proof.Machine.execCmpleu e gd f s
  | .cmpeqi e gd f => Sys2Proof.Machine.execCmpeqi e gd f s
  | .cmplti e gd f => Sys2Proof.Machine.execCmplti e gd f s
  | .tstb e gd f => Sys2Proof.Machine.execTstb e gd f s
  | .any e gd f => Sys2Proof.Machine.execAny e gd f s
  | .all e gd f => Sys2Proof.Machine.execAll e gd f s
  | .pand e gd f => Sys2Proof.Machine.execPand e gd f s
  | .por e gd f => Sys2Proof.Machine.execPor e gd f s
  | .pxor e gd f => Sys2Proof.Machine.execPxor e gd f s
  | .pandn e gd f => Sys2Proof.Machine.execPandn e gd f s
  | .pnor e gd f => Sys2Proof.Machine.execPnor e gd f s
  | .ldb e gd f => Sys2Proof.Machine.execLdb e gd f s
  | .ldbs e gd f => Sys2Proof.Machine.execLdbs e gd f s
  | .ldh e gd f => Sys2Proof.Machine.execLdh e gd f s
  | .ldhs e gd f => Sys2Proof.Machine.execLdhs e gd f s
  | .ldw e gd f => Sys2Proof.Machine.execLdw e gd f s
  | .stb e gd f => Sys2Proof.Machine.execStb e gd f s
  | .sth e gd f => Sys2Proof.Machine.execSth e gd f s
  | .stw e gd f => Sys2Proof.Machine.execStw e gd f s
  | .lib e gd f => Sys2Proof.Machine.execLib e gd f s
  | .lqb e gd f => Sys2Proof.Machine.execLqb e gd f s
  | .lmb e gd f => Sys2Proof.Machine.execLmb e gd f s
  | .liw e gd f => Sys2Proof.Machine.execLiw e gd f s
  | .lqw e gd f => Sys2Proof.Machine.execLqw e gd f s
  | .lmw e gd f => Sys2Proof.Machine.execLmw e gd f s
  | .ldq e gd f => Sys2Proof.Machine.execLdq e gd f s
  | .lww e gd f => Sys2Proof.Machine.execLww e gd f s
  | .sqb e gd f => Sys2Proof.Machine.execSqb e gd f s
  | .smb e gd f => Sys2Proof.Machine.execSmb e gd f s
  | .sqw e gd f => Sys2Proof.Machine.execSqw e gd f s
  | .smw e gd f => Sys2Proof.Machine.execSmw e gd f s
  | .sww e gd f => Sys2Proof.Machine.execSww e gd f s
  | .bgth e gd f => Sys2Proof.Machine.execBgth e gd f s
  | .bgthq e gd f => Sys2Proof.Machine.execBgthq e gd f s
  | .bsct e gd f => Sys2Proof.Machine.execBsct e gd f s
  | .ton e gd f => Sys2Proof.Machine.execTon e gd f s
  | .tof e gd f => Sys2Proof.Machine.execTof e gd f s
  | .tp e gd f => Sys2Proof.Machine.execTp e gd f s
  | .tpx e gd f => Sys2Proof.Machine.execTpx e gd f s
  | .tonr e gd f => Sys2Proof.Machine.execTonr e gd f s
  | .trst e gd f => Sys2Proof.Machine.execTrst e gd f s
  | .tpre e gd f => Sys2Proof.Machine.execTpre e gd f s
  | .trd e gd f => Sys2Proof.Machine.execTrd e gd f s
  | .ctu e gd f => Sys2Proof.Machine.execCtu e gd f s
  | .ctd e gd f => Sys2Proof.Machine.execCtd e gd f s
  | .ctud e gd f => Sys2Proof.Machine.execCtud e gd f s
  | .cchn e gd f => Sys2Proof.Machine.execCchn e gd f s
  | .cldc e gd f => Sys2Proof.Machine.execCldc e gd f s
  | .edr e gd f => Sys2Proof.Machine.execEdr e gd f s
  | .edf e gd f => Sys2Proof.Machine.execEdf e gd f s
  | .edb e gd f => Sys2Proof.Machine.execEdb e gd f s
  | .br e gd f => Sys2Proof.Machine.execBr e gd f s
  | .call e gd f => Sys2Proof.Machine.execCall e gd f s
  | .ret e gd f => Sys2Proof.Machine.execRet e gd f s
  | .lpb e gd f => Sys2Proof.Machine.execLpb e gd f s
  | .mtlk e gd f => Sys2Proof.Machine.execMtlk e gd f s
  | .mtlp e gd f => Sys2Proof.Machine.execMtlp e gd f s
  | .mfs e gd f => Sys2Proof.Machine.execMfs e gd f s
  | .halt e gd f => Sys2Proof.Machine.execHalt e gd f s
  | .wdck e gd f => Sys2Proof.Machine.execWdck e gd f s
  | .mvrq e gd f => Sys2Proof.Machine.execMvrq e gd f s
  | .srd e gd f => Sys2Proof.Machine.execSrd e gd f s
  | .swrPerfctl e gd f => Sys2Proof.Machine.execSwrPerfctl e gd f s
  | .swrScanmax e gd d => Sys2Proof.Machine.execSwrScanmax e gd d s
  | .swrRespmax e gd d => Sys2Proof.Machine.execSwrRespmax e gd d s
  | .customInstruction e gd n w => Sys2Proof.Machine.execCustomInstruction e gd n w s
  | .reservedOpcode e gd w => Sys2Proof.Machine.execReservedOpcode e gd w s
  | .diTransitionAccepted t ins => Sys2Proof.Machine.execDiTransitionAccepted t ins s
  | .chatterRelease t ix => Sys2Proof.Machine.execChatterRelease t ix s
  | .readbackTransition t n first => Sys2Proof.Machine.execReadbackTransition t n first s
  | .wireBreakMeasurement t n cur => Sys2Proof.Machine.execWireBreakMeasurement t n cur s
  | .wireBreakDeclaration t n => Sys2Proof.Machine.execWireBreakDeclaration t n s
  | .inputGroupAbsent t g => Sys2Proof.Machine.execInputGroupAbsent t g s
  | .inputGroupReturn t g levels => Sys2Proof.Machine.execInputGroupReturn t g levels s
  | .retainedJournalFlush t => Sys2Proof.Machine.execRetainedJournalFlush t s
  | .clampPhaseEnd t n => Sys2Proof.Machine.execClampPhaseEnd t n s
  | .clampLong t n => Sys2Proof.Machine.execClampLong t n s
  | .overload t n => Sys2Proof.Machine.execOverload t n s
  | .overTemperature t n => Sys2Proof.Machine.execOverTemperature t n s
  | .groupOvercurrent t h => Sys2Proof.Machine.execGroupOvercurrent t h s
  | .openWireOnState t n => Sys2Proof.Machine.execOpenWireOnState t n s
  | .openWireOffState t n => Sys2Proof.Machine.execOpenWireOffState t n s
  | .readbackMissing t n => Sys2Proof.Machine.execReadbackMissing t n s
  | .externalFeed t n => Sys2Proof.Machine.execExternalFeed t n s
  | .fieldSupplyAbsent t h => Sys2Proof.Machine.execFieldSupplyAbsent t h s
  | .fieldSupplyPresent t h => Sys2Proof.Machine.execFieldSupplyPresent t h s
  | .ovlRearm t n => Sys2Proof.Machine.execOvlRearm t n s
  | .otmpRearm t n => Sys2Proof.Machine.execOtmpRearm t n s
  | .gtripRearm t h => Sys2Proof.Machine.execGtripRearm t h s
  | .healthContactRefresh t => Sys2Proof.Machine.execHealthContactRefresh t s
  | .healthContactTimeout t => Sys2Proof.Machine.execHealthContactTimeout t s
  | .syncSend t c => Sys2Proof.Machine.execSyncSend t c s
  | .followUpSend t c => Sys2Proof.Machine.execFollowUpSend t c s
  | .outrRefresh t c n => Sys2Proof.Machine.execOutrRefresh t c n s
  | .evtFrame t c f => Sys2Proof.Machine.execEvtFrame t c f s
  | .stsFrame t c f => Sys2Proof.Machine.execStsFrame t c f s
  | .svcResponse t c f => Sys2Proof.Machine.execSvcResponse t c f s
  | .exchangeTimeout t c n => Sys2Proof.Machine.execExchangeTimeout t c n s
  | .syncWaitExpiry t c n => Sys2Proof.Machine.execSyncWaitExpiry t c n s
  | .stationDropout t c n => Sys2Proof.Machine.execStationDropout t c n s
  | .stationIsolation t c n => Sys2Proof.Machine.execStationIsolation t c n s
  | .isolationEnd t c n => Sys2Proof.Machine.execIsolationEnd t c n s
  | .configRetry t c n => Sys2Proof.Machine.execConfigRetry t c n s
  | .busOff t c => Sys2Proof.Machine.execBusOff t c s
  | .busOffRecovery t c => Sys2Proof.Machine.execBusOffRecovery t c s
  | .heartbeatFrame t c f => Sys2Proof.Machine.execHeartbeatFrame t c f s
  | .heartbeatSend t => Sys2Proof.Machine.execHeartbeatSend t s
  | .txRequest t c b => Sys2Proof.Machine.execTxRequest t c b s
  | .txCancel t c b => Sys2Proof.Machine.execTxCancel t c b s
  | .txFrameDone t c sof => Sys2Proof.Machine.execTxFrameDone t c sof s
  | .bbChannelEn t c on => Sys2Proof.Machine.execBbChannelEn t c on s
  | .gooseFrame t h g => Sys2Proof.Machine.execGooseFrame t h g s
  | .gooseTalExpiry t b => Sys2Proof.Machine.execGooseTalExpiry t b s
  | .gooseRetransmission t b => Sys2Proof.Machine.execGooseRetransmission t b s
  | .announce t h a => Sys2Proof.Machine.execAnnounce t h a s
  | .sync t h y => Sys2Proof.Machine.execSync t h y s
  | .followUp t h y => Sys2Proof.Machine.execFollowUp t h y s
  | .pdelayReq t h d egress => Sys2Proof.Machine.execPdelayReq t h d egress s
  | .pdelayResp t h d => Sys2Proof.Machine.execPdelayResp t h d s
  | .pdelayRespFollowUp t h d => Sys2Proof.Machine.execPdelayRespFollowUp t h d s
  | .pdelayReqSend t p egress => Sys2Proof.Machine.execPdelayReqSend t p egress s
  | .announceReceiptTimeout t p => Sys2Proof.Machine.execAnnounceReceiptTimeout t p s
  | .prpSupervisionSend t => Sys2Proof.Machine.execPrpSupervisionSend t s
  | .prpSupervisionFrame t h => Sys2Proof.Machine.execPrpSupervisionFrame t h s
  | .prpNodeTimeout t mac => Sys2Proof.Machine.execPrpNodeTimeout t mac s
  | .prpLanSilence t p => Sys2Proof.Machine.execPrpLanSilence t p s
  | .arpRequest t h ip => Sys2Proof.Machine.execArpRequest t h ip s
  | .icmpEcho t h ip data => Sys2Proof.Machine.execIcmpEcho t h ip data s
  | .gratuitousArp t p => Sys2Proof.Machine.execGratuitousArp t p s
  | .portLinkUp t p speed => Sys2Proof.Machine.execPortLinkUp t p speed s
  | .portLinkDown t p => Sys2Proof.Machine.execPortLinkDown t p s
  | .spPortEn t p on => Sys2Proof.Machine.execSpPortEn t p on s
  | .portNegotiationRestart t p => Sys2Proof.Machine.execPortNegotiationRestart t p s
  | .sourceMeasurement t => Sys2Proof.Machine.execSourceMeasurement t s
  | .sourceUpgradeWait t => Sys2Proof.Machine.execSourceUpgradeWait t s
  | .irigFrame t cap f => Sys2Proof.Machine.execIrigFrame t cap f s
  | .irigTimeout t => Sys2Proof.Machine.execIrigTimeout t s
  | .ppsEdge t cap width => Sys2Proof.Machine.execPpsEdge t cap width s
  | .holdoverLimit t => Sys2Proof.Machine.execHoldoverLimit t s
  | .leapSecond t => Sys2Proof.Machine.execLeapSecond t s
  | .calendarRollover t => Sys2Proof.Machine.execCalendarRollover t s
  | .xo32Trim t trim => Sys2Proof.Machine.execXo32Trim t trim s
  | .rtcSecRead t sub => Sys2Proof.Machine.execRtcSecRead t sub s
  | .rtcCommit t busy => Sys2Proof.Machine.execRtcCommit t busy s
  | .backupSwitch t onBak low => Sys2Proof.Machine.execBackupSwitch t onBak low s
  | .aonReset t => Sys2Proof.Machine.execAonReset t s
  | .lockstepMismatch t => Sys2Proof.Machine.execLockstepMismatch t s
  | .railClockFault t xo32 => Sys2Proof.Machine.execRailClockFault t xo32 s
  | .faultRestart t => Sys2Proof.Machine.execFaultRestart t s
  | .sramScrubPass t errs => Sys2Proof.Machine.execSramScrubPass t errs s
  | .uncorrectableError t r e pc => Sys2Proof.Machine.execUncorrectableError t r e pc s
  | .codeBankCheck t bad => Sys2Proof.Machine.execCodeBankCheck t bad s
  | .dramScrub t errs bad => Sys2Proof.Machine.execDramScrub t errs bad s
  | .flashScrub t errs bad => Sys2Proof.Machine.execFlashScrub t errs bad s
  | .engineBist t e res => Sys2Proof.Machine.execEngineBist t e res s
  | .spareSwap t => Sys2Proof.Machine.execSpareSwap t s
  | .auditStart t => Sys2Proof.Machine.execAuditStart t s
  | .auditComplete t digests => Sys2Proof.Machine.execAuditComplete t digests s
  | .auditTimeout t => Sys2Proof.Machine.execAuditTimeout t s
  | .watchdogAmber t n => Sys2Proof.Machine.execWatchdogAmber t n s
  | .watchdogScarlet t => Sys2Proof.Machine.execWatchdogScarlet t s
  | .watchdogClockFail t => Sys2Proof.Machine.execWatchdogClockFail t s
  | .rcOscillatorReset t => Sys2Proof.Machine.execRcOscillatorReset t s
  | .suspensionCut t => Sys2Proof.Machine.execSuspensionCut t s
  | .wdgStart t => Sys2Proof.Machine.execWdgStart t s
  | .wdgClksel t sel => Sys2Proof.Machine.execWdgClksel t sel s
  | .wdgLock t => Sys2Proof.Machine.execWdgLock t s
  | .wdgRstcntClr t => Sys2Proof.Machine.execWdgRstcntClr t s
  | .diagFclr t => Sys2Proof.Machine.execDiagFclr t s
  | .perfctlClr t e => Sys2Proof.Machine.execPerfctlClr t e s
  | .fstatClear t => Sys2Proof.Machine.execFstatClear t s
  | .fltClear t e => Sys2Proof.Machine.execFltClear t e s
  | .loRegisterRead t a => Sys2Proof.Machine.execLoRegisterRead t a s
  | .registerWrite t a mask value => Sys2Proof.Machine.execRegisterWrite t a mask value s
  | .periodicSave t => Sys2Proof.Machine.execPeriodicSave t s
  | .reclaim t b => Sys2Proof.Machine.execReclaim t b s
  | .sectorEraseDone t => Sys2Proof.Machine.execSectorEraseDone t s
  | .paramStoreComplete t fail => Sys2Proof.Machine.execParamStoreComplete t fail s
  | .stagingReadback t ok => Sys2Proof.Machine.execStagingReadback t ok s
  | .keyActivationDone t ok => Sys2Proof.Machine.execKeyActivationDone t ok s
  | .fwDigestCheck t ok => Sys2Proof.Machine.execFwDigestCheck t ok s
  | .requestLine t line => Sys2Proof.Machine.execRequestLine t line s
  | .burst t bad => Sys2Proof.Machine.execBurst t bad s
  | .movChEn t c on => Sys2Proof.Machine.execMovChEn t c on s
  | .movChAbort t c keep => Sys2Proof.Machine.execMovChAbort t c keep s
  | .movErrRestart t c => Sys2Proof.Machine.execMovErrRestart t c s
  | .dspEnable t => Sys2Proof.Machine.execDspEnable t s
  | .dspDisable t => Sys2Proof.Machine.execDspDisable t s
  | .railsReady t => Sys2Proof.Machine.execRailsReady t s
  | .dischargeComplete t => Sys2Proof.Machine.execDischargeComplete t s
  | .panelFrame t => Sys2Proof.Machine.execPanelFrame t s
  | .displayPoll t => Sys2Proof.Machine.execDisplayPoll t s
  | .thermistorMeasurement t temp => Sys2Proof.Machine.execThermistorMeasurement t temp s
  | .railFault t ok => Sys2Proof.Machine.execRailFault t ok s
  | .railRetry t => Sys2Proof.Machine.execRailRetry t s
  | .renewal t => Sys2Proof.Machine.execRenewal t s
  | .fence t => Sys2Proof.Machine.execFence t s
  | .tokenTake t => Sys2Proof.Machine.execTokenTake t s
  | .hello t f => Sys2Proof.Machine.execHello t f s
  | .helloSend t => Sys2Proof.Machine.execHelloSend t s
  | .renew t f => Sys2Proof.Machine.execRenew t f s
  | .linkYield t f => Sys2Proof.Machine.execLinkYield t f s
  | .taken t f => Sys2Proof.Machine.execTaken t f s
  | .takenTimeout t => Sys2Proof.Machine.execTakenTimeout t s
  | .ack t f => Sys2Proof.Machine.execAck t f s
  | .agreementTimeout t => Sys2Proof.Machine.execAgreementTimeout t s
  | .retx t f => Sys2Proof.Machine.execRetx t f s
  | .gapTimeout t => Sys2Proof.Machine.execGapTimeout t s
  | .notice t f => Sys2Proof.Machine.execNotice t f s
  | .timeLead t f => Sys2Proof.Machine.execTimeLead t f s
  | .delayRequest t f => Sys2Proof.Machine.execDelayRequest t f s
  | .delayResponse t f => Sys2Proof.Machine.execDelayResponse t f s
  | .timeSend t => Sys2Proof.Machine.execTimeSend t s
  | .delayMeasure t => Sys2Proof.Machine.execDelayMeasure t s
  | .stream t f => Sys2Proof.Machine.execStream t f s
  | .snapFrame t f => Sys2Proof.Machine.execSnapFrame t f s
  | .commitFrame t f => Sys2Proof.Machine.execCommitFrame t f s
  | .followerApply t => Sys2Proof.Machine.execFollowerApply t s
  | .delreq t f => Sys2Proof.Machine.execDelreq t f s
  | .delta t f => Sys2Proof.Machine.execDelta t f s
  | .gstn t f => Sys2Proof.Machine.execGstn t f s
  | .xreq t f => Sys2Proof.Machine.execXreq t f s
  | .xblk t f => Sys2Proof.Machine.execXblk t f s
  | .xdone t f => Sys2Proof.Machine.execXdone t f s
  | .transferStep t n => Sys2Proof.Machine.execTransferStep t n s
  | .transferRestart t => Sys2Proof.Machine.execTransferRestart t s
  | .olcFrame t f => Sys2Proof.Machine.execOlcFrame t f s
  | .idle t f => Sys2Proof.Machine.execIdle t f s
  | .idleSend t => Sys2Proof.Machine.execIdleSend t s
  | .laneDown t l => Sys2Proof.Machine.execLaneDown t l s
  | .laneUp t l => Sys2Proof.Machine.execLaneUp t l s
  | .listenExpiry t => Sys2Proof.Machine.execListenExpiry t s
  | .joinwaitExpiry t => Sys2Proof.Machine.execJoinwaitExpiry t s
  | .olcLoadStep t => Sys2Proof.Machine.execOlcLoadStep t s
  | .drainStart t => Sys2Proof.Machine.execDrainStart t s
  | .drainComplete t => Sys2Proof.Machine.execDrainComplete t s
  | .swapCommit t => Sys2Proof.Machine.execSwapCommit t s
  | .olcAbandon t => Sys2Proof.Machine.execOlcAbandon t s
  | .serviceMessageDiscard t msg => Sys2Proof.Machine.execServiceMessageDiscard t msg s
  | .ident t msg => Sys2Proof.Machine.execIdent t msg s
  | .status t msg => Sys2Proof.Machine.execStatus t msg s
  | .regRead t msg => Sys2Proof.Machine.execRegRead t msg s
  | .regWrite t msg => Sys2Proof.Machine.execRegWrite t msg s
  | .imgRead t msg => Sys2Proof.Machine.execImgRead t msg s
  | .journalRead t msg => Sys2Proof.Machine.execJournalRead t msg s
  | .mode t msg => Sys2Proof.Machine.execMode t msg s
  | .restart t msg => Sys2Proof.Machine.execRestart t msg s
  | .yield t msg => Sys2Proof.Machine.execYield t msg s
  | .faultClear t msg => Sys2Proof.Machine.execFaultClear t msg s
  | .pkgDownload t msg keyOk => Sys2Proof.Machine.execPkgDownload t msg keyOk s
  | .pkgActivate t msg keyOk => Sys2Proof.Machine.execPkgActivate t msg keyOk s
  | .olcLoad t msg => Sys2Proof.Machine.execOlcLoad t msg s
  | .olcSwap t msg => Sys2Proof.Machine.execOlcSwap t msg s
  | .olcCancel t msg => Sys2Proof.Machine.execOlcCancel t msg s
  | .paramStore t msg img => Sys2Proof.Machine.execParamStore t msg img s
  | .paramLoad t msg => Sys2Proof.Machine.execParamLoad t msg s
  | .protect t msg => Sys2Proof.Machine.execProtect t msg s
  | .protLevelWrite t l => Sys2Proof.Machine.execProtLevelWrite t l s
  | .fwUpdate t msg => Sys2Proof.Machine.execFwUpdate t msg s
  | .fwCommit t msg => Sys2Proof.Machine.execFwCommit t msg s
  | .fwStatus t msg => Sys2Proof.Machine.execFwStatus t msg s
  | .pbufRead t msg => Sys2Proof.Machine.execPbufRead t msg s
  | .step t msg keyOk => Sys2Proof.Machine.execStep t msg keyOk s
  | .progress t msg => Sys2Proof.Machine.execProgress t msg s
  | .abort t msg => Sys2Proof.Machine.execAbort t msg s
  | .handleIdleTimeout t h => Sys2Proof.Machine.execHandleIdleTimeout t h s
  | .handleClose t h => Sys2Proof.Machine.execHandleClose t h s
  | .partnerHeartbeatTimeout t => Sys2Proof.Machine.execPartnerHeartbeatTimeout t s
  | .holdupOkLost t => Sys2Proof.Machine.execHoldupOkLost t s
  | .bankExhausted t => Sys2Proof.Machine.execBankExhausted t s
  | .xo32Restart t => Sys2Proof.Machine.execXo32Restart t s
  | .quadPowerDownComplete t q => Sys2Proof.Machine.execQuadPowerDownComplete t q s
  | .switchTransitionEnd t n load => Sys2Proof.Machine.execSwitchTransitionEnd t n load s
  | .openWireCleared t n on => Sys2Proof.Machine.execOpenWireCleared t n on s
  | .systemSlotCheckIn t n => Sys2Proof.Machine.execSystemSlotCheckIn t n s
  | .recordWriteComplete t seq fail => Sys2Proof.Machine.execRecordWriteComplete t seq fail s
  | .snapshotHoldQuiet t => Sys2Proof.Machine.execSnapshotHoldQuiet t s
  | .ptpOffsetTimeout t p => Sys2Proof.Machine.execPtpOffsetTimeout t p s
  | .malformedFrame t c foreign f => Sys2Proof.Machine.execMalformedFrame t c foreign f s
  | .foreignTransmitter t c f => Sys2Proof.Machine.execForeignTransmitter t c f s
  | .bitStuffCrcFormError t c tx => Sys2Proof.Machine.execBitStuffCrcFormError t c tx s
  | .discardedPortFrame t h why => Sys2Proof.Machine.execDiscardedPortFrame t h why s
  | .malformedLinkFrame t ty f => Sys2Proof.Machine.execMalformedLinkFrame t ty f s

end Sys2Proof.Machine
end

