-- ==== Sys2Proof/Machine/Step.lean ====
section
/-!
DEFINITION. One step of the block: the command at the front of the queue, or 10 ns of the time base on an empty queue.
-/
namespace Sys2Proof.Machine
open Sys2Proof

/-- One step. On an empty queue the time base advances by its resolution (R386; DESIGN CHOICE). Log 3 (DESIGN CHOICE), 106 (DESIGN CHOICE). -/
def step (s : State) : Host.Outcome State Fault Refusal :=
  match s.pending with
  | c :: rest => exec c { s with pending := rest }
  | [] => idleTick s

/-- The state with the command a word spells at the front of its queue; unchanged where the word spells none. Log 6 (DEDUCED). -/
def State.withFetchWord (s : State) (nbits w : Nat) : State :=
  match decodeTableWord nbits w with
  | some c => { s with pending := c :: s.pending }
  | none => s

end Sys2Proof.Machine
end

