-- ==== Sys2Proof/Machine/Fetch.lean ====
section
/-!
DEFINITION. What an engine fetches (R90): the word of its active code bank at its PC, and the instruction that word spells.
-/
namespace Sys2Proof.Machine
open Sys2Proof

/-- A word of engine e's active bank; every word the package does not give is 0xFFFF_FFFF (R90). Log 8 (DESIGN CHOICE). -/
def Mach.bankWord (m : Mach) (e pc : Nat) : Word :=
  sget 0xFFFFFFFF (if m.flag (R.ENG_CFG_BANK e) then (m.eng e).bank1 else (m.eng e).bank0) pc

/-- The instruction engine e fetches next. The command that issues is to be this one. Log 8 (DESIGN CHOICE). -/
def Mach.fetched (m : Mach) (e : Fin 16) : Instr := decodeWord e (m.bankWord e (m.eng e).pc)

end Sys2Proof.Machine
end

