-- ==== Sys2Proof/Safety.lean ====
section
/-!
DEFINITION. The terms statements are made in: what it is for a command to answer a next state, the module as a command finds it, an
engine's next slot, and what an instruction in it leaves.
-/
namespace Sys2Proof.Machine
open Sys2Proof

/-- Command `c` answers a next state: its own effect leaves a module for which `P` holds, what follows every command at once (`settle`)
runs on it, and the queue is as it was. -/
def Answers (c : Instr) (s : State) (P : Mach → Prop) : Prop := ∃ m', exec c s = .next { s with m := m'.settle } ∧ P m'

/-- The module as a command of instant `t` finds it: the time base stands at `t`, or stays where it is when `t` has passed. -/
def arrive (t : Nat) (s : State) : Mach := s.m.pass (max t s.m.now)

/-! ### What events write -/

/-- The registers that events, squashes and faults write: the event unit's counters and times, DIAG.FSUM and LFLT, the hold count and the squash counts of
IMG, PRT.STREAM, of each task the budget and the counts of squashes, and of each engine the counts of squashes and wakes. -/
def evAddr (a : Nat) : Bool :=
  [R.EVU_SEQ.addr, R.EVU_STAT_FIFOLOST.addr, R.EVU_LOSTFIFO.addr, R.EVU_LASTSNAP_LO.addr, R.EVU_LASTSNAP_LO.addr + 4, R.EVU_FIFOMAX_MAX.addr,
    R.EVU_WAKES.addr, R.DIAG_FSUM_MINOR.addr, R.DIAG_LFLT_CODE.addr, R.DIAG_LFLTT_LO.addr, R.DIAG_LFLTT_LO.addr + 4, R.IMG_SNPSTAT_HOLDS.addr,
    R.PRT_STREAM_LEVEL.addr, R.EVU_CHBLK_POINTS.addr].contains a ||
  (decide (0x80080 ≤ a ∧ a < 0x80080 + 4 * 8)) ||
  (a / 0x10000 == 7 && [0xC, 0x40, 0x44].contains (a % 0x80)) || (decide (0x60114 ≤ a ∧ a < 0x70000) && [0x114, 0x124].contains (a % 0x1000)) ||
  (decide (0x90100 ≤ a ∧ a < 0x90200))

/-- `n` differs from `m` only in what events, squashes and faults write and in the registers `as`; every fault present in `m` is present in `n`, and
what `m` had sent stays sent. -/
structure Events (m n : Mach) (as : Nat → Prop) : Prop where
  same : n = { m with out := n.out, regs := n.regs, img := n.img, pts := n.pts, tasks := n.tasks, engs := n.engs, quads := n.quads, cu := n.cu, ev := n.ev,
                      faults := n.faults, fatal := n.fatal, pair := n.pair }
  regs : ∀ a, evAddr a = false → ¬ as a → n.rget a = m.rget a
  faults : ∀ f ∈ m.faults, f ∈ n.faults
  out : m.out <+: n.out

/-- `n` differs from `m` in the registers `as` only. -/
structure Regs (m n : Mach) (as : List Nat) : Prop where
  same : n = { m with regs := n.regs }
  regs : ∀ a, a ∉ as → n.rget a = m.rget a

/-! ### An engine's next slot (R95–R113) -/

/-- The module with the writes visible to the next slot of engine `e` at DE (R96). -/
def atSlot (m : Mach) (e : Nat) : Mach := m.retire e ((m.eng e).slot + 2)

/-- Engine `e` issues its next slot under a true guard: it runs segment `c.j` of the scan `c.sc` of task `c.k`, has not issued HALT, is
within its step limit (R113), no custom instruction in flight has raised a fault (R171), its frame has at most 2048 entries (R62), and the code does not end here (R112). `c` is what the
instruction sees. -/
structure Slot (m : Mach) (e : Nat) (gd : Guard) (c : Ctx) : Prop where
  act : (m.eng e).act = some (c.k, c.j)
  task : c.k < 32
  drain : (m.eng e).drain = false
  calm : ((atSlot m e).eng e).fltDue ((m.eng e).slot + 2) = none
  run : ((atSlot m e).task c.k).run = some c.sc
  ctx : c = ⟨e, c.k, c.j, (m.eng e).slot, ((atSlot m e).eng e).pc, (atSlot m e).eng e, c.sc⟩
  steps : c.en.steps + 1 ≤ 64 * (atSlot m e).fld (R.ENG_SEG_STEPLIM e c.k)
  guard : c.p gd.p.val ≠ gd.neg
  room : (atSlot m e).entryCount e ≤ 2048
  inCode : c.en.advance.pc ≤ 16383

/-- The engine after it has issued an instruction that completes at stage `st`: the next PC and delay-slot state (R108), one slot and one
step more, and the end of the instruction kept for R105. -/
def issued (c : Ctx) (st : Nat) : Eng :=
  { c.en.advance with slot := c.i + 1, steps := c.en.steps + 1, de := c.pc, ends := c.en.ends.filter (fun x => decide (c.i ≤ x)) ++ [c.i + max 7 st - 1] }

/-- The module an instruction's effect works on: the engine has moved on, and ENGe.ISSUED and ENGe.EARLY count the instruction and the early reads of its
guard, of the registers `gs` and of the predicates `ps` (R103, R126). -/
def issueBase (m : Mach) (e : Nat) (gd : Guard) (c : Ctx) (st : Nat) (gs ps : List Nat) : Mach :=
  ((((atSlot m e).setEng e (issued c st)).perf e (R.ENG_ISSUED e) 1).perf e (R.ENG_EARLY e) (c.early [] [gd.p.val])).perf e (R.ENG_EARLY e) (c.early gs ps)

/-- `m'` differs from `m` in engine `e` and in the registers ENGe.ISSUED, ENGe.EARLY and IMG.SHDe only. -/
def OnlyEngine (m m' : Mach) (e : Nat) : Prop :=
  m' = { m with engs := m'.engs, regs := m'.regs } ∧ (∀ i, i ≠ e → m'.eng i = m.eng i) ∧
    ∀ a, a ∉ [(R.ENG_ISSUED e).addr, (R.ENG_EARLY e).addr, (R.IMG_SHD_MAX e).addr] → m'.rget a = m.rget a

/-- The writes in flight once the instruction seen by `c` has put `ws` in flight, in this order, to complete at stage `st` (R96, R101). -/
def inFlight (c : Ctx) (st : Nat) (ws : List Wr) : List Flight := ws.foldl (fun fs w => insFlight ⟨c.i + st - 1, w⟩ fs) c.en.flight

/-- From the module `b` the instruction seen by `c` leaves `m'`: it puts the writes `ws` in flight, to complete at stage `st`, and changes
nothing else. -/
def Puts (b m' : Mach) (c : Ctx) (st : Nat) (ws : List Wr) : Prop :=
  m'.eng c.e = { issued c st with flight := inFlight c st ws } ∧ OnlyEngine b m' c.e

/-- The frame of the segment has room for the entries `ws` (R62). -/
def Room (m : Mach) (c : Ctx) (st : Nat) (ws : List Wr) : Prop :=
  ((atSlot m c.e).setEng c.e { c.en with flight := inFlight c st ws }).entryCount c.e ≤ 2048

/-- The write of general register `d`; a write to g0 is discarded (R87). -/
def gWrite (d : Nat) (v : Word) : List Wr := if d = 0 then [] else [.g d v]

/-- The write of predicate `d`; a write to p0 is discarded (R87). -/
def pWrite (d : Nat) (v : Bool) : List Wr := if d = 0 then [] else [.p d v]

/-- A cell instruction leaves its new content in flight for the frame at MA, when the cell `key` changes from `old`, and the result for g(d) at WB+1
(R143, R151). -/
def CellPuts (b m' : Mach) (c : Ctx) (key : Nat) (old new : CellV) (d : Nat) (v : Word) : Prop :=
  m'.eng c.e = { issued c 8 with flight := (gWrite d v).foldl (fun fs w => insFlight ⟨c.i + 7, w⟩ fs) (inFlight c 6 (if old = new then [] else [.shade key new])) } ∧
    OnlyEngine b m' c.e

/-! ### The field side (R301–R324) -/

/-- A command of the field side from the module `m` leaves `n`: beside the field registers and the field records only what events write has changed, and
faults may have gone. -/
def FieldOnly (m n : Mach) : Prop := Events { m with fio := n.fio, faults := n.faults } n (fun a => 0xA0000 ≤ a ∧ a < 0xB0000)

/-- R311, R321, R416. The drivers follow their conditions: in RUN exactly the channels that may be on and whose Q is 1 are commanded on; in STOP exactly the channels with STOPHOLD that
may be on and were commanded on as RUN was left; in every other state none. The health contact is energised in RUN and STOP only, with supply, without a FATAL fault, and with HCMAJ without a MAJOR fault. -/
def OutputsFollow (m : Mach) : Prop :=
  (∀ n, n < 32 →
    let can := m.pair.fenced = false ∧ m.flag (R.FIO_DOG_STAT_VFLDOK (n / 16)) = true ∧ m.flag (R.FIO_DO_STAT_OVL n) = false ∧ m.flag (R.FIO_DO_STAT_OTMP n) = false ∧
      m.flag (R.FIO_DOG_STAT_GTRIP (n / 16)) = false
    (m.st = .run → (m.fio.cmd.getLsbD n = true ↔ m.role ≤ 1 ∧ can ∧ m.bit spQ n = true)) ∧
    (m.st = .stop → (m.fio.cmd.getLsbD n = true ↔ m.flag (R.FIO_DO_CFG_STOPHOLD n) = true ∧ can ∧ m.fio.held.getLsbD n = true)) ∧
    (m.st ≠ .run → m.st ≠ .stop → m.fio.cmd.getLsbD n = false)) ∧
  (m.fio.hc = true → (m.st = .run ∨ m.st = .stop) ∧ m.fatal = none ∧ m.flag R.PWR_STAT_VSUP_OK = true ∧ (m.flag R.FIO_CFG_HCMAJ = true → m.flag R.DIAG_FSUM_MAJOR = false))

/-! ### The bay buses (R325–R358) -/

/-- The registers of bay channel `c`. -/
def inBay (c a : Nat) : Prop := 0xB0000 + 0x8000 * c ≤ a ∧ a < 0xB8000 + 0x8000 * c

/-- A frame waits on channel `c`: in a transmit buffer with a request, or behind them. -/
def Waits (m : Mach) (c id : Nat) (d : List Byte) : Prop :=
  (∃ n, n < 32 ∧ m.flag (R.BB_TXBUF_CTRL_REQ c n) = true ∧ m.fld (R.BB_TXBUF_ID c n) = id ∧ m.txData c n = d) ∨ (id, d) ∈ (m.bay c).txq

/-- A command of bay channel `c` from the module `m` leaves `n`: beside the channel and its stations only what events write has changed, and faults may have gone. -/
def BayOnly (m n : Mach) (c : Nat) : Prop := Events { m with bays := n.bays, stas := n.stas, free := n.free, faults := n.faults } n (inBay c)

/-! ### Time keeping (R386–R415) -/

/-- A command of time keeping from the module `m` leaves `n`: beside the registers of the time base and of the RTC, and the time keeper's records, only what events
write has changed, free values may have been drawn, and faults may have gone. -/
def TimeOnly (m n : Mach) : Prop := Events { m with tk := n.tk, free := n.free, faults := n.faults } n (fun a => 0x30000 ≤ a ∧ a < 0x50000)

/-! ### The redundant pair (R262–R300) -/

/-- A command of the pair from the module `m` leaves `n`: beside the pair's registers and records only what events write has changed, and faults may
have gone. -/
def PairOnly (m n : Mach) : Prop := Events { m with faults := n.faults } n (fun a => 0xD0000 ≤ a ∧ a < 0xE0000)

/-- `c` is the row of a received link frame of type `ty` (R268); the three TIME rows are not among them. -/
def LinkRow (ty : Nat) (c : Nat → LinkRx → Instr) : Prop :=
  (ty, c) ∈ ([(0x01, .hello), (0x02, .renew), (0x03, .linkYield), (0x04, .taken), (0x05, .ack), (0x06, .retx), (0x07, .notice), (0x10, .stream),
    (0x11, .snapFrame), (0x12, .commitFrame), (0x13, .delreq), (0x14, .delta), (0x15, .gstn), (0x20, .xreq), (0x21, .xblk), (0x22, .xdone),
    (0x30, .olcFrame)] : List (Nat × (Nat → LinkRx → Instr)))

/-- A frame of a type is the next one in its sequence, with its CRC right and none held behind it, from a partner that is recognised; it starts
no new sequence (R266, R267, R270, R271). -/
structure InTurn (m : Mach) (ty : Nat) (f : LinkRx) : Prop where
  on : m.linkOn = true
  crc : f.crc = (linkFrame ty f).crc
  known : m.pair.alien = false
  good : (linkFrame ty f).bad = false
  next : m.pair.rxNext = some f.fseq.toNat
  alone : m.pair.rxHeld = []
  first : ty = 1 → f.fseq ≠ 0

/-- The frame of a type that the module sends next (R267). -/
def nextFrame (m : Mach) (ty : Nat) (p : List Byte) : LinkFrame := ⟨ty, m.linkFlags, m.pair.txNext, m.fld R.PRT_EPOCH, p⟩

/-! ### The station ports (R359–R385) -/

/-- A command of the station ports from the module `m` leaves `n`: beside the registers of the ports and of the time base, and the records of both, only
what events write has changed, free values may have been drawn, and faults may have gone. -/
def PortOnly (m n : Mach) : Prop :=
  Events { m with sp := n.sp, tk := n.tk, free := n.free, faults := n.faults } n (fun a => (0x30000 ≤ a ∧ a < 0x40000) ∨ (0xC0000 ≤ a ∧ a < 0xD0000))

/-- A frame with the head `h` is received and taken by its port's hardware: the port is up, the source is another, and no copy of it came before (R364, R367,
R383). -/
def Takes (m : Mach) (h : PortHead) : Prop := m.alive = true ∧ m.portUp h.port = true ∧ (m.portRx h).1 = true

/-- It is taken for the supervisor, within the rate of R361. -/
def SupTakes (m : Mach) (h : PortHead) : Prop := Takes m h ∧ ((m.portRx h).2.supTake h.port).1 = true

/-- A PTP frame with the head `h` is taken by its port instance (R366, R369). -/
def PtpTakes (m : Mach) (h : PortHead) : Prop :=
  m.alive = true ∧ m.portUp h.port = true ∧ h.mac.toNat ≠ m.ownMac ∧ m.flag R.STA_CFG_PTPEN = true

/-- The frame received counts at its port. -/
def Received (m n : Mach) (h : PortHead) : Prop := n.fld (R.STA_SP_RXFRM h.port) = (m.fld (R.STA_SP_RXFRM h.port) + 1) % 2 ^ 32

/-! ### The display and the move engine (R494–R537) -/

/-- A command of the display from the module `m` leaves `n`: beside the display's registers and record only what events write has changed, free values may
have been drawn, and faults may have gone. -/
def DisplayOnly (m n : Mach) : Prop :=
  Events { m with dsp := n.dsp, free := n.free, faults := n.faults } n (fun a => 0x100000 ≤ a ∧ a < 0x110000)

/-- A command of the move engine from the module `m` leaves `n`: beside the engine's registers and record only what events write has changed. -/
def MoveOnly (m n : Mach) : Prop := Events { m with mov := n.mov } n (fun a => 0xE0000 ≤ a ∧ a < 0xF0000)

/-! ### Self-diagnosis and the watchdog (R416–R442) -/

/-- A command of the supervisor from the module `m` leaves `n`: beside the watchdog's and the diagnosis registers and the supervisor's records only what events
write has changed, and faults may have gone. -/
def SupOnly (m n : Mach) : Prop :=
  Events { m with sup := n.sup, faults := n.faults } n (fun a => (0x50000 ≤ a ∧ a < 0x60000) ∨ (0x120000 ≤ a ∧ a < 0x130000))

/-! ### The retained store (R441–R468) -/

/-- A command of the retained store from the module `m` leaves `n`: beside the store's registers, the count of erase suspensions and the records of the store and
the supervisor only what events write has changed, and faults may have gone. -/
def StoreOnly (m n : Mach) : Prop :=
  Events { m with ret := n.ret, sup := n.sup, faults := n.faults } n (fun a => (0xF0000 ≤ a ∧ a < 0x100000) ∨ a = R.WDG_SUSPMAX_COUNT.addr)

/-! ### The service protocol (R538–R557) -/

/-- A service message reaches the module: over the UART while firmware or the loader runs, over a station port as a frame that the supervisor takes (R361); the module
has become `m0`. -/
def Hears (m : Mach) (msg : SvcMsg) (m0 : Mach) : Prop :=
  match msg.port with
  | none => m.st ≠ .off ∧ m.st ≠ .boot ∧ m0 = m
  | some h => SupTakes m h ∧ m0 = ((m.portRx h).2.supTake h.port.toNat).2

/-- `c` is the row of the service operation with code `op` (R550). -/
def SvcRow (op : Nat) (c : Nat → SvcMsg → Instr) : Prop :=
  (op, c) ∈ ([(opIdent, .ident), (opStatus, .status), (opRegRead, .regRead), (opRegWrite, .regWrite), (opImgRead, .imgRead), (opJournalRead, .journalRead),
    (opMode, .mode), (opRestart, .restart), (opYield, .yield), (opFaultClear, .faultClear), (opOlcLoad, .olcLoad), (opOlcSwap, .olcSwap),
    (opOlcCancel, .olcCancel), (opParamLoad, .paramLoad), (opProtect, .protect), (opFwUpdate, .fwUpdate), (opFwCommit, .fwCommit),
    (opFwStatus, .fwStatus), (opPbufRead, .pbufRead), (opProgress, .progress), (opAbort, .abort)] : List (Nat × (Nat → SvcMsg → Instr))) ∨
  (∃ b, (op, c) ∈ ([(opPkgDownload, fun t msg => .pkgDownload t msg b), (opPkgActivate, fun t msg => .pkgActivate t msg b),
    (opStep, fun t msg => .step t msg b)] : List (Nat × (Nat → SvcMsg → Instr)))) ∨
  ∃ img, op = opParamStore ∧ c = fun t msg => .paramStore t msg img

/-- The requests of a client that are stored (R547). -/
def storedOf (b : Mach) (r : SvcReq) : List (Nat × List Byte × List Byte) := ((b.svcClient r).map (·.reqs)).getD []

/-- The message `msg` asks the module `m` for the operation `op`: the request `r` is well-formed, authentic under `key`, of the present session, of a client in the table and not a
repeat, and the module works on it as `b` (R541–R548). -/
structure Sent (m : Mach) (msg : SvcMsg) (op : Nat) (r : SvcReq) (key : Option (List Byte)) (b : Mach) : Prop where
  parse : svcParse msg.port.isNone msg.bytes = some r
  code : r.op = op
  heard : ∃ m0, Hears m msg m0 ∧ m0.svcAuth r = some key ∧ (op = opIdent ∨ r.session = m0.svc.session) ∧ m0.takeClient r = some b
  new : ∀ x ∈ storedOf b r, x.1 ≠ r.reqid
  later : ∀ x, (storedOf b r).getLast? = some x → idLater x.1 r.reqid = true

/-- The request is `Sent`, its role may ask for the operation, and the module's state accepts it (R544, R550). -/
structure Asks (m : Mach) (msg : SvcMsg) (op : Nat) (r : SvcReq) (key : Option (List Byte)) (b : Mach) : Prop where
  sent : Sent m msg op r key b
  role : b.roleLow r = false
  state : b.stateBad r = false

/-- Command `c` executes the request `r` and answers it with a status, a detail and a body; the answer is signed with `key`, stored for a repeat and sent, and
`P` holds for the module as the operation has left it (R541, R547). -/
def Replies (c : Instr) (s : State) (msg : SvcMsg) (r : SvcReq) (key : Option (List Byte)) (status detail : Nat) (body : List Byte) (P : Mach → Prop) : Prop :=
  ∃ m1, P m1 ∧ exec c s = .next { s with m :=
    ((m1.keepAnswer r (svcBytes r (s.m.st == .loader) key status detail body)).svcSend msg (svcBytes r (s.m.st == .loader) key status detail body)).settle }

/-- A long operation has been accepted: the next handle is open for the request's client, running, and is the answer's body (R551). -/
def Opens (b m1 : Mach) (r : SvcReq) (P : Handle → Prop) : Prop :=
  m1.svc.nextHandle = b.svc.nextHandle + 1 ∧
    ∃ h ∈ m1.svc.handles, h.no = b.svc.nextHandle ∧ h.op = r.op ∧ h.client = r.client ∧ h.uart = r.uart ∧ h.state = 0 ∧ h.done = 0 ∧ P h

/-- A handle is free (R551). -/
def HandleFree (b : Mach) : Prop := b.svc.handles.length < 8 ∧ b.svc.nextHandle ≤ 65535

end Sys2Proof.Machine
end

