-- ==== Sys2Proof/Certificates/Slice0/Obligations.lean ====
section
/-!
DEFINITION. The statements for the provers, family by family: the engines, the scans and the event unit, the field side and the bay buses, power and time, the pair, the
station ports, display, move engine and online change, the supervisor, the retained store, the service protocol, and the block as a whole.
-/
open Sys2Proof Sys2Proof.Machine

/-- R131, R132. In a slot under a true guard each arithmetic, constant and shift instruction puts its result in flight for g(d), at the stage of
its table row, and changes nothing but its engine's slot. The results are stated on the numbers: signed operands as integers, unsigned ones as
naturals, reduced modulo 2^32.
Completes, with its own effect, in the states its clauses name: nop, add, sub, addi, mul, mulh, div, rem, movi, movhi, insm, ori, shl, shr, sra, shli,
shri, srai, popc, ext. -/
def Obligations.ArithmeticResults : Prop :=
  ∀ (s : State) (e : Fin 16) (gd : Guard) (c : Ctx), Slot s.m e gd c →
    let sets := fun (i : Instr) (st d : Nat) (v : Word) => Answers i s (fun m' => Puts (atSlot s.m e) m' c st (gWrite d v))
    (∀ f, Answers (.nop e gd f) s (fun m' => Puts (atSlot s.m e) m' c 3 [])) ∧
    (∀ f, sets (.add e gd f) 5 f.d (BitVec.ofNat 32 ((c.g f.a).toNat + (c.g f.b).toNat))) ∧
    (∀ f, sets (.sub e gd f) 5 f.d (BitVec.ofInt 32 ((c.g f.a).toInt - (c.g f.b).toInt))) ∧
    (∀ f, sets (.addi e gd f) 5 f.d (BitVec.ofInt 32 ((c.g f.a).toInt + f.imm.toInt))) ∧
    (∀ f, sets (.mul e gd f) 6 f.d (BitVec.ofNat 32 ((c.g f.a).toNat * (c.g f.b).toNat))) ∧
    (∀ f, sets (.mulh e gd f) 6 f.d (if f.x.val % 2 = 0 then BitVec.ofInt 32 ((c.g f.a).toInt * (c.g f.b).toInt / 2 ^ 32)
       else BitVec.ofNat 32 ((c.g f.a).toNat * (c.g f.b).toNat / 2 ^ 32))) ∧
    (∀ f, sets (.div e gd f) 21 f.d (if c.g f.b = 0 then 0xFFFFFFFF#32
       else if f.x.val % 2 = 0 then BitVec.ofInt 32 ((c.g f.a).toInt.tdiv (c.g f.b).toInt)
       else BitVec.ofNat 32 ((c.g f.a).toNat / (c.g f.b).toNat))) ∧
    (∀ f, sets (.rem e gd f) 21 f.d (if c.g f.b = 0 then c.g f.a
       else if f.x.val % 2 = 0 then BitVec.ofInt 32 ((c.g f.a).toInt.tmod (c.g f.b).toInt)
       else BitVec.ofNat 32 ((c.g f.a).toNat % (c.g f.b).toNat))) ∧
    (∀ f, sets (.movi e gd f) 5 f.d (BitVec.ofInt 32 f.imm.toInt)) ∧
    (∀ f, sets (.movhi e gd f) 5 f.d (BitVec.ofNat 32 (f.imm.toNat * 2 ^ 18))) ∧
    (∀ f, sets (.insm e gd f) 5 f.d ((c.g f.d &&& 0xFFFC000F#32) ||| BitVec.ofNat 32 (f.imm.toNat * 2 ^ 4))) ∧
    (∀ f, sets (.ori e gd f) 5 f.d (c.g f.a ||| BitVec.ofNat 32 f.imm.toNat)) ∧
    (∀ f, sets (.shl e gd f) 5 f.d (BitVec.ofNat 32 ((c.g f.a).toNat * 2 ^ ((c.g f.b).toNat % 32)))) ∧
    (∀ f, sets (.shr e gd f) 5 f.d (BitVec.ofNat 32 ((c.g f.a).toNat / 2 ^ ((c.g f.b).toNat % 32)))) ∧
    (∀ f, sets (.sra e gd f) 5 f.d (BitVec.ofInt 32 ((c.g f.a).toInt / 2 ^ ((c.g f.b).toNat % 32)))) ∧
    (∀ f, sets (.shli e gd f) 5 f.d (BitVec.ofNat 32 ((c.g f.a).toNat * 2 ^ (f.imm.toNat % 32)))) ∧
    (∀ f, sets (.shri e gd f) 5 f.d (BitVec.ofNat 32 ((c.g f.a).toNat / 2 ^ (f.imm.toNat % 32)))) ∧
    (∀ f, sets (.srai e gd f) 5 f.d (BitVec.ofInt 32 ((c.g f.a).toInt / 2 ^ (f.imm.toNat % 32)))) ∧
    (∀ f, sets (.popc e gd f) 5 f.d (BitVec.ofNat 32 ((List.range 32).countP (fun i => (c.g f.a).getLsbD i)))) ∧
    (∀ f, sets (.ext e gd f) 5 f.d (if f.x.val = 0 then BitVec.ofNat 32 ((c.g f.a).toNat % 2 ^ 8)
       else if f.x.val = 1 then BitVec.ofInt 32 (Int.bmod (c.g f.a).toNat (2 ^ 8))
       else if f.x.val = 2 then BitVec.ofNat 32 ((c.g f.a).toNat % 2 ^ 16)
       else BitVec.ofInt 32 (Int.bmod (c.g f.a).toNat (2 ^ 16))))

/-- R134. Each lane boolean instruction acts on all 32 lanes at once: lane i of the result put in flight for g(d) at X2 comes from lane i of the
operands alone, and nothing else changes.
Completes, with its own effect, in the states its clauses name: and, or, xor, andn, nor, xnor, lmux, pspr. -/
def Obligations.LaneResults : Prop :=
  ∀ (s : State) (e : Fin 16) (gd : Guard) (c : Ctx) (f : FmtA), Slot s.m e gd c →
    let r := fun (i : Instr) (lane : Nat → Bool) =>
      Answers i s (fun m' => ∃ v : Word, Puts (atSlot s.m e) m' c 5 (gWrite f.d v) ∧ ∀ k, k < 32 → v.getLsbD k = lane k)
    let a := fun k => (c.g f.a).getLsbD k
    let b := fun k => (c.g f.b).getLsbD k
    let d := fun k => (c.g f.d).getLsbD k
    r (.and e gd f) (fun k => a k && b k) ∧ r (.or e gd f) (fun k => a k || b k) ∧ r (.xor e gd f) (fun k => a k != b k) ∧
    r (.andn e gd f) (fun k => a k && !b k) ∧ r (.nor e gd f) (fun k => !(a k || b k)) ∧ r (.xnor e gd f) (fun k => a k == b k) ∧
    r (.lmux e gd f) (fun k => if b k then a k else d k) ∧ r (.pspr e gd f) (fun _ => c.p (f.b.val % 16))

/-- R135, R136. Each compare and predicate instruction puts its result, combined with the predicate c names, in flight for p(pd) at X1 and
changes nothing else.
Completes, with its own effect, in the states its clauses name: cmpeq, cmpne, cmplt, cmpltu, cmple, cmpleu, cmpeqi, cmplti, tstb, any, all, pand, por,
pxor, pandn, pnor. -/
def Obligations.PredicateResults : Prop :=
  ∀ (s : State) (e : Fin 16) (gd : Guard) (c : Ctx) (f : FmtE), Slot s.m e gd c →
    let r := fun (i : Instr) (p : Prop) => Answers i s (fun m' => ∃ v : Bool, Puts (atSlot s.m e) m' c 4 (pWrite f.pd v) ∧ (v = true ↔ p ∧ c.p f.c.val = true))
    let a := c.g f.a
    let b := c.g f.b
    let pa := c.p (f.a.val % 16) = true
    let pb := c.p (f.b.val % 16) = true
    let imm : Int := if f.b.val < 32 then f.b.val else f.b.val - 64
    r (.cmpeq e gd f) (a = b) ∧ r (.cmpne e gd f) (a ≠ b) ∧ r (.cmplt e gd f) (a.toInt < b.toInt) ∧ r (.cmpltu e gd f) (a.toNat < b.toNat) ∧
    r (.cmple e gd f) (a.toInt ≤ b.toInt) ∧ r (.cmpleu e gd f) (a.toNat ≤ b.toNat) ∧ r (.cmpeqi e gd f) (a.toInt = imm) ∧
    r (.cmplti e gd f) (a.toInt < imm) ∧ r (.tstb e gd f) (a.getLsbD (f.b.val % 32) = true) ∧
    r (.any e gd f) (∃ k, a.getLsbD k = true ∧ b.getLsbD k = true) ∧ r (.all e gd f) (∀ k, b.getLsbD k = true → a.getLsbD k = true) ∧
    r (.pand e gd f) (pa ∧ pb) ∧ r (.por e gd f) (pa ∨ pb) ∧ r (.pxor e gd f) (Xor pa pb) ∧ r (.pandn e gd f) (pa ∧ ¬ pb) ∧
    r (.pnor e gd f) (¬ (pa ∨ pb))

/-- R96, R100, R101. A result of an instruction issued in slot i with completion stage C is what a consumer issued n slots later reads when
n ≥ C − R + 1, R being 4 for general registers and 3 for predicates, LINK and LOOP; a consumer issued earlier reads what was there before.
General registers are read through the writes in flight, the others in the engine as it stands at the consumer's slot. Of two writes to one general
register, the first issued first, the one that completes later remains, and of two that complete in the same cycle the later issued. -/
def Obligations.ResultsBecomeVisibleAtTheirDistance : Prop :=
  (∀ (c : Ctx) (i C n : Nat) (v : Word) (fs : List Flight), 4 ≤ C → 0 < n → n ≤ 63 → (∀ x ∈ fs, ∀ u, x.w ≠ .g n u) →
    c.en.flight = insFlight ⟨i + C - 1, .g n v⟩ fs → c.g n = if i + (C - 4 + 1) ≤ c.i then v else sget 0 c.en.g n) ∧
  (∀ (m : Mach) (e i C n : Nat) (v : Bool) (fs : List Flight), 3 ≤ C → (∀ x ∈ fs, ∀ u, x.w ≠ .p n u) →
    (m.eng e).flight = insFlight ⟨i + C - 1, .p n v⟩ fs →
    sget false ((atSlot m e).eng e).p n = if i + (C - 3 + 1) ≤ (m.eng e).slot then v else sget false (m.eng e).p n) ∧
  (∀ (m : Mach) (e i C v : Nat) (fs : List Flight), 3 ≤ C → (∀ x ∈ fs, ∀ u, x.w ≠ .link u) →
    (m.eng e).flight = insFlight ⟨i + C - 1, .link v⟩ fs →
    ((atSlot m e).eng e).link = if i + (C - 3 + 1) ≤ (m.eng e).slot then v else (m.eng e).link) ∧
  (∀ (m : Mach) (e i C : Nat) (v : Word) (fs : List Flight), 3 ≤ C → (∀ x ∈ fs, ∀ u, x.w ≠ .loop u) →
    (m.eng e).flight = insFlight ⟨i + C - 1, .loop v⟩ fs →
    ((atSlot m e).eng e).loop = if i + (C - 3 + 1) ≤ (m.eng e).slot then v else (m.eng e).loop) ∧
  ∀ (c : Ctx) (n d1 d2 : Nat) (v1 v2 : Word) (fs : List Flight), 0 < n → n ≤ 63 → (∀ x ∈ fs, ∀ u, x.w ≠ .g n u) →
    c.en.flight = insFlight ⟨d2, .g n v2⟩ (insFlight ⟨d1, .g n v1⟩ fs) → d1 < c.i + 3 → d2 < c.i + 3 →
    c.g n = if d1 ≤ d2 then v2 else v1

/-- R87. g0 reads as 0 and p0 as 1, whatever is in flight, and a write to either puts nothing in flight. -/
def Obligations.HardWiredRegisters : Prop :=
  ∀ (c : Ctx), c.g 0 = 0 ∧ c.p 0 = true ∧ (∀ st v m, c.setG st 0 v m = m) ∧ (∀ st v m, c.setP st 0 v m = m) ∧
    (∀ v, gWrite 0 v = []) ∧ (∀ v, pWrite 0 v = [])

/-- R107. A guard-false instruction takes its slot and counts as a step, and has no other effect: the engine moves on, ENGe.ISSUED and ENGe.GFALSE
and the early count of its guard may count, and everything else is as it was. -/
def Obligations.GuardFalseTakesItsSlotOnly : Prop :=
  ∀ (s : State) (e : Fin 16) (gd : Guard) (c : Ctx), Slot s.m e { gd with neg := !gd.neg } c →
    let idle := fun (i : Instr) (st : Nat) => Answers i s (fun m' => m'.eng c.e = issued c st ∧
      m' = { atSlot s.m e with engs := m'.engs, regs := m'.regs } ∧ (∀ x, x ≠ c.e → m'.eng x = (atSlot s.m e).eng x) ∧
      ∀ a, a ∉ [(R.ENG_ISSUED e).addr, (R.ENG_EARLY e).addr, (R.ENG_GFALSE e).addr] → m'.rget a = (atSlot s.m e).rget a)
    (∀ f, idle (.add e gd f) 5) ∧ (∀ f, idle (.div e gd f) 21) ∧ (∀ f, idle (.cmpeq e gd f) 4) ∧ (∀ f, idle (.stw e gd f) 6) ∧
    (∀ f, idle (.ldw e gd f) 6) ∧ (∀ f, idle (.lmb e gd f) 8) ∧ (∀ f, idle (.smb e gd f) 6) ∧ (∀ f, idle (.bgth e gd f) 12) ∧
    (∀ f, idle (.ton e gd f) 8) ∧ (∀ f, idle (.ctu e gd f) 8) ∧ (∀ f, idle (.wdck e gd f) 6) ∧ (∀ f, idle (.mvrq e gd f) 6) ∧
    (∀ f, idle (.srd e gd f) 7)

/-- R92, R137. A scan-local load whose address is aligned and within the 32 KiB puts the bytes it names, little-endian and extended as its row says,
in flight for g(r) at MA; a store within the working area puts its bytes in flight for their addresses at MA. Nothing else changes.
Completes, with its own effect, in the states its clauses name: ldb, ldbs, ldh, ldhs, ldw, stb, sth, stw. -/
def Obligations.LocalLoadsAndStores : Prop :=
  ∀ (s : State) (e : Fin 16) (gd : Guard) (c : Ctx) (f : FmtD), Slot s.m e gd c →
    let a := fun (n : Nat) => ((c.g f.a).toNat + f.off.toNat * n) % 2 ^ 32
    let ok := fun (n : Nat) => n ∣ a n ∧ a n + n ≤ 0x8000
    let v := fun (n : Nat) => ((List.range n).map (fun i => (c.localByte (atSlot s.m e) (a n + i)).toNat * 256 ^ i)).sum
    let loads := fun (i : Instr) (w : Word) => Answers i s (fun m' => Puts (atSlot s.m e) m' c 6 (gWrite f.r w))
    let stores := fun (i : Instr) (n : Nat) => Answers i s (fun m' => Puts (atSlot s.m e) m' c 6
      ((List.range n).map (fun j => .ldata (a n + j) (BitVec.ofNat 8 ((c.g f.r).toNat / 256 ^ j)))))
    (ok 1 → loads (.ldb e gd f) (BitVec.ofNat 32 (v 1)) ∧ loads (.ldbs e gd f) (BitVec.ofInt 32 (Int.bmod (v 1) (2 ^ 8)))) ∧
    (ok 2 → loads (.ldh e gd f) (BitVec.ofNat 32 (v 2)) ∧ loads (.ldhs e gd f) (BitVec.ofInt 32 (Int.bmod (v 2) (2 ^ 16)))) ∧
    (ok 4 → loads (.ldw e gd f) (BitVec.ofNat 32 (v 4))) ∧
    (ok 1 → a 1 + 1 ≤ (atSlot s.m e).presetBase e → stores (.stb e gd f) 1) ∧
    (ok 2 → a 2 + 2 ≤ (atSlot s.m e).presetBase e → stores (.sth e gd f) 2) ∧
    (ok 4 → a 4 + 4 ≤ (atSlot s.m e).presetBase e → stores (.stw e gd f) 4)

/-- R34, R62, R138–R141. An image load within its space puts what its source gives (R32) in flight for g(r) at WB+1, with no change beside the
read-set mark of R73; an image store within its space puts one shade entry for each element it writes in flight at MA, none for a reserved
address, and changes nothing else.
Completes, with its own effect, in the states its clauses name: lib, lqb, lmb, liw, lqw, lmw, ldq, lww, sqb, smb, sqw, smw, sww. -/
def Obligations.ImageLoadsAndStores : Prop :=
  ∀ (s : State) (e : Fin 16) (gd : Guard) (c : Ctx) (f : FmtD), Slot s.m e gd c →
    let M := atSlot s.m e
    let i := ((c.g f.a).toNat + f.off.toNat) % 2 ^ 32
    let loads := fun (x : Instr) (sp : Nat) => Answers x s (fun m' => Puts (c.read sp i M).2 m' c 8 (gWrite f.r ((c.read sp i M).1.setWidth 32)))
    let lanes := fun (x : Instr) (sp : Nat) => Answers x s (fun m' => ∃ w : Word, Puts (c.readBits sp i 32 M).2 m' c 8 (gWrite f.r w) ∧
      ∀ k, k < 32 → w.getLsbD k = (c.readBits sp i 32 M).1.getD k false)
    let stores := fun (x : Instr) (ws : List Wr) => Room s.m c 6 ws → Answers x s (fun m' => Puts M m' c 6 ws)
    let masked := (List.range 32).filter (fun k => (c.g (f.r.val + 1)).getLsbD k)
    let bit := fun (k : Nat) => (bitV ((c.g f.r).getLsbD k) : CellV)
    (i ≤ 8191 → loads (.lib e gd f) spI) ∧ (i ≤ 4095 → loads (.lqb e gd f) spQ) ∧ (i ≤ 65535 → loads (.lmb e gd f) spM) ∧
    (i ≤ 262143 → loads (.lww e gd f) spW) ∧
    (i + 31 ≤ 8191 → lanes (.liw e gd f) spI) ∧ (i + 31 ≤ 4095 → lanes (.lqw e gd f) spQ) ∧ (i + 31 ≤ 65535 → lanes (.lmw e gd f) spM) ∧
    (i + 31 ≤ 8191 → f.r.val ≤ 61 → Answers (.ldq e gd f) s (fun m' => ∃ v q0 q1 : Word,
      Puts M m' c 8 (gWrite f.r v ++ [.g (f.r.val + 1) q0, .g (f.r.val + 2) q1]) ∧
      ∀ k, k < 32 → v.getLsbD k = (c.point (i + k)).1 ∧ q0.getLsbD k = (c.point (i + k)).2.testBit 0 ∧ q1.getLsbD k = (c.point (i + k)).2.testBit 1)) ∧
    (i ≤ 4095 → stores (.sqb e gd f) (if i < 2112 then [.shade (ikey spQ i) (bit 0)] else [])) ∧
    (i ≤ 65535 → stores (.smb e gd f) [.shade (ikey spM i) (bit 0)]) ∧
    (i ≤ 262143 → stores (.sww e gd f) (if i < 258048 then [.shade (ikey spW i) ((c.g f.r).setWidth 128)] else [])) ∧
    (i + 31 ≤ 4095 → f.r.val ≠ 63 → stores (.sqw e gd f)
      ((masked.filter (fun k => decide (i + k < 2112))).map (fun k => .shade (ikey spQ (i + k)) (bit k)))) ∧
    (i + 31 ≤ 65535 → f.r.val ≠ 63 → stores (.smw e gd f) (masked.map (fun k => .shade (ikey spM (i + k)) (bit k))))

/-- R118–R122. With a descriptor that meets R118 and R122, BGTH puts the values of its 32 lanes in flight for g(r) at WB+5 and BGTHQ with them the two
quality masks for the next two registers; BSCT puts one shade entry for each enabled lane of its mask in flight at MA, in the order of the lanes.
Completes, with its own effect, in the states its clauses name: bgth, bgthq, bsct. -/
def Obligations.GathersAndScatters : Prop :=
  ∀ (s : State) (e : Fin 16) (gd : Guard) (c : Ctx) (f : FmtD) (ls : List (Option (Nat × Nat))), Slot s.m e gd c →
    let M := atSlot s.m e
    c.descriptor M (((c.g f.a).toNat + f.off.toNat * 128) % 2 ^ 32) = some ls →
    let xs := (c.lanes ls M).1
    Answers (.bgth e gd f) s (fun m' => ∃ v : Word, Puts (c.lanes ls M).2 m' c 12 (gWrite f.r v) ∧
      ∀ k, k < 32 → v.getLsbD k = (xs.getD k (false, 0)).1) ∧
    (f.r.val ≤ 61 → Answers (.bgthq e gd f) s (fun m' => ∃ v q0 q1 : Word,
      Puts (c.lanes ls M).2 m' c 12 (gWrite f.r v ++ [.g (f.r.val + 1) q0, .g (f.r.val + 2) q1]) ∧
      ∀ k, k < 32 → v.getLsbD k = (xs.getD k (false, 0)).1 ∧ q0.getLsbD k = (xs.getD k (false, 0)).2.testBit 0 ∧
        q1.getLsbD k = (xs.getD k (false, 0)).2.testBit 1)) ∧
    (f.r.val ≠ 63 →
      let ws := ls.zipIdx.flatMap (fun x => match x.1 with
        | some (sp, i) => if (c.g (f.r.val + 1)).getLsbD x.2 ∧ sp ≠ spI ∧ ¬ (sp = spQ ∧ 2112 ≤ i) then [Wr.shade (ikey sp i) (bitV ((c.g f.r).getLsbD x.2))] else []
        | none => [])
      Room s.m c 6 ws → Answers (.bsct e gd f) s (fun m' => Puts M m' c 6 ws))

/-- R32, R63, R74, R140. What a scan reads of an element: points of I come from its snapshot; reserved points of Q read 0; any other element comes from
the scan's own writes, its own segment's frame first, else from the task's HELD scan, else from the application in progress, else from the
image; and only a value that is not its own marks its block (R73). -/
def Obligations.ReadsFollowTheirSources : Prop :=
  ∀ (c : Ctx) (m : Mach) (sp i : Nat),
    (sp = spI → c.read sp i m = (if (c.point i).1 then 1 else 0, m)) ∧
    (sp = spW → 258048 ≤ i → c.read sp i m = ((sget 0 c.sc.snap.wvals i).setWidth 128, m)) ∧
    (sp = spQ → 2112 ≤ i → c.read sp i m = (0, m)) ∧
    (sp ≠ spI → ¬ (sp = spW ∧ 258048 ≤ i) → ¬ (sp = spQ ∧ 2112 ≤ i) →
      (∀ v, c.own m (ikey sp i) = some v → c.read sp i m = (v, m)) ∧
      (c.own m (ikey sp i) = none → (c.read sp i m).2 = m.mark c.k sp i ∧
        (∀ v, c.pred m (ikey sp i) = some v → (c.read sp i m).1 = v) ∧
        (c.pred m (ikey sp i) = none → (∀ v, m.liveEntry (ikey sp i) = some v → (c.read sp i m).1 = v) ∧
          (m.liveEntry (ikey sp i) = none → (c.read sp i m).1 = m.cell sp i))))

/-- R143, R147, R150. A timer instruction on a cell of T puts the cell R145 and R146 give in flight for the frame at MA, when it changes, and for g(r) at
WB+1 the output Q in bit 0 and in bit 1 whether the cell is in a timing state; TRST and TPRE put their cell in flight when it changes;
TRD writes the elapsed time of R150. Nothing else changes but the read-set mark of R73.
Completes, with its own effect, in the states its clauses name: ton, tof, tp, tpx, tonr, trst, tpre, trd. -/
def Obligations.TimerInstructions : Prop :=
  ∀ (s : State) (e : Fin 16) (gd : Guard) (c : Ctx) (f : FmtD), Slot s.m e gd c →
    let M := atSlot s.m e
    let i := ((c.g f.a).toNat + f.off.toNat) % 2 ^ 32
    let old := (c.read spT i M).1
    let B := (c.read spT i M).2
    let key := ikey spT i
    let timer := fun (x : Instr) (kind : Nat) =>
      let r := timerEval kind (TCell.ofV old) c.now ((c.g f.r).getLsbD 0)
      Room s.m c 6 (if old = r.1.toV then [] else [.shade key r.1.toV]) →
        Answers x s (fun m' => CellPuts B m' c key old r.1.toV f.r (BitVec.ofNat 32 (r.2.toNat + 2 * r.1.timing.toNat)))
    let sets := fun (x : Instr) (new : CellV) =>
      let ws := if old = new then [] else [Wr.shade key new]
      Room s.m c 6 ws → Answers x s (fun m' => Puts B m' c 6 ws)
    i ≤ 8191 →
      timer (.ton e gd f) 1 ∧ timer (.tof e gd f) 2 ∧ timer (.tp e gd f) 3 ∧ timer (.tpx e gd f) 4 ∧ timer (.tonr e gd f) 5 ∧
      sets (.trst e gd f) { TCell.ofV old with state := 0, start := 0 : TCell }.toV ∧
      sets (.tpre e gd f) { TCell.ofV old with preset := (c.g f.r).toNat : TCell }.toV ∧
      Answers (.trd e gd f) s (fun m' => ∃ v : Word, ∃ B', (B' = B ∨ B' = { B with free := B.free + 1 }) ∧ Puts B' m' c 8 (gWrite f.r v) ∧
        (let t := TCell.ofV old
         (t.timing = true → v.toNat = min (t.elapsed c.now) t.p / t.unit % 2 ^ 32) ∧
         (t.kind = 5 → t.state = 2 → v.toNat = t.start / t.unit % 2 ^ 32) ∧
         (t.timing = false → t.state = 3 → v.toNat = t.p / t.unit % 2 ^ 32) ∧
         (t.state = 0 → v = 0) ∧ (t.kind = 2 → t.state = 2 → v = 0)))

/-- R145, R146. The evaluation of a timer cell of preset P, by kind and state, for the input and the elapsed time e: the state that follows, its start
time and the output Q. A row that starts timing with P = 0 passes on at once; a cell of another kind, and a state without a row, is first set
to IDLE with start time 0. -/
def Obligations.TimerTable : Prop :=
  ∀ (x : TCell) (now : Nat),
    let e := x.elapsed now
    let idle := { x with state := 0, start := 0 : TCell }
    let go := fun (st start : Nat) => { x with state := st, start := start : TCell }
    (∀ k inp, x.kind ≠ k → timerEval k x now inp = timerEval k { x with state := 0, start := 0, kind := k } now inp) ∧
    (∀ k inp, x.kind = k → (k = 1 ∧ inp = true ∧ x.state ∉ [0, 1, 3]) ∨ (k = 2 ∧ inp = false ∧ x.state ∉ [0, 1, 2]) ∨ (k = 3 ∧ x.state ∉ [0, 1, 3]) ∨
      ((k = 4 ∨ k = 5) ∧ x.state ∉ [0, 1, 2, 3]) → timerEval k x now inp = timerEval k idle now inp) ∧
    -- TON
    (x.kind = 1 → timerEval 1 x now false = (idle, false)) ∧
    (x.kind = 1 ∧ x.state = 0 → timerEval 1 x now true = if x.p = 0 then (go 3 now, true) else (go 1 now, false)) ∧
    (x.kind = 1 ∧ x.state = 1 → timerEval 1 x now true = if x.p ≤ e then (go 3 x.start, true) else (x, false)) ∧
    (x.kind = 1 ∧ x.state = 3 → timerEval 1 x now true = (x, true)) ∧
    -- TOF
    (x.kind = 2 → timerEval 2 x now true = (go 2 x.start, true)) ∧
    (x.kind = 2 ∧ x.state = 2 → timerEval 2 x now false = if x.p = 0 then (idle, false) else (go 1 now, true)) ∧
    (x.kind = 2 ∧ x.state = 1 → timerEval 2 x now false = if x.p ≤ e then (idle, false) else (x, true)) ∧
    (x.kind = 2 ∧ x.state = 0 → timerEval 2 x now false = (idle, false)) ∧
    -- TP
    (x.kind = 3 ∧ x.state = 0 → timerEval 3 x now true = if x.p = 0 then (go 3 now, false) else (go 1 now, true)) ∧
    (x.kind = 3 ∧ x.state = 0 → timerEval 3 x now false = (idle, false)) ∧
    (∀ inp, x.kind = 3 ∧ x.state = 1 → timerEval 3 x now inp = if e < x.p then (x, true) else if inp then (go 3 x.start, false) else (idle, false)) ∧
    (∀ inp, x.kind = 3 ∧ x.state = 3 → timerEval 3 x now inp = (if inp then x else idle, false)) ∧
    -- TPX
    (x.kind = 4 ∧ (x.state = 0 ∨ x.state = 1) → timerEval 4 x now true = if x.p = 0 then (go 3 now, false) else (go 2 now, true)) ∧
    (x.kind = 4 ∧ x.state = 2 → timerEval 4 x now true = if x.p ≤ e then (go 3 x.start, false) else (x, true)) ∧
    (x.kind = 4 ∧ (x.state = 2 ∨ x.state = 1) → timerEval 4 x now false = if x.p ≤ e then (idle, false) else (go 1 x.start, true)) ∧
    (x.kind = 4 ∧ x.state = 3 → timerEval 4 x now true = (x, false)) ∧
    (x.kind = 4 ∧ (x.state = 0 ∨ x.state = 3) → timerEval 4 x now false = (idle, false)) ∧
    -- TONR
    (∀ inp, x.kind = 5 ∧ x.state = 3 → timerEval 5 x now inp = (x, true)) ∧
    (x.kind = 5 ∧ x.state = 0 → timerEval 5 x now true = if x.p = 0 then (go 3 now, true) else (go 1 now, false)) ∧
    (x.kind = 5 ∧ x.state = 2 → x.p ≠ 0 → timerEval 5 x now true = (go 1 ((now + 2 ^ 64 - x.start % 2 ^ 64) % 2 ^ 64), false)) ∧
    (x.kind = 5 ∧ x.state = 1 → timerEval 5 x now true = if x.p ≤ e then (go 3 x.start, true) else (x, false)) ∧
    (x.kind = 5 ∧ x.state = 1 → timerEval 5 x now false = (go 2 e, false)) ∧
    (x.kind = 5 ∧ x.state = 2 → timerEval 5 x now false = (x, false))

/-- R151, R152. CTU, CTD, CTUD and CCHN step their counter, saturating at 0 and at the top, and return it; CLDC loads the cell; the edge instructions give
their output and let the cell take the input, an unevaluated cell (R206) giving 0. Each writes its cells in flight at MA only when they change, CCHN
cell by cell, and g(r) at WB+1.
Completes, with its own effect, in the states its clauses name: ctu, ctd, ctud, cchn, cldc, edr, edf, edb. -/
def Obligations.CounterAndEdgeInstructions : Prop :=
  ∀ (s : State) (e : Fin 16) (gd : Guard) (c : Ctx) (f : FmtD), Slot s.m e gd c →
    let M := atSlot s.m e
    let i := ((c.g f.a).toNat + f.off.toNat) % 2 ^ 32
    let old := (c.read spC i M).1
    let n := old.toNat % 2 ^ 32
    let up := min (n + 1) (2 ^ 32 - 1)
    let counter := fun (x : Instr) (n' : Nat) =>
      Room s.m c 6 (if old = BitVec.ofNat 128 n' then [] else [.shade (ikey spC i) (BitVec.ofNat 128 n')]) →
        Answers x s (fun m' => CellPuts (c.read spC i M).2 m' c (ikey spC i) old (BitVec.ofNat 128 n') f.r (BitVec.ofNat 32 n'))
    let inp := (c.g f.r).getLsbD 0
    let cell := (c.read spE i M).1 != 0
    let ews := if c.primed M i ∨ (c.read spE i M).1 ≠ bitV inp then [Wr.shade (ikey spE i) (bitV inp)] else []
    let edge := fun (x : Instr) (out : Bool) => Room s.m c 6 ews → Answers x s (fun m' =>
      m'.eng c.e = { issued c 8 with flight := (gWrite f.r (if !c.primed M i && out then 1 else 0)).foldl (fun fs w => insFlight ⟨c.i + 7, w⟩ fs) (inFlight c 6 ews) } ∧
        OnlyEngine (c.read spE i M).2 m' c.e)
    let sel := (c.g f.r).toNat % 4
    let k := (c.g f.r).toNat / 4 % 4 + 1
    let vs := (c.readChain i k M).1
    let v := chainValue vs
    let v' := if sel = 1 ∧ v < 2 ^ (32 * k) - 1 then v + 1 else if sel = 2 then v - 1 else v
    let cws := (List.range k).flatMap (fun j => if vs.getD j 0 = BitVec.ofNat 128 (v' / 2 ^ (32 * j) % 2 ^ 32) then []
      else [Wr.shade (ikey spC (i + j)) (BitVec.ofNat 128 (v' / 2 ^ (32 * j) % 2 ^ 32))])
    (i ≤ 4095 → counter (.ctu e gd f) (if inp then up else n) ∧ counter (.ctd e gd f) (if inp then n - 1 else n) ∧
      counter (.ctud e gd f) (if sel = 1 then up else if sel = 2 then n - 1 else n) ∧
      (let ws := if old = (c.g f.r).setWidth 128 then [] else [Wr.shade (ikey spC i) ((c.g f.r).setWidth 128)]
       Room s.m c 6 ws → Answers (.cldc e gd f) s (fun m' => Puts (c.read spC i M).2 m' c 6 ws))) ∧
    (i + k - 1 ≤ 4095 → Room s.m c 6 cws → Answers (.cchn e gd f) s (fun m' =>
      m'.eng c.e = { issued c 8 with flight := (gWrite f.r (BitVec.ofNat 32 v')).foldl (fun fs w => insFlight ⟨c.i + 7, w⟩ fs) (inFlight c 6 cws) } ∧
        OnlyEngine (c.readChain i k M).2 m' c.e)) ∧
    (i ≤ 16383 → edge (.edr e gd f) (inp && !cell) ∧ edge (.edf e gd f) (cell && !inp) ∧ edge (.edb e gd f) (inp != cell))

/-- R108–R111, R153, R154. A branch outside a delay slot opens two delay slots: the next two slots issue in sequence, and a taken branch sets the PC that
issues after them: the target for BR and CALL, LINK for RET, and for LPB the target when LOOP is not 0. CALL puts the PC of slot i + 3 in flight for
LINK and LPB the decremented LOOP, both at DE. Nothing else changes. The PC goes on in sequence through the two delay slots, then to the branch's target
when it was taken, else on in sequence.
Completes, with its own effect, in the states its clauses name: br, call, ret, lpb. -/
def Obligations.Branches : Prop :=
  (∀ (en : Eng) (t : Option Nat),
    let b := { en with ds := 2, tgt := t }
    b.advance.pc = en.pc + 1 ∧ b.advance.ds = 1 ∧ b.advance.advance.pc = t.getD (en.pc + 2) ∧ b.advance.advance.ds = 0 ∧
      b.advance.advance.tgt = none ∧ (en.ds = 0 → en.advance.pc = en.pc + 1)) ∧
  ∀ (s : State) (e : Fin 16) (gd : Guard) (c : Ctx) (f : FmtC), Slot s.m e gd c → c.en.ds = 0 → c.pc < 16381 →
    let taken := fun (x : Instr) (tgt : Option Nat) (ws : List Wr) => Answers x s (fun m' =>
      m'.eng c.e = { c.en with pc := c.pc + 1, ds := 2, tgt := tgt, slot := c.i + 1, steps := c.en.steps + 1, de := c.pc, flight := inFlight c 3 ws,
                               ends := c.en.ends.filter (fun x => decide (c.i ≤ x)) ++ [c.i + 6] } ∧ OnlyEngine (atSlot s.m e) m' c.e)
    taken (.br e gd f) (some f.target.toNat) [] ∧ taken (.call e gd f) (some f.target.toNat) [.link (c.pc + 3)] ∧
    taken (.ret e gd f) (some c.link) [] ∧
    taken (.lpb e gd f) (if c.loop = 0 then none else some f.target.toNat) (if c.loop = 0 then [] else [.loop (c.loop - 1)])

/-- R104, R129, R153–R158. MTLK, MTLP and MFS move between LINK, LOOP, SNAPT and the general registers; HALT ends the issue of its engine; WDCK and MVRQ put
their deferred action in flight for the frame at MA, and it names the slot of the scan's task, or the channel and descriptor index; SRD writes the
scan constant its selector names; SWR puts its write in flight to WB: it switches and clears the engine's performance counters, or clears SCANMAX or RESPMAX
of the scan's task.
Completes, with its own effect, in the states its clauses name: mtlk, mtlp, mfs, halt, wdck, mvrq, srd, swrPerfctl, swrScanmax, swrRespmax. -/
def Obligations.MovesAndSystemAccess : Prop :=
  ∀ (s : State) (e : Fin 16) (gd : Guard) (c : Ctx), Slot s.m e gd c →
    let M := atSlot s.m e
    let does := fun (x : Instr) (st : Nat) (ws : List Wr) => Answers x s (fun m' => Puts M m' c st ws)
    let sn := c.sc.snap
    let consts : List Nat := [c.k + c.j * 256, sn.trig + sn.tidx * 65536, sn.scsn, sn.scsn / 2 ^ 32 % 2 ^ 16, sn.bndn, sn.bndn / 2 ^ 32, sn.period,
      sn.phase, sn.utcoff]
    (∀ f, does (.mtlk e gd f) 5 [.link ((c.g f.s).toNat % 2 ^ 14)]) ∧ (∀ f, does (.mtlp e gd f) 5 [.loop (c.g f.s)]) ∧
    (∀ f, f.b.val ≤ 3 → does (.mfs e gd f) 5 (gWrite f.d (if f.b.val = 0 then BitVec.ofNat 32 c.link else if f.b.val = 1 then c.loop
      else if f.b.val = 2 then BitVec.ofNat 32 sn.time else BitVec.ofNat 32 (sn.time / 2 ^ 32)))) ∧
    (c.en.ds = 0 → ∀ f, Answers (.halt e gd f) s (fun m' => m'.eng c.e = { issued c 3 with drain := true } ∧ OnlyEngine M m' c.e)) ∧
    (∀ f, Room s.m c 6 [.act (.wdck (M.fld (R.TSK_CFG_WDSLOT c.k)))] → does (.wdck e gd f) 6 [.act (.wdck (M.fld (R.TSK_CFG_WDSLOT c.k)))]) ∧
    (∀ f, Room s.m c 6 [.act (.mvrq (f.d.val % 16) f.imm.toNat)] → does (.mvrq e gd f) 6 [.act (.mvrq (f.d.val % 16) f.imm.toNat)]) ∧
    (∀ f v, consts[f.imm.toNat]? = some v → does (.srd e gd f) 7 (gWrite f.d (BitVec.ofNat 32 v))) ∧
    (∀ f, f.imm.toNat = 0x1000 → does (.swrPerfctl e gd f) 7 [.perf ((c.g f.d).getLsbD 0) ((c.g f.d).getLsbD 1)]) ∧
    (∀ d, does (.swrScanmax e gd d) 7 [.tmax false c.k]) ∧ (∀ d, does (.swrRespmax e gd d) 7 [.tmax true c.k]) ∧
    (∀ (m : Mach) (k : Nat), m.applyPerf e (.tmax false k) = m.setFld (R.TSK_SCANMAX k) 0 ∧ m.applyPerf e (.tmax true k) = m.setFld (R.TSK_RESPMAX k) 0) ∧
    (∀ (m : Mach) en clr, (m.applyPerf e (.perf en clr)).flag (R.ENG_PERFCTL_EN e) = en ∧
      (clr = true → ∀ i, i < 10 → (m.applyPerf e (.perf en clr)).rget ((R.ENG_LITCYC e).addr + 4 * i) = 0))

/-- R107, R123–R125, R127. Where an instruction breaks a rule it raises its engine fault and nothing of its own: ENGe.FLT then holds the code, the class bit of the
hardware class, the repetition mark, the PC, the task and the segment, VALID set. Stated for the reserved opcodes, whatever their guard, for a
scan-local access that breaks R92, an image access beyond its space, an SRD or SWR selector of no row, a CALL too near the end of the code, and a branch in a delay slot.
Completes, with its own effect, in the states its clauses name: reservedOpcode. -/
def Obligations.EngineFaultsAreRecorded : Prop :=
  ∀ (s : State) (e : Fin 16) (gd : Guard) (c : Ctx), Slot s.m e gd c → c.pc < 2 ^ 14 → c.j < 8 →
    let M := atSlot s.m e
    let faults := fun (x : Instr) (code : Nat) => Answers x s (fun m' =>
      m'.fld (R.ENG_FLT_CODE e) = code ∧ m'.fld (R.ENG_FLT_PC e) = c.pc ∧ m'.fld (R.ENG_FLT_TASK e) = c.k ∧ m'.fld (R.ENG_FLT_SEG e) = c.j ∧
      m'.flag (R.ENG_FLT_VALID e) = true ∧ (m'.fld (R.ENG_FLT_REPEAT e) = 1 ↔ (M.task c.k).lastFault = some (code, c.pc)))
    (∀ gd' w, faults (.reservedOpcode e gd' w) 0x01) ∧
    (∀ gd' (n : Fin 16) w, (s.m.custEntry n).valid = false → faults (.customInstruction e gd' n w) 0x02) ∧
    (∀ f : FmtD, ¬ (((c.g f.a).toNat + f.off.toNat * 4) % 2 ^ 32 % 4 = 0 ∧ ((c.g f.a).toNat + f.off.toNat * 4) % 2 ^ 32 + 4 ≤ 0x8000) →
      faults (.ldw e gd f) 0x03 ∧ faults (.stw e gd f) 0x03) ∧
    (∀ f : FmtD, 65535 < ((c.g f.a).toNat + f.off.toNat) % 2 ^ 32 → faults (.lmb e gd f) 0x04 ∧ faults (.smb e gd f) 0x04) ∧
    (∀ f : FmtF, 8 < f.imm.toNat → faults (.srd e gd f) 0x09) ∧
    (∀ f : FmtF, f.imm.toNat ∉ [0x1000, 0x1001, 0x1002] → faults (.swrPerfctl e gd f) 0x09) ∧
    (∀ f, c.en.ds = 0 → 16381 ≤ c.pc → faults (.call e gd f) 0x07) ∧ (∀ f, c.en.ds ≠ 0 → faults (.br e gd f) 0x06)

/-- R163–R172. A custom instruction with a valid entry of the decode table, whose sequence ends without a fault within the frame's limit, puts its
shade entries and the registers of its destination group in flight at stage 3 + DIST and its predicate at 2 + DIST, and does nothing else but mark
what its sequence reads.
Completes, with its own effect, in the states its clauses name: customInstruction. -/
def Obligations.CustomInstructions : Prop :=
  ∀ (s : State) (e : Fin 16) (gd : Guard) (c : Ctx) (n : Fin 16) (w : BitVec 20), Slot s.m e gd c →
    let x := s.m.custEntry n
    let M := issueBase s.m e gd c (3 + x.dist) (x.readsG w.toNat) (x.readsP w.toNat)
    let u := CustRun.sequence c (x.args c w.toNat) x.uops 0 { m := M }
    let ws := u.own.flatMap (fun y => match y.2 with
        | some v => [Wr.shade y.1 v]
        | none => []) ++ u.outs.flatMap (fun y => if 63 < x.baseD w.toNat + y.1 then [] else gWrite (x.baseD w.toNat + y.1) y.2)
    let ps := match u.pd with
      | some b => pWrite (custPd w.toNat) b
      | none => []
    let after := { issued c (3 + x.dist) with
      flight := ps.foldl (fun fs w => insFlight ⟨c.i + (2 + x.dist) - 1, w⟩ fs) (inFlight c (3 + x.dist) ws) }
    x.valid = true → u.fault = none → (u.m.setEng c.e after).entryCount c.e ≤ 2048 →
      Answers (.customInstruction e gd n w) s (fun m' => m'.eng c.e = after ∧ OnlyEngine u.m m' c.e)

/-- R48–R53. At a boundary of an enabled task in RUN, NBND moves on by the period. On the module that fixes its
own snapshots the boundary is taken when the last one taken is served: the restart budget is renewed, CONSKIP returns to 0, the scan in SNAP then holds a snapshot of the boundary instant (10 ns after
the task's last one when that is later), and an unanchored scan in RUN is squashed; it is skipped otherwise: OVRW, CONSKIP and SKIPS say so, and
after OVRLIM in a row OVRF and the task's MAJOR.
Completes, with its own effect, in the states its clauses name: boundary. -/
def Obligations.BoundariesOfTasks : Prop :=
  ∀ (s : State) (t : Nat) (k : Fin 32),
    let m := arrive t s
    let b := m.fld64 (R.TSK_NBND_LO k)
    let due := m.st = .run ∧ m.taskOn k = true ∧ b ≤ m.now
    let own := m.hasToken = true ∧ m.following = false ∧ m.pair.yielding = none ∧ m.olcOpen = false
    let passed := fun (m' : Mach) => m'.fld64 (R.TSK_NBND_LO k) = (b + m.fld (R.TSK_PERIOD_PERIOD k) * 10000) % 2 ^ 64 ∧
      m'.st = .run ∧ m'.warn = m.warn ∧ m'.fio = m.fio ∧ m'.ret = m.ret
    (due → Answers (.boundary t k) s passed) ∧
    (due → own → (m.task k).anyTaken = false ∨ (m.task k).served = true → Answers (.boundary t k) s (fun m' => passed m' ∧
      (m'.task k).anyTaken = true ∧ (m'.task k).lastTaken = b ∧ (m'.task k).served = false ∧ m'.fld (R.TSK_STAT_CONSKIP k) = 0 ∧ m'.fld (R.TSK_BUDGET_RSTLEFT k) = m.fld (R.TSK_BUDGET_RSTBUD k) ∧
      ((∀ r, (m.task k).run = some r → r.anchored = false) → (m'.task k).run = none ∧
        ∃ sc, (m'.task k).snap = some sc ∧ sc.snap.trig = 0 ∧ sc.snap.time = match (m.task k).lastSnap with
          | some l => if b ≤ l then l + 10 else b
          | none => b))) ∧
    (due → own → (m.task k).anyTaken = true ∧ (m.task k).served = false → Answers (.boundary t k) s (fun m' => passed m' ∧
      m'.flag (R.TSK_STAT_OVRW k) = true ∧ m'.fld (R.TSK_STAT_CONSKIP k) = min (m.fld (R.TSK_STAT_CONSKIP k) + 1) 15 ∧
      m'.fld (R.TSK_SKIPS k) = min (m.fld (R.TSK_SKIPS k) + 1) (2 ^ 32 - 1) ∧
      (m.fld (R.TSK_STAT_CONSKIP k) + 1 = m.fld (R.TSK_CFG_OVRLIM k) → m'.flag (R.TSK_STAT_OVRF k) = true ∧ (0x3020 + k.val, 0, 2) ∈ m'.faults)))

/-- R11–R13, R24, R560. A task whose boundary is near asks for its quads that are off; a quad asked for powers up, its dark
engines becoming dim, or lit where a start waits; an idle quad powers down to dark, and the power-down ends; 1 µs ahead of the boundary the free engines
of the segments without dependency are lit. Nothing but quads, engines and the power-domain and performance registers changes.
Completes, with its own effect, in the states its clauses name: quadPowerUpRequest, quadPowerUp, quadPowerDown, snapshotLead, quadPowerDownComplete. -/
def Obligations.QuadsAndLight : Prop :=
  ∀ (s : State) (t : Nat),
    let m := arrive t s
    let only := fun (m' : Mach) => m' = { m with quads := m'.quads, engs := m'.engs, regs := m'.regs }
    (∀ k : Fin 32, m.st = .run → m.taskOn k = true → m.fld64 (R.TSK_NBND_LO k) ≤ m.now + 26100 → Answers (.quadPowerUpRequest t k) s (fun m' => m' = { m with quads := m'.quads } ∧
        ∀ e ∈ m.taskEngines k, (m.quad (e / 4)).on = false → (m'.quad (e / 4)).req = true)) ∧
    (∀ q : Fin 4, (m.quad q).req = true → (m.quad q).down = false → m.alive = true → Answers (.quadPowerUp t q) s (fun m' => only m' ∧
      m'.quad q = { on := true } ∧ (∀ e, e / 4 = q.val → (m.eng e).power = .dark →
        (m'.eng e).power = if (m.eng e).wake then .lit else .dim) ∧ (∀ e, e / 4 = q.val → (m.eng e).power ≠ .dark → m'.eng e = m.eng e) ∧
      ∀ e, e / 4 ≠ q.val → m'.eng e = m.eng e)) ∧
    (∀ q : Fin 4, m.quadIdle q = true → Answers (.quadPowerDown t q) s (fun m' => only m' ∧ m'.quad q = { down := true } ∧
      (∀ e, e / 4 = q.val → (m'.eng e).power = if (m.eng e).power = .heldOut then .heldOut else .dark) ∧ ∀ e, e / 4 ≠ q.val → m'.eng e = m.eng e)) ∧
    (∀ q : Fin 4, (m.quad q).down = true → Answers (.quadPowerDownComplete t q) s (fun m' =>
      m' = { m with quads := m'.quads } ∧ (m'.quad q).down = false ∧ (m'.quad q).req = (m.quad q).req ∧ ∀ p, p ≠ q.val → m'.quad p = m.quad p)) ∧
    (∀ k : Fin 32, m.st = .run → m.taskOn k = true → m.fld64 (R.TSK_NBND_LO k) ≤ m.now + 1100 → Answers (.snapshotLead t k) s (fun m' => only m' ∧
      ∀ e ∈ m.firstEngines k, (m.eng e).act = none → (m.eng e).power = .dim → (m'.eng e).power = .lit ∧ (m'.eng e).wantTill = m.fld64 (R.TSK_NBND_LO k)))

/-- R21, R58, R87, R91, R104, R123. On a lit, free engine with a free frame the next ready segment, of a scan that may start (R58), starts: the scan is in RUN, the engine stands at the task's
entry with its registers, predicates, LINK, LOOP and scan-local data cleared. At the halt instant of a segment that issued HALT the engine is free, the
segment has halted, and its frame holds every shade entry and deferred action in flight. An engine fault with a code squashes the scan and is
recorded.
Completes, with its own effect, in the states its clauses name: segmentStart, haltInstant, engineFault. -/
def Obligations.SegmentsStartAndHalt : Prop :=
  ∀ (s : State) (t : Nat) (e : Fin 16),
    let m := arrive t s
    (∀ k j sc, m.st = .run → (m.eng e).power = .lit → (m.eng e).act = none → (m.eng e).freeAt ≤ m.now → m.framesUsed e < 3 →
      m.nextSeg e = some (k, j) → k < 32 → (m.task k).run = some sc ∨ ((m.task k).run = none ∧ (m.task k).snap = some sc) → j < sc.segs.length →
      Answers (.segmentStart t e) s (fun m' =>
        m'.eng e = { m.eng e with act := some (k, j), drain := false, pc := m.fld (R.ENG_SEG_ENTRY e k), slot := 0, steps := 0, ds := 0, tgt := none,
                                  g := [], p := [], link := 0, loop := 0, flight := [], ends := [], de := m.fld (R.ENG_SEG_ENTRY e k), flt := none, ldata := [] } ∧
        (∀ i, i ≠ e.val → m'.eng i = m.eng i) ∧
        ∃ r, (m'.task k).run = some r ∧ r.id = sc.id ∧ r.snap = sc.snap ∧ (r.seg j).st = .running ∧ (r.seg j).eng = e.val ∧
          ∀ i, i ≠ j → r.seg i = sc.seg i)) ∧
    (∀ k j sc, k < 32 → (m.eng e).act = some (k, j) → (m.eng e).drain = true → (m.eng e).flt = none → (m.task k).run = some sc → j < sc.segs.length →
      Answers (.haltInstant t e) s (fun m' => (m'.eng e).act = none ∧ (m'.eng e).drain = false ∧ (m'.eng e).flight = [] ∧
        (∀ i, i ≠ e.val → m'.eng i = m.eng i) ∧ m'.img = m.img ∧
        ∃ r, (m'.task k).run = some r ∧ r.id = sc.id ∧ (r.seg j).st = .halted ∧
          (r.seg j).frame = (((m.eng e).flight.map (·.w)).foldl Seg.apply (sc.seg j)).frame ∧
          (r.seg j).deferred = (((m.eng e).flight.map (·.w)).foldl Seg.apply (sc.seg j)).deferred ∧
          (r.complete = true ↔ sc.complete = true ∨ ∀ x ∈ r.segs, x.st = .halted))) ∧
    (∀ (k j : Nat) (code : Fin 64) (pc : BitVec 14), k < 32 → j < 8 → (m.eng e).act = some (k, j) → code.val ∈ [1, 2, 3, 4, 5, 6, 7, 8, 9, 0x10, 0x11, 0x12, 0x13] →
      Answers (.engineFault t e code pc) s (fun m' => m'.fld (R.ENG_FLT_CODE e) = code.val ∧ m'.flag (R.ENG_FLT_VALID e) = true ∧
        m'.fld (R.ENG_FLT_PC e) = pc.toNat ∧ m'.fld (R.ENG_FLT_TASK e) = k ∧ m'.fld (R.ENG_FLT_SEG e) = j ∧
        (0x10 ≤ code.val → (0x31E0, e.val, 2) ∈ m'.faults) ∧
        (code.val < 0x10 → if (m.task k).lastFault = some (code.val, pc.toNat) then (0x31DF, e.val, 3) ∈ m'.faults else (0x31DE, e.val, 1) ∈ m'.faults)))

/-- R36, R38, R39, R41, R43, R45. When the unit is free the first HELD scan that is agreed and not deferred starts its application: it takes the next CSN and lasts 100 ns
and 2 ns for each entry of its largest segment. Completion at or after that instant writes every entry, and nothing else, into the image, records the commit in
the task's registers, and leaves the unit free from 250 ns after the start.
Completes, with its own effect, in the states its clauses name: applicationStart, applicationComplete. -/
def Obligations.ApplicationsStartAndComplete : Prop :=
  ∀ (s : State) (t : Nat),
    let m := arrive t s
    (∀ k sc, m.st = .run → m.hasToken = true → m.cu.app = none → m.cu.nextStart ≤ m.now → m.olc.mapped = false → m.nextHeld = some (k, sc) →
      Answers (.applicationStart t) s (fun m' => m'.img = m.img ∧ m'.engs = m.engs ∧ m'.pts = m.pts ∧ (m'.task k).inCommit = true ∧
        m'.csn = (if 2 ^ 48 ≤ m.csn + 1 then 1 else m.csn + 1) ∧
        ∃ a, m'.cu.app = some a ∧ a.task = k ∧ a.scan = sc.id ∧ a.csn = m'.csn ∧ a.snapTime = sc.snap.time ∧ a.startAt = m.now ∧
          a.doneAt = m.now + 100 + 2 * (sc.segs.map (fun g => g.frame.length + g.deferred.length)).foldl max 0 ∧ a.entries = sc.merged)) ∧
    (∀ a, m.cu.app = some a → a.doneAt ≤ m.now → a.task < 32 → (∀ v ∈ a.victims, v.1 < 32) → (∀ c i, .mvrq c i ∈ a.deferred → c < 16) → Answers (.applicationComplete t) s (fun m' =>
      m'.cu.nextStart = a.startAt + 250 ∧ m'.cu.app = none ∧ m'.st = m.st ∧ m'.csn = m.csn ∧
      ((a.entries.map (·.1)).Nodup → (∀ x ∈ a.entries, keySp x.1 ≠ spPrimed) → ∀ x ∈ a.entries, sget 0 m'.img x.1 = x.2) ∧
      (∀ k, keySp k ≠ spPrimed → k ∉ a.entries.map (·.1) → sget 0 m'.img k = sget 0 m.img k) ∧
      (m'.task a.task).inCommit = false ∧ m'.fld64 (R.TSK_LCSN_LO a.task) = a.csn % 2 ^ 64 ∧ m'.fld64 (R.TSK_LSNAP_LO a.task) = a.snapTime % 2 ^ 64 ∧
      m'.fld64 (R.TSK_LDIG_LO a.task) = a.digest.toNat ∧ m'.fld (R.TSK_COMMITS a.task) = (m.fld (R.TSK_COMMITS a.task) + 1) % 2 ^ 32))

/-- R31, R86, R126, R127, R199. A timer expiry in RUN drops every registration that is due and counts it in IMG.EXPCNT; a change held back is released once the
share has room; ten seconds without one clear 0x3013; and the three clearing commands set their registers to zero and change nothing else.
Completes, with its own effect, in the states its clauses name: timerExpiry, heldChangeRelease, perfctlClr, fstatClear, fltClear, snapshotHoldQuiet. -/
def Obligations.ExpiriesHeldChangesAndClears : Prop :=
  ∀ (s : State) (t : Nat),
    let m := arrive t s
    (m.st = .run → m.hasToken = true → m.cu.app = none → Answers (.timerExpiry t) s (fun m' =>
      (∀ i x, (i, some x) ∈ m'.exp ↔ (i, some x) ∈ m.exp ∧ m.now < x) ∧ Events { m with exp := m'.exp } m' (· = R.IMG_EXPCNT.addr) ∧
      m'.fld R.IMG_EXPCNT = (m.fld R.IMG_EXPCNT + (m.exp.filter (fun e => e.2.any (fun x => decide (x ≤ m.now)))).length) % 2 ^ 32)) ∧
    (∀ c cs, m.ev.held = c :: cs → m.shareBits + m.changeBits c ≤ 2 ^ 21 → Answers (.heldChangeRelease t) s (fun m' =>
      m'.ev.held = cs ∧ Events m m' (· = R.IMG_SNPWAIT.addr) ∧ m'.fld R.IMG_SNPWAIT = max (m.fld R.IMG_SNPWAIT) (min ((m.now - c.heldAt) / 10) (2 ^ 32 - 1)))) ∧
    (∀ a, m.ev.lastHold = some a → a + 10000000000 ≤ m.now → m.ev.held = [] → Answers (.snapshotHoldQuiet t) s (fun m' =>
      Events { m with faults := m'.faults } m' (fun _ => False) ∧ ((0x3013, 0, 1) ∈ m.faults → m'.ev.held = [] → (0x3013, 0, 1) ∉ m'.faults))) ∧
    (∀ e : Fin 16, Answers (.perfctlClr t e) s (fun m' => Regs m m' ((List.range 10).map (fun i => (R.ENG_LITCYC e).addr + 4 * i)) ∧
      ∀ i, i < 10 → m'.rget ((R.ENG_LITCYC e).addr + 4 * i) = 0)) ∧
    Answers (.fstatClear t) s (fun m' => Regs m m' [R.IMG_FSTAT.addr] ∧ m'.rget R.IMG_FSTAT.addr = 0) ∧
    (∀ e : Fin 16, Answers (.fltClear t e) s (fun m' => Regs m m' [(R.ENG_FLT e).addr, (R.ENG_FLTT_LO e).addr, (R.ENG_FLTT_LO e).addr + 4] ∧
      m'.rget (R.ENG_FLT e).addr = 0 ∧ m'.fld64 (R.ENG_FLTT_LO e) = 0))

/-- R189, R213, R219. A change that is written at once, because nothing is held back and the share has room, gives every point and word it names its new
content, and leaves every other point as it was. -/
def Obligations.ChangesReachTheImage : Prop :=
  ∀ (m : Mach) (c : Change), m.following = false → m.ev.held = [] → m.shareBits + m.changeBits c ≤ 2 ^ 21 →
    (c.pts.map (·.idx)).Nodup → (c.words.map (·.1)).Nodup →
    (∀ p ∈ c.pts, ((m.change c).pt p.idx).v = p.v ∧ ((m.change c).pt p.idx).q = p.q) ∧
    (∀ i, i ∉ c.pts.map (·.idx) → (m.change c).pt i = m.pt i) ∧
    (∀ w ∈ c.words, (m.change c).cell spW w.1 = w.2.setWidth 128) ∧ (m.change c).ev.held = [] ∧ (m.change c).faults = m.faults

/-- R218, R222, R227, R230, R280. A journal entry takes the next event sequence number and goes to the FIFO, behind the lost-entry marker where entries were lost;
at 4095 entries it is lost and counted; a module whose journal is the lead's creates none. -/
def Obligations.JournalEntriesAreNumbered : Prop :=
  ∀ (m : Mach) (time point kind flags : Nat),
    let m' := m.journal time point kind flags
    let j : JEntry := ⟨time % 2 ^ 64, point, kind, flags, m.fld R.EVU_SEQ⟩
    (m.following = true → m' = m) ∧
    (m.following = false → m'.fld R.EVU_SEQ = (m.fld R.EVU_SEQ + 1) % 2 ^ 32) ∧
    (m.following = false → m.ev.fifo.length < 4095 → m'.ev.fifoLost = 0 ∧
      m'.ev.fifo = m.ev.fifo ++ (if m.ev.fifoLost = 0 then [] else [⟨m.ev.fifoLostT, 0x3010, 0x34, 1, m.ev.fifoLost⟩]) ++ [j]) ∧
    (m.following = false → 4095 ≤ m.ev.fifo.length → m'.ev.fifo = m.ev.fifo ∧ m'.ev.fifoLost = min (m.ev.fifoLost + 1) (2 ^ 32 - 1) ∧
      m'.fld R.EVU_LOSTFIFO = min (m.fld R.EVU_LOSTFIFO + 1) (2 ^ 32 - 1) ∧ m'.flag R.EVU_STAT_FIFOLOST = true)

/-- R417, R418, R440. A fault raised is present, one cleared is not; DIAG.FSUM shows how many of each class are present; a MAJOR or FATAL one is kept as the
last fault with its time, a FATAL one leads to FAULT, and a MAJOR one degrades an ALONE module in RUN. -/
def Obligations.FaultsAreRaisedAndCleared : Prop :=
  ∀ (m : Mach) (code sub cls : Nat), code < 2 ^ 16 → 1 ≤ cls → cls ≤ 3 →
    let m' := m.raise code sub cls
    let c := m.clear code sub cls
    let shown := fun (n : Mach) =>
      n.fld R.DIAG_FSUM_NMINOR = min (n.faults.filter (fun f => f.2.2 == 1)).length 255 ∧
      n.fld R.DIAG_FSUM_NMAJOR = min (n.faults.filter (fun f => f.2.2 == 2)).length 255 ∧
      n.flag R.DIAG_FSUM_MINOR = n.faults.any (fun f => f.2.2 == 1) ∧ n.flag R.DIAG_FSUM_MAJOR = n.faults.any (fun f => f.2.2 == 2)
    Events m m' (fun _ => False) ∧ (code, sub, cls) ∈ m'.faults ∧ shown m' ∧
    (cls ≥ 2 → m'.fld R.DIAG_LFLT_CODE = code ∧ m'.fld R.DIAG_LFLT_CLASS = cls ∧ m'.flag R.DIAG_LFLT_VALID = true ∧ m'.fld64 R.DIAG_LFLTT_LO = m.now % 2 ^ 64) ∧
    (cls = 3 → m'.fatal = some code) ∧ (cls ≠ 3 → m'.fatal = m.fatal) ∧
    (cls = 2 → m.role = 0 → m.st = .run → m'.flag R.DIAG_FSUM_DEGRADED = true) ∧
    ((code, sub, cls) ∈ m.faults → (code, sub, cls) ≠ (0x3013, 0, 1) → Events { m with faults := c.faults } c (fun _ => False) ∧
      (code, sub, cls) ∉ c.faults ∧ shown c)

/-- R66–R71, R78, R81. A squash of the scan in RUN frees its engines, counts, consumes the restart budget for the codes that do, and reruns on the newest snapshot the
task holds; code 7 leaves no rerun. -/
def Obligations.SquashesRerun : Prop :=
  ∀ (m : Mach) (k code : Nat) (sc : Scan), k < 32 → code < 8 → (m.task k).run = some sc → m.following = false →
    let m' := m.squashRun k code
    Events m m' (fun _ => False) ∧ (m'.task k).run = none ∧
    (∀ g ∈ sc.segs, g.st = .running → (m'.eng g.eng).act = none ∧ (m'.eng g.eng).flight = [] ∧ (m'.eng g.eng).freeAt = m.now + 60) ∧
    m'.fld (R.TSK_SQUASHES k) = (m.fld (R.TSK_SQUASHES k) + 1) % 2 ^ 32 ∧ m'.fld (R.IMG_SQCNT code) = (m.fld (R.IMG_SQCNT code) + 1) % 2 ^ 32 ∧
    (code ≤ 2 → m'.fld (R.TSK_RESTARTS k) = (m.fld (R.TSK_RESTARTS k) + 1) % 2 ^ 32 ∧
      m'.fld (R.TSK_BUDGET_RSTLEFT k) = m.fld (R.TSK_BUDGET_RSTLEFT k) - 1) ∧
    (code = 7 → (m'.task k).snap = (m.task k).snap) ∧
    (code ≠ 7 → ∃ r, (m'.task k).snap = some r ∧ r.snap = (match (m.task k).snap with
        | some p => p.snap
        | none => sc.snap) ∧ (∀ g ∈ r.segs, g.st = .waiting ∧ g.frame = [] ∧ g.deferred = []) ∧ r.rset = [])

/-- R265, R330–R332, R340, R344, R345, R355, R356. Switching a channel on takes it on the bus, or is held until the frame in progress ends; switching it
off waits for that frame. A request and a cancellation of a transmit buffer, which waits for the
frame on the bus; a frame that leaves is sent with its start of frame captured. SYNC,
FOLLOW-UP, the refresh frames and the heartbeats are queued with the content of their layouts.
Completes, with its own effect, in the states its clauses name: syncSend, followUpSend, outrRefresh, heartbeatSend, txRequest, txCancel, txFrameDone,
bbChannelEn. -/
def Obligations.BayTransmission : Prop :=
  ∀ (s : State) (t : Nat) (c : Fin 2),
    let m := arrive t s
    let on := m.fld (R.BB_STAT_STATE c) = 1 ∨ m.fld (R.BB_STAT_STATE c) = 2
    let only := fun (m' : Mach) => BayOnly m m' c
    let state := fun (m' : Mach) => m'.fld (R.BB_STAT_STATE c)
    (∀ b, m.alive = true → Answers (.bbChannelEn t c b) s (fun m' => only m' ∧ m'.flag (R.BB_CFG_EN c) = b ∧
      (b = true → (m.bay c).offPend = true → m'.flag (R.BB_STAT_ENPEND c) = true ∧ state m' = state m) ∧
      (b = true → (m.bay c).offPend = false → state m' = if state m = 0 then 1 else state m) ∧
      (b = false → (m.bay c).bus ≠ none → (m'.bay c).offPend = true ∧ state m' = state m) ∧
      (b = false → (m.bay c).bus = none → state m' = if on then 0 else state m))) ∧
    (∀ b : Fin 32, m.alive = true → Answers (.txRequest t c b) s (fun m' => only m' ∧ m'.flag (R.BB_TXBUF_CTRL_REQ c b) = true ∧
      m'.txData c b = m.txData c b ∧ m'.fld (R.BB_TXBUF_ID c b) = m.fld (R.BB_TXBUF_ID c b))) ∧
    (∀ b : Fin 32, m.alive = true → m.flag (R.BB_TXBUF_CTRL_REQ c b) = true → Answers (.txCancel t c b) s (fun m' => only m' ∧
      ((m.bay c).bus ≠ some b.val → m'.flag (R.BB_TXBUF_CTRL_CNCL c b) = true ∧ ((m.bay c).txq = [] → m'.flag (R.BB_TXBUF_CTRL_REQ c b) = false)) ∧
      ((m.bay c).bus = some b.val → (m'.bay c).cancel = true ∧ (m'.bay c).bus = some b.val ∧ m'.flag (R.BB_TXBUF_CTRL_REQ c b) = true))) ∧
    (∀ n sof, (m.bay c).bus = some n → n < 32 → Answers (.txFrameDone t c sof) s (fun m' => only m' ∧
      Out.can c (m.fld (R.BB_TXBUF_ID c n)) (m.txData c n) ∈ m'.out ∧ m'.flag (R.BB_TXBUF_CTRL_DONE c n) = true ∧
      m'.fld64 (R.BB_TXBUF_TS_LO c n) = sof % 2 ^ 64 ∧ m'.fld (R.BB_TXCNT c) = (m.fld (R.BB_TXCNT c) + 1) % 2 ^ 32 ∧
      m'.fld (R.BB_ECR_TEC c) = m.fld (R.BB_ECR_TEC c) - 1)) ∧
    (on → m.holderRun = true → m.flag (R.BB_CFG_CONF c) = true → m.now % 10000000 = 0 → Answers (.syncSend t c) s (fun m' => only m' ∧
      m'.fld (R.BB_RSEQ_RSEQ c) = (m.fld (R.BB_RSEQ_RSEQ c) + 1) % 2 ^ 16 ∧
      Waits m' c (0x010 + m.side) (m.refFrame 1 (m'.fld (R.BB_RSEQ_RSEQ c)) 0))) ∧
    (∀ rseq sof, on → m.holderRun = true → (m.bay c).sync = some (rseq, sof) → Answers (.followUpSend t c) s (fun m' => only m' ∧ (m'.bay c).sync = none ∧
      Waits m' c (0x010 + m.side) (m.refFrame 2 rseq (sof + m.fld (R.BB_TXDLY_DELAY c) * 10)))) ∧
    (∀ n : Fin 16, on → m.sendsOutputs = true → m.staSends c (n.val + 1) = true → 0 < m.fld (R.BB_TIMING_RFPER c) →
      m.now % (m.fld (R.BB_TIMING_RFPER c) * 1000000) = n.val * (m.fld (R.BB_TIMING_RFPER c) * 62500) → m.txHas c (idOutu (n.val + 1) m.side) = false →
      Answers (.outrRefresh t c n) s (fun m' => only m' ∧ Waits m' c (0x100 + 2 * n.val + m.side) (m.outFrame c (n.val + 1) 2 m.appliedCsn 0))) ∧
    (m.st = .run → m.flag R.PRT_CFG_PAIRED = true → m.hasToken = false → (∀ u, m.pair.hbSent = some u → u + m.leaseNs / 3 ≤ m.now + 10000) →
      on → m.flag (R.BB_CFG_CONF c) = true → Answers (.heartbeatSend t) s (fun m' => m'.pair.hbSent = some m.now ∧ Waits m' c (0x7F0 + m.side) m.hbFrame))

/-- R325, R349, R351. An error raises the transmitter's counter by 8 or the receiver's by 1, error-passive from 128; bus-off counts, raises its fault and drops
every configured station; recovery clears both counters and the fault, to the state its EN says. A malformed frame and one with an identifier of the
module's own count, the latter with its fault.
Completes, with its own effect, in the states its clauses name: busOff, busOffRecovery, malformedFrame, foreignTransmitter, bitStuffCrcFormError. -/
def Obligations.BayErrors : Prop :=
  ∀ (s : State) (t : Nat) (c : Fin 2),
    let m := arrive t s
    let on := m.fld (R.BB_STAT_STATE c) = 1 ∨ m.fld (R.BB_STAT_STATE c) = 2
    let only := fun (m' : Mach) => BayOnly m m' c
    (on → Answers (.bitStuffCrcFormError t c true) s (fun m' => only m' ∧ m'.fld (R.BB_ECR_TEC c) = min 255 (m.fld (R.BB_ECR_TEC c) + 8) ∧
      m'.fld (R.BB_STAT_STATE c) = (if 127 < m'.fld (R.BB_ECR_TEC c) ∨ m.flag (R.BB_ECR_RP c) = true then 2 else 1) ∧
      m'.fld (R.BB_ECR_REC c) = m.fld (R.BB_ECR_REC c))) ∧
    (on → Answers (.bitStuffCrcFormError t c false) s (fun m' => only m' ∧ m'.fld (R.BB_ECR_TEC c) = m.fld (R.BB_ECR_TEC c) ∧
      (m.fld (R.BB_ECR_REC c) = 127 → m'.flag (R.BB_ECR_RP c) = true ∧ m'.fld (R.BB_STAT_STATE c) = 2) ∧
      (m.fld (R.BB_ECR_REC c) ≠ 127 → m'.fld (R.BB_ECR_REC c) = m.fld (R.BB_ECR_REC c) + 1))) ∧
    (on → (∀ n, (m.bay c).bus = some n → n < 32) → Answers (.busOff t c) s (fun m' => only m' ∧ m'.fld (R.BB_STAT_STATE c) = 3 ∧ (m'.bay c).bus = none ∧ (m'.bay c).offPend = false ∧
      (∀ n, (m.bay c).bus = some n → (m.bay c).cancel = true → (m.bay c).txq = [] → m'.flag (R.BB_TXBUF_CTRL_REQ c n) = false ∧ m'.flag (R.BB_TXBUF_CTRL_CNCL c n) = true) ∧
      m'.fld (R.BB_ECR_BOFF c) = min (m.fld (R.BB_ECR_BOFF c) + 1) (2 ^ 16 - 1) ∧ (0x33C0 + c.val, 0, 1) ∈ m'.faults ∧
      ∀ n, 1 ≤ n → n ≤ 16 → m.onBus c n = true → m'.staState c n = ssAbsent ∧ (m'.sta c n).heard = none)) ∧
    (m.fld (R.BB_STAT_STATE c) = 3 → Answers (.busOffRecovery t c) s (fun m' => only m' ∧ m'.fld (R.BB_ECR_TEC c) = 0 ∧ m'.fld (R.BB_ECR_REC c) = 0 ∧
      m'.flag (R.BB_ECR_RP c) = false ∧ m'.fld (R.BB_STAT_STATE c) = (if m.flag (R.BB_CFG_EN c) then 1 else 0) ∧ (0x33C0 + c.val, 0, 1) ∉ m'.faults)) ∧
    (∀ foreign f, on → foreign = true ∨ canBad f.id.toNat f.data = true → Answers (.malformedFrame t c foreign f) s (fun m' => only m' ∧
      m'.fld (R.BB_RXCNT c) = (m.fld (R.BB_RXCNT c) + 1) % 2 ^ 32 ∧ m'.fld (R.BB_VIOL_MALF c) = min (m.fld (R.BB_VIOL_MALF c) + 1) (2 ^ 16 - 1) ∧
      ∀ n, 1 ≤ n → n ≤ 16 → m'.staState c n = m.staState c n)) ∧
    (∀ f, on → m.ownId f.id.toNat = true → Answers (.foreignTransmitter t c f) s (fun m' => only m' ∧
      m'.fld (R.BB_RXCNT c) = (m.fld (R.BB_RXCNT c) + 1) % 2 ^ 32 ∧ m'.fld (R.BB_VIOL_FOREIGN c) = min (m.fld (R.BB_VIOL_FOREIGN c) + 1) (2 ^ 16 - 1) ∧
      m'.faultOn (0x33C2 + c) = true))

/-- R342, R343, R347, R348, R594, R595. What a configured, not isolated station's frame does when a receive buffer takes it: it is heard and its time quality kept.
An EVT record later than the last by ESEQ becomes the last and, once the inputs are written, the source value and quality of its input. An STS shows its
registers and moves the station: ABSENT to IDENT and, synchronised, SYNC to IMAGE on the holder, ABSENT to ONLINE elsewhere; one with another ESEQ brings the inputs
of a station ONLINE, and in IMAGE the first whose ACSN qualifies brings all of them and begins ENABLE. The partner's other frames are stored. A response to the exchange
in hand moves it on.
Completes, with its own effect, in the states its clauses name: evtFrame, stsFrame, svcResponse, heartbeatFrame. -/
def Obligations.StationFrames : Prop :=
  ∀ (s : State) (t : Nat) (c : Fin 2) (f : CanFrame) (n : Nat),
    let m := arrive t s
    let on := m.fld (R.BB_STAT_STATE c) = 1 ∨ m.fld (R.BB_STAT_STATE c) = 2
    let x := m.sta c n
    let d := f.data
    let id := f.id.toNat
    let st := m.staState c n
    let fit := on ∧ (m.st = .stop ∨ m.st = .run) ∧ 1 ≤ n ∧ n ≤ 16 ∧ canBad id d = false ∧ x.conf = true ∧ st ≠ ssIsolated ∧ m.rxBuf c id ≠ none
    let counted := fun (m' : Mach) => BayOnly m m' c ∧ m'.fld (R.BB_RXCNT c) = (m.fld (R.BB_RXCNT c) + 1) % 2 ^ 32 ∧ (m'.sta c n).heard = some m.now
    let synced := (byteAt d 0).testBit 0
    (fit → id = 0x080 + n → Answers (.evtFrame t c f) s (fun m' => counted m' ∧ m'.flag (R.BB_STA_STAT_SYNC c (n - 1)) = synced ∧
      (x.seqFixed = true → byteAt d 2 = 1 → byteAt d 14 ≤ 63 → eseqLater (fieldAt d 12 2) (m.fld (R.BB_STA_ESEQ_LAST c (n - 1))) = true →
        m'.fld (R.BB_STA_ESEQ_LAST c (n - 1)) = fieldAt d 12 2 ∧
        (x.written = true → (m'.pt (staIn c n + byteAt d 14)).sv = (byteAt d 15).testBit 0 ∧ (m'.pt (staIn c n + byteAt d 14)).sq = byteAt d 15 / 2 % 4)))) ∧
    (fit → id = 0x180 + n → Answers (.stsFrame t c f) s (fun m' => counted m' ∧ m'.flag (R.BB_STA_STAT_SYNC c (n - 1)) = synced ∧
      m'.flag (R.BB_STA_STAT_OUTEN c (n - 1)) = (byteAt d 0).testBit 1 ∧ m'.flag (R.BB_STA_STAT_FAILSAFE c (n - 1)) = (byteAt d 0).testBit 2 ∧
      m'.fld (R.BB_STA_ACSN c (n - 1)) = fieldAt d 28 4 ∧ m'.fld (R.BB_STA_CFG_DISAG c (n - 1)) = fieldAt d 34 2 ∧
      m'.fld (R.BB_STA_ESEQ_LAST c (n - 1)) = fieldAt d 2 2 ∧ (m'.sta c n).seqFixed = true ∧
      (m.holderRun = true → st = ssAbsent → x.retryAt = none → m'.staState c n = ssIdent) ∧
      (m.holderRun = true → st = ssSync → synced = true → m'.staState c n = ssImage) ∧
      (∀ e, m.holderRun = true → st = ssImage → x.exch = some e → e.kind = 3 → fieldAt d 28 6 = x.image → (m'.sta c n).written = true ∧
        (∃ e', (m'.sta c n).exch = some e' ∧ e'.kind = 4) ∧ ∀ j, j < 64 → (m'.pt (staIn c n + j)).sv = stsIn d j ∧ (m'.pt (staIn c n + j)).sq = stsQ d j) ∧
      (st = ssOnline → x.seqFixed = true → m.fld (R.BB_STA_ESEQ_LAST c (n - 1)) ≠ fieldAt d 2 2 → ∀ j, j < 64 →
        (m'.pt (staIn c n + j)).sv = stsIn d j ∧ (m'.pt (staIn c n + j)).sq = stsQ d j) ∧
      (m.holderRun = false → st = ssAbsent → m'.staState c n = ssOnline))) ∧
    (∀ e, fit → id = 0x201 + 2 * (n - 1) → m.holderRun = true → x.exch = some e → byteAt d 2 = e.tag → Answers (.svcResponse t c f) s (fun m' => counted m' ∧
      (e.kind = 0 → byteAt d 0 = 0x81 → byteAt d 3 = 0 → fieldAt d 16 4 = cfgCrc x.items → m'.staState c n = ssSync) ∧
      (e.kind = 0 → byteAt d 0 = 0x81 → byteAt d 3 = 0 → fieldAt d 16 4 ≠ cfgCrc x.items → m'.staState c n = ssConfig) ∧
      (e.kind = 2 → byteAt d 0 = 0x83 → byteAt d 3 = 0 → m'.staState c n = ssSync) ∧
      (e.kind = 2 → byteAt d 0 = 0x83 → byteAt d 3 = 2 → m'.staState c n = ssAbsent ∧ (m'.sta c n).retryAt = some (m.now + 10000000000)) ∧
      (e.kind = 4 → byteAt d 0 = 0x84 → byteAt d 3 = 0 → m'.staState c n = ssOnline))) ∧
    (on → id = 0x7F0 + (1 - m.side) → m.side ≤ 1 → canBad id d = false → m.rxBuf c id ≠ none → m.linkOn = true → (byteAt d 0).testBit 1 = false →
      Answers (.heartbeatFrame t c f) s (fun m' => m'.pair.ptnHbAt = some m.now ∧ m'.pair.ptnToken = false ∧ m'.flag R.PRT_STAT_PHB = true ∧
        m'.fld (R.BB_RXCNT c) = (m.fld (R.BB_RXCNT c) + 1) % 2 ^ 32)) ∧
    (∀ k, on → m.partnerId id = true → canClass id ≠ .hb (1 - m.side) → m.rxBuf c id = some k → Answers (.heartbeatFrame t c f) s (fun m' => BayOnly m m' c ∧
      m'.fld (R.BB_RXCNT c) = (m.fld (R.BB_RXCNT c) + 1) % 2 ^ 32 ∧ m'.fld (R.BB_RXBUF_ID_ID c k) = id ∧ m'.fld64 (R.BB_RXBUF_TS_LO c k) = f.sof % 2 ^ 64 ∧
      m'.flag (R.BB_RXBUF_CTRL_NEWDAT c k) = !m.bayRuns ∧ (m.flag (R.BB_RXBUF_CTRL_NEWDAT c k) = true → m'.flag (R.BB_RXBUF_CTRL_OVR c k) = true)))

/-- R347, R349, R352, R595. 20 ms without an answer repeats an exchange, and the third attempt's end returns the station to ABSENT; a second in SYNC begins the
image; silence drops a station out, with its inputs at their substitutes or invalid and its fault; sixteen violations in a second isolate it, for ten
seconds; the wait before a new configuration ends.
Completes, with its own effect, in the states its clauses name: exchangeTimeout, syncWaitExpiry, stationDropout, stationIsolation, isolationEnd,
configRetry. -/
def Obligations.StationLife : Prop :=
  ∀ (s : State) (t : Nat) (c : Fin 2) (i : Fin 16),
    let m := arrive t s
    let n := i.val + 1
    let x := m.sta c n
    let st := m.staState c n
    let only := fun (m' : Mach) => BayOnly m m' c
    let runs := m.st = .stop ∨ m.st = .run
    let out := fun (m' : Mach) => only m' ∧ (m'.sta c n).heard = none ∧ m'.faultOn (staCode 0 c n) = true ∧
      m'.fld (R.BB_STA_STAT_DROPS c i) = min (m.fld (R.BB_STA_STAT_DROPS c i) + 1) (2 ^ 16 - 1) ∧
      ∀ j, j < 64 → (m'.pt (staIn c n + j)).sq = (if x.subMask.getLsbD j then 2 else 1) ∧
        (x.subMask.getLsbD j = true → (m'.pt (staIn c n + j)).sv = x.subVal.getLsbD j)
    (∀ e, x.exch = some e → m.holderRun = true → e.since + 20000000 ≤ m.now → Answers (.exchangeTimeout t c i) s (fun m' => only m' ∧
      (e.n < 3 → m'.staState c n = st ∧ ∃ e', (m'.sta c n).exch = some e' ∧ e'.kind = e.kind ∧ e'.n = e.n + 1 ∧ e'.since = m.now) ∧
      (3 ≤ e.n → m'.staState c n = ssAbsent ∧ (m'.sta c n).exch = none))) ∧
    (m.holderRun = true → st = ssSync → x.since + 1000000000 ≤ m.now → Answers (.syncWaitExpiry t c i) s (fun m' => only m' ∧
      m'.staState c n = ssImage ∧ ∃ e, (m'.sta c n).exch = some e ∧ e.kind = 3)) ∧
    (∀ h, x.heard = some h → runs → st ≠ 0 → h + m.fld (R.BB_TIMING_TDROP c) * 1000000 ≤ m.now → Answers (.stationDropout t c i) s (fun m' =>
      out m' ∧ m'.staState c n = ssAbsent)) ∧
    (runs → st ≠ 0 → st ≠ ssIsolated → 16 ≤ (x.viol.filter (fun u => decide (m.now < u + 1000000000))).length →
      Answers (.stationIsolation t c i) s (fun m' => out m' ∧ m'.staState c n = ssIsolated ∧ (staCode 3 c n, 0, 1) ∈ m'.faults)) ∧
    (st = ssIsolated → x.since + 10000000000 ≤ m.now → Answers (.isolationEnd t c i) s (fun m' => only m' ∧ m'.staState c n = ssAbsent)) ∧
    (∀ r, x.retryAt = some r → r ≤ m.now → Answers (.configRetry t c i) s (fun m' => m' = { m with stas := m'.stas } ∧
      m'.sta c n = { x with retryAt := none } ∧ ∀ k, k ≠ 16 * c.val + i.val → sget {} m'.stas k = sget {} m.stas k))

/-- R188, R210–R212, R215, R304, R305, R307. An input accepted at a sample toggles its source value, stamped as its STAMP bit says less the input delay; a blocked
point is released after its quiet time; a measurement of a monitored input is kept with its class, and twenty in a row declare a break or its end;
a group that goes absent turns its inputs invalid, and one that returns takes their levels, each with its fault.
Completes, with its own effect, in the states its clauses name: diTransitionAccepted, chatterRelease, wireBreakMeasurement, wireBreakDeclaration,
inputGroupAbsent, inputGroupReturn. -/
def Obligations.FieldInputs : Prop :=
  ∀ (s : State) (t : Nat),
    let m := arrive t s
    let only := fun (m' : Mach) => FieldOnly m m'
    (∀ ins : List (Fin 64 × Nat), m.alive = true → m.now % 100 = 0 → (ins.map (·.1)).Nodup → Answers (.diTransitionAccepted t ins) s (fun m' => only m' ∧
      ∀ x ∈ ins, m.flag (R.FIO_DIG_STAT_OK (x.1.val / 16)) = true → x.2 ≤ m.now - m.diTime x.1 →
        (m'.pt x.1).sv = (!(m.pt x.1).sv) ∧ (m'.pt x.1).sq = m.diQ x.1 ∧
        (m'.pt x.1).sAt = (if m.flag (R.EVU_DI_CFG_STAMP x.1) then m.now - m.diTime x.1 else x.2) - m.fld R.EVU_DIDLY_DELAY * 10)) ∧
    (∀ (i : Fin 4352) a w q, m.alive = true → m.chatter i = some (a, w, q) → (m.pt i).blocked = true → (m.pt i).lastAcc + q ≤ m.now →
      Answers (.chatterRelease t i) s (fun m' => only m' ∧ (m'.pt i).blocked = false ∧ (m'.pt i).sv = (m.pt i).sv)) ∧
    (∀ (n : Fin 64) cur, m.alive = true → m.flag (diBit R.FIO_WBEN_LO n) = true → Answers (.wireBreakMeasurement t n cur) s (fun m' =>
      m' = { m with fio := { m.fio with di := m'.fio.di } } ∧ (∀ k, k ≠ n.val → m'.di k = m.di k) ∧ (m'.di n).cur = cur ∧ (m'.di n).decl = (m.di n).decl ∧
      (m'.di n).cls = (if cur < 300 then 1 else if cur < 500 then (m.di n).cls else 2) ∧
      (m'.di n).run = if 300 ≤ cur ∧ cur < 500 then 0 else if (m'.di n).cls = (m.di n).cls then (m.di n).run + 1 else 1)) ∧
    (∀ n : Fin 64, m.alive = true → m.flag (diBit R.FIO_WBEN_LO n) = true → 20 ≤ (m.di n).run →
      ((m.di n).cls = 1 → (m.di n).decl ≠ 2 → Answers (.wireBreakDeclaration t n) s (fun m' => only m' ∧ (m'.di n).decl = 2 ∧
        m'.flag (diBit R.FIO_WB_LO n) = true ∧ (m.flag (diBit R.FIO_WB_LO n) = false → (0x31C8, n.val, 1) ∈ m'.faults ∧ (m'.pt n).sq = 1 ∧
          (m.st = .run → 2 ≤ m.role → (m'.pt n).q = (m.pt n).q)))) ∧
      ((m.di n).cls = 2 → (m.di n).decl ≠ 1 → Answers (.wireBreakDeclaration t n) s (fun m' => only m' ∧ (m'.di n).decl = 1 ∧
        m'.flag (diBit R.FIO_WB_LO n) = false ∧ (m.flag (diBit R.FIO_WB_LO n) = true → (0x31C8, n.val, 1) ∉ m'.faults)))) ∧
    (∀ g : Fin 4, m.alive = true → m.faultOn (0x31C4 + g.val) = false → Answers (.inputGroupAbsent t g) s (fun m' => only m' ∧
      m'.flag (R.FIO_DIG_STAT_OK g) = false ∧ m'.fld (R.FIO_DIG_STAT_LOSSCNT g) = min (m.fld (R.FIO_DIG_STAT_LOSSCNT g) + 1) (2 ^ 16 - 1) ∧
      (0x31C4 + g.val, 0, 2) ∈ m'.faults ∧ ∀ i, i < 16 → (m'.pt (16 * g.val + i)).sq = 1 ∧ (m'.pt (16 * g.val + i)).sv = (m.pt (16 * g.val + i)).rv)) ∧
    (∀ (g : Fin 4) levels, m.alive = true → m.flag (R.FIO_DIG_STAT_OK g) = false → Answers (.inputGroupReturn t g levels) s (fun m' => only m' ∧
      m'.flag (R.FIO_DIG_STAT_OK g) = true ∧ (0x31C4 + g.val, 0, 2) ∉ m'.faults ∧
      ∀ i, i < 16 → (m'.pt (16 * g.val + i)).sv = levels.getLsbD i ∧
        (m'.pt (16 * g.val + i)).sq = if m.flag (diBit R.FIO_WB_LO (16 * g.val + i)) then 1 else 0))

/-- R308, R316, R318, R319, R321, R593. A readback transition toggles RB and the readback's source value, and ends the conditions that it contradicts; a switch
follows its command, counting a turn-on and beginning the clamp phase when it turns off under load; a clamp phase ends, and one beyond 2 ms raises its
fault; the health contact is refreshed where it may be energised and drops after 10 ms; a change of it opens both paths for 0.1 ms to 1.0 ms, and they are
never closed together.
Completes, with its own effect, in the states its clauses name: readbackTransition, clampPhaseEnd, clampLong, healthContactRefresh,
healthContactTimeout, switchTransitionEnd. -/
def Obligations.FieldSwitches : Prop :=
  ∀ (s : State) (t : Nat),
    let m := arrive t s
    let only := fun (m' : Mach) => FieldOnly m m'
    let changed := fun (on : Bool) (m' : Mach) => m' = { m with fio := { m.fio with hc := on, hcAt := m'.fio.hcAt, hcEnd := m'.fio.hcEnd }, free := m'.free } ∧
      (m.fio.hc = on → m'.fio.hcEnd = m.fio.hcEnd ∧ m'.free = m.free) ∧
      (m.fio.hc ≠ on → m'.hcNo = false ∧ m'.hcNc = false ∧ m.now + 100000 ≤ m'.fio.hcEnd ∧ m'.fio.hcEnd ≤ m.now + 1000000)
    (∀ (n : Fin 32) first, m.alive = true → first + 2000 ≤ m.now → Answers (.readbackTransition t n first) s (fun m' => only m' ∧
      let rb := !m.flag (R.FIO_DO_STAT_RB n)
      m'.flag (R.FIO_DO_STAT_RB n) = rb ∧ (m'.pt (64 + n.val)).sv = rb ∧ (m.st = .run → 2 ≤ m.role → (m'.pt (64 + n.val)).v = (m.pt (64 + n.val)).v) ∧ (rb = true → m'.flag (R.FIO_DO_STAT_RBERR n) = false) ∧
      (rb = false → m'.flag (R.FIO_DO_STAT_RBFEED n) = false))) ∧
    (∀ (n : Fin 32) load, m.fio.cmd.getLsbD n ≠ m.fio.sw.getLsbD n → m.fio.clamp.getLsbD n = false → Answers (.switchTransitionEnd t n load) s (fun m' => only m' ∧
      (∀ k, k < 32 → m'.fio.sw.getLsbD k = if k = n.val then m.fio.cmd.getLsbD n else m.fio.sw.getLsbD k) ∧
      (∀ k, k < 32 → m'.fio.clamp.getLsbD k = if k = n.val ∧ m.fio.cmd.getLsbD n = false ∧ load = true then true else m.fio.clamp.getLsbD k) ∧
      m'.fld (R.FIO_DO_CNT_ONS n) = (m.fld (R.FIO_DO_CNT_ONS n) + (m.fio.cmd.getLsbD n).toNat) % 2 ^ 16)) ∧
    (∀ n : Fin 32, m.fio.clamp.getLsbD n = true → Answers (.clampPhaseEnd t n) s (fun m' => m' = { m with fio := m'.fio } ∧ m'.fio.cmd = m.fio.cmd ∧
      m'.fio.sw = m.fio.sw ∧ (∀ k, k < 32 → m'.fio.clamp.getLsbD k = if k = n.val then false else m.fio.clamp.getLsbD k) ∧
      (m.fio.cmd.getLsbD n = true → sget 0 m'.fio.onAt n = m.now))) ∧
    (∀ n : Fin 32, m.alive = true → m.fio.clamp.getLsbD n = true → sget 0 m.fio.clampAt n + 2000000 ≤ m.now → Answers (.clampLong t n) s (fun m' => only m' ∧
      m'.flag (R.FIO_DO_STAT_CLAMPLONG n) = true ∧ (0x31C9, n.val, 1) ∈ m'.faults ∧ m'.fio = m.fio)) ∧
    (m.alive = true → m.hcMay = true → Answers (.healthContactRefresh t) s (fun m' => m'.fio.hc = true ∧ m'.fio.hcAt = m.now ∧ changed true m')) ∧
    (m.alive = true → m.fio.hcAt + 10000000 ≤ m.now → Answers (.healthContactTimeout t) s (fun m' => m'.fio.hc = false ∧ m'.fio.hcAt = m.fio.hcAt ∧ changed false m')) ∧
    (∀ m : Mach, ¬(m.hcNo = true ∧ m.hcNc = true))

/-- R313, R314. Each supervised condition of the outputs sets its flag and HIST, raises its fault and makes its readback invalid; a latching one counts a trip;
an overcurrent or the loss of the supply of a group does so for its sixteen channels. Each ends with its flag and its fault cleared: a wire condition, the
supply, and the latched ones when they are re-armed.
Completes, with its own effect, in the states its clauses name: overload, overTemperature, groupOvercurrent, openWireOnState, openWireOffState,
readbackMissing, externalFeed, fieldSupplyAbsent, fieldSupplyPresent, ovlRearm, otmpRearm, gtripRearm, openWireCleared. -/
def Obligations.FieldSupervision : Prop :=
  ∀ (s : State) (t : Nat),
    let m := arrive t s
    let only := fun (m' : Mach) => FieldOnly m m'
    let raised := fun (n : Fin 32) (f : Fld) (code sub : Nat) (m' : Mach) => only m' ∧ m'.fio = m.fio ∧ m'.flag f = true ∧
      m'.flag (R.FIO_DO_STAT_HIST n) = true ∧ (code + n.val, sub, 1) ∈ m'.faults ∧ (m'.pt (64 + n.val)).sq = 1
    let cleared := fun (n : Fin 32) (f : Fld) (code sub : Nat) (m' : Mach) => only m' ∧ m'.fio = m.fio ∧ m'.flag f = false ∧ (code + n.val, sub, 1) ∉ m'.faults
    let trips := fun (n : Fin 32) (m' : Mach) => m'.fld (R.FIO_DO_CNT_TRIPS n) = min (m.fld (R.FIO_DO_CNT_TRIPS n) + 1) (2 ^ 16 - 1)
    (∀ n : Fin 32, m.alive = true →
      (m.fio.sw.getLsbD n = true → m.flag (R.FIO_DO_STAT_OVL n) = false → Answers (.overload t n) s (fun m' => raised n (R.FIO_DO_STAT_OVL n) 0x3160 0 m' ∧ trips n m')) ∧
      (m.flag (R.FIO_DO_STAT_OTMP n) = false → Answers (.overTemperature t n) s (fun m' => raised n (R.FIO_DO_STAT_OTMP n) 0x3160 1 m' ∧ trips n m')) ∧
      (m.fio.sw.getLsbD n = true → m.flag (R.FIO_DO_CFG_OWON n) = true → m.flag (R.FIO_DO_STAT_OPENON n) = false →
        Answers (.openWireOnState t n) s (raised n (R.FIO_DO_STAT_OPENON n) 0x3180 0)) ∧
      (m.fio.sw.getLsbD n = false → m.fio.clamp.getLsbD n = false → m.flag (R.FIO_DO_STAT_RB n) = false → m.flag (R.FIO_DO_CFG_OWOFF n) = true →
        m.flag (R.FIO_DO_STAT_OPENOFF n) = false → Answers (.openWireOffState t n) s (raised n (R.FIO_DO_STAT_OPENOFF n) 0x3180 1)) ∧
      (m.fio.cmd.getLsbD n = true → m.fio.clamp.getLsbD n = false → m.flag (R.FIO_DO_STAT_RB n) = false → m.flag (R.FIO_DO_STAT_RBERR n) = false →
        sget 0 m.fio.onAt n + 100000 ≤ m.now → Answers (.readbackMissing t n) s (raised n (R.FIO_DO_STAT_RBERR n) 0x31A0 0)) ∧
      (m.st = .run → m.role ≤ 1 → m.fio.sw.getLsbD n = false → m.fio.clamp.getLsbD n = false → m.flag (R.FIO_DO_STAT_RB n) = true →
        m.flag (R.FIO_DO_STAT_RBFEED n) = false → Answers (.externalFeed t n) s (raised n (R.FIO_DO_STAT_RBFEED n) 0x31A0 1)) ∧
      (m.flag (R.FIO_DO_STAT_OPENON n) = true → Answers (.openWireCleared t n true) s (cleared n (R.FIO_DO_STAT_OPENON n) 0x3180 0)) ∧
      (m.flag (R.FIO_DO_STAT_OPENOFF n) = true → Answers (.openWireCleared t n false) s (cleared n (R.FIO_DO_STAT_OPENOFF n) 0x3180 1)) ∧
      (m.flag (R.FIO_DO_STAT_OVL n) = true → Answers (.ovlRearm t n) s (cleared n (R.FIO_DO_STAT_OVL n) 0x3160 0)) ∧
      (m.flag (R.FIO_DO_STAT_OTMP n) = true → Answers (.otmpRearm t n) s (cleared n (R.FIO_DO_STAT_OTMP n) 0x3160 1))) ∧
    (∀ h : Fin 2, m.alive = true →
      (m.flag (R.FIO_DOG_STAT_GTRIP h) = false → Answers (.groupOvercurrent t h) s (fun m' => only m' ∧ m'.flag (R.FIO_DOG_STAT_GTRIP h) = true ∧
        (0x31C0 + h.val, 0, 2) ∈ m'.faults ∧ ∀ i, i < 16 → (m'.pt (64 + 16 * h.val + i)).sq = 1 ∧ m'.flag (R.FIO_DO_STAT_HIST (16 * h.val + i)) = true)) ∧
      (m.flag (R.FIO_DOG_STAT_GTRIP h) = true → Answers (.gtripRearm t h) s (fun m' => only m' ∧ m'.flag (R.FIO_DOG_STAT_GTRIP h) = false ∧
        (0x31C0 + h.val, 0, 2) ∉ m'.faults)) ∧
      (m.faultOn (0x31C2 + h.val) = false → Answers (.fieldSupplyAbsent t h) s (fun m' => only m' ∧ m'.flag (R.FIO_DOG_STAT_VFLDOK h) = false ∧
        (0x31C2 + h.val, 0, 1) ∈ m'.faults ∧ ∀ i, i < 16 → (m'.pt (64 + 16 * h.val + i)).sq = 1 ∧ m'.flag (R.FIO_DO_STAT_HIST (16 * h.val + i)) = true)) ∧
      (m.flag (R.FIO_DOG_STAT_VFLDOK h) = false → Answers (.fieldSupplyPresent t h) s (fun m' => only m' ∧ m'.flag (R.FIO_DOG_STAT_VFLDOK h) = true ∧
        (0x31C2 + h.val, 0, 1) ∉ m'.faults)))

/-- R592 (with R86, R127, R439, R440). What a reset keeps. Every reset keeps the RTC block, the values of manufacture and of the firmware image, WDG.OPT and
WDG.RSTCNT; a reset other than power-on keeps the watchdog block but for WDG.CTL and each slot's CFG and REMAIN, the warning and start-up counts, the
last fault, the spare record and the fault records of the image and of the engines. Every other register goes back to its reset value,
and scans, engines, the image, inputs and faults are as after power-on; the terminals' switches, the stores and the key stay as they are. -/
def Obligations.ResetsPutRegistersBack : Prop :=
  ∀ (m : Mach) (cause : Nat),
    let c := m.cleared cause
    let always := fun a => (0x40000 ≤ a ∧ a < 0x50000) ∨ a ∈ [0x50008, 0x5000C, 0x90030, 0xA0008, 0xB0010, 0xB8010, 0xC0010, 0xC0014, 0xC0118, 0xC0158, 0x110080, 0x110084] ∨
      ((R.UPD_SERIAL 0).addr ≤ a ∧ a ≤ (R.UPD_SERIAL 3).addr)
    let warm := fun a => (0x50000 < a ∧ a < 0x60000 ∧ ¬ (0x50100 ≤ a ∧ (a - 0x50100) % 0x20 ≤ 4)) ∨
      a ∈ [R.PWR_PFW.addr, R.PWR_STARTDUR.addr, R.DIAG_LFLT.addr, R.DIAG_LFLTT_LO.addr, R.DIAG_LFLTT_HI.addr, R.DIAG_SPARE.addr]
    let fatal := fun a => a = R.IMG_FSTAT.addr ∨ ∃ e, e < 16 ∧ a ∈ [(R.ENG_FLT e).addr, (R.ENG_FLTT_LO e).addr, (R.ENG_FLTT_HI e).addr]
    (∀ a, always a → c.rget a = m.rget a) ∧ (cause ≠ 0 → ∀ a, warm a → c.rget a = m.rget a) ∧ (cause ≠ 0 → ∀ a, fatal a → c.rget a = m.rget a) ∧
    (∀ a, ¬ always a → (cause ≠ 0 → ¬ warm a) → (cause ≠ 0 → ¬ fatal a) → c.rget a = regReset a) ∧
    c.tasks = [] ∧ c.engs = [] ∧ c.quads = [] ∧ c.img = [] ∧ c.pts = [] ∧ c.exp = [] ∧ c.faults = [] ∧ c.fatal = none ∧ c.cu.app = none ∧ c.bays = [] ∧ c.stas = [] ∧
    c.fio.sw = m.fio.sw ∧ c.fio.clamp = m.fio.clamp ∧ c.fio.cmd = 0 ∧ c.ret.recs = m.ret.recs ∧ c.upd.key = m.upd.key ∧ c.tk.cal = m.tk.cal ∧ c.out = m.out

/-- R416, R489, R563, R569, R592. A cold start brings the module from no supply to BOOT; a reset that is due, or the first after power-on, shows its cause
and its side and leads to CONFIG, or to LOADER where an image is armed or the firmware fails its check, with no client and no handle of the service
protocol left.
Completes, with its own effect, in the states its clauses name: vsupStart, moduleReset. -/
def Obligations.ResetsStartTheModule : Prop :=
  ∀ (s : State) (t : Nat) (sideB fwOk : Bool),
    let m := arrive t s
    let started := fun (c : Nat) (m' : Mach) => m'.fld R.WDG_RSTCAUSE_CAUSE = c ∧ m'.fld R.PRT_STAT_SIDE = sideB.toNat ∧ m'.sup.due = none ∧
      m'.st = (if updArmed m.upd.lines || !fwOk then .loader else .config) ∧ m'.svc.clients = [] ∧ m'.svc.handles = [] ∧ m'.fio.sw = m.fio.sw
    (m.st = .off → Answers (.vsupStart t) s (fun m' => m'.st = .boot ∧ m'.sup.resets = [] ∧ m'.ret.recs = m.ret.recs ∧ m'.upd.key = m.upd.key ∧
      ∀ a, 0x60000 ≤ a → a < 0x90000 → m'.rget a = regReset a)) ∧
    (∀ c a, m.sup.due = some (c, a) → a ≤ m.now → m.st ≠ .off → c < 8 → Answers (.moduleReset t sideB fwOk) s (started c)) ∧
    (m.sup.due = none → m.st = .boot → Answers (.moduleReset t sideB fwOk) s (started 0))

/-- R562, R564–R569. HOLDUP_OK follows the bank; a power-fail warning is shown and counted, rides through in RIDE with HOLDUP_OK and leads to SAVE without it;
VSUP back in time ends it and counts; 5 ms after it SAVE is entered, every engine quad off that holds no shade frame; a complete SAVE resets the module or shuts it down; a bank
exhausted in a state without SAVE shuts it down.
Completes, with its own effect, in the states its clauses name: holdupOkReached, powerFailWarning, rideThrough, saveEntry, saveComplete, holdupOkLost,
bankExhausted. -/
def Obligations.PowerFailAndSave : Prop :=
  ∀ (s : State) (t : Nat),
    let m := arrive t s
    let up := m.st = .config ∨ m.st = .stop ∨ m.st = .run
    let saving := fun (m' : Mach) => m'.st = .save ∧ m'.flag R.PWR_STAT_SAVE = true ∧ m'.flag R.PWR_STAT_RIDE = false ∧
      ∀ q, q < 4 → (m'.quad q).on = true → ∃ i, i < 4 ∧ m'.framesUsed (4 * q + i) ≠ 0
    (m.st ≠ .off → Answers (.holdupOkReached t) s (fun m' => Events m m' (· = R.PWR_STAT.addr) ∧ m'.flag R.PWR_STAT_HOLDUP_OK = true ∧
      (m.alive = true → (m'.pt 4245).sv = true))) ∧
    (m.st ≠ .off → Answers (.holdupOkLost t) s (fun m' => Events m m' (· = R.PWR_STAT.addr) ∧ m'.flag R.PWR_STAT_HOLDUP_OK = false ∧
      (m.alive = true → (m'.pt 4245).sv = false))) ∧
    (m.st ≠ .off → m.st ≠ .save → m.warn = none → Answers (.powerFailWarning t) s (fun m' => m'.warn = some (m.now, m.flag R.PWR_STAT_HOLDUP_OK) ∧
      m'.flag R.PWR_STAT_PFW = true ∧ m'.flag R.PWR_STAT_VSUP_OK = false ∧
      m'.fld R.PWR_PFW_WARNINGS = min (m.fld R.PWR_PFW_WARNINGS + 1) (2 ^ 16 - 1) ∧
      (up → m.flag R.PWR_STAT_HOLDUP_OK = true → m'.st = m.st ∧ m'.flag R.PWR_STAT_RIDE = true) ∧
      (up → m.flag R.PWR_STAT_HOLDUP_OK = false → saving m') ∧ (¬ up → m'.st = m.st))) ∧
    (∀ a, m.warn = some (a, true) → up → m.now ≤ a + 5100000 → Answers (.rideThrough t) s (fun m' => m'.warn = none ∧ m'.st = m.st ∧
      m'.flag R.PWR_STAT_PFW = false ∧ m'.flag R.PWR_STAT_VSUP_OK = true ∧ m'.flag R.PWR_STAT_RIDE = false ∧
      m'.fld R.PWR_PFW_RIDES = min (m.fld R.PWR_PFW_RIDES + 1) (2 ^ 16 - 1))) ∧
    (∀ a, m.warn = some (a, true) → up → a + 4900000 ≤ m.now → Answers (.saveEntry t) s saving) ∧
    (∀ back : Bool, m.st = .save → m.saveDone = true → m.sup.due = none → Answers (.saveComplete t back) s (fun m' =>
      if back then m'.st = .save ∧ m'.sup.due = some (6, m.now) else m'.st = .off ∧ m'.fld R.PWR_DOM_ON = 1)) ∧
    (m.warn ≠ none → ¬ up → m.st ≠ .save → m.st ≠ .off → Answers (.bankExhausted t) s (fun m' => m'.st = .off ∧ m'.fld R.PWR_DOM_ON = 1))

/-- R2, R256, R394, R395, R416, R478, R479, R489, R490. The loader writes an armed image sector by sector, requesting its reset when it is complete or given up before its first
sector, and showing a failure after one. In CONFIG the active slot's package is loaded when it passes every check and refused with the first that fails, to
STOP with its fault. The wait for a time source ends CONFIG: to STOP without a time, or as the start mode says, to RUN only with a key present. A pending activation is written to the
key.
Completes, with its own effect, in the states its clauses name: loaderSector, configLoad, timeSourceWaitEnd, keyActivationDone. -/
def Obligations.StartAndConfiguration : Prop :=
  ∀ (s : State) (t : Nat),
    let m := arrive t s
    let img := m.upd.store
    let done := (updDone m.upd.lines).length
    (∀ ok : Bool, m.st = .loader → updArmed m.upd.lines = true → updFailed m.upd.lines = false → Answers (.loaderSector t ok) s (fun m' =>
      m'.st = .loader ∧ m'.upd.store = img ∧
      if !ok || (m.fwHeader img true).isSome || !fwDigestOk img then
        (if done = 0 then m'.sup.due = some (5, m.now) ∧ (m'.upd.lines.getLast?.map (·.ty)) = some 5
         else m'.fld R.UPD_FWSTAT_STATE = 5 ∧ (m'.upd.lines.getLast?.map (·.ty)) = some 6)
      else if fwSectors img ≤ done + 1 then
        m'.sup.due = some (5, m.now) ∧ m'.fld R.UPD_FWBUILD = fieldAt img 16 4 ∧ m'.upd.updates = m.upd.updates + 1 ∧ (m'.upd.lines.getLast?.map (·.ty)) = some 4
      else m'.sup.due = m.sup.due ∧ m'.fld R.UPD_FWSTAT_SECTOR = (done + 1) % 64 ∧ (m'.upd.lines.getLast?.map (fun x => (x.ty, x.sector))) = some (3, done))) ∧
    (∀ (present : Bool) (key : KeyRead) (jedec : BitVec 24), m.st = .config → m.fld R.UPD_PKGSTAT_STATE = 0 →
      let refused := fun (code : Nat) (m' : Mach) => m'.st = .stop ∧ m'.fld R.UPD_PKGSTAT_STATE = 2 ∧ m'.fld R.UPD_PKGSTAT_CODE = code % 256 ∧ (0x3581, 0, 2) ∈ m'.faults ∧
        (2 < code → ∃ r, m'.upd.key.jrn.getLast? = some r ∧ r.ty = 0x05)
      (present = false → Answers (.configLoad t present key jedec) s (refused 0x01)) ∧
      (present = true → key = .unfit → Answers (.configLoad t present key jedec) s (refused 0x02)) ∧
      (present = true → key ≠ .unfit → m.upd.key.hdr = none → Answers (.configLoad t present key jedec) s (refused (if key = .fit then 0x04 else 0x03))) ∧
      (∀ h : KeyHdr, present = true → key ≠ .unfit → m.upd.key.hdr = some h → 1 < h.active ∨ h.slotState h.active ≠ 2 →
        Answers (.configLoad t present key jedec) s (refused 0x04)) ∧
      (∀ h : KeyHdr, present = true → key ≠ .unfit → m.upd.key.hdr = some h → h.active ≤ 1 → h.slotState h.active = 2 →
        Answers (.configLoad t present key jedec) s (fun m' =>
          let p := m.slotBytes h.active (h.slotLen h.active)
          match pkgCheck p (h.slotLen h.active) (h.slotDig h.active) (m.fld R.UPD_FWBUILD) with
          | some b => refused b.code m' ∧ m'.upd.pkg = m.upd.pkg
          | none => m'.fld R.UPD_PKGSTAT_STATE = 1 ∧ m'.fld R.UPD_KEYSTAT_RUNSLOT = h.active ∧ m'.upd.pkg = p))) ∧
    (∀ a, m.tk.waitEnd = some a → m.st = .config → a ≤ m.now → Answers (.timeSourceWaitEnd t) s (fun m' => m'.tk.waitEnd = none ∧
      (m.tq = tqUnset → m'.st = .stop ∧ (0x3089, 0, 1) ∈ m'.faults ∧ m'.tk.runWaits = !m.flag R.UPD_PKGSTAT_START) ∧
      (m.tq ≠ tqUnset → m.flag R.UPD_PKGSTAT_START = true → m'.st = .stop) ∧
      (m.tq ≠ tqUnset → m.flag R.UPD_PKGSTAT_START = false → m.flag R.PWR_STAT_HOLDUP_OK = false → m'.runPend = true ∧ m'.st = .config) ∧
      (m.tq ≠ tqUnset → m.flag R.UPD_PKGSTAT_START = false → m.flag R.PWR_STAT_HOLDUP_OK = true → m.cu.app = none → m.flag R.PRT_CFG_PAIRED = false →
        m.fld R.UPD_PKGSTAT_STATE = 1 →
        (m.flag R.UPD_KEYSTAT_PRESENT = true → m'.st = .run ∧ m'.hasToken = true ∧ m'.role = 0) ∧ (m.flag R.UPD_KEYSTAT_PRESENT = false → m'.st = .stop)))) ∧
    (∀ slot ok, m.alive = true → m.upd.actPend = some slot → Answers (.keyActivationDone t ok) s (fun m' => m'.upd.actPend = (if ok ∨ m.st = .save then none else some slot) ∧ m'.st = m.st ∧
      if ok then m'.keyHdr.active = slot ∧ m'.keyHdr.hseq = (m.keyHdr.hseq + 1) % 2 ^ 32 ∧ m'.flag R.IMG_OLCSTAT_KEYPEND = false ∧ m'.fld R.UPD_HSEQ = m'.keyHdr.hseq
      else m'.flag R.UPD_KEYSTAT_PRESENT = false ∧ m'.upd.key = m.upd.key))

/-- R390–R393, R397–R400. The once-per-second offset of the source in use is shown; in RUN one beyond 1 s makes the source gross, with its fault; any other sets
the rate to the learned error, which follows the source's with 8 × TC, plus offset / TC within SLEWMAX and moves the quality as R400's table says. A better source is taken after 10 s. A valid
IRIG-B frame makes its source available from the second consistent one on and delivers its offset; a bad one is counted; 3 s of silence and three bad
edges take a source away; a good PPS edge counts toward three. HOLDLIM ends HOLDOVER.
Completes, with its own effect, in the states its clauses name: sourceMeasurement, sourceUpgradeWait, irigFrame, irigTimeout, ppsEdge, holdoverLimit. -/
def Obligations.TimeSources : Prop :=
  ∀ (s : State) (t : Nat),
    let m := arrive t s
    let src := m.fld R.TB_STAT_TSRC
    let only := fun (m' : Mach) => TimeOnly m m'
    (∀ off, m.selects = true → src ≠ 3 → m.srcUsable src = true → m.secondOffset src = some off →
      Answers (.sourceMeasurement t) s (fun m' => m'.fld R.TB_OFFSET = sat32 off ∧
        (m.st = .run → off < -1000000000 ∨ 1000000000 < off → only m' ∧ m'.flag R.TB_STAT_GROSS = true ∧ m'.faultOn 0x3083 = true ∧
          m'.srcUsable src = false ∧ m'.now = m.now) ∧
        (m.st ≠ .run ∨ (-1000000000 ≤ off ∧ off ≤ 1000000000) → only m' ∧
          let lim : Int := m.fld R.TB_CFG_SLEWMAX * 10000000
          let want : Int := off * 1000 / m.fld R.TB_CFG_TC
          (∃ w : Word, m'.tk.learned = m.tk.learned + (w.toInt - m.tk.learned) / (8 * m.fld R.TB_CFG_TC)) ∧
          m'.fld R.TB_RATE = twos 32 (m'.tk.learned + max (-lim) (min want lim)) ∧
          m'.flag R.TB_STAT_SLEWLIM = decide (want < -lim ∨ lim < want) ∧
          (m.tq = 3 → m'.tq = 3) ∧
          (m.tq = 0 → m'.tq = if -1000 ≤ off ∧ off ≤ 1000 then 0 else 1) ∧
          (m.tq = 1 ∨ m.tq = 2 → -1000 ≤ off ∧ off ≤ 1000 →
            (m.tk.good + 1 < 8 → m'.tq = m.tq ∧ m'.tk.good = m.tk.good + 1) ∧
            (8 ≤ m.tk.good + 1 → m'.tq = 0 ∧ m'.fld64 R.TB_LOCKT_LO = m.now % 2 ^ 64)) ∧
          (m.tq = 1 ∨ m.tq = 2 → ¬ (-1000 ≤ off ∧ off ≤ 1000) → m'.tq = m.tq ∧ m'.tk.good = 0)))) ∧
    (∀ (k : Nat) a, m.selects = true → k < src → src ≠ 3 → m.srcUsable k = true → sget none m.tk.since k = some a → a + 10000000000 ≤ m.now →
      (∀ j, j < k → m.srcUsable j = false) → Answers (.sourceUpgradeWait t) s (fun m' => m'.fld R.TB_STAT_TSRC = k ∧
        m'.fld R.TB_CNT_SRCCHG = min (m.fld R.TB_CNT_SRCCHG + 1) (2 ^ 16 - 1) ∧ (m.st = .run → only m' ∧ m'.now = m.now))) ∧
    (∀ cap f, m.alive = true →
      let ext := m.flag R.TB_CFG_IRIGEXT
      let secs := m.irigSecs f
      let ok := m.irigNext cap f = true
      let at_ := cap - m.fld R.TB_INDLY_IRIG
      let on := m.flag R.TB_CFG_IRIGEN = true ∧ m.tk.irigGood ≠ 0 ∧ ok ∧ (ext = true → f.qcode.toNat ≤ 4)
      (irigFrameOk f ext = false → Answers (.irigFrame t cap f) s (fun m' => only m' ∧ m'.fld R.TB_IRIG_ERRCNT = min (m.fld R.TB_IRIG_ERRCNT + 1) (2 ^ 16 - 1) ∧
        m'.fld R.TB_STAT = m.fld R.TB_STAT ∧ m'.tk.offs = m.tk.offs)) ∧
      (irigFrameOk f ext = true → m.st = .run → Answers (.irigFrame t cap f) s (fun m' => only m' ∧ m'.now = m.now ∧ m'.tk.irigPrev = some secs ∧ m'.tk.irigAt = m.now ∧
        (ok → m'.tk.irigGood = min (m.tk.irigGood + 1) 2 ∧ m'.fld R.TB_IRIG_ERRCNT = m.fld R.TB_IRIG_ERRCNT) ∧
        (¬ ok → m'.tk.irigGood = 1 ∧ m'.fld R.TB_IRIG_ERRCNT = min (m.fld R.TB_IRIG_ERRCNT + 1) (2 ^ 16 - 1)) ∧
        (on → m'.srcAvail 1 = true ∧ m'.srcOffset 1 = some ((at_ : Nat) - m.irigTai at_ f)) ∧
        (¬ on → m'.srcAvail 1 = false)))) ∧
    (m.tk.irigAt + 3000000000 ≤ m.now → Answers (.irigTimeout t) s (fun m' => m'.srcAvail 1 = false ∧ m'.tk.irigGood = 0 ∧ m'.tk.irigPrev = none)) ∧
    (∀ cap width, m.alive = true →
      let e := cap - m.fld R.TB_INDLY_PPS
      let ok := 1000 ≤ width ∧ ∀ p, m.tk.ppsPrev = some p → p + 999000000 ≤ e ∧ e ≤ p + 1001000000
      (ok → Answers (.ppsEdge t cap width) s (fun m' => m'.tk.ppsGood = min (m.tk.ppsGood + 1) 3 ∧ m'.tk.ppsBad = 0 ∧ (m.st = .run → only m' ∧ m'.tk.ppsPrev = some e) ∧
        m'.srcAvail 2 = decide (m.flag R.TB_CFG_PPSEN = true ∧ 2 ≤ m.tk.ppsGood ∧ m.flag R.RTC_STAT_VALID = true))) ∧
      (¬ ok → m.tk.ppsBad < 2 → Answers (.ppsEdge t cap width) s (fun m' => only m' ∧ m'.fld R.TB_STAT = m.fld R.TB_STAT ∧ m'.tk.ppsBad = m.tk.ppsBad + 1 ∧
        m'.tk.ppsGood = m.tk.ppsGood ∧ m'.tk.ppsPrev = m.tk.ppsPrev)) ∧
      (¬ ok → 2 ≤ m.tk.ppsBad → Answers (.ppsEdge t cap width) s (fun m' => m'.srcAvail 2 = false ∧ m'.tk.ppsGood = 0))) ∧
    (∀ a, m.isFollow = false → m.tk.leftLock = some a → m.tq = 1 → a + m.fld R.TB_CFG2_HOLDLIM * 1000000000 ≤ m.now → Answers (.holdoverLimit t) s (fun m' => only m' ∧ m'.tq = 2))

/-- R388, R403–R408, R410, R411. A due leap second moves the UTC offset by one and is not pending any more; the calendar follows the time base at a roll-over, or counts on
without VSUP, and an alarm that matches sets its flag; RTC.TRIM takes a measured trim while LOCKED; a read of RTC.SEC loads both holding sets; a commit waits
for a roll-over, is refused beside another source, refuses invalid fields, and otherwise sets the calendar and, where the time keeper may step, steps the time base; the backup
switch is shown, with a low VBAK and its fault; both rails lost reset PD0.
Completes, with its own effect, in the states its clauses name: leapSecond, calendarRollover, xo32Trim, rtcSecRead, rtcCommit, backupSwitch, aonReset. -/
def Obligations.CalendarAndSupply : Prop :=
  ∀ (s : State) (t : Nat),
    let m := arrive t s
    let only := fun (m' : Mach) => TimeOnly m m'
    (m.flag R.TB_UTC_OFFSET_LEAPPEND = true → m.tk.leapAt ≤ m.now → Answers (.leapSecond t) s (fun m' => only m' ∧ m'.now = m.now ∧
      m'.fld R.TB_UTC_OFFSET_VALUE = twos 16 (if m.flag R.TB_UTC_OFFSET_LEAPDEL then m.utcVal + 1 else m.utcVal - 1) ∧ m'.flag R.TB_UTC_OFFSET_LEAPPEND = false ∧
      (m'.pt 4236).sv = false ∧
      m'.flag R.TB_UTC_OFFSET_INLEAP = (!m.flag R.TB_UTC_OFFSET_LEAPDEL && decide (m.now < m.tk.leapAt + 1000000000)))) ∧
    (m.tk.cmtWait = false → Answers (.calendarRollover t) s (fun m' => only m' ∧
      let c := if m.st = .off then m.tk.cal.next else { calOf (m.utcSecs m.now) with sec := if m.flag R.TB_UTC_OFFSET_INLEAP then 60 else (calOf (m.utcSecs m.now)).sec }
      m'.tk.cal = c ∧ ∀ n, n < 2 → m'.flag (almFlag n) = (m.flag (almFlag n) || ({ m with tk := { m.tk with cal := c } }).alarmHit n))) ∧
    (∀ trim : BitVec 12, m.alive = true → m.tq = 0 → Answers (.xo32Trim t trim) s (fun m' => Regs m m' [R.RTC_TRIM.addr] ∧ m'.fld R.RTC_TRIM_TRIM = trim.toNat)) ∧
    (∀ sub : Fin 32768, m.st ≠ .off → Answers (.rtcSecRead t sub) s (fun m' => m' = { m with tk := m'.tk } ∧ m'.tk.cal = m.tk.cal ∧ m'.tk.rd = m.tk.cal ∧ m'.tk.rdSub = sub.val ∧
      m'.tk.wr = m.tk.cal)) ∧
    (m.st ≠ .off → Answers (.rtcCommit t true) s (fun m' => only m' ∧ m'.flag R.RTC_STAT_CMTBUSY = true ∧ m'.tk.cmtWait = true ∧ m'.tk.cal = m.tk.cal)) ∧
    (m.st ≠ .off → m.otherSrc = true → Answers (.rtcCommit t false) s (fun m' => only m' ∧ m'.flag R.RTC_STAT_CMTREJ = true ∧ m'.flag R.RTC_STAT_CMTBUSY = false ∧
      m'.tk.cal = m.tk.cal)) ∧
    (m.st ≠ .off → m.otherSrc = false → m.tk.wr.valid = false → Answers (.rtcCommit t false) s (fun m' => only m' ∧ m'.flag R.RTC_STAT_CMTERR = true ∧
      m'.flag R.RTC_STAT_CMTBUSY = false ∧ m'.tk.cal = m.tk.cal)) ∧
    (m.st ≠ .off → m.otherSrc = false → m.tk.wr.valid = true → Answers (.rtcCommit t false) s (fun m' =>
      m'.tk.cal = { m.tk.wr with wday := wdayOf (daysOf m.tk.wr.year m.tk.wr.mon m.tk.wr.day) } ∧ m'.flag R.RTC_STAT_VALID = true ∧ m'.flag R.TB_UTC_OFFSET_VALID = true ∧
      m'.flag R.RTC_STAT_CMTBUSY = false ∧
      (m.maySteps = true → m'.now = (m.taiOf m.tk.wr.secs).toNat ∧ m'.fld R.TB_CNT_STEPS = min (m.fld R.TB_CNT_STEPS + 1) (2 ^ 16 - 1) ∧ (m.tq = 3 → m'.tq = 2)) ∧
      (m.maySteps = false → only m' ∧ m'.now = m.now ∧ m'.fld R.TB_OFFSET = sat32 (m.now - m.taiOf m.tk.wr.secs)))) ∧
    (∀ onBak low : Bool, Answers (.backupSwitch t onBak low) s (fun m' => only m' ∧ m'.flag R.RTC_STAT_ONBAK = onBak ∧
      let fell := low && (onBak || m.flag R.RTC_STAT_ONBAK)
      m'.flag R.RTC_STAT_BAK_LOW = (m.flag R.RTC_STAT_BAK_LOW || fell) ∧ (fell = true → m.st ≠ .off → m'.faultOn 0x3088 = true))) ∧
    (m.st = .off → Answers (.aonReset t) s (fun m' => m' = { m with regs := m'.regs, tk := m'.tk, sup := { m.sup with resets := [] } } ∧
      (∀ a, 0x40000 ≤ a → a ≤ 0x4002C → a % 4 = 0 → m'.rget a = regReset a) ∧ m'.flag R.RTC_STAT_VALID = false ∧ m'.flag R.RTC_STAT_OSCSTOP = true ∧ m'.tk.pd0Utc = none ∧
      m'.tk.aonLost = true ∧ m'.fld R.WDG_RSTCNT_COUNT = 0))

/-- R266–R271, R281, R287, R290. On a lane each valid frame counts and counts on; the next one in sequence is taken, a copy or an older one is dropped, one behind a gap is held
and RETX asks for what is missing, as an IDLE ahead of the sequence does; a malformed one takes its place and is noted. A gap not filled in 200 µs ends
the synchronisation. A lane is down after 50 µs without a frame and up after a thousand; IDLE and HELLO go out as their rows say, and a HELLO received
shows the partner's version, build and the comparison of R290.
Completes, with its own effect, in the states its clauses name: hello, helloSend, gapTimeout, idle, idleSend, laneDown, laneUp, malformedLinkFrame. -/
def Obligations.LinkLanesAndSequence : Prop :=
  ∀ (s : State) (t : Nat),
    let m := arrive t s
    let heard := fun (l : Fin 2) (m' : Mach) => m'.fld (R.PRT_LANE_RXFRM l) = (m.fld (R.PRT_LANE_RXFRM l) + 1) % 2 ^ 32
    let asks := fun (l : Fin 2) (q d : Nat) (m' : Mach) => PairOnly m m' ∧ heard l m' ∧ m'.pair.rxNext = some q ∧
      let k := m.linkKnown q
      let first := (q + k) % 2 ^ 32
      (k < d → (∃ g ∈ m'.pair.gaps, g.first = first ∧ g.n = d - k ∧ g.since = m.now) ∧
        m'.out = m.out ++ [.link (nextFrame m 0x06 (leBytes 4 first ++ (leBytes 2 (d - k) ++ leBytes 2 0))).bytes] ∧
        m'.fld (R.PRT_LANE_RETX l) = min (m.fld (R.PRT_LANE_RETX l) + 1) (2 ^ 32 - 1)) ∧
      (d ≤ k → m'.out = m.out ∧ ∀ g ∈ m'.pair.gaps, g ∈ m.pair.gaps)
    (∀ ty c f, LinkRow ty c → InTurn m ty f → Answers (c t f) s (fun m' => heard f.lane m' ∧ m'.pair.rxNext = some ((f.fseq.toNat + 1) % 2 ^ 32) ∧
      ∀ g ∈ m'.pair.gaps, g ∈ m.pair.gaps)) ∧
    (∀ ty c f, LinkRow ty c → m.linkOn = true → (linkFrame ty f).bad = false → f.crc ≠ (linkFrame ty f).crc → Answers (c t f) s (fun m' =>
      m' = { m with regs := m'.regs, pair := m'.pair } ∧ m'.fld (R.PRT_LANE_CRCERR f.lane) = min (m.fld (R.PRT_LANE_CRCERR f.lane) + 1) (2 ^ 32 - 1) ∧
      m'.pair.rxNext = m.pair.rxNext ∧ m'.pair.rxHeld = m.pair.rxHeld)) ∧
    (∀ f l q, m.linkOn = true → (linkFrame 1 f).bad = false → f.crc = (linkFrame 1 f).crc → f.fseq = 0 → m.pair.restart = some (l, linkFrame 1 f) → l ≠ f.lane.val →
      m.pair.rxNext = some q → 1 ≤ q → q ≤ 2 ^ 31 → Answers (.hello t f) s (fun m' => PairOnly m m' ∧ heard f.lane m' ∧ m'.out = m.out ∧ m'.pair.rxNext = some q)) ∧
    (∀ ty c f, LinkRow ty c → ty ≠ 1 → m.linkOn = true → (linkFrame ty f).bad = false → f.crc = (linkFrame ty f).crc → m.pair.alien = true → m.following = false →
      m.pair.rxNext = some f.fseq.toNat → m.pair.rxHeld = [] → Answers (c t f) s (fun m' => PairOnly m m' ∧ heard f.lane m' ∧ m'.out = m.out ∧ m'.pair.alien = true)) ∧
    (∀ ty c f q, LinkRow ty c → m.linkOn = true → (linkFrame ty f).bad = false → f.crc = (linkFrame ty f).crc → m.pair.rxNext = some q → (ty = 1 → f.fseq ≠ 0) →
      let d := (f.fseq.toNat + 2 ^ 32 - q) % 2 ^ 32
      (2 ^ 31 ≤ d → Answers (c t f) s (fun m' => PairOnly m m' ∧ heard f.lane m' ∧ m'.out = m.out ∧ m'.pair.rxNext = some q ∧ m'.pair.rxHeld = m.pair.rxHeld)) ∧
      (1 ≤ d → d < 2 ^ 31 → Answers (c t f) s (fun m' => asks f.lane q d m' ∧ ∃ x ∈ m'.pair.rxHeld, x.fseq = f.fseq.toNat))) ∧
    (∀ f q, m.linkOn = true → f.payload.length ≤ 128 → f.crc = (linkFrame 0x7F f).crc → m.pair.rxNext = some q →
      let d := (f.fseq.toNat + 2 ^ 32 - q) % 2 ^ 32
      (d = 0 ∨ 2 ^ 31 ≤ d → Answers (.idle t f) s (fun m' => PairOnly m m' ∧ heard f.lane m' ∧ m'.out = m.out ∧ m'.pair.rxNext = some q ∧ m'.pair.gaps = m.pair.gaps)) ∧
      (1 ≤ d → d < 2 ^ 31 → Answers (.idle t f) s (asks f.lane q d))) ∧
    (∀ (ty : BitVec 8) f q, m.linkOn = true → (linkFrame ty.toNat f).bad = true → f.crc = (linkFrame ty.toNat f).crc → m.pair.rxNext = some q → m.pair.rxHeld = [] → (ty = 1 → f.fseq ≠ 0) →
      ty.toNat = 0x7F ∨ f.fseq.toNat = q → Answers (.malformedLinkFrame t ty f) s (fun m' => PairOnly m m' ∧ heard f.lane m' ∧
        m'.pair.rxNext = some (if ty.toNat = 0x7F then q else (q + 1) % 2 ^ 32) ∧
        ((∀ a, m.pair.lastViol = some a → a + 1000000000 ≤ m.now) → m'.pair.lastViol = some m.now) ∧
        (∀ a, m.pair.lastViol = some a → m.now < a + 1000000000 → m'.pair.lastViol = some a))) ∧
    (∀ g q, g ∈ m.pair.gaps → m.pair.rxNext = some q → m.pair.rxHeld = [] → g.since + 200000 ≤ m.now → Answers (.gapTimeout t) s (fun m' =>
      m'.pair.gaps = [] ∧ m'.pair.rxNext = none ∧ (m.following = true → m'.role = 3 ∧ m'.fld R.PRT_STAT_UNSR = 10) ∧
      (m.following = false → m.hasToken = true → m.pair.streaming = true → m'.pair.ptnFollow = false ∧ m'.pair.streaming = false ∧ (0x3212, 0, 1) ∈ m'.faults))) ∧
    (∀ l : Fin 2, m.linkOn = true → m.laneUp l = true → (if l = 0 then m.pair.laneAt.1 else m.pair.laneAt.2) + 50000 ≤ m.now → Answers (.laneDown t l) s (fun m' =>
      PairOnly { m with olcEnd := m'.olcEnd } m' ∧ m'.laneUp l = false ∧ m'.fld (R.PRT_LANE_STAT_DOWNS l) = min (m.fld (R.PRT_LANE_STAT_DOWNS l) + 1) (2 ^ 16 - 1) ∧
      (m'.pt (4228 + l.val)).sv = false ∧ (0x320A + l.val, 0, 1) ∈ m'.faults ∧
      (m.laneUp (1 - l.val) = false → m.isLead = true → m.pair.ptnFollow = true → m'.pair.ptnFollow = false ∧ m'.pair.ptnUnsync = 12))) ∧
    (∀ l : Fin 2, m.linkOn = true → m.laneUp l = false → 1000 ≤ (if l = 0 then m.pair.laneRun.1 else m.pair.laneRun.2) → Answers (.laneUp t l) s (fun m' =>
      PairOnly m m' ∧ m'.laneUp l = true ∧ (m'.pt (4228 + l.val)).sv = true ∧ (0x320A + l.val, 0, 1) ∉ m'.faults)) ∧
    (m.linkOn = true → Answers (.idleSend t) s (fun m' => m' = { m with out := m.out ++ [.link (nextFrame m 0x7F []).bytes] })) ∧
    (m.linkOn = true → m.isFollow = false → m.pair.ptnFollow = false → Answers (.helloSend t) s (fun m' => PairOnly m m' ∧
      m'.out = m.out ++ [.link (LinkFrame.bytes { nextFrame m 0x01 m.helloPayload with fseq := if m.pair.txReset then 0 else m.pair.txNext })])) ∧
    (∀ f, InTurn m 0x01 f → fieldAt f.payload 0 2 ≠ 0x6016 → Answers (.hello t f) s (fun m' => m'.pair.alien = true ∧ m'.pair.ptnToken = false ∧ (0x3206, 1, 2) ∈ m'.faults)) ∧
    (∀ f, InTurn m 0x01 f → fieldAt f.payload 0 2 = 0x6016 → m.olcState ≠ olcReady → Answers (.hello t f) s (fun m' =>
      m'.fld R.PRT_PVER_PARTNER = fieldAt f.payload 4 2 ∧ m'.fld R.PRT_PBUILD = fieldAt f.payload 8 4 ∧ m'.pair.ptnToken = (byteAt f.payload 3).testBit 3 ∧
      m'.flag R.PRT_PCMP_VALID = true ∧
      m'.flag R.PRT_PCMP_PKG = (sliceAt f.payload 12 32 == (List.range 8).flatMap (fun n => leBytes 4 (m.fld (R.UPD_PKGDIG n)))) ∧
      m'.flag R.PRT_PCMP_PROG = (sliceAt f.payload 44 32 == (List.range 8).flatMap (fun n => leBytes 4 (m.fld (R.UPD_PROGDIG n)))) ∧
      m'.flag R.PRT_PCMP_PVER = (fieldAt f.payload 4 2 == m.fld R.UPD_FWPVER_PVER) ∧ m'.flag R.PRT_PCMP_RETLAY = (fieldAt f.payload 76 8 == m.fld64 R.IMG_RETDIG_LO) ∧
      m'.flag R.PRT_PCMP_SIDES = (f.flags.toNat % 2 != m.side) ∧ m'.flag R.PRT_PCMP_BUILD = (fieldAt f.payload 8 4 == m.fld R.UPD_FWBUILD)))

/-- R272–R277, R286, R292, R293, R298. The holder renews its lease every third of it and stops driving when it could not; a later renewal count renews the partner's lease, and
after lease and guard a follower takes the token with the next epoch, a jump of the CSN and its fault, as an UNSYNC module does where the package lets it;
otherwise that module stops. YIELD names the last CSN, TAKEN ends the yield, and without it the old lead is UNSYNC. The listen time and JOINWAIT decide the
role of a module that enters RUN.
Completes, with its own effect, in the states its clauses name: renewal, fence, tokenTake, renew, linkYield, taken, takenTimeout, listenExpiry,
joinwaitExpiry, partnerHeartbeatTimeout. -/
def Obligations.LeaseAndToken : Prop :=
  ∀ (s : State) (t : Nat),
    let m := arrive t s
    let expired := fun (m : Mach) => m.st = .run ∧ m.paired = true ∧ m.hasToken = false ∧ ∃ a, m.pair.leaseAt = some a ∧ a + m.guardNs ≤ m.now
    let keyed := m.fld R.UPD_PKGSTAT_STATE = 1 ∧ m.flag R.UPD_KEYSTAT_PRESENT = true
    let takes := fun (m' : Mach) => m'.hasToken = true ∧ m'.st = .run ∧ m'.fld R.PRT_EPOCH = (m.fld R.PRT_EPOCH + 1) % 2 ^ 32 ∧
      m'.fld R.PRT_CNT_TAKES = min (m.fld R.PRT_CNT_TAKES + 1) (2 ^ 16 - 1) ∧ (0x3201, 0, 2) ∈ m'.faults ∧ m'.fld64 R.PRT_LEXP_LO = 0 ∧ m'.flag R.PRT_STAT_FENCE = false
    (m.st = .run → m.hasToken = true → m.paired = true → (∀ a, m.pair.lastRenew = some a → a + m.leaseNs / 3 ≤ m.now) → Answers (.renewal t) s (fun m' =>
      m' = { m with regs := m'.regs, out := m'.out, pair := m'.pair, bays := m'.bays } ∧
      m'.fld R.PRT_RNWTX = (m.fld R.PRT_RNWTX + 1) % 2 ^ 32 ∧ m'.pair.lastRenew = some m.now ∧ m'.pair.fenced = false ∧ m'.flag R.PRT_STAT_FENCE = false ∧
      .link (nextFrame m 0x02 (leBytes 4 ((m.fld R.PRT_RNWTX + 1) % 2 ^ 32) ++ (leBytes 2 (m.fld R.PRT_CFG_LEASE) ++ (leBytes 2 0 ++ leBytes 8 m.now)))).bytes ∈ m'.out)) ∧
    (∀ a, m.st = .run → m.hasToken = true → m.paired = true → m.pair.lastRenew = some a → a + m.leaseNs ≤ m.now → Answers (.fence t) s (fun m' =>
      m' = { m with regs := m'.regs, bays := m'.bays, pair := { m.pair with fenced := true } } ∧ m'.flag R.PRT_STAT_FENCE = true ∧ m'.role = m.role ∧ m'.hasToken = true)) ∧
    (expired m → m.isFollow = true → Answers (.tokenTake t) s (fun m' => takes m' ∧ m'.role = m.holderRole ∧ m'.pair.syncing = false ∧ m'.pair.commits = [] ∧
      m'.csn = (m.csn + 2 ^ 20 - 1) % (2 ^ 48 - 1) + 1)) ∧
    (expired m → m.isFollow = false → m.flag R.PRT_CFG_TAKEOVER_UNSYNC = true → Answers (.tokenTake t) s (fun m' => takes m' ∧ m'.role = 0)) ∧
    (expired m → m.isFollow = false → m.flag R.PRT_CFG_TAKEOVER_UNSYNC = false → Answers (.tokenTake t) s (fun m' => m'.st = .stop ∧ m'.hasToken = false ∧
      (0x3211, 0, 2) ∈ m'.faults)) ∧
    (∀ f, InTurn m 0x02 f → f.epoch.toNat = m.fld R.PRT_EPOCH → f.flags.getLsbD 1 = true → m.hasToken = false → countLater (fieldAt f.payload 0 4) m.pair.rxCount = true →
      Answers (.renew t f) s (fun m' => PairOnly m m' ∧ m'.fld R.PRT_RNWRX = fieldAt f.payload 0 4 ∧ m'.pair.rxCount = some (fieldAt f.payload 0 4) ∧
        m'.pair.leaseAt = some (m.now + m.leaseNs) ∧ m'.fld64 R.PRT_LEXP_LO = (m.now + m.leaseNs) % 2 ^ 64)) ∧
    (∀ f, InTurn m 0x03 f → f.epoch.toNat = m.fld R.PRT_EPOCH → f.flags.getLsbD 1 = true → m.isFollow = true → Answers (.linkYield t f) s (fun m' => PairOnly m m' ∧
      m'.pair.yieldCsn = some (fieldAt f.payload 0 6) ∧ m'.pair.yieldSeq = fieldAt f.payload 8 4 ∧ m'.pair.yieldReason = byteAt f.payload 6 ∧ m'.role = 2)) ∧
    (∀ f r w, InTurn m 0x04 f → f.epoch.toNat = (m.fld R.PRT_EPOCH + 1) % 2 ^ 32 → m.hasToken = true → m.pair.yielding = some r → m.pair.yieldWaits = some w →
      Answers (.taken t f) s (fun m' => m'.hasToken = false ∧ m'.fld R.PRT_EPOCH = f.epoch.toNat ∧ m'.pair.ptnToken = true ∧ m'.pair.yielding = none ∧
        m'.pair.yieldWaits = none ∧ m'.st = m.st ∧ (r = 1 → m'.role = 3 ∧ m'.fld R.PRT_STAT_UNSR = 11) ∧ (r ≠ 1 → m'.role = 2))) ∧
    (∀ w, m.pair.yieldWaits = some w → m.hasToken = true → w + 1000000 ≤ m.now → Answers (.takenTimeout t) s (fun m' => m'.hasToken = false ∧ m'.role = 3 ∧
      m'.fld R.PRT_STAT_UNSR = 11 ∧ m'.pair.yieldWaits = none ∧ m'.st = m.st)) ∧
    (∀ a, m.pair.listenFrom = some a → a + m.leaseNs ≤ m.now →
      let heard := ∃ b, m.pair.ptnHbAt = some b ∧ a ≤ b
      (m.lanesDown = true → ¬ heard → keyed → Answers (.listenExpiry t) s (fun m' => m'.st = .run ∧ m'.hasToken = true ∧ m'.role = 0 ∧ m'.pair.listenFrom = none)) ∧
      (m.lanesDown = false ∨ heard → m.side = 0 → keyed → Answers (.listenExpiry t) s (fun m' => m'.st = .run ∧ m'.hasToken = true ∧ m'.role = 1 ∧ m'.pair.listenFrom = none)) ∧
      (m.lanesDown = false ∨ heard → m.side = 1 → Answers (.listenExpiry t) s (fun m' => m' = m))) ∧
    (∀ a r, m.pair.listenFrom = some a → m.pair.readyFrom = some r → m.side = 1 → a + m.leaseNs ≤ m.now → r + m.fld R.PRT_CFG_JOINWAIT * 10000000 ≤ m.now → keyed →
      Answers (.joinwaitExpiry t) s (fun m' => m'.st = .run ∧ m'.hasToken = true ∧ m'.role = m.holderRole ∧ m'.pair.listenFrom = none)) ∧
    (∀ a, m.pair.ptnHbAt = some a → m.flag R.PRT_STAT_PHB = true → a + m.leaseNs ≤ m.now → Answers (.partnerHeartbeatTimeout t) s (fun m' => PairOnly m m' ∧
      m'.flag R.PRT_STAT_PHB = false ∧ (m'.pt 4230).sv = false))

/-- R268, R270, R280, R281, R283–R285, R288, R289, R381. The lead's side. An acknowledgement is kept; an agreement that does not come in 100 µs, a delta or a frame asked for that is no longer
held, ends forwarding; what is still held goes out again; a transfer request starts the transfer, and each step sends the next block and at the end the
completion. The lead's time goes out; delay requests are answered, a response gives half the round trip; notices are journalled and stNums kept.
Completes, with its own effect, in the states its clauses name: ack, agreementTimeout, retx, notice, delayRequest, delayResponse, timeSend,
delayMeasure, delreq, gstn, xreq, transferStep. -/
def Obligations.LeadForwards : Prop :=
  ∀ (s : State) (t : Nat),
    let m := arrive t s
    let same := fun (f : LinkRx) => f.epoch.toNat = m.fld R.PRT_EPOCH
    let lost := fun (m' : Mach) => m'.pair.ptnFollow = false ∧ m'.pair.streaming = false ∧ m'.pair.ptnUnsync = 10
    (∀ f, InTurn m 0x05 f → same f → m.isLead = true → m.pair.ptnFollow = true → Answers (.ack t f) s (fun m' => PairOnly m m' ∧
      m'.pair.ackSeq = some (fieldAt f.payload 0 4) ∧ m'.pair.ptnFollow = true)) ∧
    (∀ k sc, (k, sc) ∈ m.heldScans → m.agreed sc = false → sc.heldAt + 100000 ≤ m.now → Answers (.agreementTimeout t) s (fun m' =>
      PairOnly { m with olcEnd := m'.olcEnd } m' ∧ min ((m.now - sc.heldAt) / 10) (2 ^ 16 - 1) ≤ m'.fld R.PRT_AGR_MAX ∧ m'.pair.ptnFollow = false ∧ m'.pair.ptnUnsync = 12 ∧ (0x320D, 0, 1) ∈ m'.faults ∧ m'.fld R.PRT_AGR_TIMEOUTS = min (m.fld R.PRT_AGR_TIMEOUTS + 1) (2 ^ 16 - 1))) ∧
    (∀ f, InTurn m 0x06 f → same f → m.following = false →
      let want := (List.range (fieldAt f.payload 4 2)).map (fun i => (fieldAt f.payload 0 4 + i) % 2 ^ 32)
      let again := (m.pair.sent.filter (fun x => want.contains x.fseq)).map (fun x => Out.link x.bytes)
      Answers (.retx t f) s (fun m' => (m.out ++ again) <+: m'.out ∧
        ((∀ q ∈ want, ∃ x ∈ m.pair.sent, x.fseq = q) → PairOnly m m' ∧ m'.out = m.out ++ again ∧ m'.pair.ptnFollow = m.pair.ptnFollow) ∧
        ((∃ q ∈ want, ∀ x ∈ m.pair.sent, x.fseq ≠ q) → m.hasToken = true → m.pair.streaming = true → lost m' ∧ (0x3212, 0, 1) ∈ m'.faults))) ∧
    (∀ f, InTurn m 0x13 f → same f → m.hasToken = true → m.pair.streaming = true → m.following = false →
      (∀ d, m.pair.deltas.find? (fun x => x.1 == fieldAt f.payload 0 6) = some d → Answers (.delreq t f) s (fun m' => PairOnly m m' ∧
        ∃ fs : List LinkFrame, fs ≠ [] ∧ m'.out = m.out ++ fs.map (fun x => Out.link x.bytes) ∧ (∀ x ∈ fs, x.ty = 0x14 ∧ fieldAt x.payload 0 6 = fieldAt f.payload 0 6 ∧ x.payload.length ≤ 128) ∧
          fs.flatMap (fun x => x.payload.drop 8) = d.2)) ∧
      (m.pair.deltas.find? (fun x => x.1 == fieldAt f.payload 0 6) = none → Answers (.delreq t f) s lost)) ∧
    (∀ f, InTurn m 0x20 f → same f → m.st = .run → m.hasToken = true → m.pair.yielding = none → Answers (.xreq t f) s (fun m' => PairOnly m m' ∧
      m'.pair.streaming = true ∧ m'.pair.deltaAll = true ∧ m'.pair.xferAt = some m.now ∧ m'.pair.xferItem = 0 ∧ m'.pair.xferOff = 0 ∧
      m'.fld R.PRT_XFER_DONE = 0 ∧ m'.fld R.PRT_XFER_TOTAL = 1547)) ∧
    (∀ (n : Fin 64) a, m.linkOn = true → m.st = .run → m.hasToken = true → m.pair.streaming = true → m.pair.xferAt = some a → m.cu.app = none →
      (∀ b, m.pair.xferStep = some b → b + 3000000 ≤ m.now) → m.pair.xferItem ≤ 8 → Answers (.transferStep t n) s (fun m' => PairOnly m m' ∧ m'.pair.xferStep = some m.now ∧
        (n = 0 →
          let off := m.pair.xferOff
          let size := xferSize m.pair.xferItem
          (off + 4096 < size → m'.pair.xferItem = m.pair.xferItem ∧ m'.pair.xferOff = off + 4096 ∧ m'.pair.xferAt = some a) ∧
          (off ≤ size → size ≤ off + 4096 → m.pair.xferItem < 8 → m'.pair.xferItem = m.pair.xferItem + 1 ∧ m'.pair.xferOff = 0 ∧ m'.pair.xferAt = some a) ∧
          (off ≤ size → size ≤ off + 4096 → m.pair.xferItem = 8 → m'.pair.xferAt = none ∧
            ∃ x : LinkFrame, m'.out.getLast? = some (.link x.bytes) ∧ x.ty = 0x22 ∧ fieldAt x.payload 0 6 = m.csn % 2 ^ 48)))) ∧
    (m.linkOn = true → m.st = .run → m.isLead = true → Answers (.timeSend t) s (fun m' => PairOnly m m' ∧
      m'.out = m.out ++ [.link (nextFrame m 0x08 (leBytes 1 0 ++ (leBytes 1 m.tq ++ (leBytes 6 0 ++ leBytes 8 m.now)))).bytes])) ∧
    (m.linkOn = true → m.st = .run → 2 ≤ m.role → m.hasToken = false → Answers (.delayMeasure t) s (fun m' => PairOnly m m' ∧ m'.pair.delaySent = some m.now ∧
      m'.out = m.out ++ [.link (nextFrame m 0x08 (leBytes 1 1 ++ (leBytes 7 0 ++ leBytes 8 m.now))).bytes])) ∧
    (∀ f, InTurn m 0x08 f → same f → byteAt f.payload 0 = 1 → Answers (.delayRequest t f) s (fun m' => PairOnly m m' ∧
      .link (nextFrame m 0x08 (leBytes 1 2 ++ (leBytes 7 0 ++ (leBytes 8 m.now ++ leBytes 8 m.now)))).bytes ∈ m'.out)) ∧
    (∀ f a, InTurn m 0x08 f → same f → byteAt f.payload 0 = 2 → m.pair.delaySent = some a →
      let rtt := (m.now - a) - (fieldAt f.payload 16 8 - fieldAt f.payload 8 8)
      Answers (.delayResponse t f) s (fun m' => PairOnly m m' ∧ m'.pair.oneWay = some (rtt / 2) ∧ m'.fld R.PRT_LAT_CUR = min (rtt / 20) (2 ^ 16 - 1) ∧
        m'.fld R.PRT_LAT_MAX = max (m.fld R.PRT_LAT_MAX) (min (rtt / 20) (2 ^ 16 - 1)))) ∧
    (∀ f, InTurn m 0x07 f → same f → m.following = false → m.ev.fifo.length < 4095 → Answers (.notice t f) s (fun m' => PairOnly m m' ∧
      m'.ev.fifo.getLast? = some ⟨fieldAt f.payload 4 8, 0x3210, 0x30 + byteAt f.payload 0 % 4, 1 + m.degradedAt (fieldAt f.payload 4 8), m.fld R.EVU_SEQ⟩)) ∧
    (∀ f, InTurn m 0x15 f → same f → Answers (.gstn t f) s (fun m' => PairOnly m m' ∧ ∀ b, sget 0 m'.pair.ptnGstn b =
      if b = byteAt f.payload 0 then fieldAt f.payload 4 4 else sget 0 m.pair.ptnGstn b))

/-- R258, R259, R279, R280, R282, R283, R285, R288, R289. The follower's side. A stream record changes the image and the journal's number; a SNAP frame keeps the image as a
snapshot; a commit is queued and applied from the own HELD scan when the digests agree, counted as a mismatch when they do not, applied from its delta where no
snapshot is held, and otherwise its delta is asked for; delta parts are collected; state blocks are written as they come and the completion gives the CSN;
a transfer of 5 s starts again; the lead's time is measured, or stepped to once; coordination frames of the online change have their effect.
Completes, with its own effect, in the states its clauses name: timeLead, stream, snapFrame, commitFrame, followerApply, delta, xblk, xdone,
transferRestart, olcFrame. -/
def Obligations.FollowerTakes : Prop :=
  ∀ (s : State) (t : Nat),
    let m := arrive t s
    let same := fun (f : LinkRx) => f.epoch.toNat = m.fld R.PRT_EPOCH
    (∀ f, InTurn m 0x10 f → same f → m.following = true → f.payload.length = 16 →
      let j := JEntry.ofBytes f.payload
      (j.point < 4352 → 1 ≤ j.kind → j.kind ≤ 4 → Answers (.stream t f) s (fun m' => PairOnly m m' ∧ m'.fld R.EVU_SEQ = (j.seq + 1) % 2 ^ 32 ∧
        (m'.pt j.point).v = j.flags.testBit 0 ∧ (m'.pt j.point).q = j.flags / 2 % 4 ∧ (m'.pt j.point).blocked = j.flags.testBit 3 ∧ ∀ i, i ≠ j.point → m'.pt i = m.pt i)) ∧
      (0xF000 ≤ j.point → Answers (.stream t f) s (fun m' => PairOnly m m' ∧ m'.cell spW (258048 + (j.point - 0xF000)) = (BitVec.ofNat 32 j.seq).setWidth 128 ∧
        m'.fld R.EVU_SEQ = m.fld R.EVU_SEQ)) ∧
      (j.kind = 0x22 → 0x2000 ≤ j.point → j.point < 0x2020 → Answers (.stream t f) s (fun m' => PairOnly m m' ∧ m'.fld R.EVU_SEQ = (j.seq + 1) % 2 ^ 32 ∧
        (m'.pt (j.point - 0x2000 + 64)).v = j.flags.testBit 0 ∧ ∀ i, i ≠ j.point - 0x2000 + 64 → m'.pt i = m.pt i)) ∧
      (j.point < 0xF000 → ¬ (j.point < 4352 ∧ 1 ≤ j.kind ∧ j.kind ≤ 4) → ¬ (j.kind = 0x22 ∧ 0x2000 ≤ j.point ∧ j.point < 0x2020) → Answers (.stream t f) s (fun m' =>
        PairOnly m m' ∧ m'.img = m.img ∧ m'.pts = m.pts ∧ m'.fld R.EVU_SEQ = (j.seq + 1) % 2 ^ 32 ∧ m'.pair.lastSeq = j.seq))) ∧
    (∀ f, InTurn m 0x11 f → same f → m.isFollow = true → Answers (.snapFrame t f) s (fun m' => PairOnly m m' ∧
      m'.fld64 R.EVU_LASTSNAP_LO = max (m.fld64 R.EVU_LASTSNAP_LO) (fieldAt f.payload 8 8) ∧
      ∃ x ∈ m'.pair.fwd, x.task = byteAt f.payload 0 ∧ x.snap.no = fieldAt f.payload 4 4 ∧ x.snap.time = fieldAt f.payload 8 8 ∧ x.snap.scsn = fieldAt f.payload 16 6 ∧
        x.snap.ivals = m.iContent ∧ x.snap.wvals = m.wContent)) ∧
    (∀ f, InTurn m 0x12 f → same f → m.following = true → f.flags.getLsbD 1 = true → byteAt f.payload 6 < 32 → Answers (.commitFrame t f) s (fun m' => m'.img = m.img ∧ m'.st = m.st ∧
      ∃ c, m'.pair.commits = m.pair.commits ++ [c] ∧ c.csn = fieldAt f.payload 0 6 ∧ c.task = byteAt f.payload 6 ∧ c.snapno = fieldAt f.payload 8 4 ∧
        c.digest.toNat = fieldAt f.payload 20 8)) ∧
    (∀ f, InTurn m 0x14 f → same f → m.following = true →
      let csn := fieldAt f.payload 0 6
      let old := ((m.pair.deltaBuf.find? (fun d => d.1 == csn)).map (·.2)).getD []
      let buf := (if byteAt f.payload 6 = 0 then [] else old) ++ f.payload.drop 8
      ((byteAt f.payload 7).testBit 0 = true → m.pair.syncing = false ∨ m.pair.xferCsn ≠ none → Answers (.delta t f) s (fun m' => PairOnly m m' ∧ (csn, buf) ∈ m'.pair.deltaDone ∧
        csn ∉ m'.pair.delReqs)) ∧
      ((byteAt f.payload 7).testBit 0 = false → Answers (.delta t f) s (fun m' => PairOnly m m' ∧ (csn, buf) ∈ m'.pair.deltaBuf ∧ m'.pair.deltaDone = m.pair.deltaDone))) ∧
    (∀ f, InTurn m 0x21 f → same f → m.pair.syncing = true → m.pair.xferCsn = none → Answers (.xblk t f) s (fun m' => m'.pair.xferItem = byteAt f.payload 0 ∧
      m'.pair.xferOff = fieldAt f.payload 2 4 + (f.payload.length - 6) ∧
      (byteAt f.payload 0 = 2 → ∀ i, i < f.payload.length - 6 → fieldAt f.payload 2 4 + i < xferSize 2 →
        natByte (m'.cell spW ((fieldAt f.payload 2 4 + i) / 4)).toNat ((fieldAt f.payload 2 4 + i) % 4) = f.payload.getD (6 + i) 0))) ∧
    (∀ f, InTurn m 0x22 f → same f → m.pair.syncing = true → m.pair.xferCsn = none → Answers (.xdone t f) s (fun m' => m'.csn = fieldAt f.payload 0 6 ∧
      m'.pair.xferCsn = some (fieldAt f.payload 0 6) ∧ m'.pair.xferBuf = [])) ∧
    (∀ a, m.linkOn = true → m.pair.syncing = true → m.pair.xferAt = some a → a + 5000000000 ≤ m.now → Answers (.transferRestart t) s (fun m' => m'.pair.syncing = true ∧
      m'.pair.xferAt = some m.now ∧ m'.pair.xferCsn = none ∧ m'.pair.commits = [] ∧ m'.pair.fwd = [] ∧ m'.fld R.PRT_XFER_DONE = 0 ∧
      ∃ x : LinkFrame, m'.out.getLast? = some (.link x.bytes) ∧ x.ty = 0x20 ∧ byteAt x.payload 0 = 1)) ∧
    (∀ c cs, m.st = .run → m.isFollow = true → m.lanesDown = false → m.cu.app = none → m.cu.nextStart ≤ m.now → m.pair.commits = c :: cs → c.flags.testBit 1 = false → c.task < 32 →
      (∀ sc, (m.task c.task).held = some sc → sc.snap.no = c.snapno → (m.task c.task).inCommit = false →
        (m.scanDigest c.task sc = c.digest → Answers (.followerApply t) s (fun m' => m'.csn = c.csn % 2 ^ 64 ∧ (m'.task c.task).inCommit = true ∧ m'.img = m.img ∧
          (∀ x ∈ m'.pair.commits, x ∈ cs) ∧ ∃ a, m'.cu.app = some a ∧ a.task = c.task ∧ a.csn = c.csn ∧ a.entries = sc.merged ∧ a.startAt = m.now)) ∧
        (m.scanDigest c.task sc ≠ c.digest → Answers (.followerApply t) s (fun m' => m'.fld R.PRT_MISMCSN = c.csn % 2 ^ 32 ∧ m'.cu.app = none ∧ m'.img = m.img ∧
          m'.fld R.PRT_MISM_TOTAL = min (m.fld R.PRT_MISM_TOTAL + 1) (2 ^ 16 - 1)))) ∧
      ((m.task c.task).held = none → m.holdsSnap c.task c.snapno = false →
        (∀ d, m.pair.deltaDone.find? (fun d => d.1 == c.csn) = some d → Answers (.followerApply t) s (fun m' => m'.csn = c.csn % 2 ^ 64 ∧
          ∃ a, m'.cu.app = some a ∧ a.task = c.task ∧ a.csn = c.csn ∧ a.entries = (deltaParse d.2.length d.2).1)) ∧
        (m.pair.deltaDone.find? (fun d => d.1 == c.csn) = none → Answers (.followerApply t) s (fun m' => PairOnly m m' ∧ c.csn ∈ m'.pair.delReqs ∧ m'.cu.app = none)))) ∧
    (∀ f dl, InTurn m 0x08 f → same f → byteAt f.payload 0 = 0 → f.flags.getLsbD 1 = true → m.hasToken = false → m.pair.oneWay = some dl →
      let d : Int := m.now - (fieldAt f.payload 8 8 + dl : Nat)
      (m.isFollow = true → -1000000 ≤ d → d ≤ 1000000 → Answers (.timeLead t f) s (fun m' => m'.role = 2 ∧ m'.now = m.now ∧ m'.fld R.PRT_TDIFF = sat32 d ∧
        m'.tq = (if (d < -1000 ∨ 1000 < d) ∧ byteAt f.payload 1 % 4 = 0 then 1 else byteAt f.payload 1 % 4) ∧ (d < -10000 ∨ 10000 < d → m'.faultOn 0x3208 = true))) ∧
      (m.isFollow = true → d < -1000000 ∨ 1000000 < d → Answers (.timeLead t f) s (fun m' => m'.role = 3 ∧ m'.fld R.PRT_STAT_UNSR = 8 ∧ (0x3209, 0, 2) ∈ m'.faults)) ∧
      (m.isFollow = false → m.mayJoin = true → m.pair.syncing = false → m.pair.timeTaken = false → Answers (.timeLead t f) s (fun m' =>
        m'.now = fieldAt f.payload 8 8 + dl ∧ m'.pair.timeTaken = true ∧ m'.pair.syncing = true ∧ m'.flag R.PRT_STAT_XFER = true))) ∧
    (∀ f, InTurn m 0x30 f → same f →
      (byteAt f.payload 0 = 1 → Answers (.olcFrame t f) s (fun m' => PairOnly m m' ∧ m'.pair.olc = 1 ∧ m'.pair.olcDigs = sliceAt f.payload 1 64)) ∧
      (byteAt f.payload 0 = 3 → m.following = false → Answers (.olcFrame t f) s (fun m' => PairOnly m m' ∧ m'.pair.olc = 3)) ∧
      (byteAt f.payload 0 = 3 → m.following = true → Answers (.olcFrame t f) s (fun m' => PairOnly { m with olc := { m.olc with leadDone := true } } m' ∧ m'.olc.leadDone = true)) ∧
      (byteAt f.payload 0 = 2 → m.isFollow = true → m.olcState = olcReady → Answers (.olcFrame t f) s (fun m' => m'.olcState = olcArmed ∧ m'.fld64 R.IMG_OLCDRN_LO = fieldAt f.payload 1 8)) ∧
      (byteAt f.payload 0 = 4 → m.st = .run → m.olcState = olcArmed → Answers (.olcFrame t f) s (fun m' => m'.olcState = olcReady ∧
        m'.fld R.IMG_OLCSTAT_RESULT = 9)))

/-- R373–R378, R380, R381. A GOOSE frame of a configured block, by its kind: malformed, test and simulated frames are counted; a wrong revision or structure is a configuration
error; needs-commissioning restarts the time to live alone; a new state is taken with its values and numbers, an older one is stale, a repetition counts on
or is a duplicate. A block whose time to live runs out is invalid, with its fault. A publication repeats with the next sqNum at a doubled interval, and where no frame can
leave its numbers and its count stay.
Completes, with its own effect, in the states its clauses name: gooseFrame, gooseTalExpiry, gooseRetransmission. -/
def Obligations.GooseBlocks : Prop :=
  ∀ (s : State) (t : Nat),
    let m := arrive t s
    (∀ (h : PortHead) (g : GooseMsg) (b : Nat) (x : GSub), Takes m h → m.gooseBlock g = some b → m.gsub b = some x → b < 128 →
      let ends := fun (P : Mach → Prop) => Answers (.gooseFrame t h g) s (fun m' => PortOnly m m' ∧ Received m m' h ∧ P m')
      let ok := g.ok = true ∧ g.tal ≠ 0
      let real := g.sim = false ∧ (g.test = true → x.acceptTest = true)
      let fits := g.confRev = x.confRev ∧ g.leaves.map GLeaf.code = x.members.map (·.ty)
      let earlier := (m.fld (R.STA_GSUB_STNUM b) + 2 ^ 32 - g.stNum.toNat) % 2 ^ 32
      let ahead := (g.sqNum.toNat + 2 ^ 32 - m.fld (R.STA_GSUB_SQNUM b)) % 2 ^ 32
      let lives := fun (m' : Mach) => sget none m'.sp.tal b = some (h.sof + g.tal * 1000000)
      let kept := fun (m' : Mach) => m'.fld (R.STA_GSUB_STNUM b) = m.fld (R.STA_GSUB_STNUM b) ∧ m'.fld (R.STA_GSUB_SQNUM b) = m.fld (R.STA_GSUB_SQNUM b) ∧
        m'.flag (R.STA_GSUB_STAT_VALID b) = m.flag (R.STA_GSUB_STAT_VALID b)
      let taken := fun (m' : Mach) => m'.fld (R.STA_GSUB_STNUM b) = g.stNum.toNat ∧ m'.fld (R.STA_GSUB_SQNUM b) = g.sqNum.toNat ∧ lives m' ∧
        m'.flag (R.STA_GSUB_STAT_VALID b) = true ∧ b ∈ m'.sp.known ∧ (0x3400 + b, 0, 1) ∉ m'.faults
      let pts := (x.members.zip g.leaves).flatMap (fun y => memberPts h.sof (memberQ g.leaves y.1) y.1 y.2)
      (¬ ok → ends (fun m' => kept m' ∧ m'.fld (R.STA_GSUB_STAT_MALF b) = min (m.fld (R.STA_GSUB_STAT_MALF b) + 1) (2 ^ 12 - 1))) ∧
      (ok → ¬ real → ends (fun m' => kept m' ∧ m'.fld (R.STA_GSUB_DISC_TEST b) = min (m.fld (R.STA_GSUB_DISC_TEST b) + 1) (2 ^ 10 - 1))) ∧
      (ok → real → ¬ fits → ends (fun m' => kept m' ∧ m'.flag (R.STA_GSUB_STAT_CONFERR b) = true ∧ m'.faultOn (0x3800 + b) = true)) ∧
      (ok → real → fits → g.ndsCom = true → ends (fun m' => kept m' ∧ lives m' ∧ m'.flag (R.STA_GSUB_STAT_NDSCOM b) = true ∧
        m'.flag (R.STA_GSUB_STAT_CONFERR b) = false)) ∧
      (ok → real → fits → g.ndsCom = false → b ∉ m.sp.known ∨ 15 < earlier → ends (fun m' => taken m' ∧
        ((pts.map (·.idx) ++ x.status.toList).Nodup → (∀ p ∈ pts, p.idx < 4224) → ∀ p ∈ pts, (m'.pt p.idx).sv = p.v ∧ (m'.pt p.idx).sq = p.q))) ∧
      (ok → real → fits → g.ndsCom = false → b ∈ m.sp.known → 1 ≤ earlier → earlier ≤ 15 → ends (fun m' => kept m' ∧
        m'.fld (R.STA_GSUB_DISC_STALE b) = min (m.fld (R.STA_GSUB_DISC_STALE b) + 1) (2 ^ 10 - 1))) ∧
      (ok → real → fits → g.ndsCom = false → b ∈ m.sp.known → earlier = 0 → 1 ≤ ahead → ahead < 2 ^ 31 → ends taken) ∧
      (ok → real → fits → g.ndsCom = false → b ∈ m.sp.known → earlier = 0 → ahead = 0 ∨ 2 ^ 31 ≤ ahead → ends (fun m' => kept m' ∧
        m'.fld (R.STA_GSUB_DISC_DUP b) = min (m.fld (R.STA_GSUB_DISC_DUP b) + 1) (2 ^ 10 - 1)))) ∧
    (∀ (b : Fin 128) x a, m.alive = true → m.gsub b = some x → sget none m.sp.tal b = some a → a ≤ m.now → m.flag (R.STA_GSUB_STAT_VALID b) = true →
      Answers (.gooseTalExpiry t b) s (fun m' => PortOnly m m' ∧ m'.flag (R.STA_GSUB_STAT_VALID b) = false ∧ (0x3400 + b.val, 0, 1) ∈ m'.faults ∧ b.val ∉ m'.sp.known ∧
        sget none m'.sp.tal b = none ∧ m'.fld (R.STA_GSUB_STAT_EXPIRIES b) = min (m.fld (R.STA_GSUB_STAT_EXPIRIES b) + 1) (2 ^ 16 - 1))) ∧
    (∀ (b : Fin 32) p r, m.gpub b = some p → sget none m.sp.runs b = some r → m.drives = true → m.flag (R.STA_GPUB_CFG_ACTIVE b) = true → r.nextAt ≤ m.now →
      let q := if r.sent then (if 2 ^ 32 ≤ r.sq + 1 then 1 else r.sq + 1) else r.sq % 2 ^ 32
      let i := if r.sent then min (2 * r.interval) (m.fld (R.STA_GPUB_CFG_TMAX b) * 100000000) else r.interval
      (m.pubMay = true → Answers (.gooseRetransmission t b) s (fun m' => PortOnly m m' ∧ m'.fld (R.STA_GPUB_STNUM b) = r.st % 2 ^ 32 ∧
        m'.fld (R.STA_GPUB_SQNUM b) = q ∧ m'.fld (R.STA_GPUB_TXCNT b) = (m.fld (R.STA_GPUB_TXCNT b) + 1) % 2 ^ 32 ∧
        (∃ n, sget none m'.sp.runs b = some { r with sq := n, interval := i, nextAt := m.now + i, sent := true } ∧ n % 2 ^ 32 = q) ∧
        (m.portUp 0 = true → ∃ c f, .port 0 c (.goose f) ∈ m'.out ∧ f.block = b.val ∧ f.stNum = r.st ∧ f.sqNum % 2 ^ 32 = q ∧ f.vals = r.vals ∧
          f.tal = max 10 (2 * i / 1000000)))) ∧
      (m.pubMay = false → Answers (.gooseRetransmission t b) s (fun m' =>
        m' = { m with sp := { m.sp with runs := sset none m.sp.runs b (some { r with nextAt := m.now + r.interval }) } })))

/-- R369–R372, R383. In RUN each PTP message of its port: an Announce renews its foreign master, whose best qualified one is the port's master; a Sync of the master gives
an offset at once, or with its Follow_Up, delivered only with a link of 100 Mbit/s or more and a peer delay of the last 3 s; a Pdelay_Req is answered two-step; the answers
to the own request give the mean peer delay; messages that are malformed, of another domain or out of range are counted. A master not heard for three
announce intervals is dropped, and an instance without Syncs or peer delay delivers nothing.
Completes, with its own effect, in the states its clauses name: announce, sync, followUp, pdelayReq, pdelayResp, pdelayRespFollowUp, pdelayReqSend,
announceReceiptTimeout, ptpOffsetTimeout. -/
def Obligations.PtpInstances : Prop :=
  ∀ (s : State) (t : Nat) (h : PortHead),
    let m := arrive t s
    let p := h.port.val
    let x := m.ptp p
    let stamp := h.sof - m.fld (R.STA_SP_DLY_ING p)
    let domain := m.fld R.STA_CFG_DOMAIN
    let bad := fun (m' : Mach) => Received m m' h ∧ m'.fld R.STA_PTP_CNT_BAD = min (m.fld R.STA_PTP_CNT_BAD + 1) (2 ^ 16 - 1) ∧ m'.sp.ptp = m.sp.ptp
    let gives := fun (origin : Nat) (corr : Int) (from_ came : Nat) (log : Int) (m' : Mach) => Received m m' h ∧
      (m'.ptp p).sync = none ∧ (m'.ptp p).lastSync = some (came, logNs log) ∧
      (x.delay = none → m'.fld R.STA_PTP_SYNCS = m.fld R.STA_PTP_SYNCS ∧ (m'.ptp p).delivers = x.delivers) ∧
      ∀ d a, x.delay = some (d, a) → m'.fld R.STA_PTP_SYNCS = (m.fld R.STA_PTP_SYNCS + 1) % 2 ^ 32 ∧ (m'.ptp p).offset = from_ - (origin + corr + d) ∧
        (m'.ptp p).delivers = decide (m.now ≤ a + 3000000000 ∧ 1 ≤ m.fld (speedFld p) ∧ m.now ≤ came + 3 * logNs log)
    let delay := fun (d : Int) (m' : Mach) => Received m m' h ∧ (m'.ptp p).delay = some (d, m.now) ∧ (m'.ptp p).reqAt = none ∧
      m'.fld (if p = 0 then R.STA_PTP_PDLY0 else R.STA_PTP_PDLY1) = d.toNat % 2 ^ 32
    m.st = .run →
    (PtpTakes m h →
      (∀ a, a.ok = true → a.domain.toNat = domain → logOk a.logInterval = true → Answers (.announce t h a) s (fun m' => PortOnly m m' ∧ Received m m' h ∧
        (m'.ptp p).foreign = x.foreign.filter (fun f => f.ann.src != a.src) ++ [⟨a, m.now, (x.foreign.find? (fun f => f.ann.src == a.src)).map (·.at_)⟩] ∧
        (m'.ptp p).master.map (·.1) = (bestForeign m.now (x.master.map (·.1)) (m'.ptp p).foreign).map (·.ann.src))) ∧
      (∀ a, a.ok = false ∨ a.domain.toNat ≠ domain ∨ logOk a.logInterval = false → Answers (.announce t h a) s (fun m' => PortOnly m m' ∧ bad m')) ∧
      (∀ y, y.ok = true → y.domain.toNat = domain → logOk y.logInterval = true →
        (x.master.map (·.1) ≠ some y.src → Answers (.sync t h y) s (fun m' => PortOnly m m' ∧ Received m m' h ∧ m'.sp.ptp = m.sp.ptp)) ∧
        (x.master.map (·.1) = some y.src → y.twoStep = true → Answers (.sync t h y) s (fun m' => PortOnly m m' ∧ Received m m' h ∧ (m'.ptp p).sync = some y ∧ (m'.ptp p).syncIn = stamp ∧ (m'.ptp p).syncAt = m.now)) ∧
        (x.master.map (·.1) = some y.src → y.twoStep = false → Answers (.sync t h y) s (fun m' => PortOnly m m' ∧ gives y.origin y.corr stamp m.now y.logInterval m'))) ∧
      (∀ y, y.ok = false ∨ y.domain.toNat ≠ domain ∨ logOk y.logInterval = false → Answers (.sync t h y) s (fun m' => PortOnly m m' ∧ bad m')) ∧
      (∀ y z, y.ok = true → y.domain.toNat = domain → x.sync = some z → z.src = y.src → z.seq = y.seq → Answers (.followUp t h y) s (fun m' => PortOnly m m' ∧
        gives y.origin (z.corr + y.corr) x.syncIn x.syncAt z.logInterval m')) ∧
      (∀ y, y.ok = false ∨ y.domain.toNat ≠ domain → Answers (.followUp t h y) s (fun m' => PortOnly m m' ∧ bad m')) ∧
      (∀ d egress, d.ok = true → d.domain.toNat = domain → Answers (.pdelayReq t h d egress) s (fun m' => PortOnly m m' ∧ Received m m' h ∧
        m'.out.drop (m'.out.length - 2) = [.port p none (.pdelayResp 0x0180C200000E domain d.seq.toNat stamp),
          .port p none (.pdelayRespFollowUp 0x0180C200000E domain d.seq.toNat (egress + m.fld (R.STA_SP_DLY_EGR p)))])) ∧
      (∀ d egress, d.ok = false ∨ d.domain.toNat ≠ domain → Answers (.pdelayReq t h d egress) s (fun m' => PortOnly m m' ∧ bad m')) ∧
      (∀ d a, d.ok = true → d.domain.toNat = domain → d.own = true → d.seq.toNat = x.reqSeq → x.reqAt = some a →
        (d.twoStep = true → Answers (.pdelayResp t h d) s (fun m' => PortOnly m m' ∧ Received m m' h ∧ (m'.ptp p).resp = some ((d.time : Int), stamp, d.corr))) ∧
        (d.twoStep = false → Answers (.pdelayResp t h d) s (fun m' => PortOnly m m' ∧ delay (((stamp : Int) - a - d.corr) / 2) m')) ∧
        (∀ t2 t4 c, x.resp = some (t2, t4, c) → Answers (.pdelayRespFollowUp t h d) s (fun m' => PortOnly m m' ∧
          delay ((((t4 : Int) - a) - (d.time - t2) - c - d.corr) / 2) m')))) ∧
    (∀ egress, m.portUp p = true → m.flag R.STA_CFG_PTPEN = true → Answers (.pdelayReqSend t h.port egress) s (fun m' => PortOnly m m' ∧
      (m'.ptp p).reqSeq = (x.reqSeq + 1) % 65536 ∧ (m'.ptp p).reqAt = some (egress + m.fld (R.STA_SP_DLY_EGR p)) ∧ (m'.ptp p).resp = none ∧
      .port p none (.pdelayReq 0x0180C200000E domain ((x.reqSeq + 1) % 65536)) ∈ m'.out ∧ (x.reqAt ≠ none → x.resp = none → x.misses = 2 → (m'.ptp p).delay = none ∧ (m'.ptp p).delivers = false))) ∧
    (∀ f, x.slave = some f → f.at_ + 3 * logNs f.ann.logInterval ≤ m.now → Answers (.announceReceiptTimeout t h.port) s (fun m' => PortOnly m m' ∧
      m'.fld R.STA_PTP_CNT_ANNTO = min (m.fld R.STA_PTP_CNT_ANNTO + 1) (2 ^ 16 - 1) ∧ (m'.ptp p).foreign = x.foreign.filter (fun g => g.ann.src != f.ann.src))) ∧
    (x.delivers = true → (∀ a i, x.lastSync = some (a, i) → a + 3 * i ≤ m.now) ∨ (∀ d a, x.delay = some (d, a) → a + 3000000000 ≤ m.now) →
      Answers (.ptpOffsetTimeout t h.port) s (fun m' => PortOnly m m' ∧ (m'.ptp p).delivers = false ∧ m'.flag R.STA_STAT_PTPOK = (m.ptp (1 - p)).delivers))

/-- R359–R368, R383. The other commands of the station ports: supervision frames and their reception, the node table's time-out, a silent LAN, ARP and ICMP, gratuitous ARP, a
link going up and down with its fault, enabling and disabling a port with the link-down time, and the discarded frames with their counters.
Completes, with its own effect, in the states its clauses name: prpSupervisionSend, prpSupervisionFrame, prpNodeTimeout, prpLanSilence, arpRequest,
icmpEcho, gratuitousArp, portLinkUp, portLinkDown, spPortEn, portNegotiationRestart, discardedPortFrame. -/
def Obligations.PortLinksAndFrames : Prop :=
  ∀ (s : State) (t : Nat) (p : Fin 2),
    let m := arrive t s
    let dark := (m.port p).downAt
    (m.alive = true → m.fld R.STA_CFG_MODE = 0 → Answers (.prpSupervisionSend t) s (fun m' => PortOnly m m' ∧ m'.sp.rct = (m.sp.rct + 1) % 65536 ∧
      ∀ q, q < 2 → m.portUp q = true → .port q (some (m.rctOf m.sp.rct q)) (.prpSupervision 0x01154E000100 1) ∈ m'.out ∧ m'.fld (R.STA_SP_TXFRM q) = (m.fld (R.STA_SP_TXFRM q) + 1) % 2 ^ 32)) ∧
    (∀ h, SupTakes m h → Answers (.prpSupervisionFrame t h) s (fun m' => PortOnly m m' ∧ Received m m' h ∧ (m'.port h.port).rxAt = some m.now ∧
      (m'.pt (4292 + h.port.val)).sv = true)) ∧
    (∀ (mac : BitVec 48) n, sget none m.sp.nodes mac.toNat = some n → n.seen + 60000000000 ≤ m.now → Answers (.prpNodeTimeout t mac) s (fun m' => PortOnly m m' ∧
      sget none m'.sp.nodes mac.toNat = none ∧ ∀ k, k ≠ mac.toNat → sget none m'.sp.nodes k = sget none m.sp.nodes k)) ∧
    (∀ a, (m.port p).rxAt = some a → a + 2000000000 ≤ m.now → Answers (.prpLanSilence t p) s (fun m' => Events m m' (fun _ => False) ∧ (m'.pt (4292 + p.val)).sv = false)) ∧
    (∀ h (ip : BitVec 32), SupTakes m h → Answers (.arpRequest t h ip) s (fun m' => PortOnly m m' ∧ Received m m' h ∧
      if ip.toNat = m.fld R.STA_IPADDR then ∃ c, .port h.port.val c (.arpReply h.mac.toNat) ∈ m'.out else ∀ q c, .port q c (.arpReply h.mac.toNat) ∈ m'.out →
        .port q c (.arpReply h.mac.toNat) ∈ m.out)) ∧
    (∀ h (ip : BitVec 32) data, SupTakes m h → ip.toNat = m.fld R.STA_IPADDR → data.length ≤ 1472 → Answers (.icmpEcho t h ip data) s (fun m' => PortOnly m m' ∧
      Received m m' h ∧ ∃ c, .port h.port.val c (.echoReply h.mac.toNat data) ∈ m'.out)) ∧
    (∀ a, (m.port p).garpAt = some a → a ≤ m.now → Answers (.gratuitousArp t p) s (fun m' => PortOnly m m' ∧ (m'.port p).garpAt = none ∧
      (m.portUp p = true → ∃ c, .port p.val c .gratuitousArp ∈ m'.out))) ∧
    (∀ speed : Fin 3, m.alive = true → m.flag (R.STA_SP_CFG_EN p) = true → m.flag (enpendFld p) = false → p = 0 ∨ m.fld R.STA_CFG_MODE = 0 → m.flag (linkFld p) = false →
      Answers (.portLinkUp t p speed) s (fun m' => PortOnly m m' ∧ m'.flag (linkFld p) = true ∧ m'.fld (speedFld p) = speed.val ∧ (m'.pt (4290 + p.val)).sv = true ∧
        (m'.port p).garpAt = some (m.now + 1000000000) ∧ (0x34D0 + p.val, 0, 1) ∉ m'.faults)) ∧
    (m.flag (linkFld p) = true → Answers (.portLinkDown t p) s (fun m' => m'.flag (linkFld p) = false ∧ m'.fld (speedFld p) = 0 ∧ (m'.pt (4290 + p.val)).sv = false ∧
      (0x34D0 + p.val, 0, 1) ∈ m'.faults ∧ (m'.ptp p).delivers = false ∧ (m.st = .run → PortOnly m m'))) ∧
    (m.st ≠ .off →
      (m.flag (R.STA_SP_CFG_EN p) = false → (∀ a, dark = some a → a + Config.linkDownTime ≤ m.now) → Answers (.spPortEn t p true) s (fun m' =>
        Regs m m' [(R.STA_SP_CFG p).addr] ∧ m'.flag (R.STA_SP_CFG_EN p) = true)) ∧
      (∀ a, m.flag (R.STA_SP_CFG_EN p) = false → dark = some a → m.now < a + Config.linkDownTime → Answers (.spPortEn t p true) s (fun m' =>
        Regs m m' [(R.STA_SP_CFG p).addr, R.STA_STAT.addr] ∧ m'.flag (R.STA_SP_CFG_EN p) = true ∧ m'.flag (enpendFld p) = true)) ∧
      (m.flag (R.STA_SP_CFG_EN p) = true → Answers (.spPortEn t p false) s (fun m' => m'.flag (R.STA_SP_CFG_EN p) = false ∧ m'.flag (enpendFld p) = false ∧
        m'.flag (linkFld p) = false ∧ (m.st = .run → PortOnly m m' ∧ (m'.port p).downAt = some m.now)))) ∧
    (∀ a, dark = some a → a + Config.linkDownTime ≤ m.now → Answers (.portNegotiationRestart t p) s (fun m' =>
      m' = { m with regs := m'.regs, sp := m'.sp } ∧ m'.flag (enpendFld p) = false ∧ (m'.port p).downAt = none)) ∧
    (∀ h, Takes m h → Answers (.discardedPortFrame t h 0) s (fun m' => PortOnly m m' ∧ Received m m' h ∧
      m'.fld (R.STA_SP_DROPTYPE h.port) = min (m.fld (R.STA_SP_DROPTYPE h.port) + 1) (2 ^ 32 - 1))) ∧
    (∀ h, m.alive = true → m.portUp h.port = true → Answers (.discardedPortFrame t h 1) s (fun m' => Regs m m' [(R.STA_SP_RXERR h.port).addr] ∧
      m'.fld (R.STA_SP_RXERR h.port) = min (m.fld (R.STA_SP_RXERR h.port) + 1) (2 ^ 32 - 1))) ∧
    (∀ h, m.alive = true → m.portUp h.port = true → h.mac.toNat = m.ownMac → Answers (.discardedPortFrame t h 2) s (fun m' => PortOnly m m' ∧ Received m m' h)) ∧
    (∀ h, PtpTakes m h → Answers (.discardedPortFrame t h 3) s (fun m' => PortOnly m m' ∧ Received m m' h ∧
      m'.fld R.STA_PTP_CNT_BAD = min (m.fld R.STA_PTP_CNT_BAD + 1) (2 ^ 16 - 1)))

/-- R515–R518, R524–R527, R530. The mimic display. A set of EN powers the rails up where the display runs, waits for a discharge or leaves the state; disabling stops the drive, at a frame boundary while it
runs; rails in range make it ready, their discharge ends it, powers it up again or, after the third fault, leaves it in FAULT; a rail out of range for 1 ms stops it with its fault, and it retries. A
panel frame ends the updates that are complete and drives the others one frame further, or stops; a poll leaves every element of the page drawn as it
shows; the thermistor's value, or its opening with a fault, is shown.
Completes, with its own effect, in the states its clauses name: dspEnable, dspDisable, railsReady, dischargeComplete, panelFrame, displayPoll,
thermistorMeasurement, railFault, railRetry. -/
def Obligations.MimicDisplay : Prop :=
  ∀ (s : State) (t : Nat),
    let m := arrive t s
    let d := m.dsp
    let only := fun (m' : Mach) => DisplayOnly m m'
    let may := m.dspRuns = true ∧ d.warned = false
    (m.st ≠ .off → m.flag R.DSP_CTRL_EN = true → Answers (.dspEnable t) s (fun m' => m' = m)) ∧
    (m.st ≠ .off → m.flag R.DSP_CTRL_EN = false → Answers (.dspEnable t) s (fun m' => only m' ∧ m'.flag R.DSP_CTRL_EN = true ∧
      (d.stopPend = true ∨ d.dischAt ≠ none → m'.flag R.DSP_STAT_ENPEND = true ∧ m'.dspState = m.dspState) ∧
      (d.stopPend = false → d.dischAt = none → (m.dspState = 0 → may → m'.dspState = 1) ∧ (m.dspState ≠ 0 ∨ ¬ may → m'.dspState = m.dspState)))) ∧
    (m.flag R.DSP_CTRL_EN = true → Answers (.dspDisable t) s (fun m' => only m' ∧ m'.flag R.DSP_CTRL_EN = false ∧ m'.flag R.DSP_STAT_ENPEND = false ∧
      (m.dspState = 2 → m'.dsp.stopPend = true ∧ m'.dspState = 2) ∧ (m.dspState = 1 → (∀ x ∈ d.runs, x.1 < 16) → m'.dspState = 3) ∧
      (m.dspState ≠ 1 → m.dspState ≠ 2 → m'.dsp = d ∧ m'.dspState = m.dspState))) ∧
    (m.dspState = 1 → Answers (.railsReady t) s (fun m' => only m' ∧ m'.dspState = 2 ∧ m'.fld R.DSP_RAIL_OK = 31 ∧ (m'.pt 4294).sv = true ∧ (0x3607, 0, 1) ∉ m'.faults ∧ m'.dsp.broken = [])) ∧
    (∀ a, d.dischAt = some a → d.stopping = false → d.stopPend = false → Answers (.dischargeComplete t) s (fun m' => only m' ∧ m'.dsp.dischAt = none ∧
      m'.flag R.DSP_STAT_ENPEND = false ∧ (3 ≤ d.faults.length → m'.dspState = 5) ∧ (d.faults.length < 3 →
        (m.flag R.DSP_STAT_ENPEND = true → may → m'.dspState = 1) ∧ (m.flag R.DSP_STAT_ENPEND = false ∨ ¬ may → m'.dspState = 0)))) ∧
    (m.dspState = 2 → (∀ x ∈ d.runs, x.1 < 16) → (d.runs.map (·.1)).Nodup →
      let done := m.activeRuns.filter (fun x => decide (m.dspFrames x.2 ≤ x.2.frame))
      Answers (.panelFrame t) s (fun m' => only m' ∧ m'.fld R.DSP_CNT0_UPDATES = (m.fld R.DSP_CNT0_UPDATES + done.length) % 2 ^ 16 ∧
        (d.stopPend = true → m'.dspState = 3 ∧ m'.dsp.stopPend = false ∧ m'.dsp.dischAt = some (m.now + 1000000000 / m.bandFr (m.fld R.DSP_TEMP_BAND) + 2100000)) ∧
        (d.stopPend = false → m'.dspState = 2 ∧ ∀ n r, m.dspRun n = some r → r.frame < m.dspFrames r → m'.dspRun n = some { r with frame := r.frame + 1 }))) ∧
    (m.dspRuns = true → Answers (.displayPoll t) s (fun m' => only m' ∧
      ∀ e, e < m.elemCount (m.fld R.DSP_PAGE_SHOWN) → sget [] m'.dsp.drawn e = m'.elemGlyphs (m.elemAt (m.fld R.DSP_PAGE_SHOWN) e))) ∧
    (∀ temp : Int, m.alive = true → m.dspOn = true →
      (temp < -450 ∨ 900 < temp → Answers (.thermistorMeasurement t temp) s (fun m' => only m' ∧ m'.flag R.DSP_TEMP_OPEN = true ∧ m'.faultOn 0x360A = true)) ∧
      (-450 ≤ temp → temp ≤ 900 → Answers (.thermistorMeasurement t temp) s (fun m' => only m' ∧ m'.flag R.DSP_TEMP_OPEN = false ∧
        m'.fld R.DSP_TEMP_TEMP = twos 16 temp ∧ (0x360A, 0, 1) ∉ m'.faults))) ∧
    (∀ ok : Fin 32, m.dspState = 2 → ok.val ≠ 31 → Answers (.railFault t ok) s (fun m' => only m' ∧ m'.fld R.DSP_RAIL_OK = ok.val ∧
      m'.fld R.DSP_RAIL_FAULTS = min (m.fld R.DSP_RAIL_FAULTS + 1) (2 ^ 16 - 1) ∧ m'.faultOn 0x3607 = true ∧ m'.dsp.stopPend = true)) ∧
    (∀ a, d.retryAt = some a → a ≤ m.now → m.dspState = 0 → m.flag R.DSP_CTRL_EN = true → d.stopPend = false → d.dischAt = none → may → Answers (.railRetry t) s (fun m' => only m' ∧ m'.dspState = 1 ∧ m'.dsp.retryAt = none))

/-- R227, R494, R497–R507. The move engine. A rising request line adds a request to each of its channels, or shows that it has too many. A burst serves the channel that wins: channel 0 moves four
entries of the journal FIFO into the ring; a program channel takes its next request, starts its descriptor or refuses it, and moves 64 bytes, each as
its mode says, on to the next row, the end of the descriptor and the next one; a byte that cannot be read halts the channel with its fault. Enabling,
aborting and restarting a channel act on it alone.
Completes, with its own effect, in the states its clauses name: requestLine, burst, movChEn, movChAbort, movErrRestart. -/
def Obligations.MoveEngine : Prop :=
  ∀ (s : State) (t : Nat),
    let m := arrive t s
    (∀ l : Fin 5, m.alive = true → Answers (.requestLine t l) s (fun m' => Regs m m' ((lineChannels l).map (fun c => (R.MOV_CH_STAT c).addr)) ∧
      ∀ c ∈ lineChannels l, if m.fld (R.MOV_CH_STAT_PEND c) = 63 then m'.flag (R.MOV_CH_STAT_REQOVF c) = true ∧ m'.fld (R.MOV_CH_STAT_PEND c) = 63
        else m'.fld (R.MOV_CH_STAT_PEND c) = m.fld (R.MOV_CH_STAT_PEND c) + 1)) ∧
    (∀ bad, m.movWinner = some 0 → m.ev.ring.length + 4 ≤ 1048576 → Answers (.burst t bad) s (fun m' => MoveOnly m m' ∧ m'.ev.fifo = m.ev.fifo.drop 4 ∧
      m'.ev.ring = m.ev.ring ++ m.ev.fifo.take 4 ∧ m'.fld (R.MOV_CH_STAT_PEND 0) = m.fld (R.MOV_CH_STAT_PEND 0) - 1 ∧
      m'.fld (R.MOV_CH_BYTES 0) = (m.fld (R.MOV_CH_BYTES 0) + 16 * (m.ev.fifo.take 4).length) % 2 ^ 32)) ∧
    (∀ (bad : Option (Fin 64)) c r, m.movWinner = some c → c ≠ 0 → (m.movCh c).run = some r →
      let d := m.pdesc r.index
      let n := min 64 (d.len - r.pos)
      let src := d.src + r.row * d.sstride
      let dst := d.dst + r.row * d.dstride
      let at_ := d.dstOf r.pos n
      (bad = none ∨ d.kind = 1 ∨ inView d.src = true → Answers (.burst t bad) s (fun m' => MoveOnly m m' ∧ m'.fld (R.MOV_CH_BYTES c) = (m.fld (R.MOV_CH_BYTES c) + n) % 2 ^ 32 ∧
        (∀ j, j < at_.2 → m'.pbufByte (dst + at_.1 + j) = m.movDst r d src dst (at_.1 + j)) ∧
        (∀ a, a < dst + at_.1 ∨ dst + at_.1 + at_.2 ≤ a → m'.pbufByte a = m.pbufByte a) ∧
        (n < d.len - r.pos → (m'.movCh c).run = some { r with pos := r.pos + n } ∧ m'.fld (R.MOV_CH_RESID_BYTES c) = d.len - r.pos - n) ∧
        (d.len - r.pos ≤ n → r.row + 1 < d.rows → (m'.movCh c).run = some { r with row := r.row + 1, pos := 0 } ∧ m'.fld (R.MOV_CH_RESID_BYTES c) = d.len ∧
          m'.fld (R.MOV_CH_ROWSLEFT_ROWS c) = d.rows - r.row - 2) ∧
        (d.len - r.pos ≤ n → d.rows ≤ r.row + 1 → m'.fld (R.MOV_CH_DONE c) = (m.fld (R.MOV_CH_DONE c) + 1) % 2 ^ 32 ∧
          (d.next = 0xFFFF → (m'.movCh c).run = none ∧ m'.fld (R.MOV_CH_STAT_STATE c) = 0 ∧ m'.fld (R.MOV_CH_RESID_BYTES c) = 0) ∧
          (255 < d.next → d.next ≠ 0xFFFF → (m'.movCh c).run = none ∧ m'.fld (R.MOV_CH_ERRINFO_CODE c) = 6 ∧ m'.flag (R.MOV_CH_STAT_REFUSED c) = true) ∧
          (d.next ≤ 255 → (m.pdesc d.next).refusal (m.flag (R.MOV_CH_CTRL_NOOVL c)) = none → m'.fld (R.MOV_CH_STAT_STATE c) = 1 ∧
            m'.fld (R.MOV_CH_DESC_INDEX c) = d.next ∧ ∃ q, (m'.movCh c).run = some q ∧ q.index = d.next ∧ q.req = r.req ∧ q.row = 0 ∧ q.pos = 0)))) ∧
      (∀ j : Fin 64, bad = some j → d.kind ≠ 1 → inView d.src = false → Answers (.burst t bad) s (fun m' =>
        Events { m with mov := m'.mov } m' (fun a => (0xE0000 ≤ a ∧ a < 0xF0000) ∨ a = R.DIAG_ECCUNC.addr) ∧ m'.fld (R.MOV_CH_STAT_STATE c) = 2 ∧
        (m'.fld R.DIAG_ECCUNC_REGION).testBit 6 ∧ m'.fld (R.MOV_CH_ERRADDR c) = (src + d.srcOf (r.pos + j.val)) % 2 ^ 32 ∧ m'.fld (R.MOV_CH_ERRINFO_CODE c) = 3 ∧ m'.flag (R.MOV_CH_ERRINFO_ERR c) = true ∧
        (0x31E3, 0, 2) ∈ m'.faults ∧ m'.mov.pbuf = m.mov.pbuf))) ∧
    (∀ c q qs, m.movWinner = some c → c ≠ 0 → (m.movCh c).run = none → (m.movCh c).queue = q :: qs → qs.length < 4 →
      let d := m.pdesc q.index
      (q.index ≤ 255 → d.refusal (m.flag (R.MOV_CH_CTRL_NOOVL c)) = none → Answers (.burst t none) s (fun m' => MoveOnly m m' ∧ (m'.movCh c).queue = qs ∧
        m'.fld (R.MOV_CH_STAT_QLEN c) = qs.length ∧ m'.fld (R.MOV_CH_BYTES c) = (m.fld (R.MOV_CH_BYTES c) + min 64 d.len) % 2 ^ 32 ∧
        (64 < d.len → m'.fld (R.MOV_CH_DESC_INDEX c) = q.index ∧ m'.fld (R.MOV_CH_STAT_STATE c) = 1))) ∧
      (∀ code, q.index ≤ 255 → d.refusal (m.flag (R.MOV_CH_CTRL_NOOVL c)) = some code → qs = [] → Answers (.burst t none) s (fun m' => MoveOnly m m' ∧
        (m'.movCh c).run = none ∧ (m'.movCh c).queue = [] ∧ m'.fld (R.MOV_CH_ERRINFO_CODE c) = code ∧ m'.flag (R.MOV_CH_STAT_REFUSED c) = true ∧
        m'.fld (R.MOV_CH_DROP_REFUSED c) = min (m.fld (R.MOV_CH_DROP_REFUSED c) + 1) (2 ^ 16 - 1) ∧ m'.mov.pbuf = m.mov.pbuf))) ∧
    (∀ c : Fin 16, m.st ≠ .off →
      let x := m.movCh c
      Answers (.movChEn t c true) s (fun m' => Regs m m' [(R.MOV_CH_CTRL c).addr] ∧ m'.flag (R.MOV_CH_CTRL_EN c) = true) ∧
      (m.flag (R.MOV_CH_CTRL_EN c) = true → Answers (.movChEn t c false) s (fun m' => MoveOnly m m' ∧ m'.flag (R.MOV_CH_CTRL_EN c) = false ∧ m'.movCh c = { x with run := none } ∧
        m'.fld (R.MOV_CH_STAT_STATE c) = 3)) ∧
      (∀ keep, Answers (.movChAbort t c keep) s (fun m' => MoveOnly m m' ∧ m'.movCh c = { queue := if keep then x.queue else [], run := none } ∧
        m'.fld (R.MOV_CH_STAT_STATE c) = 3 ∧ m'.flag (R.MOV_CH_ERRINFO_ERR c) = false ∧
        m'.fld (R.MOV_CH_STAT_PEND c) = (if keep then m.fld (R.MOV_CH_STAT_PEND c) else 0) ∧ ∀ k, k ≠ c.val → m'.movCh k = m.movCh k)) ∧
      (m.flag (R.MOV_CH_ERRINFO_ERR c) = true → Answers (.movErrRestart t c) s (fun m' => MoveOnly m m' ∧ m'.flag (R.MOV_CH_ERRINFO_ERR c) = false ∧
        m'.movCh c = { x with run := none } ∧ m'.fld (R.MOV_CH_STAT_STATE c) = 0)))

/-- R236, R246–R254, R256. The online change. A load step fills the idle bank of the next affected engine, and the last makes the change ready; the drain start opens the window,
where the affected tasks hold no waiting snapshot; the drain complete, the map phase writes the content the map gives, after keeping what was there; the swap commit takes the next CSN, runs
the new package and leaves its activation to the key; a drain that comes too late abandons the window on the old code.
Completes, with its own effect, in the states its clauses name: olcLoadStep, drainStart, drainComplete, swapCommit, olcAbandon. -/
def Obligations.OnlineChange : Prop :=
  ∀ (s : State) (t : Nat),
    let m := arrive t s
    let p := m.olc.pkg
    (m.olcState = olcLoad →
      (∀ e, m.olcEngs.find? (fun e => !(m.fld R.IMG_OLCENG_LOADED).testBit e) = some e → Answers (.olcLoadStep t) s (fun m' =>
        m' = { m with regs := m'.regs, engs := m'.engs, olc := m'.olc } ∧ m'.olcState = olcLoad ∧ (∀ i, i ≠ m.standIn e → m'.eng i = m.eng i) ∧
        m'.eng (m.standIn e) = (if m.fld (R.ENG_CFG_BANK (m.standIn e)) = 0 then { m.eng (m.standIn e) with bank1 := codeBank p e }
          else { m.eng (m.standIn e) with bank0 := codeBank p e }) ∧
        m'.fld R.IMG_OLCENG_LOADED = m.fld R.IMG_OLCENG_LOADED + 2 ^ e ∧ m'.fld R.IMG_OLCPROG_DONE = (m.fld R.IMG_OLCPROG_DONE + 1) % 2 ^ 16)) ∧
      (m.olcEngs.find? (fun e => !(m.fld R.IMG_OLCENG_LOADED).testBit e) = none → Answers (.olcLoadStep t) s (fun m' =>
        m' = { m with regs := m'.regs, out := m'.out, pair := m'.pair } ∧ m'.olcState = olcReady))) ∧
    (m.olcState = olcArmed → m.fld64 R.IMG_OLCDRN_LO ≤ m.now → Answers (.drainStart t) s (fun m' => m'.olcOpen = true ∧ m'.olcState = olcWindow ∧ m'.st = m.st ∧ m'.img = m.img ∧
      (∀ k ∈ m.olcTasks, (m'.task k).snap = (if m.following then (m.task k).snap else none) ∧ (m'.task k).run = (m.task k).run ∧ (m'.task k).held = (m.task k).held) ∧ m'.olc.mapped = false)) ∧
    (m.olcState = olcWindow → m.following = false → (∀ k ∈ m.olcTasks, (m.task k).run = none ∧ (m.task k).held = none) → m.olc.mapped = false →
      (∀ x ∈ m.olc.eng, x.1 < 16) → Answers (.drainComplete t) s (fun m' => m'.olc.mapped = true ∧ m'.olcState = olcWindow ∧ m'.tasks = m.tasks ∧ m'.pts = m.pts ∧
        m'.img = (mapWrites p m.img).foldl (fun i x => sset 0 i x.1 x.2) m.img ∧
        ∃ o, m'.olc.saved = some o ∧ ∀ x ∈ mapWrites p m.img, (x.1, sget 0 m.img x.1) ∈ o.img)) ∧
    (m.olcState = olcWindow → m.following = true → m.olc.leadDone = true → (∀ c ∈ m.pair.commits, m.olcTask c.task = false) → m.cu.app = none → m.olc.mapped = false →
      (∀ x ∈ m.olc.eng, x.1 < 16) → Answers (.drainComplete t) s (fun m' => m'.olc.mapped = true ∧ m'.olcState = olcWindow ∧ m'.pts = m.pts ∧
        m'.img = (mapWrites p m.img).foldl (fun i x => sset 0 i x.1 x.2) m.img ∧ ∀ k ∈ m.olcTasks, (m'.task k).snap = none ∧ (m'.task k).run = none ∧ (m'.task k).held = none)) ∧
    (m.olcState = olcWindow → m.olc.mapped = true → m.hasToken = true → m.st = .run → m.cu.app = none → m.cu.nextStart ≤ m.now →
      m.isLead = false ∨ m.pair.ptnFollow = false ∨ m.pair.olc = 3 → Answers (.swapCommit t) s (fun m' =>
        let csn := if 2 ^ 48 ≤ m.csn + 1 then 1 else m.csn + 1
        m'.csn = csn ∧ m'.fld64 R.IMG_OLCCSN_LO = csn ∧ m'.fld64 R.IMG_OLCSWT_LO = m.now % 2 ^ 64 ∧ m'.fld R.IMG_OLCCNT_SWAPS = min (m.fld R.IMG_OLCCNT_SWAPS + 1) (2 ^ 16 - 1) ∧
        m'.olcState = olcIdle ∧ m'.olcOpen = false ∧ m'.fld R.IMG_OLCSTAT_RESULT = 0 ∧ m'.flag R.IMG_OLCSTAT_KEYPEND = true ∧ m'.upd.pkg = p ∧ m'.st = .run ∧
        m'.fld R.UPD_KEYSTAT_RUNSLOT = 1 - m.fld R.UPD_KEYSTAT_RUNSLOT ∧ m'.upd.actPend = some (1 - m.fld R.UPD_KEYSTAT_RUNSLOT) ∧
        (∀ e ∈ m.olcEngs, (∀ i ∈ m.olcEngs, m.standIn i = m.standIn e → i = e) →
          m'.fld (R.ENG_CFG_BANK (m.standIn e)) = 1 - m.fld (R.ENG_CFG_BANK (m.standIn e))) ∧ m'.cu.nextStart = m.now + 1000)) ∧
    (m.olcState = olcWindow → m.st = .run → m.olc.mapped = true → m.hasToken = true → m.isLead = true → m.pair.ptnFollow = true → m.pair.olc ≠ 3 →
      m.fld64 R.IMG_OLCDRN_LO + m.olc.len ≤ m.now → Answers (.olcAbandon t) s (fun m' => m'.olcState = olcReady ∧ m'.fld R.IMG_OLCSTAT_RESULT = 9 ∧
        m'.flag R.IMG_OLCSTAT_ABANDONED = true ∧ m'.upd.pkg = m.upd.pkg ∧ m'.csn = m.csn)) ∧
    (m.olcState = olcWindow → m.st = .run → m.olc.mapped = false → m.olc.saved = none → m.fld64 R.IMG_OLCDRN_LO + m.olc.len - m.olc.est ≤ m.now →
      Answers (.olcAbandon t) s (fun m' => m'.olcState = olcReady ∧ m'.olcOpen = false ∧ m'.fld R.IMG_OLCSTAT_RESULT = 7 ∧ m'.flag R.IMG_OLCSTAT_ABANDONED = true ∧
        m'.fld R.IMG_OLCCNT_ABANDONS = min (m.fld R.IMG_OLCCNT_ABANDONS + 1) (2 ^ 16 - 1) ∧ m'.img = m.img ∧ m'.upd.pkg = m.upd.pkg ∧ m'.csn = m.csn))

/-- R418–R428. The supervisor's tests. A lockstep mismatch and a stopped clock or rail but XO32's are FATAL; corrected errors are counted, and the third of an address within 24 h
is named with its fault; an uncorrectable one sets its region's bit and takes an engine out of service, raises the FATAL or MAJOR fault, or leaves it to the
store's own check; a mismatching code bank and the entries of a bad DRAM block are reported; a BIST returns an engine or retires it. An audit runs, agrees, is
repeated, and confirms or turns against its own engine; the spare takes a retired engine's segments. FAULT_CLEAR leaves the faults that clear by themselves; FAULT
restarts the module.
Completes, with its own effect, in the states its clauses name: lockstepMismatch, railClockFault, faultRestart, sramScrubPass, uncorrectableError,
codeBankCheck, dramScrub, flashScrub, engineBist, spareSwap, auditStart, auditComplete, auditTimeout, diagFclr, xo32Restart. -/
def Obligations.SelfTestsAndAudit : Prop :=
  ∀ (s : State) (t : Nat),
    let m := arrive t s
    let only := fun (m' : Mach) => SupOnly m m'
    m.alive = true →
    Answers (.lockstepMismatch t) s (fun m' => Events m m' (fun _ => False) ∧ m'.fatal = some 0x31D2 ∧ (0x31D2, 0, 3) ∈ m'.faults) ∧
    Answers (.railClockFault t true) s (fun m' => Events m m' (fun _ => False) ∧ m'.faultOn 0x31E5 = true ∧ m'.fatal = m.fatal) ∧
    Answers (.railClockFault t false) s (fun m' => Events m m' (fun _ => False) ∧ m'.fatal = some 0x31D1 ∧ (0x31D1, 0, 3) ∈ m'.faults) ∧
    Answers (.xo32Restart t) s (fun m' => only m' ∧ (0x31E5, 0, 1) ∉ m'.faults) ∧
    (∀ errs, Answers (.sramScrubPass t errs) s (fun m' => only m' ∧
      ∀ r : Fin 6, m'.fld (R.DIAG_ECCCOR r) = (m.fld (R.DIAG_ECCCOR r) + (errs.filter (fun x => x.1 == r)).length) % 2 ^ 32)) ∧
    (∀ (r : Fin 6) (a : BitVec 28) x y ts, m.sup.corrected.find? (fun z => z.1 == r.val && z.2.1 == a.toNat) = some (r.val, a.toNat, [x, y] ++ ts) →
      m.now < x + 86400000000000 → m.now < y + 86400000000000 → Answers (.sramScrubPass t [(r, a)]) s (fun m' => only m' ∧ (0x31D4, 0, 1) ∈ m'.faults ∧
        m'.fld R.DIAG_ECCADDR_ADDR = a.toNat ∧ m'.fld R.DIAG_ECCADDR_REGION = r.val)) ∧
    (∀ (r : Fin 8) (e : Fin 16) (pc : BitVec 14),
      (r.val ≤ 2 → (m.eng e).act = none → Answers (.uncorrectableError t r e pc) s (fun m' => (m'.fld R.DIAG_ECCUNC_REGION).testBit r ∧ (m'.eng e).power = .heldOut ∧
        m'.fld (R.ENG_FLT_CODE e) = 0x10 + r.val ∧ m'.fld (R.ENG_FLT_PC e) = pc.toNat ∧ m'.flag (R.ENG_FLT_VALID e) = true ∧ (0x31E0, e.val, 2) ∈ m'.faults)) ∧
      (∀ k j, r.val ≤ 2 → (m.eng e).act = some (k, j) → k < 32 → j < 8 → Answers (.uncorrectableError t r e pc) s (fun m' => (m'.fld R.DIAG_ECCUNC_REGION).testBit r ∧
        (m'.eng e).power = .heldOut ∧ m'.fld (R.ENG_FLT_CODE e) = 0x10 + r.val ∧ m'.fld (R.ENG_FLT_TASK e) = k ∧ (0x31E0, e.val, 2) ∈ m'.faults)) ∧
      (3 ≤ r.val → r.val ≤ 5 → Answers (.uncorrectableError t r e pc) s (fun m' => only m' ∧ (m'.fld R.DIAG_ECCUNC_REGION).testBit r ∧ m'.fatal = some 0x31D3)) ∧
      (r.val = 6 → Answers (.uncorrectableError t r e pc) s (fun m' => only m' ∧ (m'.fld R.DIAG_ECCUNC_REGION).testBit r ∧ (0x31E3, 0, 2) ∈ m'.faults)) ∧
      (r.val = 7 → Answers (.uncorrectableError t r e pc) s (fun m' => Regs m m' [R.DIAG_ECCUNC.addr] ∧ (m'.fld R.DIAG_ECCUNC_REGION).testBit r))) ∧
    (∀ bad : List (Fin 16), Answers (.codeBankCheck t bad) s (fun m' => Events m m' (fun _ => False) ∧ ∀ e ∈ bad, (0x31E2, e.val, 2) ∈ m'.faults ∧
      ((m.eng e).act = none → (if m.fld (R.ENG_CFG_BANK e) = 0 then (m'.eng e).bank0 else (m'.eng e).bank1) = codeBank m.upd.pkg (m.standsFor e)))) ∧
    (∀ errs, Answers (.dramScrub t errs none) s (fun m' => only m' ∧ m'.ev.ring = m.ev.ring ∧ m'.fld (R.DIAG_ECCCOR 6) = (m.fld (R.DIAG_ECCCOR 6) + errs.length) % 2 ^ 32)) ∧
    (∀ errs (seqs : List (BitVec 32)), Answers (.dramScrub t errs (some seqs)) s (fun m' => (m'.fld R.DIAG_ECCUNC_REGION).testBit 6 ∧ (0x31E3, 0, 2) ∈ m'.faults ∧
      m'.ev.ring = m.ev.ring.filter (fun j => !seqs.any (fun q => q.toNat == j.seq)))) ∧
    (∀ errs bad, Answers (.flashScrub t errs bad) s (fun m' => m'.fld (R.DIAG_ECCCOR 7) = (m.fld (R.DIAG_ECCCOR 7) + errs.length) % 2 ^ 32 ∧
      m'.ret.recs = m.ret.recs.filter (fun r => !(r.done && bad.contains r.seq)) ∧ (bad ≠ [] → (m'.fld R.DIAG_ECCUNC_REGION).testBit 7))) ∧
    (∀ e : Fin 16, (m.eng e).retired = false →
      let can := (m.eng e).power = .heldOut ∨ (m.eng e).power = .dim ∧ ∀ r ∈ m.readySegs, r.2.2.1 ≠ e.val
      let ran := fun (m' : Mach) => m'.fld R.DIAG_BIST_LASTENG = e.val ∧ m'.fld R.DIAG_BIST_RUNS = (m.fld R.DIAG_BIST_RUNS + 1) % 2 ^ 16
      (can → Answers (.engineBist t e 0) s (fun m' => m' = { m with regs := m'.regs, engs := m'.engs } ∧ ran m' ∧ ∀ i, i ≠ e.val → m'.eng i = m.eng i) ∧
        ((m.eng e).power = .heldOut → Answers (.engineBist t e 0) s (fun m' => (m'.eng e).power = if (m.quad (e.val / 4)).on then .dim else .dark))) ∧
      (can → Answers (.engineBist t e 1) s (fun m' => ran m' ∧ m'.flag R.DIAG_BIST_FAIL = true ∧ (0x31D5, e.val, 2) ∈ m'.faults ∧ (0x31D6, e.val, 2) ∈ m'.faults ∧
        (m'.eng e).retired = true ∧ (m'.eng e).power = .heldOut ∧ (m'.fld R.DIAG_SPARE_RETIRED).testBit e ∧
        (m.audOn = false → m'.fatal = some 0x31E4) ∧ (m.audOn = true → m.fld R.DIAG_AUD_ENG ≠ e.val → m'.sup.moving = some (e.val, m.fld R.DIAG_AUD_ENG, m.now)))) ∧
      Answers (.engineBist t e 2) s (fun m' => m' = m)) ∧
    (∀ e a w, m.sup.moving = some (e, a, w) → e < 16 → a < 16 → e ≠ a → (∀ k ∈ m.tasksOf e, m.inFlight k = false) → Answers (.spareSwap t) s (fun m' => m'.sup.moving = none ∧
      m'.fld (R.ENG_CFG_ROLE a) = 1 ∧ m'.fld R.DIAG_SPARE_FROM = e ∧ m'.fld R.DIAG_SPARE_TO = a ∧
      Events { m with sup := m'.sup, faults := m'.faults } m' (fun x => x = (R.ENG_CFG_ROLE a).addr ∨ (∃ k, k < 32 ∧ x = (R.TSK_SEGMAP k).addr) ∨ (0x120000 ≤ x ∧ x < 0x130000) ∨ x = R.PWR_DOM_ON.addr ∨
        ∃ i, x = (R.ENG_WAKEDARK i).addr) ∧
      ∀ k ∈ m.tasksOf e, ∀ j, j < 8 → m'.fld (segMap k j) = if m.fld (segMap k j) = e then a else m.fld (segMap k j))) ∧
    (∀ u, m.sup.audit = some u →
      (u.running = false → m.audOn = true → (∀ x, m.cu.app = some x → x.task ≠ u.task) → u.task < 32 → Answers (.auditStart t) s (fun m' =>
        m' = { m with regs := m'.regs, sup := { m.sup with audit := some { u with running := true } } } ∧ m'.flag R.DIAG_AUD_BUSY = true ∧ m'.fld R.DIAG_AUD_TASK = u.task)) ∧
      (u.running = true → Answers (.auditComplete t u.digests) s (fun m' => only m' ∧ m'.sup.audit = none ∧ m'.flag R.DIAG_AUD_BUSY = false ∧
        m'.fld R.DIAG_AUDCNT = (m.fld R.DIAG_AUDCNT + 1) % 2 ^ 32)) ∧
      (∀ ds, u.running = true → ds.length = u.digests.length → ds ≠ u.digests →
        (u.first = none → Answers (.auditComplete t ds) s (fun m' => m' = { m with sup := { m.sup with audit := some { u with first := some ds } } })) ∧
        (u.first = some ds → (∀ e x, e < 16 → (m.eng e).act = some x → x.1 < 32) → (∀ x ∈ u.engs, x < 16) → Answers (.auditComplete t ds) s (fun m' => m'.sup.audit = none ∧ (0x31D8, 0, 2) ∈ m'.faults ∧
          m'.fld R.DIAG_AUDMISM_CONF = min (m.fld R.DIAG_AUDMISM_CONF + 1) (2 ^ 16 - 1) ∧
          ∀ i e, u.engs[i]? = some e → i < ds.length → u.digests[i]? ≠ ds[i]? → (m.eng e).retired = false → (m'.eng e).power = .heldOut)) ∧
        (∀ f, u.first = some f → f ≠ ds → Answers (.auditComplete t ds) s (fun m' => m'.sup.audit = none ∧ m'.audOn = false ∧ (0x31D9, 0, 1) ∈ m'.faults ∧
          m'.fld R.DIAG_AUDMISM_SELF = min (m.fld R.DIAG_AUDMISM_SELF + 1) (2 ^ 16 - 1) ∧ (m'.eng (m.fld R.DIAG_AUD_ENG)).retired = true))) ∧
      (u.since + 100000000 ≤ m.now → Answers (.auditTimeout t) s (fun m' => only m' ∧ m'.sup.audit = none ∧
        m'.fld R.DIAG_AUDSKIP = min (m.fld R.DIAG_AUDSKIP + 1) (2 ^ 32 - 1)))) ∧
    Answers (.diagFclr t) s (fun m' => only m' ∧ m'.flag R.DIAG_FSUM_DEGRADED = false ∧ (m'.pt 4250).sv = false ∧ (m'.pt 4253).sv = false ∧
      (∀ f ∈ m'.faults, rcCode f.1 = true ∨ m.persists f.1 = true) ∧ ∀ f ∈ m.faults, rcCode f.1 = true → f ∈ m'.faults) ∧
    (∀ a, m.st = .fault → m.sup.faultAt = some a → m.fld R.DIAG_CFG_FRESTART ≠ 0 → a + m.fld R.DIAG_CFG_FRESTART * 1000000000 ≤ m.now → m.flag R.WDG_STAT_HOLD = false →
      m.sup.due = none → Answers (.faultRestart t) s (fun m' => m' = { m with sup := m'.sup } ∧ m'.sup.due = some (3, m.now) ∧ m'.sup.resets.getLast? = some m.now))

/-- R430–R437, R439. The watchdog. An enabled slot that runs out is amber, with its fault, every engine's PC captured and its period again; out a second time it resets the module
at once with the cause and the lowest slot recorded; a check-in reloads the slot and ends its amber stage. A clock that fails is replaced by the other; both
failed reset the module; a suspension is cut at 80 ms. Start, clock selection and lock act while they may.
Completes, with its own effect, in the states its clauses name: watchdogAmber, watchdogScarlet, watchdogClockFail, rcOscillatorReset, suspensionCut,
wdgStart, wdgClksel, wdgLock, wdgRstcntClr, systemSlotCheckIn. -/
def Obligations.WatchdogStages : Prop :=
  ∀ (s : State) (t : Nat),
    let m := arrive t s
    let captured := fun (m' : Mach) => ∀ e, e < 16 → m'.flag (R.ENG_PCCAP_VALID e) = true ∧ m'.fld64 (R.ENG_PCCAPT_LO e) = m.now % 2 ^ 64 ∧
      ((m.eng e).power = .lit → m'.fld (R.ENG_PCCAP_PC e) = (m.eng e).de % 2 ^ 14)
    (∀ n : Fin 48, m.wdOut n = true → m.amber n = false → Answers (.watchdogAmber t n) s (fun m' => m'.amber n = true ∧ m'.wdLeft n = m.wdPeriod n ∧
      (0x3100 + n.val, 0, 2) ∈ m'.faults ∧ m'.fld (R.WDG_SLOT_CNT_AMBERS n) = min (m.fld (R.WDG_SLOT_CNT_AMBERS n) + 1) (2 ^ 16 - 1) ∧ (m'.pt 4253).sv = true ∧ m'.st = m.st ∧
      ((∀ e, e < 16 → ∀ x, (m.eng e).act = some x → x.1 < 32 ∧ x.2 < 8) → (∀ e, e < 16 → (m.eng e).de < 2 ^ 14) → captured m'))) ∧
    (∀ n ns, m.st ≠ .off → (List.range 48).filter (fun n => m.wdOut n && m.amber n) = n :: ns → Answers (.watchdogScarlet t) s (fun m' =>
      m' = { m with regs := m'.regs, sup := m'.sup, free := m'.free } ∧ m'.fld R.WDG_RSTCAUSE_CAUSE = 1 ∧ m'.fld R.WDG_RSTCAUSE_SLOT = n ∧
      m'.fld R.WDG_RSTCNT_COUNT = min (m.fld R.WDG_RSTCNT_COUNT + 1) (2 ^ 16 - 1) ∧ m'.fld64 R.WDG_RSTT_LO = m.now % 2 ^ 64 ∧ m'.sup.due = some (1, m.now) ∧
      m'.sup.scarlet = n :: ns ∧ m'.sup.resets.getLast? = some m.now)) ∧
    (m.flag R.WDG_STAT_RUN = true → m.st ≠ .off → Answers (.watchdogClockFail t) s (fun m' => SupOnly m m' ∧ m'.flag R.WDG_STAT_CLKFAIL = true ∧
      m'.flag R.WDG_STAT_CLK = (!m.flag R.WDG_STAT_CLK) ∧ (m.alive = true → (0x31D0, 0, 2) ∈ m'.faults))) ∧
    (m.flag R.WDG_STAT_RUN = true → m.st ≠ .off → Answers (.rcOscillatorReset t) s (fun m' => m' = { m with sup := { m.sup with due := some (2, m.now) } })) ∧
    (∀ a, m.sup.suspAt = some a → a + 80000000 ≤ m.now → Answers (.suspensionCut t) s (fun m' => SupOnly m m' ∧ m'.sup.suspAt = none ∧ m'.sup.suspEnd = some m.now ∧
      m'.flag R.WDG_STAT_SUSPCUT = true ∧ m'.fld R.WDG_SUSPMAX_MAX = max (m.fld R.WDG_SUSPMAX_MAX) (min ((m.now - a) / 10000) (2 ^ 16 - 1)) ∧
      (m.alive = true → (0x31DC, 0, 1) ∈ m'.faults))) ∧
    (m.st ≠ .off →
      (m.flag R.WDG_CTL_LOCK = false → Answers (.wdgStart t) s (fun m' => Regs m m' [R.WDG_CTL.addr, R.WDG_STAT.addr] ∧ m'.flag R.WDG_CTL_START = true ∧
        m'.flag R.WDG_STAT_RUN = true)) ∧
      (∀ sel, m.flag R.WDG_CTL_LOCK = false → Answers (.wdgClksel t sel) s (fun m' => Regs m m' [R.WDG_CTL.addr, R.WDG_STAT.addr] ∧ m'.flag R.WDG_CTL_CLKSEL = sel ∧
        m'.flag R.WDG_STAT_CLK = sel ∧ m'.flag R.WDG_STAT_RUN = m.flag R.WDG_STAT_RUN)) ∧
      (∀ sel, m.flag R.WDG_CTL_LOCK = true → Answers (.wdgStart t) s (fun m' => m' = m) ∧ Answers (.wdgClksel t sel) s (fun m' => m' = m)) ∧
      Answers (.wdgLock t) s (fun m' => Regs m m' [R.WDG_CTL.addr] ∧ m'.flag R.WDG_CTL_LOCK = true ∧ m'.flag R.WDG_CTL_START = m.flag R.WDG_CTL_START)) ∧
    (m.alive = true → Answers (.wdgRstcntClr t) s (fun m' => m' = { m with regs := m'.regs, ret := m'.ret } ∧ m'.fld R.WDG_RSTCNT_COUNT = 0 ∧
      ∃ r, m'.ret.recs = m.ret.recs ++ [r] ∧ r.ty = 0x22 ∧ r.key = 0)) ∧
    (∀ n : Fin 16, m.st ≠ .off → m.flag (R.WDG_SLOT_CFG_EN (32 + n.val)) = true → Answers (.systemSlotCheckIn t n) s (fun m' => SupOnly m m' ∧
      m'.wdLeft (32 + n.val) = m.wdPeriod (32 + n.val) ∧ m'.amber (32 + n.val) = false ∧ m'.fld64 (R.WDG_SLOT_LAST_LO (32 + n.val)) = m.now % 2 ^ 64 ∧
      m'.fld (R.WDG_SLOT_CNT_CHECKS (32 + n.val)) = (m.fld (R.WDG_SLOT_CNT_CHECKS (32 + n.val)) + 1) % 2 ^ 16))

/-- R229, R451, R453, R454, R457, R459, R460, R466. The retained store. A flush takes the pending entries, behind the markers of what was lost, as JOURNAL records, or records the
numbers when they have advanced; a save queues the dirty chunks, the largest record first, and, when every record before it is complete, its RETCOMMIT, which makes the generation count; a record's marker
completes it, and a record that fails verification retires its sector and is written anew; a bank with fewer than two erased sectors gives up its oldest one, its live
records copied first; an erase done opens its sector; a parameter store ends with its image or with result 7; the protect level rises at any time and falls only in STOP.
Completes, with its own effect, in the states its clauses name: retainedJournalFlush, periodicSave, reclaim, sectorEraseDone, paramStoreComplete,
protLevelWrite, recordWriteComplete. -/
def Obligations.RetainedStore : Prop :=
  ∀ (s : State) (t : Nat),
    let m := arrive t s
    m.alive = true →
    (m.st ≠ .save →
      (m.ev.rjPend ≠ [] → Answers (.retainedJournalFlush t) s (fun m' =>
        m' = { m with regs := m'.regs, ret := m'.ret, ev := { m.ev with ringLost := 0, rjPend := m.ev.rjPend.drop 8192 } } ∧ m'.ret.rjLost = 0 ∧
        (∀ l, (m.ev.rjPend.take 8192).getLast? = some l → l.isMarker = false → m'.fld R.EVU_RJLAST = l.seq % 2 ^ 32) ∧
        ∃ rs, m'.ret.recs = m.ret.recs ++ rs ∧ (∀ r ∈ rs, r.ty = 0x20 ∧ r.done = false ∧ r.payload.length ≤ 8192) ∧
          rs.flatMap (·.payload) = (m.rjMarkers ++ m.ev.rjPend.take 8192).flatMap JEntry.bytes)) ∧
      (m.ev.rjPend = [] →
        let moved := 2 ^ 19 ≤ (m.csn + 2 ^ 48 - m.ret.recCsn % 2 ^ 48) % 2 ^ 48 ∨ 2 ^ 22 ≤ (m.fld R.EVU_SEQ + 2 ^ 32 - m.ret.recSeq % 2 ^ 32) % 2 ^ 32
        (¬moved → Answers (.retainedJournalFlush t) s (fun m' => m' = m)) ∧
        (moved → Answers (.retainedJournalFlush t) s (fun m' => m' = { m with regs := m'.regs, ret := m'.ret } ∧
          ∃ r, m'.ret.recs = m.ret.recs ++ [r] ∧ r.ty = 0x21 ∧ r.key = m.csn ∧ r.done = false)))) ∧
    (m.st = .run → m.fld R.RET_CFG_PSAVE ≠ 0 → m.ret.save = none → m.ret.savePend = none →
      (m.cu.app.isSome = true → Answers (.periodicSave t) s (fun m' => m' = { m with ret := { m.ret with savePend := some 2 } })) ∧
      (m.cu.app = none → m.ran = true → Answers (.periodicSave t) s (fun m' => StoreOnly m m' ∧ m'.ret.gens = m.ret.gens + 1 ∧ m'.flag R.RET_STAT_SAVING = true ∧
        ∃ v, m'.ret.save = some v ∧ v.kind = 2 ∧ v.gen = m.ret.gens + 1 ∧ v.reft = m.now ∧ v.csn = m.csn ∧ v.chunks = m.ret.dirty ∧ v.again = [] ∧
          (m.ret.dirty = [] → v.commit = true ∧ ∃ r, m'.ret.recs = m.ret.recs ++ [r] ∧ r.ty = 0x11 ∧ r.key = m.ret.gens + 1) ∧
          (m.ret.dirty ≠ [] → v.commit = false ∧ ∃ rs, m'.ret.recs = m.ret.recs ++ rs ∧ (∀ r ∈ rs, r.ty = 0x10 ∧ r.done = false) ∧
            rs.map (fun r => (r.key, r.payload)) = m.saveOrder.map (fun c => (m.ret.gens + 1 + c * 2 ^ 32, (m.chunkBytes c).map m.retByte)))))) ∧
    (∀ (q : Nat) (r : Rec), m.ret.recs.find? (fun x => x.seq == q && !x.done) = some r →
      let marked := fun (m' : Mach) => m'.ret.recs.take m.ret.recs.length = m.ret.recs.map (fun x => if x.seq = q ∧ x.done = false then { x with csn := m.csn, next := m.fld R.EVU_SEQ, done := true } else x) ∧
        m'.ret.recCsn = m.csn
      let lines := fun (m' : Mach) (fill : Nat) => m'.fld64 R.RET_LINES_LO = (m.fld64 R.RET_LINES_LO + 2 + (r.payload.length + 31) / 32 + fill) % 2 ^ 64
      (m.ret.save = none → Answers (.recordWriteComplete t q false) s (fun m' => m' = { m with regs := m'.regs, ret := m'.ret } ∧ marked m' ∧ lines m' 0 ∧ m'.ret.save = none)) ∧
      (∀ v, m.ret.save = some v → v.wait = [q] →
        (v.commit = false → Answers (.recordWriteComplete t q false) s (fun m' => m' = { m with regs := m'.regs, ret := m'.ret } ∧ marked m' ∧ (lines m' 0 ∨ lines m' 1) ∧
          m'.ret.save = some { v with wait := [m.ret.seq], commit := true } ∧ ∃ c, m'.ret.recs.getLast? = some c ∧ c.ty = 0x11 ∧ c.key = v.gen ∧ c.arg = v.kind ∧ c.seq = m.ret.seq)) ∧
        (v.commit = true → Answers (.recordWriteComplete t q false) s (fun m' => StoreOnly m m' ∧ marked m' ∧ lines m' 0 ∧ m'.ret.save = none ∧ m'.fld R.RET_GEN = v.gen % 2 ^ 32 ∧
          m'.fld64 R.RET_SAVET_LO = v.reft % 2 ^ 64 ∧ m'.ret.dirty = m.ret.dirty.filter (fun c => !v.chunks.contains c || v.again.contains c)))) ∧
      Answers (.recordWriteComplete t q true) s (fun m' => StoreOnly m m' ∧ (m'.sector r.sector).retired = true ∧
        ((m.sector r.sector).retired = false → (0x350C, r.sector, 1) ∈ m'.faults) ∧
        (∀ x ∈ m.ret.recs, x.seq ≠ q → x ∈ m'.ret.recs) ∧
        ∃ n, m'.ret.recs.getLast? = some n ∧ n.ty = r.ty ∧ n.arg = r.arg ∧ n.key = r.key ∧ n.payload = r.payload ∧ n.done = false ∧ n.seq = m.ret.seq)) ∧
    (∀ (b : Fin 16) (n : Nat), 2 ≤ b.val → m.st ≠ .save → m.warn = none → m.ret.erase = none → (m.erasedAhead b).length < 2 → m.oldestSector b = some n →
      (∀ r ∈ m.ret.recs, r.sector = n → r.done = true) → (∀ c, c < 16 → m.openSector c < 8) → Answers (.reclaim t b) s (fun m' => StoreOnly m m' ∧ m'.ret.erase = some n ∧
        m'.flag R.RET_STAT_RECLAIM = true ∧ m'.sup.suspAt.isSome = true ∧ (∀ r ∈ m'.ret.recs, r.sector ≠ n) ∧ (∀ r ∈ m.ret.recs, r.sector ≠ n → r ∈ m'.ret.recs) ∧
        ∀ r ∈ m.ret.recs, r.sector = n → m.live r = true → ∃ x ∈ m'.ret.recs, x = { r with sector := x.sector, line := x.line })) ∧
    (∀ n a, m.ret.erase = some n → m.sup.suspAt = some a → a ≤ m.now →
      let opens := fun (m' : Mach) => m'.sector n = { m.sector n with erases := (m.sector n).erases + 1, opened := true, top := 2, mark := some m.marker }
      (m.ret.pstore = none → Answers (.sectorEraseDone t) s (fun m' => opens m' ∧ m'.ret.erase = none ∧ m'.sup.suspAt = none ∧ m'.sup.suspEnd = some m.now ∧
        ((m.sector n).erases + 1 = 90000 → (0x350D, n, 1) ∈ m'.faults))) ∧
      (∀ p x xs, m.ret.pstore = some p → p.sectors.filter (fun y => y != n) = x :: xs → Answers (.sectorEraseDone t) s (fun m' => opens m' ∧ m'.ret.erase = some x ∧
        m'.ret.pstore = some { p with sectors := x :: xs } ∧ m'.sup.suspAt = some (m.now + 5000000)))) ∧
    (∀ p, m.ret.pstore = some p → p.sectors = [] →
      Answers (.paramStoreComplete t none) s (fun m' => StoreOnly m m' ∧ m'.ret.pstore = none ∧ m'.fld R.RET_PSTAT_RESULT = 0 ∧ m'.flag R.RET_STAT_PSTORE = false ∧
        (p.half = 0 → m'.ret.half0 = some { p.image with mark := (m.ret.seq + 128, m.csn, m.fld R.EVU_SEQ) } ∧ m'.ret.half1 = m.ret.half1) ∧
        (p.half = 1 → m'.ret.half1 = some { p.image with mark := (m.ret.seq + 128, m.csn, m.fld R.EVU_SEQ) } ∧ m'.ret.half0 = m.ret.half0)) ∧
      ∀ j : Fin 8, Answers (.paramStoreComplete t (some j)) s (fun m' => StoreOnly m m' ∧ m'.ret.pstore = none ∧ m'.fld R.RET_PSTAT_RESULT = 7 ∧ m'.ret.half0 = m.ret.half0 ∧
        m'.ret.half1 = m.ret.half1 ∧ (m'.sector (8 * p.half + j.val)).retired = true ∧
        ((m.sector (8 * p.half + j.val)).retired = false → (0x350C, 8 * p.half + j.val, 1) ∈ m'.faults))) ∧
    (∀ l : Fin 4,
      let old := m.fld R.RET_PROT_LEVEL
      (l.val < old → m.st ≠ .stop → Answers (.protLevelWrite t l) s (fun m' => m' = m)) ∧
      (l.val = old → Answers (.protLevelWrite t l) s (fun m' => m' = m)) ∧
      (old < l.val ∨ (l.val < old ∧ m.st = .stop) → Answers (.protLevelWrite t l) s (fun m' => StoreOnly m m' ∧ m'.fld R.RET_PROT_LEVEL = l.val ∧
        ∃ r, m'.ret.recs = m.ret.recs ++ [r] ∧ r.ty = 0x23 ∧ r.arg = l.val)))

/-- R5, R6, R55, R183, R590. Single register accesses of the supervisor. A read of a _LO register latches the _HI half as it is at that moment, and any other read drops the latch at
its address; a masked write changes the written bits by their access codes and nothing beside the register, but that TSKk.STAT.OVRW is copied to its status point (R183); reserved offsets and
addresses outside the map take none.
Completes, with its own effect, in the states its clauses name: loRegisterRead, registerWrite. -/
def Obligations.RegisterAccess : Prop :=
  ∀ (s : State) (t : Nat) (a : BitVec 24),
    let m := arrive t s
    m.st ≠ .off →
    Answers (.loRegisterRead t a) s (fun m' => m' = { m with latch := m'.latch, free := m'.free }) ∧
    (isLo a.toNat = true → Answers (.loRegisterRead t a) s (fun m' => sget none m'.latch (a.toNat + 4) = some (m.regView (a.toNat + 4)).1 ∧
      ∀ x, x ≠ a.toNat + 4 → sget none m'.latch x = sget none m.latch x)) ∧
    (a = 0x30000 → Answers (.loRegisterRead t a) s (fun m' => sget none m'.latch 0x30004 = some (BitVec.ofNat 32 (m.now / 2 ^ 32)))) ∧
    (isLo a.toNat = false → Answers (.loRegisterRead t a) s (fun m' => sget none m'.latch a.toNat = none ∧ ∀ x, x ≠ a.toNat → sget none m'.latch x = sget none m.latch x)) ∧
    ∀ mask v : Word,
      (regOutside a.toNat = true ∨ regFields a.toNat = [] → Answers (.registerWrite t a mask v) s (fun m' => m' = m)) ∧
      (∀ k : Fin 32, a.toNat = (R.TSK_STAT k).addr → Answers (.registerWrite t a mask v) s (fun m' => Events m m' (· = a.toNat) ∧
        (let i := (R.TSK_STAT_OVRW k).lsb
         m'.flag (R.TSK_STAT_OVRW k) = (m.flag (R.TSK_STAT_OVRW k) && !(mask.getLsbD i && v.getLsbD i))) ∧
        (m'.pt (4320 + k.val)).sv = m'.flag (R.TSK_STAT_OVRW k))) ∧
      (regOutside a.toNat = false → a.toNat / 0x10000 ∈ [0, 1, 2, 3, 9, 0xD, 0x11] ∨ (a.toNat / 0x10000 = 7 ∧ a.toNat % 0x80 ≠ (R.TSK_STAT 0).addr % 0x80) → Answers (.registerWrite t a mask v) s (fun m' => Regs m m' [a.toNat] ∧
        ∀ f ∈ regFields a.toNat, ∀ i, f.lsb ≤ i → i < f.lsb + f.width →
          (f.acc = .ro ∨ f.acc = .wo ∨ f.acc = .rwl → (m'.rget a.toNat).getLsbD i = (m.rget a.toNat).getLsbD i) ∧
          (f.acc = .rw → (m'.rget a.toNat).getLsbD i = if mask.getLsbD i then v.getLsbD i else (m.rget a.toNat).getLsbD i) ∧
          (f.acc = .w1c ∨ f.acc = .stk → (m'.rget a.toNat).getLsbD i = ((m.rget a.toNat).getLsbD i && !(mask.getLsbD i && v.getLsbD i)))))

/-- R538–R548, R554, R556. What every service request passes. One that is not authentic is answered AUTH, unsigned; a wrong session SESSION, a full table CLIENTS; a repeat with the same
MAC gets the stored response, with another DUPID, and an older one STALE, and none of them is executed. An executed request has its role and then the state checked first. A
message that is no request for the row is not the row's; a malformed one is discarded, an empty UART frame is ignored, and an unknown operation is answered OP.
Completes, with its own effect, in the states its clauses name: serviceMessageDiscard. -/
def Obligations.ServiceChecks : Prop :=
  ∀ (s : State) (t : Nat) (msg : SvcMsg),
    let m := arrive t s
    let loader := s.m.st == .loader
    (∀ (op : Nat) (c : Nat → SvcMsg → Instr), SvcRow op c →
      ((∀ r, svcParse msg.port.isNone msg.bytes = some r → r.op ≠ op) → Answers (c t msg) s (fun m' => m' = m)) ∧
      (∀ r m0, svcParse msg.port.isNone msg.bytes = some r → r.op = op → Hears m msg m0 →
        let sends := fun (key : Option (List Byte)) (b : Mach) (status : Nat) => Answers (c t msg) s (fun m' =>
          ∃ m1, Events { b with svc := m1.svc } m1 (fun _ => False) ∧ m1.svc.clients = b.svc.clients ∧ m1.svc.handles = b.svc.handles ∧
            m' = m1.svcSend msg (svcBytes r loader key status 0 []))
        (m0.svcAuth r = none → sends none m0 0x02) ∧
        (∀ key, m0.svcAuth r = some key →
          (op ≠ 0x0001 → r.session ≠ m0.svc.session → sends key m0 0x08) ∧
          (op = 0x0001 ∨ r.session = m0.svc.session →
            (m0.svcClient r = none → 16 ≤ m0.svc.clients.length → (∀ x ∈ m0.svc.clients, m0.hasHandle x = true) → sends key m0 0x0E) ∧
            (∀ b, m0.takeClient r = some b →
              (∀ x, (storedOf b r).find? (fun x => x.1 == r.reqid) = some x → (x.2.1 = r.mac → Answers (c t msg) s (fun m' => m' = b.svcSend msg x.2.2)) ∧
                (x.2.1 ≠ r.mac → sends key b 0x0F)) ∧
              (∀ x, (∀ y ∈ storedOf b r, y.1 ≠ r.reqid) → (storedOf b r).getLast? = some x → idLater x.1 r.reqid = false → sends key b 0x09))))) ∧
      (∀ r key b, Sent m msg op r key b →
        let turned := fun (m1 : Mach) => Events { b with svc := m1.svc } m1 (fun a => a = R.RET_PSTAT_RESULT.addr ∨ a = R.IMG_OLCSTAT_RESULT.addr) ∧ m1.svc.handles = b.svc.handles
        (b.roleLow r = true → Replies (c t msg) s msg r key 0x03 0 [] turned) ∧
        (b.roleLow r = false → b.stateBad r = true → Replies (c t msg) s msg r key 0x04 0 [] (fun m1 => turned m1 ∧
          (op = 0x0012 ∨ op = 0x0013 → b.inFirmware = true → m1.fld R.IMG_OLCSTAT_RESULT = 0x0A ∧ m1.flag R.IMG_OLCSTAT_REFUSED = true))))) ∧
    (∀ m0, Hears m msg m0 → svcParse msg.port.isNone msg.bytes = none → Answers (.serviceMessageDiscard t msg) s (fun m' =>
      Events { m0 with svc := m'.svc } m' (fun _ => False) ∧ m'.svc.clients = m0.svc.clients)) ∧
    (msg.port = none → msg.bytes = [] → Answers (.serviceMessageDiscard t msg) s (fun m' => m' = m)) ∧
    (∀ op r key b, Sent m msg op r key b → opCodes.contains op = false → Replies (.serviceMessageDiscard t msg) s msg r key 0x05 0 [] (fun m1 => m1 = b))

/-- R292, R416, R418, R419, R459, R550, R552, R553, R555, R562, R590. What reading and controlling operations answer and do, once the request has passed its checks: the identity, the state
registers, registers one by one, elements of the image at one point, the program buffer, the journal and the progress of a handle leave the module as it was; register writes, mode changes, a restart,
a yield, the clearing of faults and the protect level have their effect and are answered; what is out of range or of a wrong length is turned away.
Completes, with its own effect, in the states its clauses name: ident, status, regRead, regWrite, imgRead, journalRead, mode, restart, yield,
faultClear, protect, fwStatus, pbufRead, progress. -/
def Obligations.ServiceReadsAndControl : Prop :=
  ∀ (s : State) (t : Nat) (msg : SvcMsg) (r : SvcReq) (key : Option (List Byte)) (b : Mach),
    let m := arrive t s
    let regs := fun (as : List Nat) => as.flatMap (fun a => leBytes 4 (b.rget a).toNat)
    let len := r.body.length
    let same := fun (m1 : Mach) => m1 = b
    (Asks m msg 0x0001 r key b → len = 0 → Replies (.ident t msg) s msg r key 0 0
      (leBytes 2 0x6016 ++ leBytes 1 b.st.code ++ leBytes 1 b.role ++ leBytes 4 b.svc.session ++ regs ((List.range 4).map (fun n => (R.UPD_SERIAL n).addr)) ++ regs [R.UPD_FWBUILD.addr, R.UPD_FWPVER.addr] ++
        regs ((List.range 8).map (fun n => (R.UPD_PKGDIG n).addr)) ++ leBytes 8 b.now) same) ∧
    (Asks m msg 0x0002 r key b → len = 0 → Replies (.status t msg) s msg r key 0 0
      (regs [R.DIAG_MSTATE.addr, R.DIAG_FSUM.addr, R.PRT_STAT.addr, R.TB_STAT.addr, R.IMG_OLCSTAT.addr, R.UPD_FWSTAT.addr]) same) ∧
    (Asks m msg 0x0003 r key b → ∀ as : List (BitVec 32), 1 ≤ as.length → as.length ≤ 64 → r.body = as.flatMap (fun a => leBytes 4 a.toNat) →
      ((∃ a ∈ as, regOutside a.toNat = true) → Replies (.regRead t msg) s msg r key 0x07 0 [] same) ∧
      ((∀ a ∈ as, regOutside a.toNat = false) → Replies (.regRead t msg) s msg r key 0 0 (b.regBytes (as.map (·.toNat))).1 (fun m1 => m1 = (b.regBytes (as.map (·.toNat))).2)) ∧
      (as = [0x30000, 0x30004] → Replies (.regRead t msg) s msg r key 0 0 (leBytes 8 b.now) same)) ∧
    (Asks m msg 0x0003 r key b → len % 4 ≠ 0 ∨ len = 0 ∨ 256 < len → Replies (.regRead t msg) s msg r key 0x06 0 [] same) ∧
    (Asks m msg 0x0004 r key b → ∀ a mask v : BitVec 32, r.body = leBytes 4 a.toNat ++ leBytes 4 mask.toNat ++ leBytes 4 v.toNat →
      let w := (b.writeReg false a.toNat mask v).regView a.toNat
      (regOutside a.toNat = true → Replies (.regWrite t msg) s msg r key 0x07 0 [] same) ∧
      (regOutside a.toNat = false → Replies (.regWrite t msg) s msg r key 0 0 (leBytes 4 w.1.toNat) (fun m1 => Events w.2 m1 (fun _ => False)))) ∧
    (Asks m msg 0x0005 r key b → len = 12 →
      let sp := byteAt r.body 0
      let i := fieldAt r.body 4 4
      let n := fieldAt r.body 8 4
      (sp = 0 → 1 ≤ n → n ≤ 1428 → i + n ≤ 8192 → Replies (.imgRead t msg) s msg r key 0 0 ((List.range n).flatMap (fun j => leBytes 1 ((b.pt (i + j)).v.toNat + 2 * (b.pt (i + j)).q))) same) ∧
      (1 ≤ sp → 1 ≤ n → n * spBytes sp ≤ 1428 → i + n ≤ imgCount sp →
        Replies (.imgRead t msg) s msg r key 0 0 ((List.range n).flatMap (fun j => leBytes (spBytes sp) (b.cell sp (i + j)).toNat)) same) ∧
      (n = 0 ∨ imgCount sp < i + n → Replies (.imgRead t msg) s msg r key 0x07 0 [] same)) ∧
    (Asks m msg 0x0030 r key b → len = 8 →
      let off := fieldAt r.body 0 4
      let n := fieldAt r.body 4 4
      (1 ≤ n → n ≤ 1420 → off + n ≤ 0x400000 → Replies (.pbufRead t msg) s msg r key 0 0 ((List.range n).map (fun j => sget 0 b.mov.pbuf (0x0F000000 + off + j))) same) ∧
      (n = 0 ∨ 1420 < n ∨ 0x400000 < off + n → Replies (.pbufRead t msg) s msg r key 0x07 0 [] same)) ∧
    (Asks m msg 0x0022 r key b → len = 0 → Replies (.fwStatus t msg) s msg r key 0 0 (regs [R.UPD_FWSTAT.addr, R.UPD_FWSBUILD.addr, R.UPD_FWCNT.addr]) same) ∧
    (Asks m msg 0x0006 r key b → len = 8 → byteAt r.body 0 ≤ 1 → b.runningOp 0x0006 = none → HandleFree b → Replies (.journalRead t msg) s msg r key 0 0 (leBytes 2 b.svc.nextHandle) (fun m1 =>
      Opens b m1 r (fun h => h.source = byteAt r.body 0 ∧ h.first = fieldAt r.body 4 4 ∧ h.taken = 0))) ∧
    (Asks m msg 0x0041 r key b → len = 4 →
      (b.handle (fieldAt r.body 0 2) = none → Replies (.progress t msg) s msg r key 0x0A 0 [] same) ∧
      (∀ h, b.handle (fieldAt r.body 0 2) = some h → Replies (.progress t msg) s msg r key 0 0
        (leBytes 2 h.no ++ leBytes 1 h.state ++ leBytes 1 0 ++ leBytes 4 h.done ++ leBytes 4 h.total ++ leBytes 1 h.detail ++ leBytes 3 0) same)) ∧
    (Asks m msg 0x0007 r key b → len = 1 →
      let x := byteAt r.body 0
      (x = 0 → b.st = .run → Replies (.mode t msg) s msg r key 0 0 [3] (fun m1 => m1.st = .stop ∧ m1.role = 0)) ∧
      (x = 0 → b.st = .stop → Replies (.mode t msg) s msg r key 0 0 [3] (fun m1 => m1.st = .stop ∧ m1.runPend = false ∧ m1.tk.runWaits = false)) ∧
      (x = 1 → b.st = .run → Replies (.mode t msg) s msg r key 0 0 [4] (fun m1 => Events b m1 (fun _ => False))) ∧
      (x = 1 → b.st = .stop → b.keyed = false → Replies (.mode t msg) s msg r key 0x04 0 [] same) ∧
      (x = 1 → b.st = .stop → b.keyed = true → b.flag R.PWR_STAT_HOLDUP_OK = false → Replies (.mode t msg) s msg r key 0 0 [3] (fun m1 => m1.st = .stop ∧ m1.runPend = true)) ∧
      (x = 1 → b.st = .stop → b.keyed = true → b.flag R.PWR_STAT_HOLDUP_OK = true → b.cu.app = none → b.paired = false → Replies (.mode t msg) s msg r key 0 0 [4] (fun m1 => m1.st = .run)) ∧
      (1 < x → Replies (.mode t msg) s msg r key 0x07 0 [] same)) ∧
    (Asks m msg 0x0008 r key b → len = 0 → Replies (.restart t msg) s msg r key 0 0 [] (fun m1 => Events { b with sup := m1.sup } m1 (fun _ => False) ∧ m1.sup.due = some (4, b.now + 10000000) ∧
      m1.sup.resets = [])) ∧
    (Asks m msg 0x0009 r key b → len = 0 → b.pair.yielding = none → Replies (.yield t msg) s msg r key 0 0 [] (fun m1 => m1.pair.yielding = some 3 ∧
      ∀ k, k < 32 → (m1.task k).run = none ∧ (m1.task k).snap = none ∧ (m1.task k).held = (b.task k).held)) ∧
    (Asks m msg 0x000A r key b → len = 0 → ∃ w : Word, Replies (.faultClear t msg) s msg r key 0 0 (leBytes 4 w.toNat) (fun m1 => w = m1.rget R.DIAG_FSUM.addr ∧
      (∀ f ∈ m1.faults, rcCode f.1 = true ∨ b.persists f.1 = true) ∧ (∀ f ∈ b.faults, rcCode f.1 = true → f ∈ m1.faults) ∧ m1.flag R.DIAG_FSUM_DEGRADED = false)) ∧
    (Asks m msg 0x001A r key b → len = 4 →
      let l := byteAt r.body 0
      (3 < l → Replies (.protect t msg) s msg r key 0x07 0 [] same) ∧
      (l < b.fld R.RET_PROT_LEVEL → b.st ≠ .stop → Replies (.protect t msg) s msg r key 0x04 0 [] same) ∧
      (l ≤ 3 → b.fld R.RET_PROT_LEVEL ≤ l ∨ b.st = .stop → Replies (.protect t msg) s msg r key 0 0 [r.body.headD 0] (fun m1 => StoreOnly b m1 ∧ m1.fld R.RET_PROT_LEVEL = l)))

/-- R236, R246, R460–R463, R481–R483, R486, R487, R551–R553. The operations that act on packages, parameters and firmware. A download opens a handle and takes the
other slot; each step programs its data there, the read-back marks the slot VALID, and an activation names it. An online change loads, is armed for its drain start and can be
cancelled. A store writes the half that does not hold the newest image, from the mapped words outside the protected blocks, and a load copies the newest image back. A firmware image is
received, checked and armed. A client-driven operation ends by ABORT or after 60 s without a step, and its handle goes 60 s after the end.
Completes, with its own effect, in the states its clauses name: stagingReadback, fwDigestCheck, pkgDownload, pkgActivate, olcLoad, olcSwap, olcCancel,
paramStore, paramLoad, fwUpdate, fwCommit, step, abort, handleIdleTimeout, handleClose. -/
def Obligations.ServiceLongOperations : Prop :=
  ∀ (s : State) (t : Nat) (msg : SvcMsg) (r : SvcReq) (key : Option (List Byte)) (b : Mach),
    let m := arrive t s
    let len := r.body.length
    let same := fun (m1 : Mach) => m1 = b
    let handle := leBytes 2 b.svc.nextHandle
    let n := fieldAt r.body 0 4
    let slot := if b.keyHdr.active = 0 then 1 else 0
    (∀ ok, Asks m msg 0x0010 r key b → len = 36 →
      (n < 4096 ∨ 29360128 < n → Replies (.pkgDownload t msg ok) s msg r key 0x07 0 [] same) ∧
      (4096 ≤ n → n ≤ 29360128 →
        (b.stageBusy = true → Replies (.pkgDownload t msg ok) s msg r key 0x0C 0x23 [] (fun m1 => m1.upd.stg = b.upd.stg ∧ m1.upd.key = b.upd.key)) ∧
        (b.stageBusy = false → b.flag R.UPD_KEYSTAT_ACTPEND = true → b.verified = true → Replies (.pkgDownload t msg ok) s msg r key 0x0C 0x20 [] (fun m1 =>
          m1.upd.key = b.upd.key ∧ m1.fld R.UPD_STGSTAT_STATE = 3 ∧ m1.fld R.UPD_STGSTAT_CODE = 0x20)) ∧
        (b.stageBusy = false → b.flag R.UPD_KEYSTAT_ACTPEND = false ∨ b.verified = false →
          (ok = false → Replies (.pkgDownload t msg ok) s msg r key 0x0C 0x21 [] (fun m1 => m1.upd.key = b.upd.key ∧ m1.flag R.UPD_KEYSTAT_PRESENT = false)) ∧
          (ok = true → HandleFree b → Replies (.pkgDownload t msg ok) s msg r key 0 0 handle (fun m1 => Opens b m1 r (fun _ => True) ∧
            m1.upd.stg = some ⟨slot, n, sliceAt r.body 4 32, 0, false⟩ ∧ m1.upd.key = b.upd.key ∧ m1.fld R.UPD_STGSTAT_STATE = 1 ∧ m1.fld R.UPD_STGSTAT_SLOT = slot ∧
            m1.fld R.UPD_STGPROG_DONE = 0 ∧ m1.fld R.UPD_STGPROG_TOTAL = (n + 1023) / 1024))))) ∧
    (∀ q, Asks m msg 0x0011 r key b → len = 32 → b.upd.stg = none → b.upd.actPend = none → q ≤ 1 → b.keyHdr.active = 1 - q →
      (b.keyHdr.slotState q = 2 → b.keyHdr.slotDig q = r.body → Replies (.pkgActivate t msg true) s msg r key 0 0 (leBytes 1 q) (fun m1 => m1.keyHdr.active = q ∧
        m1.keyHdr.hseq = (b.keyHdr.hseq + 1) % 2 ^ 32 ∧ m1.keyHdr.slotState q = 2 ∧ m1.keyHdr.slotDig q = r.body ∧ m1.fld R.UPD_KEYSTAT_ACTIVE = q ∧
        ∃ j, m1.upd.key.jrn.getLast? = some j ∧ j.ty = 4 ∧ j.slot = q)) ∧
      (b.keyHdr.slotState q ≠ 2 ∨ b.keyHdr.slotDig q ≠ r.body → Replies (.pkgActivate t msg true) s msg r key 0x0C 0x04 [] (fun m1 => m1.keyHdr = b.keyHdr))) ∧
    (Asks m msg 0x0012 r key b → len = 0 → b.runningOp 0x0012 = none → b.olcState = olcIdle →
      (∀ p, b.olcCheck = none → b.upd.staged = some p → HandleFree b → Replies (.olcLoad t msg) s msg r key 0 0 handle (fun m1 => Opens b m1 r (fun _ => True) ∧ m1.olcState = olcLoad ∧
        m1.olc.pkg = p ∧ m1.fld R.IMG_OLCPROG_DONE = 0 ∧ m1.img = b.img ∧ m1.engs = b.engs)) ∧
      (∀ c, c < 256 → b.olcCheck = some c → Replies (.olcLoad t msg) s msg r key 0x0C c [] (fun m1 => m1.olcState = olcIdle ∧ m1.fld R.IMG_OLCSTAT_RESULT = c ∧
        m1.flag R.IMG_OLCSTAT_REFUSED = true))) ∧
    (Asks m msg 0x0013 r key b → len = 0 →
      (b.olcState ≠ olcReady → Replies (.olcSwap t msg) s msg r key 0x04 0 [] same) ∧
      (b.olcState = olcReady → b.swapCheck = none →
        let d := (b.now + 10000000 + 999999) / 1000000 * 1000000
        Replies (.olcSwap t msg) s msg r key 0 0 (leBytes 8 d) (fun m1 => m1.olcState = olcArmed ∧ m1.fld64 R.IMG_OLCDRN_LO = d % 2 ^ 64 ∧ m1.olcOpen = b.olcOpen))) ∧
    (Asks m msg 0x0014 r key b → len = 0 →
      (b.olcState = olcIdle ∨ b.olcState = olcWindow → Replies (.olcCancel t msg) s msg r key 0x04 0 [] same) ∧
      (b.olcState ≠ olcIdle → b.olcState ≠ olcWindow → Replies (.olcCancel t msg) s msg r key 0 0 [] (fun m1 => m1.olcState = olcIdle ∧ m1.olcOpen = false ∧
        m1.fld R.IMG_OLCSTAT_RESULT = 0x0B ∧ m1.img = b.img ∧ m1.upd.pkg = b.upd.pkg))) ∧
    (∀ img, Asks m msg 0x0018 r key b → len = 4 → byteAt r.body 0 ≤ 1 → b.parBusy = false → b.runningOp 0x0018 = none → HandleFree b →
      let h := if (b.newestImage.map (·.1)) = some 0 then 1 else 0
      let old := (b.newestImage.map (fun x => x.2.data)).getD []
      Replies (.paramStore t msg img) s msg r key 0 0 handle (fun m1 => Opens b m1 r (fun _ => True) ∧ ∃ p, m1.ret.pstore = some p ∧ p.half = h ∧ p.sectors = (List.range 8).map (8 * h + ·) ∧
        p.image.num = (b.newestImage.map (fun x => x.2.num)).getD 0 + 1 ∧ p.image.src = byteAt r.body 0 ∧ p.image.csn = b.csn ∧ p.image.time = b.now ∧ p.image.level = b.fld R.RET_PROT_LEVEL ∧
        (h = 0 → m1.ret.half0 = none ∧ m1.ret.half1 = b.ret.half1) ∧ (h = 1 → m1.ret.half1 = none ∧ m1.ret.half0 = b.ret.half0) ∧
        (byteAt r.body 0 = 0 → (∀ o, b.parProtected o = true → sget 0 p.image.data o = sget 0 old o) ∧
          ∀ w o j, (w, o) ∈ b.parWords → (∀ x ∈ b.parWords, x = (w, o) ∨ x.2 + 4 ≤ o ∨ o + 4 ≤ x.2) → j < 4 → b.parProtected (o + j) = false →
            sget 0 p.image.data (o + j) = BitVec.ofNat 8 ((b.cell spW w).toNat / 2 ^ (8 * j))) ∧
        (byteAt r.body 0 = 1 → ∀ o, o < 262144 → b.parProtected o = false → sget 0 p.image.data o = img.getD o 0))) ∧
    (Asks m msg 0x0019 r key b → len = 4 → b.parBusy = false →
      (b.newestImage = none → Replies (.paramLoad t msg) s msg r key 0x0C 4 [] (fun m1 => m1.fld R.RET_PSTAT_RESULT = 4 ∧ m1.img = b.img)) ∧
      (∀ h i, b.newestImage = some (h, i) →
        (i.digest ≠ b.ret.parDigest → (byteAt r.body 0).testBit 0 = false → Replies (.paramLoad t msg) s msg r key 0x0C 5 [] (fun m1 => m1.fld R.RET_PSTAT_RESULT = 5 ∧ m1.img = b.img)) ∧
        (i.digest = b.ret.parDigest ∨ (byteAt r.body 0).testBit 0 = true → Replies (.paramLoad t msg) s msg r key 0 0 [] (fun m1 => m1.fld R.RET_PSTAT_RESULT = 0 ∧
          (∀ k, (∀ x ∈ b.parWords, k ≠ ikey spW x.1) → sget 0 m1.img k = sget 0 b.img k) ∧
          ∀ w o, (w, o) ∈ b.parWords → (∀ x ∈ b.parWords, x.1 = w → x.2 = o) →
            m1.cell spW w = BitVec.ofNat 128 (leNat ((List.range 4).map (fun j => sget 0 i.data (o + j))))))) ) ∧
    (Asks m msg 0x0020 r key b → len = 4 → b.runningOp 0x0020 = none → HandleFree b → Replies (.fwUpdate t msg) s msg r key 0 0 handle (fun m1 =>
      Opens b m1 r (fun h => h.force = ((byteAt r.body 0).testBit 0 || b.st == .loader)) ∧ m1.fld R.UPD_FWSTAT_STATE = 1 ∧ m1.upd = b.upd)) ∧
    (Asks m msg 0x0021 r key b → len = 4 →
      (b.olcState ≠ olcIdle ∨ b.flag R.IMG_OLCSTAT_KEYPEND = true → Replies (.fwCommit t msg) s msg r key 0x0C 0x08 [] (fun m1 => m1.upd = b.upd ∧ m1.sup = b.sup)) ∧
      (b.olcState = olcIdle → b.flag R.IMG_OLCSTAT_KEYPEND = false → b.upd.fwLen = none → (∃ l, b.upd.lines.getLast? = some l ∧ l.ty = 1) → Replies (.fwCommit t msg) s msg r key 0 0 [] (fun m1 =>
        updArmed m1.upd.lines = true ∧ m1.fld R.UPD_FWSTAT_STATE = 3 ∧ m1.upd.store = b.upd.store ∧
        m1.sup.due = if (byteAt r.body 0).testBit 0 then some (4, b.now + 10000000) else b.sup.due))) ∧
    (∀ ok, Asks m msg 0x0040 r key b → 8 ≤ len →
      let off := fieldAt r.body 4 4
      let data := r.body.drop 8
      let c := Instr.step t msg ok
      (b.ownHandle r = none → Replies c s msg r key 0x0A 0 [] same) ∧
      (∀ h, b.ownHandle r = some h →
        (h.state = 3 → Replies c s msg r key 0x0D 0 [] same) ∧ (h.state = 2 → Replies c s msg r key 0x0C h.detail [] same) ∧ (h.state = 1 → Replies c s msg r key 0x0B 0 [] same) ∧
        (h.state = 0 →
          (h.op = 0x0006 → data = [] → off = h.taken → h.done = 0 → h.prev = [] →
            let es := (entriesFrom (b.journalOf h.source) h.first).1.take 88
            ∃ q, Replies c s msg r key 0 0 (leBytes 4 q ++ leBytes 2 es.length ++ leBytes 2 (entriesFrom (b.journalOf h.source) h.first).2.toNat ++ es.flatMap JEntry.bytes) (fun m1 =>
              (∀ j, es.find? (fun j => !j.isMarker) = some j → q = j.seq) ∧ ∃ x, m1.handle h.no = some x ∧ x.taken = off + es.length ∧ x.done = 1)) ∧
          (h.op = 0x0010 ∨ h.op = 0x0020 → data ≠ [] → h.done ≠ 0 → off = h.lastOff →
            (data = h.lastData → Replies c s msg r key 0 0 [] (fun m1 => m1 = b.setHandle { h with stepAt := b.now })) ∧
            (data ≠ h.lastData → Replies c s msg r key 0x0B 0 [] same)) ∧
          (∀ g, h.op = 0x0010 → b.upd.stg = some g → data ≠ [] → h.done = 0 ∨ off ≠ h.lastOff → h.driven = true →
            (off ≠ g.got → Replies c s msg r key 0x0B 0 [] same) ∧
            (off = g.got → g.len < off + data.length → Replies c s msg r key 0x07 0 [] same) ∧
            (off = g.got → off + data.length ≤ g.len → (off = 0 → headLen data ≤ data.length ∧ pkgCheckHead data g.len (b.fld R.UPD_FWBUILD) = none) → ok = true → g.slot ≤ 1 →
              Replies c s msg r key 0 0 [] (fun m1 => m1.upd.stg = some { g with got := off + data.length, readBack := decide (off + data.length = g.len) } ∧
                m1.fld R.UPD_STGPROG_DONE = (off + data.length) / 1024 % 2 ^ 16 ∧ (off = 0 → m1.keyHdr.slotState g.slot = 1 ∧ m1.keyHdr.slotDig g.slot = g.dig) ∧
                (∀ i, i < data.length → sget 0xFF (if g.slot = 0 then m1.upd.key.slotA else m1.upd.key.slotB) (off + i) = data.getD i 0) ∧
                (if g.slot = 0 then m1.upd.key.slotB = b.upd.key.slotB else m1.upd.key.slotA = b.upd.key.slotA))) ∧
            (∀ x, off = 0 → g.got = 0 → data.length ≤ g.len → headLen data ≤ data.length → pkgCheckHead data g.len (b.fld R.UPD_FWBUILD) = some x →
              Replies c s msg r key 0x0C x.code [] (fun m1 => m1.upd.stg = none ∧ m1.fld R.UPD_STGSTAT_STATE = 3))) ∧
          (h.op = 0x0020 → data ≠ [] → h.done = 0 ∨ off ≠ h.lastOff → h.driven = true →
            (b.upd.fwLen = none → off = 0 → data.length = 256 → b.fwHeader data h.force = none → ok = true → Replies c s msg r key 0 0 [] (fun m1 => m1.upd.store = data ∧
              m1.upd.fwLen = some (256 + fieldAt data 20 4) ∧ m1.upd.lines = b.upd.lines)) ∧
            (∀ x, b.upd.fwLen = none → off = 0 → data.length = 256 → b.fwHeader data h.force = some x → Replies c s msg r key 0x0C x [] (fun m1 => m1.upd = b.upd ∧
              ∃ y, m1.handle h.no = some y ∧ y.state = 2 ∧ y.detail = x)) ∧
            (∀ k, b.upd.fwLen = some k → off = b.upd.store.length → off + data.length ≤ k → ok = true → Replies c s msg r key 0 0 [] (fun m1 => m1.upd.store = b.upd.store ++ data ∧
              m1.upd.fwLen = some k ∧ ∃ y, m1.handle h.no = some y ∧ y.driven = decide (off + data.length ≠ k))))))) ∧
    (∀ g, m.alive = true → m.upd.stg = some g → g.readBack = true → g.slot ≤ 1 →
      (pkgCheck (m.slotBytes g.slot g.len) g.len g.dig (m.fld R.UPD_FWBUILD) = none → m.olcState = olcIdle → Answers (.stagingReadback t true) s (fun m' => m'.upd.stg = none ∧
        m'.upd.staged = some (m.slotBytes g.slot g.len) ∧ m'.keyHdr.slotState g.slot = 2 ∧ m'.keyHdr.slotLen g.slot = g.len ∧ m'.keyHdr.slotDig g.slot = g.dig ∧
        m'.keyHdr.active = m.keyHdr.active ∧ m'.fld R.UPD_STGSTAT_STATE = 2 ∧ ∀ h, m.runningOp 0x0010 = some h → ∃ y, m'.handle h.no = some y ∧ y.state = 1)) ∧
      Answers (.stagingReadback t false) s (fun m' => m'.upd.stg = none ∧ m'.fld R.UPD_STGSTAT_STATE = 3 ∧ m'.fld R.UPD_STGSTAT_CODE = 0x21 ∧ m'.keyHdr = m.keyHdr)) ∧
    (∀ k h, m.upd.fwLen = some k → m.runningOp 0x0020 = some h → m.upd.store.length = k →
      (fwDigestOk m.upd.store = true → m.st ≠ .loader → Answers (.fwDigestCheck t true) s (fun m' => m'.upd.fwLen = none ∧ m'.upd.store = m.upd.store ∧
        (∃ l, m'.upd.lines.getLast? = some l ∧ l.ty = 1) ∧ updArmed m'.upd.lines = false ∧ m'.fld R.UPD_FWSTAT_STATE = 2 ∧ ∃ y, m'.handle h.no = some y ∧ y.state = 1)) ∧
      (fwDigestOk m.upd.store = false → Answers (.fwDigestCheck t true) s (fun m' => m'.upd.fwLen = none ∧ m'.upd.store = [] ∧ m'.upd.lines = m.upd.lines ∧
        m'.fld R.UPD_FWSTAT_CODE = 6 ∧ ∃ y, m'.handle h.no = some y ∧ y.state = 2 ∧ y.detail = 6))) ∧
    (Asks m msg 0x0042 r key b → len = 4 →
      (b.ownHandle r = none → Replies (.abort t msg) s msg r key 0x0A 0 [] same) ∧
      (∀ h, b.ownHandle r = some h →
        (h.state = 3 → Replies (.abort t msg) s msg r key 0x0D 0 [] same) ∧ (h.state = 2 → Replies (.abort t msg) s msg r key 0x0C h.detail [] same) ∧ (h.state = 1 → Replies (.abort t msg) s msg r key 0x04 0 [] same) ∧
        (h.state = 0 → h.op = 0x0006 ∨ h.op = 0x0010 ∨ h.op = 0x0020 → Replies (.abort t msg) s msg r key 0 0 [] (fun m1 => (∃ y, m1.handle h.no = some y ∧ y.state = 3) ∧
          (h.op = 0x0010 → m1.upd.stg = none) ∧ (h.op = 0x0020 → m1.upd.fwLen = none))) ∧
        (h.state = 0 → h.op = 0x0018 → Replies (.abort t msg) s msg r key 0 0 [] (fun m1 => m1.ret.pstore = none ∧ (b.ret.pstore.isSome = true → m1.fld R.RET_PSTAT_RESULT = 6))))) ∧
    (∀ (no : BitVec 16) h, m.handle no.toNat = some h →
      (h.state = 0 → h.driven = true → h.op = 0x0006 ∨ h.op = 0x0010 ∨ h.op = 0x0020 → h.stepAt + 60000000000 ≤ m.now → Answers (.handleIdleTimeout t no) s (fun m' =>
        (∃ y, m'.handle no.toNat = some y ∧ y.state = 3 ∧ y.endAt = some m.now) ∧ (h.op = 0x0010 → m'.upd.stg = none) ∧ (h.op = 0x0020 → m'.upd.fwLen = none))) ∧
      (h.state ≠ 0 ∨ h.driven = false ∨ m.now < h.stepAt + 60000000000 → Answers (.handleIdleTimeout t no) s (fun m' => m' = m)) ∧
      (∀ a, h.endAt = some a → a + 60000000000 ≤ m.now → Answers (.handleClose t no) s (fun m' =>
        m' = { m with svc := { m.svc with handles := m.svc.handles.filter (fun x => x.no != no.toNat) } })) ∧
      (h.endAt = none → Answers (.handleClose t no) s (fun m' => m' = m)))

/-- R90, R106, R114, R130, R158–R160. Every well-formed engine instruction decodes from its own word, on its own engine, and every 32-bit word is the word of the instruction it decodes to:
no bit of a word is dropped. The words of R130's examples spell the instructions it names, and an engine that fetches a word its package does not give fetches a reserved opcode. -/
def Obligations.EngineWordsDecodeAsEncoded : Prop :=
  (∀ (i : Instr) (e : Fin 16) (w : BitVec 32), i.wf = true → encodeWord i = some (e, w) → decodeWord e w = i) ∧
  (∀ (e : Fin 16) (w : BitVec 32), encodeWord (decodeWord e w) = some (e, w)) ∧
  (∀ e : Fin 16, decodeWord e 0x01410108 = .and e ⟨false, 0⟩ ⟨4, 1, 2, 0⟩ ∧ decodeWord e 0x041040E0 = .bgth e ⟨false, 0⟩ ⟨1, 0, 0xE0⟩ ∧
    decodeWord e 0x99410108 = .and e ⟨true, 3⟩ ⟨4, 1, 2, 0⟩) ∧
  ∀ (m : Mach) (e : Fin 16), m.bankWord e (m.eng e).pc = 0xFFFFFFFF → ∃ g w, m.fetched e = .reservedOpcode e g w

/-- A step takes the command at the front of the queue and runs it on the state with the queue's rest. A word of 32 bits spells the engine instruction it decodes to, on engine 0, and goes to
the front of the queue; no other word spells a command. On an empty queue the time base advances by 10 ns, and what follows every command at once runs (R386; the idle step is the model's
choice, log entry 3). -/
def Obligations.StepRunsTheFrontCommand : Prop :=
  (∀ (c : Instr) (s : State), step { s with pending := c :: s.pending } = exec c s) ∧
  (∀ s : State, s.pending = [] → step s = .next { s with m := (s.m.pass (s.m.now + 10)).settle }) ∧
  (∀ (s : State) (w : Nat), decodeTableWord 32 w = some (decodeWord 0 (BitVec.ofNat 32 w)) ∧
    s.withFetchWord 32 w = { s with pending := decodeWord 0 (BitVec.ofNat 32 w) :: s.pending }) ∧
  ∀ (s : State) (n w : Nat), n ≠ 32 → decodeTableWord n w = none ∧ s.withFetchWord n w = s

/-- R311, R312, R321, R416. Every step of every command answers a next state, takes exactly the front of the queue, and leaves the drivers and the health contact following their
conditions. -/
def Obligations.EveryStepKeepsTheOutputConditions : Prop :=
  ∀ s : State, ∃ m', step s = .next { m := m', pending := s.pending.tail } ∧ OutputsFollow m'

/-- R23, R87, R179, R183, R416, R592. The module after power-on: in BOOT with no command waiting, every register at the reset value of its bit table (among them the type in SYS.ID and the fixed delays), the outputs and the
health contact off, every engine dark, no scan, every point of I 0 with quality invalid but the system status bits, the image, the journal and the faults empty; the outputs follow their conditions. -/
def Obligations.ResetState : Prop :=
  let s := State.reset
  let m := s.m
  s.pending = [] ∧ m.st = .boot ∧ m.fld R.DIAG_MSTATE_STATE = 0 ∧ (m.rget R.SYS_ID.addr).toNat % 2 ^ 16 = 0x6016 ∧
  (∀ a, m.rget a = regReset a) ∧ m.fld R.EVU_DIDLY = 300 ∧ m.fld R.FIO_RBDLY = 100 ∧ (∀ c : Fin 2, m.fld (R.BB_TXDLY c) = 9) ∧
  (∀ e : Fin 16, m.flag (R.ENG_PERFCTL_EN e) = true ∧ (m.eng e).power = .dark ∧ (m.eng e).act = none) ∧
  (∀ k : Fin 32, (m.task k).snap = none ∧ (m.task k).run = none ∧ (m.task k).held = none) ∧
  (∀ i : Fin 8192, (m.pt i).v = false ∧ (m.pt i).q = if 4224 ≤ i.val ∧ i.val ≤ 4351 then 0 else 1) ∧ (∀ sp i, m.cell sp i = 0) ∧
  m.fio.cmd = 0 ∧ m.fio.hc = false ∧ m.faults = [] ∧ m.fatal = none ∧ m.ev.fifo = [] ∧ m.ev.ring = [] ∧ m.out = [] ∧ OutputsFollow m
end

