-- ==== Sys2Proof/Laws/Custom.lean ====
section
/-!
SUPPORT. What reading the image does to the module: it sets read-set bits in the task's scan, and nothing else; so do the micro-sequences of custom
instructions.
-/
namespace Sys2Proof.Machine
open Sys2Proof

/-- `n` differs from `m` in the tasks only. -/
def TasksOnly (m n : Mach) : Prop := n = { m with tasks := n.tasks }

theorem TasksOnly.refl (m : Mach) : TasksOnly m m := rfl
theorem TasksOnly.trans {a b c : Mach} (h : TasksOnly a b) (k : TasksOnly b c) : TasksOnly a c := by
  unfold TasksOnly at *; rw [h] at k; exact k
theorem TasksOnly.engs {m n : Mach} (h : TasksOnly m n) : n.engs = m.engs := by rw [h]
theorem TasksOnly.regs {m n : Mach} (h : TasksOnly m n) : n.regs = m.regs := by rw [h]

theorem tasksOnly_mark (m : Mach) (k sp i : Nat) : TasksOnly m (m.mark k sp i) := by
  unfold Mach.mark
  split
  · split
    · extract_lets b
      split <;> rfl
    · rfl
  · rfl

theorem tasksOnly_read (c : Ctx) (sp i : Nat) (m : Mach) : TasksOnly m (c.read sp i m).2 := by
  unfold Ctx.read
  split
  · rfl
  · split
    · rfl
    · split
      · rfl
      · extract_lets key
        split
        · rfl
        · exact tasksOnly_mark _ _ _ _

theorem tasksOnly_readBits (c : Ctx) (sp i n : Nat) (m : Mach) : TasksOnly m (c.readBits sp i n m).2 := by
  induction n generalizing i m with
  | zero => exact TasksOnly.refl m
  | succ n ih => exact (tasksOnly_read c sp i m).trans (ih _ _)

theorem tasksOnly_readChain (c : Ctx) (i n : Nat) (m : Mach) : TasksOnly m (c.readChain i n m).2 := by
  induction n generalizing i m with
  | zero => exact TasksOnly.refl m
  | succ n ih => exact (tasksOnly_read c spC i m).trans (ih _ _)

theorem tasksOnly_lane (c : Ctx) (l : Option (Nat × Nat)) (m : Mach) : TasksOnly m (c.lane l m).2 := by
  unfold Ctx.lane
  split
  · rfl
  · split
    · rfl
    · exact tasksOnly_read _ _ _ _

theorem tasksOnly_lanes (c : Ctx) (ls : List (Option (Nat × Nat))) (m : Mach) : TasksOnly m (c.lanes ls m).2 := by
  induction ls generalizing m with
  | nil => exact TasksOnly.refl m
  | cons l ls ih => exact (tasksOnly_lane c l m).trans (ih _)

/-! ### Micro-sequences -/

theorem tasksOnly_custRead (u : CustRun) (c : Ctx) (sp i : Nat) : TasksOnly u.m (u.read c sp i).2.m := by
  unfold CustRun.read
  split
  · rfl
  · exact tasksOnly_read _ _ _ _

theorem tasksOnly_custLanes (c : Ctx) (ls : List (Option (Nat × Nat))) (u : CustRun) : TasksOnly u.m (CustRun.lanes c ls u).2.m := by
  induction ls generalizing u with
  | nil => exact TasksOnly.refl _
  | cons l ls ih =>
    cases l with
    | none => exact ih u
    | some x => exact (tasksOnly_custRead u c x.1 x.2).trans (ih _)

theorem custWrite_m (u : CustRun) (sp i : Nat) (v : CellV) : (u.write sp i v).m = u.m := by unfold CustRun.write; split <;> rfl

/-- Steps that leave the module of a micro-sequence as it is leave it so one after the other. -/
theorem custFold_m {α : Type} (f : CustRun → α → CustRun) (hf : ∀ u x, (f u x).m = u.m) (ls : List α) (u : CustRun) : (ls.foldl f u).m = u.m := by
  induction ls generalizing u with
  | nil => rfl
  | cons l ls ih => rw [List.foldl_cons, ih, hf]

theorem tasksOnly_one (u : CustRun) (c : Ctx) (x : CustArgs) (rix w : Nat) : TasksOnly u.m (u.one c x rix w).2.m := by
  unfold CustRun.one
  extract_lets op k a b i desc setT rd wr ad mask
  have hrd : ∀ sp, TasksOnly u.m (rd sp).2.m := by
    intro sp
    show TasksOnly u.m (if _ then _ else _ : Nat × CustRun).2.m
    split
    · rfl
    · exact tasksOnly_custRead _ _ _ _
  have hwr : ∀ sp v, TasksOnly u.m (wr sp v).2.m := by
    intro sp v
    show TasksOnly u.m (if _ then _ else _ : Nat × CustRun).2.m
    split
    · rfl
    · show TasksOnly u.m (u.write _ _ _).m
      rw [custWrite_m]; rfl
  split
  · rfl
  · clear_value op
    split
    · rfl
    · rfl
    · split
      · rfl
      · rfl
    · exact hrd _
    · split
      · rfl
      · rfl
    · exact hrd _
    · exact hrd _
    · split
      · rfl
      · exact tasksOnly_custLanes _ _ _
    · exact hwr _ _
    · exact hwr _ _
    · exact hwr _ _
    · split
      · rfl
      · show TasksOnly u.m (List.foldl _ u _).m
        rw [custFold_m]
        · rfl
        · rintro v ⟨l, n⟩
          cases l with
          | none => rfl
          | some y =>
            show (if mask.getLsbD n then v.write y.1 y.2 (bitV (b.getLsbD n)) else v).m = v.m
            split
            · exact custWrite_m _ _ _ _
            · rfl
    · rfl
    · rfl
    · rfl

theorem took_m (u : CustRun) (w : Nat) : (u.took w).m = u.m := by unfold CustRun.took; split <;> rfl
theorem untook_m (u : CustRun) (ws : List Nat) : (u.untook ws).m = u.m := by unfold CustRun.untook; split <;> rfl

theorem tasksOnly_body (c : Ctx) (x : CustArgs) (rix : Nat) (ws : List Nat) (sk : Nat) (u : CustRun) : TasksOnly u.m (CustRun.body c x rix ws sk u).m := by
  induction ws generalizing sk u with
  | nil => exact TasksOnly.refl _
  | cons w ws ih =>
    unfold CustRun.body
    split
    · exact TasksOnly.refl _
    · split
      · exact took_m u w ▸ ih _ _
      · exact (tasksOnly_one u c x rix w).trans (took_m (u.one c x rix w).2 w ▸ ih _ _)

/-- A micro-sequence changes nothing of the module but the read-sets. -/
theorem tasksOnly_sequence (c : Ctx) (x : CustArgs) (ws : List Nat) (sk : Nat) (u : CustRun) : TasksOnly u.m (CustRun.sequence c x ws sk u).m := by
  induction ws generalizing sk u with
  | nil => exact TasksOnly.refl _
  | cons w ws ih =>
    unfold CustRun.sequence
    split
    · exact TasksOnly.refl _
    · split
      · have h := ih (sk - 1) ({ u with cyc := u.cyc + skippedPasses w ws }.took w)
        rw [took_m] at h
        exact h
      · split
        · extract_lets n u'
          refine TasksOnly.trans (b := u'.m) ?_ (untook_m u' (ws.take n) ▸ ih _ _)
          have : ∀ (ps : List Nat) (v : CustRun), TasksOnly v.m (ps.foldl (fun u p => CustRun.body c x p (ws.take n) 0 u) v).m := by
            intro ps
            induction ps with
            | nil => exact fun v => TasksOnly.refl _
            | cons p ps ihp => exact fun v => (tasksOnly_body c x p _ 0 v).trans (ihp _)
          exact this _ _
        · exact (tasksOnly_one u c x 0 w).trans (took_m (u.one c x 0 w).2 w ▸ ih _ _)

end Sys2Proof.Machine
end

