-- ==== Sys2Proof/Laws/Map.lean ====
section
/-!
SUPPORT. The laws of sparse data: reading after a write at the same key and at another, and that a write keeps the canonical form.
-/
namespace Sys2Proof.Machine

variable {α : Type}

@[simp] theorem sget_nil (d : α) (k : Nat) : sget d [] k = d := rfl

theorem sget_cons (d : α) (a : Nat) (v : α) (m : SMap α) (k : Nat) :
    sget d ((a, v) :: m) k = if a = k then v else sget d m k := by simp [sget]

theorem sget_sdel_same (d : α) (m : SMap α) (k : Nat) : sget d (sdel m k) k = d := by
  induction m with
  | nil => rfl
  | cons e m ih =>
    obtain ⟨a, v⟩ := e
    by_cases h : a = k
    · simpa [sdel, h] using ih
    · simp [sdel, h, sget_cons]; simpa [sdel] using ih

theorem sget_sdel_ne (d : α) (m : SMap α) {k a : Nat} (h : a ≠ k) : sget d (sdel m k) a = sget d m a := by
  induction m with
  | nil => rfl
  | cons e m ih =>
    obtain ⟨b, v⟩ := e
    by_cases hb : b = k
    · subst hb; simp only [sget_cons, if_neg (Ne.symm h)]; simpa [sdel] using ih
    · by_cases hba : b = a
      · simp [sdel, hba, sget_cons, h]
      · simp [sdel, hb, sget_cons, hba]; simpa [sdel] using ih

theorem sget_sins_ne (d : α) (m : SMap α) (v : α) {k a : Nat} (h : a ≠ k) : sget d (sins k v m) a = sget d m a := by
  induction m with
  | nil => simp [sins, sget_cons, Ne.symm h]
  | cons e m ih =>
    obtain ⟨b, w⟩ := e
    by_cases hk : k < b
    · simp [sins, hk, sget_cons, Ne.symm h]
    · by_cases hba : b = a
      · subst hba; simp [sins, hk, sget_cons]
      · simp [sins, hk, sget_cons, hba, ih]

theorem sget_sins_same (d : α) (m : SMap α) (v : α) (k : Nat) (h : ∀ e ∈ m, e.1 ≠ k) : sget d (sins k v m) k = v := by
  induction m with
  | nil => simp [sins, sget_cons]
  | cons e m ih =>
    obtain ⟨b, w⟩ := e
    by_cases hk : k < b
    · simp [sins, hk, sget_cons]
    · have hb : b ≠ k := h (b, w) (by simp)
      simp only [sins, hk, if_false, sget_cons, hb]
      exact ih (fun e he => h e (List.mem_cons_of_mem _ he))

theorem sdel_key_ne (m : SMap α) (k : Nat) : ∀ e ∈ sdel m k, e.1 ≠ k := by
  intro e he
  simpa [sdel] using (List.mem_filter.mp he).2

/-- A read at the key just written gives the value written. -/
@[simp] theorem sget_sset_same [DecidableEq α] (d : α) (m : SMap α) (k : Nat) (v : α) : sget d (sset d m k v) k = v := by
  by_cases h : v = d
  · subst h; simp [sset, sget_sdel_same]
  · simp [sset, h, sget_sins_same d _ v k (sdel_key_ne m k)]

/-- A write leaves every other key as it was. -/
theorem sget_sset_ne [DecidableEq α] (d d' : α) (m : SMap α) (v : α) {k a : Nat} (h : a ≠ k) :
    sget d' (sset d m k v) a = sget d' m a := by
  by_cases hv : v = d
  · simp [sset, hv, sget_sdel_ne d' m h]
  · simp [sset, hv, sget_sins_ne d' _ v h, sget_sdel_ne d' m h]

/-! ### The canonical form -/

theorem srising_le {n k : Nat} (h : n ≤ k) : ∀ {m : SMap α}, srising k m = true → srising n m = true
  | [], _ => rfl
  | (a, v) :: m, hm => by
    simp only [srising, Bool.and_eq_true, decide_eq_true_eq] at hm ⊢
    exact ⟨h.trans hm.1, hm.2⟩

theorem srising_sdel (k : Nat) : ∀ {n : Nat} {m : SMap α}, srising n m = true → srising n (sdel m k) = true
  | _, [], _ => rfl
  | n, (a, v) :: m, hm => by
    simp only [srising, Bool.and_eq_true, decide_eq_true_eq] at hm
    by_cases h : a = k
    · have := srising_sdel k hm.2
      simpa [sdel, h] using srising_le (h ▸ (by omega : n ≤ a + 1)) this
    · have := srising_sdel k hm.2
      simp [sdel, h, srising, hm.1]; simpa [sdel] using this

theorem srising_sins (k : Nat) (v : α) : ∀ {n : Nat} {m : SMap α}, srising n m = true → n ≤ k → (∀ e ∈ m, e.1 ≠ k) →
    srising n (sins k v m) = true
  | _, [], _, hk, _ => by simp [sins, srising, hk]
  | n, (a, w) :: m, hm, hk, hne => by
    simp only [srising, Bool.and_eq_true, decide_eq_true_eq] at hm
    by_cases h : k < a
    · simp [sins, h, srising, hk, hm.2]
    · have ha : a ≠ k := hne (a, w) (by simp)
      have := srising_sins k v hm.2 (by omega) (fun e he => hne e (List.mem_cons_of_mem _ he))
      simp [sins, h, srising, hm.1, this]

theorem mem_sins {k : Nat} {v : α} {m : SMap α} {e : Nat × α} (h : e ∈ sins k v m) : e = (k, v) ∨ e ∈ m := by
  induction m with
  | nil => simpa [sins] using h
  | cons f m ih =>
    obtain ⟨a, w⟩ := f
    by_cases hk : k < a
    · simpa [sins, hk] using h
    · simp only [sins, hk, if_false, List.mem_cons] at h
      rcases h with h | h
      · exact .inr (by simp [h])
      · rcases ih h with h | h
        · exact .inl h
        · exact .inr (List.mem_cons_of_mem _ h)

/-- A write keeps the canonical form. -/
theorem swf_sset [DecidableEq α] (dflt : Nat → α) (m : SMap α) (k : Nat) (v : α) (h : swf dflt m = true) :
    swf dflt (sset (dflt k) m k v) = true := by
  simp only [swf, Bool.and_eq_true, List.all_eq_true, decide_eq_true_eq] at h ⊢
  have hd : ∀ e ∈ sdel m k, e.2 ≠ dflt e.1 := fun e he => h.2 e (List.mem_of_mem_filter he)
  by_cases hv : v = dflt k
  · simpa [sset, hv] using ⟨srising_sdel k h.1, fun a b he => hd (a, b) he⟩
  · refine ⟨?_, ?_⟩
    · simpa [sset, hv] using srising_sins k v (srising_sdel k h.1) (Nat.zero_le k) (sdel_key_ne m k)
    · intro e he
      simp only [sset, hv, if_false] at he
      rcases mem_sins he with rfl | he
      · exact hv
      · exact hd e he

/-- The empty store is in canonical form. -/
theorem swf_nil [DecidableEq α] (dflt : Nat → α) : swf dflt ([] : SMap α) = true := rfl

end Sys2Proof.Machine
end

