-- ==== Sys2Proof/Laws/State.lean ====
section
/-!
SUPPORT. One lemma for each field of the module and each named update: the update leaves every field but its own as it was.
-/
namespace Sys2Proof.Machine
open Sys2Proof

variable (m : Mach)

@[simp] theorem Mach.rset_now (a : Nat) (w : Word) : (m.rset a w).now = m.now := rfl
@[simp] theorem Mach.rset_free (a : Nat) (w : Word) : (m.rset a w).free = m.free := rfl
@[simp] theorem Mach.rset_out (a : Nat) (w : Word) : (m.rset a w).out = m.out := rfl
@[simp] theorem Mach.rset_latch (a : Nat) (w : Word) : (m.rset a w).latch = m.latch := rfl
@[simp] theorem Mach.rset_st (a : Nat) (w : Word) : (m.rset a w).st = m.st := rfl
@[simp] theorem Mach.rset_epoch (a : Nat) (w : Word) : (m.rset a w).epoch = m.epoch := rfl
@[simp] theorem Mach.rset_img (a : Nat) (w : Word) : (m.rset a w).img = m.img := rfl
@[simp] theorem Mach.rset_pts (a : Nat) (w : Word) : (m.rset a w).pts = m.pts := rfl
@[simp] theorem Mach.rset_exp (a : Nat) (w : Word) : (m.rset a w).exp = m.exp := rfl
@[simp] theorem Mach.rset_tasks (a : Nat) (w : Word) : (m.rset a w).tasks = m.tasks := rfl
@[simp] theorem Mach.rset_engs (a : Nat) (w : Word) : (m.rset a w).engs = m.engs := rfl
@[simp] theorem Mach.rset_quads (a : Nat) (w : Word) : (m.rset a w).quads = m.quads := rfl
@[simp] theorem Mach.rset_cu (a : Nat) (w : Word) : (m.rset a w).cu = m.cu := rfl
@[simp] theorem Mach.rset_ev (a : Nat) (w : Word) : (m.rset a w).ev = m.ev := rfl
@[simp] theorem Mach.rset_faults (a : Nat) (w : Word) : (m.rset a w).faults = m.faults := rfl
@[simp] theorem Mach.rset_fatal (a : Nat) (w : Word) : (m.rset a w).fatal = m.fatal := rfl
@[simp] theorem Mach.rset_pair (a : Nat) (w : Word) : (m.rset a w).pair = m.pair := rfl
@[simp] theorem Mach.rset_olcOpen (a : Nat) (w : Word) : (m.rset a w).olcOpen = m.olcOpen := rfl
@[simp] theorem Mach.rset_decode (a : Nat) (w : Word) : (m.rset a w).decode = m.decode := rfl
@[simp] theorem Mach.rset_fio (a : Nat) (w : Word) : (m.rset a w).fio = m.fio := rfl
@[simp] theorem Mach.rset_sup (a : Nat) (w : Word) : (m.rset a w).sup = m.sup := rfl
@[simp] theorem Mach.rset_ret (a : Nat) (w : Word) : (m.rset a w).ret = m.ret := rfl
@[simp] theorem Mach.rset_bays (a : Nat) (w : Word) : (m.rset a w).bays = m.bays := rfl
@[simp] theorem Mach.rset_stas (a : Nat) (w : Word) : (m.rset a w).stas = m.stas := rfl
@[simp] theorem Mach.rset_olcEnd (a : Nat) (w : Word) : (m.rset a w).olcEnd = m.olcEnd := rfl
@[simp] theorem Mach.rset_tk (a : Nat) (w : Word) : (m.rset a w).tk = m.tk := rfl
@[simp] theorem Mach.rset_sp (a : Nat) (w : Word) : (m.rset a w).sp = m.sp := rfl
@[simp] theorem Mach.rset_mov (a : Nat) (w : Word) : (m.rset a w).mov = m.mov := rfl
@[simp] theorem Mach.rset_dsp (a : Nat) (w : Word) : (m.rset a w).dsp = m.dsp := rfl
@[simp] theorem Mach.rset_upd (a : Nat) (w : Word) : (m.rset a w).upd = m.upd := rfl
@[simp] theorem Mach.rset_olc (a : Nat) (w : Word) : (m.rset a w).olc = m.olc := rfl
@[simp] theorem Mach.rset_svc (a : Nat) (w : Word) : (m.rset a w).svc = m.svc := rfl
@[simp] theorem Mach.rset_bootAt (a : Nat) (w : Word) : (m.rset a w).bootAt = m.bootAt := rfl
@[simp] theorem Mach.rset_ran (a : Nat) (w : Word) : (m.rset a w).ran = m.ran := rfl
@[simp] theorem Mach.rset_runPend (a : Nat) (w : Word) : (m.rset a w).runPend = m.runPend := rfl
@[simp] theorem Mach.rset_warn (a : Nat) (w : Word) : (m.rset a w).warn = m.warn := rfl

@[simp] theorem Mach.setFld_now (f : Fld) (v : Nat) : (m.setFld f v).now = m.now := rfl
@[simp] theorem Mach.setFld_free (f : Fld) (v : Nat) : (m.setFld f v).free = m.free := rfl
@[simp] theorem Mach.setFld_out (f : Fld) (v : Nat) : (m.setFld f v).out = m.out := rfl
@[simp] theorem Mach.setFld_latch (f : Fld) (v : Nat) : (m.setFld f v).latch = m.latch := rfl
@[simp] theorem Mach.setFld_st (f : Fld) (v : Nat) : (m.setFld f v).st = m.st := rfl
@[simp] theorem Mach.setFld_epoch (f : Fld) (v : Nat) : (m.setFld f v).epoch = m.epoch := rfl
@[simp] theorem Mach.setFld_img (f : Fld) (v : Nat) : (m.setFld f v).img = m.img := rfl
@[simp] theorem Mach.setFld_pts (f : Fld) (v : Nat) : (m.setFld f v).pts = m.pts := rfl
@[simp] theorem Mach.setFld_exp (f : Fld) (v : Nat) : (m.setFld f v).exp = m.exp := rfl
@[simp] theorem Mach.setFld_tasks (f : Fld) (v : Nat) : (m.setFld f v).tasks = m.tasks := rfl
@[simp] theorem Mach.setFld_engs (f : Fld) (v : Nat) : (m.setFld f v).engs = m.engs := rfl
@[simp] theorem Mach.setFld_quads (f : Fld) (v : Nat) : (m.setFld f v).quads = m.quads := rfl
@[simp] theorem Mach.setFld_cu (f : Fld) (v : Nat) : (m.setFld f v).cu = m.cu := rfl
@[simp] theorem Mach.setFld_ev (f : Fld) (v : Nat) : (m.setFld f v).ev = m.ev := rfl
@[simp] theorem Mach.setFld_faults (f : Fld) (v : Nat) : (m.setFld f v).faults = m.faults := rfl
@[simp] theorem Mach.setFld_fatal (f : Fld) (v : Nat) : (m.setFld f v).fatal = m.fatal := rfl
@[simp] theorem Mach.setFld_pair (f : Fld) (v : Nat) : (m.setFld f v).pair = m.pair := rfl
@[simp] theorem Mach.setFld_olcOpen (f : Fld) (v : Nat) : (m.setFld f v).olcOpen = m.olcOpen := rfl
@[simp] theorem Mach.setFld_decode (f : Fld) (v : Nat) : (m.setFld f v).decode = m.decode := rfl
@[simp] theorem Mach.setFld_fio (f : Fld) (v : Nat) : (m.setFld f v).fio = m.fio := rfl
@[simp] theorem Mach.setFld_sup (f : Fld) (v : Nat) : (m.setFld f v).sup = m.sup := rfl
@[simp] theorem Mach.setFld_ret (f : Fld) (v : Nat) : (m.setFld f v).ret = m.ret := rfl
@[simp] theorem Mach.setFld_bays (f : Fld) (v : Nat) : (m.setFld f v).bays = m.bays := rfl
@[simp] theorem Mach.setFld_stas (f : Fld) (v : Nat) : (m.setFld f v).stas = m.stas := rfl
@[simp] theorem Mach.setFld_olcEnd (f : Fld) (v : Nat) : (m.setFld f v).olcEnd = m.olcEnd := rfl
@[simp] theorem Mach.setFld_tk (f : Fld) (v : Nat) : (m.setFld f v).tk = m.tk := rfl
@[simp] theorem Mach.setFld_sp (f : Fld) (v : Nat) : (m.setFld f v).sp = m.sp := rfl
@[simp] theorem Mach.setFld_mov (f : Fld) (v : Nat) : (m.setFld f v).mov = m.mov := rfl
@[simp] theorem Mach.setFld_dsp (f : Fld) (v : Nat) : (m.setFld f v).dsp = m.dsp := rfl
@[simp] theorem Mach.setFld_upd (f : Fld) (v : Nat) : (m.setFld f v).upd = m.upd := rfl
@[simp] theorem Mach.setFld_olc (f : Fld) (v : Nat) : (m.setFld f v).olc = m.olc := rfl
@[simp] theorem Mach.setFld_svc (f : Fld) (v : Nat) : (m.setFld f v).svc = m.svc := rfl
@[simp] theorem Mach.setFld_bootAt (f : Fld) (v : Nat) : (m.setFld f v).bootAt = m.bootAt := rfl
@[simp] theorem Mach.setFld_ran (f : Fld) (v : Nat) : (m.setFld f v).ran = m.ran := rfl
@[simp] theorem Mach.setFld_runPend (f : Fld) (v : Nat) : (m.setFld f v).runPend = m.runPend := rfl
@[simp] theorem Mach.setFld_warn (f : Fld) (v : Nat) : (m.setFld f v).warn = m.warn := rfl

@[simp] theorem Mach.setFlag_now (f : Fld) (b : Bool) : (m.setFlag f b).now = m.now := rfl
@[simp] theorem Mach.setFlag_free (f : Fld) (b : Bool) : (m.setFlag f b).free = m.free := rfl
@[simp] theorem Mach.setFlag_out (f : Fld) (b : Bool) : (m.setFlag f b).out = m.out := rfl
@[simp] theorem Mach.setFlag_latch (f : Fld) (b : Bool) : (m.setFlag f b).latch = m.latch := rfl
@[simp] theorem Mach.setFlag_st (f : Fld) (b : Bool) : (m.setFlag f b).st = m.st := rfl
@[simp] theorem Mach.setFlag_epoch (f : Fld) (b : Bool) : (m.setFlag f b).epoch = m.epoch := rfl
@[simp] theorem Mach.setFlag_img (f : Fld) (b : Bool) : (m.setFlag f b).img = m.img := rfl
@[simp] theorem Mach.setFlag_pts (f : Fld) (b : Bool) : (m.setFlag f b).pts = m.pts := rfl
@[simp] theorem Mach.setFlag_exp (f : Fld) (b : Bool) : (m.setFlag f b).exp = m.exp := rfl
@[simp] theorem Mach.setFlag_tasks (f : Fld) (b : Bool) : (m.setFlag f b).tasks = m.tasks := rfl
@[simp] theorem Mach.setFlag_engs (f : Fld) (b : Bool) : (m.setFlag f b).engs = m.engs := rfl
@[simp] theorem Mach.setFlag_quads (f : Fld) (b : Bool) : (m.setFlag f b).quads = m.quads := rfl
@[simp] theorem Mach.setFlag_cu (f : Fld) (b : Bool) : (m.setFlag f b).cu = m.cu := rfl
@[simp] theorem Mach.setFlag_ev (f : Fld) (b : Bool) : (m.setFlag f b).ev = m.ev := rfl
@[simp] theorem Mach.setFlag_faults (f : Fld) (b : Bool) : (m.setFlag f b).faults = m.faults := rfl
@[simp] theorem Mach.setFlag_fatal (f : Fld) (b : Bool) : (m.setFlag f b).fatal = m.fatal := rfl
@[simp] theorem Mach.setFlag_pair (f : Fld) (b : Bool) : (m.setFlag f b).pair = m.pair := rfl
@[simp] theorem Mach.setFlag_olcOpen (f : Fld) (b : Bool) : (m.setFlag f b).olcOpen = m.olcOpen := rfl
@[simp] theorem Mach.setFlag_decode (f : Fld) (b : Bool) : (m.setFlag f b).decode = m.decode := rfl
@[simp] theorem Mach.setFlag_fio (f : Fld) (b : Bool) : (m.setFlag f b).fio = m.fio := rfl
@[simp] theorem Mach.setFlag_sup (f : Fld) (b : Bool) : (m.setFlag f b).sup = m.sup := rfl
@[simp] theorem Mach.setFlag_ret (f : Fld) (b : Bool) : (m.setFlag f b).ret = m.ret := rfl
@[simp] theorem Mach.setFlag_bays (f : Fld) (b : Bool) : (m.setFlag f b).bays = m.bays := rfl
@[simp] theorem Mach.setFlag_stas (f : Fld) (b : Bool) : (m.setFlag f b).stas = m.stas := rfl
@[simp] theorem Mach.setFlag_olcEnd (f : Fld) (b : Bool) : (m.setFlag f b).olcEnd = m.olcEnd := rfl
@[simp] theorem Mach.setFlag_tk (f : Fld) (b : Bool) : (m.setFlag f b).tk = m.tk := rfl
@[simp] theorem Mach.setFlag_sp (f : Fld) (b : Bool) : (m.setFlag f b).sp = m.sp := rfl
@[simp] theorem Mach.setFlag_mov (f : Fld) (b : Bool) : (m.setFlag f b).mov = m.mov := rfl
@[simp] theorem Mach.setFlag_dsp (f : Fld) (b : Bool) : (m.setFlag f b).dsp = m.dsp := rfl
@[simp] theorem Mach.setFlag_upd (f : Fld) (b : Bool) : (m.setFlag f b).upd = m.upd := rfl
@[simp] theorem Mach.setFlag_olc (f : Fld) (b : Bool) : (m.setFlag f b).olc = m.olc := rfl
@[simp] theorem Mach.setFlag_svc (f : Fld) (b : Bool) : (m.setFlag f b).svc = m.svc := rfl
@[simp] theorem Mach.setFlag_bootAt (f : Fld) (b : Bool) : (m.setFlag f b).bootAt = m.bootAt := rfl
@[simp] theorem Mach.setFlag_ran (f : Fld) (b : Bool) : (m.setFlag f b).ran = m.ran := rfl
@[simp] theorem Mach.setFlag_runPend (f : Fld) (b : Bool) : (m.setFlag f b).runPend = m.runPend := rfl
@[simp] theorem Mach.setFlag_warn (f : Fld) (b : Bool) : (m.setFlag f b).warn = m.warn := rfl

@[simp] theorem Mach.addFld_now (f : Fld) (n : Nat) : (m.addFld f n).now = m.now := rfl
@[simp] theorem Mach.addFld_free (f : Fld) (n : Nat) : (m.addFld f n).free = m.free := rfl
@[simp] theorem Mach.addFld_out (f : Fld) (n : Nat) : (m.addFld f n).out = m.out := rfl
@[simp] theorem Mach.addFld_latch (f : Fld) (n : Nat) : (m.addFld f n).latch = m.latch := rfl
@[simp] theorem Mach.addFld_st (f : Fld) (n : Nat) : (m.addFld f n).st = m.st := rfl
@[simp] theorem Mach.addFld_epoch (f : Fld) (n : Nat) : (m.addFld f n).epoch = m.epoch := rfl
@[simp] theorem Mach.addFld_img (f : Fld) (n : Nat) : (m.addFld f n).img = m.img := rfl
@[simp] theorem Mach.addFld_pts (f : Fld) (n : Nat) : (m.addFld f n).pts = m.pts := rfl
@[simp] theorem Mach.addFld_exp (f : Fld) (n : Nat) : (m.addFld f n).exp = m.exp := rfl
@[simp] theorem Mach.addFld_tasks (f : Fld) (n : Nat) : (m.addFld f n).tasks = m.tasks := rfl
@[simp] theorem Mach.addFld_engs (f : Fld) (n : Nat) : (m.addFld f n).engs = m.engs := rfl
@[simp] theorem Mach.addFld_quads (f : Fld) (n : Nat) : (m.addFld f n).quads = m.quads := rfl
@[simp] theorem Mach.addFld_cu (f : Fld) (n : Nat) : (m.addFld f n).cu = m.cu := rfl
@[simp] theorem Mach.addFld_ev (f : Fld) (n : Nat) : (m.addFld f n).ev = m.ev := rfl
@[simp] theorem Mach.addFld_faults (f : Fld) (n : Nat) : (m.addFld f n).faults = m.faults := rfl
@[simp] theorem Mach.addFld_fatal (f : Fld) (n : Nat) : (m.addFld f n).fatal = m.fatal := rfl
@[simp] theorem Mach.addFld_pair (f : Fld) (n : Nat) : (m.addFld f n).pair = m.pair := rfl
@[simp] theorem Mach.addFld_olcOpen (f : Fld) (n : Nat) : (m.addFld f n).olcOpen = m.olcOpen := rfl
@[simp] theorem Mach.addFld_decode (f : Fld) (n : Nat) : (m.addFld f n).decode = m.decode := rfl
@[simp] theorem Mach.addFld_fio (f : Fld) (n : Nat) : (m.addFld f n).fio = m.fio := rfl
@[simp] theorem Mach.addFld_sup (f : Fld) (n : Nat) : (m.addFld f n).sup = m.sup := rfl
@[simp] theorem Mach.addFld_ret (f : Fld) (n : Nat) : (m.addFld f n).ret = m.ret := rfl
@[simp] theorem Mach.addFld_bays (f : Fld) (n : Nat) : (m.addFld f n).bays = m.bays := rfl
@[simp] theorem Mach.addFld_stas (f : Fld) (n : Nat) : (m.addFld f n).stas = m.stas := rfl
@[simp] theorem Mach.addFld_olcEnd (f : Fld) (n : Nat) : (m.addFld f n).olcEnd = m.olcEnd := rfl
@[simp] theorem Mach.addFld_tk (f : Fld) (n : Nat) : (m.addFld f n).tk = m.tk := rfl
@[simp] theorem Mach.addFld_sp (f : Fld) (n : Nat) : (m.addFld f n).sp = m.sp := rfl
@[simp] theorem Mach.addFld_mov (f : Fld) (n : Nat) : (m.addFld f n).mov = m.mov := rfl
@[simp] theorem Mach.addFld_dsp (f : Fld) (n : Nat) : (m.addFld f n).dsp = m.dsp := rfl
@[simp] theorem Mach.addFld_upd (f : Fld) (n : Nat) : (m.addFld f n).upd = m.upd := rfl
@[simp] theorem Mach.addFld_olc (f : Fld) (n : Nat) : (m.addFld f n).olc = m.olc := rfl
@[simp] theorem Mach.addFld_svc (f : Fld) (n : Nat) : (m.addFld f n).svc = m.svc := rfl
@[simp] theorem Mach.addFld_bootAt (f : Fld) (n : Nat) : (m.addFld f n).bootAt = m.bootAt := rfl
@[simp] theorem Mach.addFld_ran (f : Fld) (n : Nat) : (m.addFld f n).ran = m.ran := rfl
@[simp] theorem Mach.addFld_runPend (f : Fld) (n : Nat) : (m.addFld f n).runPend = m.runPend := rfl
@[simp] theorem Mach.addFld_warn (f : Fld) (n : Nat) : (m.addFld f n).warn = m.warn := rfl

@[simp] theorem Mach.satFld_now (f : Fld) (n : Nat) : (m.satFld f n).now = m.now := rfl
@[simp] theorem Mach.satFld_free (f : Fld) (n : Nat) : (m.satFld f n).free = m.free := rfl
@[simp] theorem Mach.satFld_out (f : Fld) (n : Nat) : (m.satFld f n).out = m.out := rfl
@[simp] theorem Mach.satFld_latch (f : Fld) (n : Nat) : (m.satFld f n).latch = m.latch := rfl
@[simp] theorem Mach.satFld_st (f : Fld) (n : Nat) : (m.satFld f n).st = m.st := rfl
@[simp] theorem Mach.satFld_epoch (f : Fld) (n : Nat) : (m.satFld f n).epoch = m.epoch := rfl
@[simp] theorem Mach.satFld_img (f : Fld) (n : Nat) : (m.satFld f n).img = m.img := rfl
@[simp] theorem Mach.satFld_pts (f : Fld) (n : Nat) : (m.satFld f n).pts = m.pts := rfl
@[simp] theorem Mach.satFld_exp (f : Fld) (n : Nat) : (m.satFld f n).exp = m.exp := rfl
@[simp] theorem Mach.satFld_tasks (f : Fld) (n : Nat) : (m.satFld f n).tasks = m.tasks := rfl
@[simp] theorem Mach.satFld_engs (f : Fld) (n : Nat) : (m.satFld f n).engs = m.engs := rfl
@[simp] theorem Mach.satFld_quads (f : Fld) (n : Nat) : (m.satFld f n).quads = m.quads := rfl
@[simp] theorem Mach.satFld_cu (f : Fld) (n : Nat) : (m.satFld f n).cu = m.cu := rfl
@[simp] theorem Mach.satFld_ev (f : Fld) (n : Nat) : (m.satFld f n).ev = m.ev := rfl
@[simp] theorem Mach.satFld_faults (f : Fld) (n : Nat) : (m.satFld f n).faults = m.faults := rfl
@[simp] theorem Mach.satFld_fatal (f : Fld) (n : Nat) : (m.satFld f n).fatal = m.fatal := rfl
@[simp] theorem Mach.satFld_pair (f : Fld) (n : Nat) : (m.satFld f n).pair = m.pair := rfl
@[simp] theorem Mach.satFld_olcOpen (f : Fld) (n : Nat) : (m.satFld f n).olcOpen = m.olcOpen := rfl
@[simp] theorem Mach.satFld_decode (f : Fld) (n : Nat) : (m.satFld f n).decode = m.decode := rfl
@[simp] theorem Mach.satFld_fio (f : Fld) (n : Nat) : (m.satFld f n).fio = m.fio := rfl
@[simp] theorem Mach.satFld_sup (f : Fld) (n : Nat) : (m.satFld f n).sup = m.sup := rfl
@[simp] theorem Mach.satFld_ret (f : Fld) (n : Nat) : (m.satFld f n).ret = m.ret := rfl
@[simp] theorem Mach.satFld_bays (f : Fld) (n : Nat) : (m.satFld f n).bays = m.bays := rfl
@[simp] theorem Mach.satFld_stas (f : Fld) (n : Nat) : (m.satFld f n).stas = m.stas := rfl
@[simp] theorem Mach.satFld_olcEnd (f : Fld) (n : Nat) : (m.satFld f n).olcEnd = m.olcEnd := rfl
@[simp] theorem Mach.satFld_tk (f : Fld) (n : Nat) : (m.satFld f n).tk = m.tk := rfl
@[simp] theorem Mach.satFld_sp (f : Fld) (n : Nat) : (m.satFld f n).sp = m.sp := rfl
@[simp] theorem Mach.satFld_mov (f : Fld) (n : Nat) : (m.satFld f n).mov = m.mov := rfl
@[simp] theorem Mach.satFld_dsp (f : Fld) (n : Nat) : (m.satFld f n).dsp = m.dsp := rfl
@[simp] theorem Mach.satFld_upd (f : Fld) (n : Nat) : (m.satFld f n).upd = m.upd := rfl
@[simp] theorem Mach.satFld_olc (f : Fld) (n : Nat) : (m.satFld f n).olc = m.olc := rfl
@[simp] theorem Mach.satFld_svc (f : Fld) (n : Nat) : (m.satFld f n).svc = m.svc := rfl
@[simp] theorem Mach.satFld_bootAt (f : Fld) (n : Nat) : (m.satFld f n).bootAt = m.bootAt := rfl
@[simp] theorem Mach.satFld_ran (f : Fld) (n : Nat) : (m.satFld f n).ran = m.ran := rfl
@[simp] theorem Mach.satFld_runPend (f : Fld) (n : Nat) : (m.satFld f n).runPend = m.runPend := rfl
@[simp] theorem Mach.satFld_warn (f : Fld) (n : Nat) : (m.satFld f n).warn = m.warn := rfl

@[simp] theorem Mach.maxFld_now (f : Fld) (v : Nat) : (m.maxFld f v).now = m.now := rfl
@[simp] theorem Mach.maxFld_free (f : Fld) (v : Nat) : (m.maxFld f v).free = m.free := rfl
@[simp] theorem Mach.maxFld_out (f : Fld) (v : Nat) : (m.maxFld f v).out = m.out := rfl
@[simp] theorem Mach.maxFld_latch (f : Fld) (v : Nat) : (m.maxFld f v).latch = m.latch := rfl
@[simp] theorem Mach.maxFld_st (f : Fld) (v : Nat) : (m.maxFld f v).st = m.st := rfl
@[simp] theorem Mach.maxFld_epoch (f : Fld) (v : Nat) : (m.maxFld f v).epoch = m.epoch := rfl
@[simp] theorem Mach.maxFld_img (f : Fld) (v : Nat) : (m.maxFld f v).img = m.img := rfl
@[simp] theorem Mach.maxFld_pts (f : Fld) (v : Nat) : (m.maxFld f v).pts = m.pts := rfl
@[simp] theorem Mach.maxFld_exp (f : Fld) (v : Nat) : (m.maxFld f v).exp = m.exp := rfl
@[simp] theorem Mach.maxFld_tasks (f : Fld) (v : Nat) : (m.maxFld f v).tasks = m.tasks := rfl
@[simp] theorem Mach.maxFld_engs (f : Fld) (v : Nat) : (m.maxFld f v).engs = m.engs := rfl
@[simp] theorem Mach.maxFld_quads (f : Fld) (v : Nat) : (m.maxFld f v).quads = m.quads := rfl
@[simp] theorem Mach.maxFld_cu (f : Fld) (v : Nat) : (m.maxFld f v).cu = m.cu := rfl
@[simp] theorem Mach.maxFld_ev (f : Fld) (v : Nat) : (m.maxFld f v).ev = m.ev := rfl
@[simp] theorem Mach.maxFld_faults (f : Fld) (v : Nat) : (m.maxFld f v).faults = m.faults := rfl
@[simp] theorem Mach.maxFld_fatal (f : Fld) (v : Nat) : (m.maxFld f v).fatal = m.fatal := rfl
@[simp] theorem Mach.maxFld_pair (f : Fld) (v : Nat) : (m.maxFld f v).pair = m.pair := rfl
@[simp] theorem Mach.maxFld_olcOpen (f : Fld) (v : Nat) : (m.maxFld f v).olcOpen = m.olcOpen := rfl
@[simp] theorem Mach.maxFld_decode (f : Fld) (v : Nat) : (m.maxFld f v).decode = m.decode := rfl
@[simp] theorem Mach.maxFld_fio (f : Fld) (v : Nat) : (m.maxFld f v).fio = m.fio := rfl
@[simp] theorem Mach.maxFld_sup (f : Fld) (v : Nat) : (m.maxFld f v).sup = m.sup := rfl
@[simp] theorem Mach.maxFld_ret (f : Fld) (v : Nat) : (m.maxFld f v).ret = m.ret := rfl
@[simp] theorem Mach.maxFld_bays (f : Fld) (v : Nat) : (m.maxFld f v).bays = m.bays := rfl
@[simp] theorem Mach.maxFld_stas (f : Fld) (v : Nat) : (m.maxFld f v).stas = m.stas := rfl
@[simp] theorem Mach.maxFld_olcEnd (f : Fld) (v : Nat) : (m.maxFld f v).olcEnd = m.olcEnd := rfl
@[simp] theorem Mach.maxFld_tk (f : Fld) (v : Nat) : (m.maxFld f v).tk = m.tk := rfl
@[simp] theorem Mach.maxFld_sp (f : Fld) (v : Nat) : (m.maxFld f v).sp = m.sp := rfl
@[simp] theorem Mach.maxFld_mov (f : Fld) (v : Nat) : (m.maxFld f v).mov = m.mov := rfl
@[simp] theorem Mach.maxFld_dsp (f : Fld) (v : Nat) : (m.maxFld f v).dsp = m.dsp := rfl
@[simp] theorem Mach.maxFld_upd (f : Fld) (v : Nat) : (m.maxFld f v).upd = m.upd := rfl
@[simp] theorem Mach.maxFld_olc (f : Fld) (v : Nat) : (m.maxFld f v).olc = m.olc := rfl
@[simp] theorem Mach.maxFld_svc (f : Fld) (v : Nat) : (m.maxFld f v).svc = m.svc := rfl
@[simp] theorem Mach.maxFld_bootAt (f : Fld) (v : Nat) : (m.maxFld f v).bootAt = m.bootAt := rfl
@[simp] theorem Mach.maxFld_ran (f : Fld) (v : Nat) : (m.maxFld f v).ran = m.ran := rfl
@[simp] theorem Mach.maxFld_runPend (f : Fld) (v : Nat) : (m.maxFld f v).runPend = m.runPend := rfl
@[simp] theorem Mach.maxFld_warn (f : Fld) (v : Nat) : (m.maxFld f v).warn = m.warn := rfl

@[simp] theorem Mach.setFld64_now (f : Fld) (v : Nat) : (m.setFld64 f v).now = m.now := rfl
@[simp] theorem Mach.setFld64_free (f : Fld) (v : Nat) : (m.setFld64 f v).free = m.free := rfl
@[simp] theorem Mach.setFld64_out (f : Fld) (v : Nat) : (m.setFld64 f v).out = m.out := rfl
@[simp] theorem Mach.setFld64_latch (f : Fld) (v : Nat) : (m.setFld64 f v).latch = m.latch := rfl
@[simp] theorem Mach.setFld64_st (f : Fld) (v : Nat) : (m.setFld64 f v).st = m.st := rfl
@[simp] theorem Mach.setFld64_epoch (f : Fld) (v : Nat) : (m.setFld64 f v).epoch = m.epoch := rfl
@[simp] theorem Mach.setFld64_img (f : Fld) (v : Nat) : (m.setFld64 f v).img = m.img := rfl
@[simp] theorem Mach.setFld64_pts (f : Fld) (v : Nat) : (m.setFld64 f v).pts = m.pts := rfl
@[simp] theorem Mach.setFld64_exp (f : Fld) (v : Nat) : (m.setFld64 f v).exp = m.exp := rfl
@[simp] theorem Mach.setFld64_tasks (f : Fld) (v : Nat) : (m.setFld64 f v).tasks = m.tasks := rfl
@[simp] theorem Mach.setFld64_engs (f : Fld) (v : Nat) : (m.setFld64 f v).engs = m.engs := rfl
@[simp] theorem Mach.setFld64_quads (f : Fld) (v : Nat) : (m.setFld64 f v).quads = m.quads := rfl
@[simp] theorem Mach.setFld64_cu (f : Fld) (v : Nat) : (m.setFld64 f v).cu = m.cu := rfl
@[simp] theorem Mach.setFld64_ev (f : Fld) (v : Nat) : (m.setFld64 f v).ev = m.ev := rfl
@[simp] theorem Mach.setFld64_faults (f : Fld) (v : Nat) : (m.setFld64 f v).faults = m.faults := rfl
@[simp] theorem Mach.setFld64_fatal (f : Fld) (v : Nat) : (m.setFld64 f v).fatal = m.fatal := rfl
@[simp] theorem Mach.setFld64_pair (f : Fld) (v : Nat) : (m.setFld64 f v).pair = m.pair := rfl
@[simp] theorem Mach.setFld64_olcOpen (f : Fld) (v : Nat) : (m.setFld64 f v).olcOpen = m.olcOpen := rfl
@[simp] theorem Mach.setFld64_decode (f : Fld) (v : Nat) : (m.setFld64 f v).decode = m.decode := rfl
@[simp] theorem Mach.setFld64_fio (f : Fld) (v : Nat) : (m.setFld64 f v).fio = m.fio := rfl
@[simp] theorem Mach.setFld64_sup (f : Fld) (v : Nat) : (m.setFld64 f v).sup = m.sup := rfl
@[simp] theorem Mach.setFld64_ret (f : Fld) (v : Nat) : (m.setFld64 f v).ret = m.ret := rfl
@[simp] theorem Mach.setFld64_bays (f : Fld) (v : Nat) : (m.setFld64 f v).bays = m.bays := rfl
@[simp] theorem Mach.setFld64_stas (f : Fld) (v : Nat) : (m.setFld64 f v).stas = m.stas := rfl
@[simp] theorem Mach.setFld64_olcEnd (f : Fld) (v : Nat) : (m.setFld64 f v).olcEnd = m.olcEnd := rfl
@[simp] theorem Mach.setFld64_tk (f : Fld) (v : Nat) : (m.setFld64 f v).tk = m.tk := rfl
@[simp] theorem Mach.setFld64_sp (f : Fld) (v : Nat) : (m.setFld64 f v).sp = m.sp := rfl
@[simp] theorem Mach.setFld64_mov (f : Fld) (v : Nat) : (m.setFld64 f v).mov = m.mov := rfl
@[simp] theorem Mach.setFld64_dsp (f : Fld) (v : Nat) : (m.setFld64 f v).dsp = m.dsp := rfl
@[simp] theorem Mach.setFld64_upd (f : Fld) (v : Nat) : (m.setFld64 f v).upd = m.upd := rfl
@[simp] theorem Mach.setFld64_olc (f : Fld) (v : Nat) : (m.setFld64 f v).olc = m.olc := rfl
@[simp] theorem Mach.setFld64_svc (f : Fld) (v : Nat) : (m.setFld64 f v).svc = m.svc := rfl
@[simp] theorem Mach.setFld64_bootAt (f : Fld) (v : Nat) : (m.setFld64 f v).bootAt = m.bootAt := rfl
@[simp] theorem Mach.setFld64_ran (f : Fld) (v : Nat) : (m.setFld64 f v).ran = m.ran := rfl
@[simp] theorem Mach.setFld64_runPend (f : Fld) (v : Nat) : (m.setFld64 f v).runPend = m.runPend := rfl
@[simp] theorem Mach.setFld64_warn (f : Fld) (v : Nat) : (m.setFld64 f v).warn = m.warn := rfl

@[simp] theorem Mach.setTask_now (k : Nat) (x : Task) : (m.setTask k x).now = m.now := rfl
@[simp] theorem Mach.setTask_free (k : Nat) (x : Task) : (m.setTask k x).free = m.free := rfl
@[simp] theorem Mach.setTask_out (k : Nat) (x : Task) : (m.setTask k x).out = m.out := rfl
@[simp] theorem Mach.setTask_regs (k : Nat) (x : Task) : (m.setTask k x).regs = m.regs := rfl
@[simp] theorem Mach.setTask_latch (k : Nat) (x : Task) : (m.setTask k x).latch = m.latch := rfl
@[simp] theorem Mach.setTask_st (k : Nat) (x : Task) : (m.setTask k x).st = m.st := rfl
@[simp] theorem Mach.setTask_epoch (k : Nat) (x : Task) : (m.setTask k x).epoch = m.epoch := rfl
@[simp] theorem Mach.setTask_img (k : Nat) (x : Task) : (m.setTask k x).img = m.img := rfl
@[simp] theorem Mach.setTask_pts (k : Nat) (x : Task) : (m.setTask k x).pts = m.pts := rfl
@[simp] theorem Mach.setTask_exp (k : Nat) (x : Task) : (m.setTask k x).exp = m.exp := rfl
@[simp] theorem Mach.setTask_engs (k : Nat) (x : Task) : (m.setTask k x).engs = m.engs := rfl
@[simp] theorem Mach.setTask_quads (k : Nat) (x : Task) : (m.setTask k x).quads = m.quads := rfl
@[simp] theorem Mach.setTask_cu (k : Nat) (x : Task) : (m.setTask k x).cu = m.cu := rfl
@[simp] theorem Mach.setTask_ev (k : Nat) (x : Task) : (m.setTask k x).ev = m.ev := rfl
@[simp] theorem Mach.setTask_faults (k : Nat) (x : Task) : (m.setTask k x).faults = m.faults := rfl
@[simp] theorem Mach.setTask_fatal (k : Nat) (x : Task) : (m.setTask k x).fatal = m.fatal := rfl
@[simp] theorem Mach.setTask_pair (k : Nat) (x : Task) : (m.setTask k x).pair = m.pair := rfl
@[simp] theorem Mach.setTask_olcOpen (k : Nat) (x : Task) : (m.setTask k x).olcOpen = m.olcOpen := rfl
@[simp] theorem Mach.setTask_decode (k : Nat) (x : Task) : (m.setTask k x).decode = m.decode := rfl
@[simp] theorem Mach.setTask_fio (k : Nat) (x : Task) : (m.setTask k x).fio = m.fio := rfl
@[simp] theorem Mach.setTask_sup (k : Nat) (x : Task) : (m.setTask k x).sup = m.sup := rfl
@[simp] theorem Mach.setTask_ret (k : Nat) (x : Task) : (m.setTask k x).ret = m.ret := rfl
@[simp] theorem Mach.setTask_bays (k : Nat) (x : Task) : (m.setTask k x).bays = m.bays := rfl
@[simp] theorem Mach.setTask_stas (k : Nat) (x : Task) : (m.setTask k x).stas = m.stas := rfl
@[simp] theorem Mach.setTask_olcEnd (k : Nat) (x : Task) : (m.setTask k x).olcEnd = m.olcEnd := rfl
@[simp] theorem Mach.setTask_tk (k : Nat) (x : Task) : (m.setTask k x).tk = m.tk := rfl
@[simp] theorem Mach.setTask_sp (k : Nat) (x : Task) : (m.setTask k x).sp = m.sp := rfl
@[simp] theorem Mach.setTask_mov (k : Nat) (x : Task) : (m.setTask k x).mov = m.mov := rfl
@[simp] theorem Mach.setTask_dsp (k : Nat) (x : Task) : (m.setTask k x).dsp = m.dsp := rfl
@[simp] theorem Mach.setTask_upd (k : Nat) (x : Task) : (m.setTask k x).upd = m.upd := rfl
@[simp] theorem Mach.setTask_olc (k : Nat) (x : Task) : (m.setTask k x).olc = m.olc := rfl
@[simp] theorem Mach.setTask_svc (k : Nat) (x : Task) : (m.setTask k x).svc = m.svc := rfl
@[simp] theorem Mach.setTask_bootAt (k : Nat) (x : Task) : (m.setTask k x).bootAt = m.bootAt := rfl
@[simp] theorem Mach.setTask_ran (k : Nat) (x : Task) : (m.setTask k x).ran = m.ran := rfl
@[simp] theorem Mach.setTask_runPend (k : Nat) (x : Task) : (m.setTask k x).runPend = m.runPend := rfl
@[simp] theorem Mach.setTask_warn (k : Nat) (x : Task) : (m.setTask k x).warn = m.warn := rfl

@[simp] theorem Mach.setEng_now (e : Nat) (x : Eng) : (m.setEng e x).now = m.now := rfl
@[simp] theorem Mach.setEng_free (e : Nat) (x : Eng) : (m.setEng e x).free = m.free := rfl
@[simp] theorem Mach.setEng_out (e : Nat) (x : Eng) : (m.setEng e x).out = m.out := rfl
@[simp] theorem Mach.setEng_regs (e : Nat) (x : Eng) : (m.setEng e x).regs = m.regs := rfl
@[simp] theorem Mach.setEng_latch (e : Nat) (x : Eng) : (m.setEng e x).latch = m.latch := rfl
@[simp] theorem Mach.setEng_st (e : Nat) (x : Eng) : (m.setEng e x).st = m.st := rfl
@[simp] theorem Mach.setEng_epoch (e : Nat) (x : Eng) : (m.setEng e x).epoch = m.epoch := rfl
@[simp] theorem Mach.setEng_img (e : Nat) (x : Eng) : (m.setEng e x).img = m.img := rfl
@[simp] theorem Mach.setEng_pts (e : Nat) (x : Eng) : (m.setEng e x).pts = m.pts := rfl
@[simp] theorem Mach.setEng_exp (e : Nat) (x : Eng) : (m.setEng e x).exp = m.exp := rfl
@[simp] theorem Mach.setEng_tasks (e : Nat) (x : Eng) : (m.setEng e x).tasks = m.tasks := rfl
@[simp] theorem Mach.setEng_quads (e : Nat) (x : Eng) : (m.setEng e x).quads = m.quads := rfl
@[simp] theorem Mach.setEng_cu (e : Nat) (x : Eng) : (m.setEng e x).cu = m.cu := rfl
@[simp] theorem Mach.setEng_ev (e : Nat) (x : Eng) : (m.setEng e x).ev = m.ev := rfl
@[simp] theorem Mach.setEng_faults (e : Nat) (x : Eng) : (m.setEng e x).faults = m.faults := rfl
@[simp] theorem Mach.setEng_fatal (e : Nat) (x : Eng) : (m.setEng e x).fatal = m.fatal := rfl
@[simp] theorem Mach.setEng_pair (e : Nat) (x : Eng) : (m.setEng e x).pair = m.pair := rfl
@[simp] theorem Mach.setEng_olcOpen (e : Nat) (x : Eng) : (m.setEng e x).olcOpen = m.olcOpen := rfl
@[simp] theorem Mach.setEng_decode (e : Nat) (x : Eng) : (m.setEng e x).decode = m.decode := rfl
@[simp] theorem Mach.setEng_fio (e : Nat) (x : Eng) : (m.setEng e x).fio = m.fio := rfl
@[simp] theorem Mach.setEng_sup (e : Nat) (x : Eng) : (m.setEng e x).sup = m.sup := rfl
@[simp] theorem Mach.setEng_ret (e : Nat) (x : Eng) : (m.setEng e x).ret = m.ret := rfl
@[simp] theorem Mach.setEng_bays (e : Nat) (x : Eng) : (m.setEng e x).bays = m.bays := rfl
@[simp] theorem Mach.setEng_stas (e : Nat) (x : Eng) : (m.setEng e x).stas = m.stas := rfl
@[simp] theorem Mach.setEng_olcEnd (e : Nat) (x : Eng) : (m.setEng e x).olcEnd = m.olcEnd := rfl
@[simp] theorem Mach.setEng_tk (e : Nat) (x : Eng) : (m.setEng e x).tk = m.tk := rfl
@[simp] theorem Mach.setEng_sp (e : Nat) (x : Eng) : (m.setEng e x).sp = m.sp := rfl
@[simp] theorem Mach.setEng_mov (e : Nat) (x : Eng) : (m.setEng e x).mov = m.mov := rfl
@[simp] theorem Mach.setEng_dsp (e : Nat) (x : Eng) : (m.setEng e x).dsp = m.dsp := rfl
@[simp] theorem Mach.setEng_upd (e : Nat) (x : Eng) : (m.setEng e x).upd = m.upd := rfl
@[simp] theorem Mach.setEng_olc (e : Nat) (x : Eng) : (m.setEng e x).olc = m.olc := rfl
@[simp] theorem Mach.setEng_svc (e : Nat) (x : Eng) : (m.setEng e x).svc = m.svc := rfl
@[simp] theorem Mach.setEng_bootAt (e : Nat) (x : Eng) : (m.setEng e x).bootAt = m.bootAt := rfl
@[simp] theorem Mach.setEng_ran (e : Nat) (x : Eng) : (m.setEng e x).ran = m.ran := rfl
@[simp] theorem Mach.setEng_runPend (e : Nat) (x : Eng) : (m.setEng e x).runPend = m.runPend := rfl
@[simp] theorem Mach.setEng_warn (e : Nat) (x : Eng) : (m.setEng e x).warn = m.warn := rfl

@[simp] theorem Mach.setQuad_now (q : Nat) (x : Quad) : (m.setQuad q x).now = m.now := rfl
@[simp] theorem Mach.setQuad_free (q : Nat) (x : Quad) : (m.setQuad q x).free = m.free := rfl
@[simp] theorem Mach.setQuad_out (q : Nat) (x : Quad) : (m.setQuad q x).out = m.out := rfl
@[simp] theorem Mach.setQuad_regs (q : Nat) (x : Quad) : (m.setQuad q x).regs = m.regs := rfl
@[simp] theorem Mach.setQuad_latch (q : Nat) (x : Quad) : (m.setQuad q x).latch = m.latch := rfl
@[simp] theorem Mach.setQuad_st (q : Nat) (x : Quad) : (m.setQuad q x).st = m.st := rfl
@[simp] theorem Mach.setQuad_epoch (q : Nat) (x : Quad) : (m.setQuad q x).epoch = m.epoch := rfl
@[simp] theorem Mach.setQuad_img (q : Nat) (x : Quad) : (m.setQuad q x).img = m.img := rfl
@[simp] theorem Mach.setQuad_pts (q : Nat) (x : Quad) : (m.setQuad q x).pts = m.pts := rfl
@[simp] theorem Mach.setQuad_exp (q : Nat) (x : Quad) : (m.setQuad q x).exp = m.exp := rfl
@[simp] theorem Mach.setQuad_tasks (q : Nat) (x : Quad) : (m.setQuad q x).tasks = m.tasks := rfl
@[simp] theorem Mach.setQuad_engs (q : Nat) (x : Quad) : (m.setQuad q x).engs = m.engs := rfl
@[simp] theorem Mach.setQuad_cu (q : Nat) (x : Quad) : (m.setQuad q x).cu = m.cu := rfl
@[simp] theorem Mach.setQuad_ev (q : Nat) (x : Quad) : (m.setQuad q x).ev = m.ev := rfl
@[simp] theorem Mach.setQuad_faults (q : Nat) (x : Quad) : (m.setQuad q x).faults = m.faults := rfl
@[simp] theorem Mach.setQuad_fatal (q : Nat) (x : Quad) : (m.setQuad q x).fatal = m.fatal := rfl
@[simp] theorem Mach.setQuad_pair (q : Nat) (x : Quad) : (m.setQuad q x).pair = m.pair := rfl
@[simp] theorem Mach.setQuad_olcOpen (q : Nat) (x : Quad) : (m.setQuad q x).olcOpen = m.olcOpen := rfl
@[simp] theorem Mach.setQuad_decode (q : Nat) (x : Quad) : (m.setQuad q x).decode = m.decode := rfl
@[simp] theorem Mach.setQuad_fio (q : Nat) (x : Quad) : (m.setQuad q x).fio = m.fio := rfl
@[simp] theorem Mach.setQuad_sup (q : Nat) (x : Quad) : (m.setQuad q x).sup = m.sup := rfl
@[simp] theorem Mach.setQuad_ret (q : Nat) (x : Quad) : (m.setQuad q x).ret = m.ret := rfl
@[simp] theorem Mach.setQuad_bays (q : Nat) (x : Quad) : (m.setQuad q x).bays = m.bays := rfl
@[simp] theorem Mach.setQuad_stas (q : Nat) (x : Quad) : (m.setQuad q x).stas = m.stas := rfl
@[simp] theorem Mach.setQuad_olcEnd (q : Nat) (x : Quad) : (m.setQuad q x).olcEnd = m.olcEnd := rfl
@[simp] theorem Mach.setQuad_tk (q : Nat) (x : Quad) : (m.setQuad q x).tk = m.tk := rfl
@[simp] theorem Mach.setQuad_sp (q : Nat) (x : Quad) : (m.setQuad q x).sp = m.sp := rfl
@[simp] theorem Mach.setQuad_mov (q : Nat) (x : Quad) : (m.setQuad q x).mov = m.mov := rfl
@[simp] theorem Mach.setQuad_dsp (q : Nat) (x : Quad) : (m.setQuad q x).dsp = m.dsp := rfl
@[simp] theorem Mach.setQuad_upd (q : Nat) (x : Quad) : (m.setQuad q x).upd = m.upd := rfl
@[simp] theorem Mach.setQuad_olc (q : Nat) (x : Quad) : (m.setQuad q x).olc = m.olc := rfl
@[simp] theorem Mach.setQuad_svc (q : Nat) (x : Quad) : (m.setQuad q x).svc = m.svc := rfl
@[simp] theorem Mach.setQuad_bootAt (q : Nat) (x : Quad) : (m.setQuad q x).bootAt = m.bootAt := rfl
@[simp] theorem Mach.setQuad_ran (q : Nat) (x : Quad) : (m.setQuad q x).ran = m.ran := rfl
@[simp] theorem Mach.setQuad_runPend (q : Nat) (x : Quad) : (m.setQuad q x).runPend = m.runPend := rfl
@[simp] theorem Mach.setQuad_warn (q : Nat) (x : Quad) : (m.setQuad q x).warn = m.warn := rfl

@[simp] theorem Mach.setPt_now (i : Nat) (x : Pt) : (m.setPt i x).now = m.now := rfl
@[simp] theorem Mach.setPt_free (i : Nat) (x : Pt) : (m.setPt i x).free = m.free := rfl
@[simp] theorem Mach.setPt_out (i : Nat) (x : Pt) : (m.setPt i x).out = m.out := rfl
@[simp] theorem Mach.setPt_regs (i : Nat) (x : Pt) : (m.setPt i x).regs = m.regs := rfl
@[simp] theorem Mach.setPt_latch (i : Nat) (x : Pt) : (m.setPt i x).latch = m.latch := rfl
@[simp] theorem Mach.setPt_st (i : Nat) (x : Pt) : (m.setPt i x).st = m.st := rfl
@[simp] theorem Mach.setPt_epoch (i : Nat) (x : Pt) : (m.setPt i x).epoch = m.epoch := rfl
@[simp] theorem Mach.setPt_img (i : Nat) (x : Pt) : (m.setPt i x).img = m.img := rfl
@[simp] theorem Mach.setPt_exp (i : Nat) (x : Pt) : (m.setPt i x).exp = m.exp := rfl
@[simp] theorem Mach.setPt_tasks (i : Nat) (x : Pt) : (m.setPt i x).tasks = m.tasks := rfl
@[simp] theorem Mach.setPt_engs (i : Nat) (x : Pt) : (m.setPt i x).engs = m.engs := rfl
@[simp] theorem Mach.setPt_quads (i : Nat) (x : Pt) : (m.setPt i x).quads = m.quads := rfl
@[simp] theorem Mach.setPt_cu (i : Nat) (x : Pt) : (m.setPt i x).cu = m.cu := rfl
@[simp] theorem Mach.setPt_ev (i : Nat) (x : Pt) : (m.setPt i x).ev = m.ev := rfl
@[simp] theorem Mach.setPt_faults (i : Nat) (x : Pt) : (m.setPt i x).faults = m.faults := rfl
@[simp] theorem Mach.setPt_fatal (i : Nat) (x : Pt) : (m.setPt i x).fatal = m.fatal := rfl
@[simp] theorem Mach.setPt_pair (i : Nat) (x : Pt) : (m.setPt i x).pair = m.pair := rfl
@[simp] theorem Mach.setPt_olcOpen (i : Nat) (x : Pt) : (m.setPt i x).olcOpen = m.olcOpen := rfl
@[simp] theorem Mach.setPt_decode (i : Nat) (x : Pt) : (m.setPt i x).decode = m.decode := rfl
@[simp] theorem Mach.setPt_fio (i : Nat) (x : Pt) : (m.setPt i x).fio = m.fio := rfl
@[simp] theorem Mach.setPt_sup (i : Nat) (x : Pt) : (m.setPt i x).sup = m.sup := rfl
@[simp] theorem Mach.setPt_ret (i : Nat) (x : Pt) : (m.setPt i x).ret = m.ret := rfl
@[simp] theorem Mach.setPt_bays (i : Nat) (x : Pt) : (m.setPt i x).bays = m.bays := rfl
@[simp] theorem Mach.setPt_stas (i : Nat) (x : Pt) : (m.setPt i x).stas = m.stas := rfl
@[simp] theorem Mach.setPt_olcEnd (i : Nat) (x : Pt) : (m.setPt i x).olcEnd = m.olcEnd := rfl
@[simp] theorem Mach.setPt_tk (i : Nat) (x : Pt) : (m.setPt i x).tk = m.tk := rfl
@[simp] theorem Mach.setPt_sp (i : Nat) (x : Pt) : (m.setPt i x).sp = m.sp := rfl
@[simp] theorem Mach.setPt_mov (i : Nat) (x : Pt) : (m.setPt i x).mov = m.mov := rfl
@[simp] theorem Mach.setPt_dsp (i : Nat) (x : Pt) : (m.setPt i x).dsp = m.dsp := rfl
@[simp] theorem Mach.setPt_upd (i : Nat) (x : Pt) : (m.setPt i x).upd = m.upd := rfl
@[simp] theorem Mach.setPt_olc (i : Nat) (x : Pt) : (m.setPt i x).olc = m.olc := rfl
@[simp] theorem Mach.setPt_svc (i : Nat) (x : Pt) : (m.setPt i x).svc = m.svc := rfl
@[simp] theorem Mach.setPt_bootAt (i : Nat) (x : Pt) : (m.setPt i x).bootAt = m.bootAt := rfl
@[simp] theorem Mach.setPt_ran (i : Nat) (x : Pt) : (m.setPt i x).ran = m.ran := rfl
@[simp] theorem Mach.setPt_runPend (i : Nat) (x : Pt) : (m.setPt i x).runPend = m.runPend := rfl
@[simp] theorem Mach.setPt_warn (i : Nat) (x : Pt) : (m.setPt i x).warn = m.warn := rfl

@[simp] theorem Mach.setCell_now (sp i : Nat) (v : CellV) : (m.setCell sp i v).now = m.now := rfl
@[simp] theorem Mach.setCell_free (sp i : Nat) (v : CellV) : (m.setCell sp i v).free = m.free := rfl
@[simp] theorem Mach.setCell_out (sp i : Nat) (v : CellV) : (m.setCell sp i v).out = m.out := rfl
@[simp] theorem Mach.setCell_regs (sp i : Nat) (v : CellV) : (m.setCell sp i v).regs = m.regs := rfl
@[simp] theorem Mach.setCell_latch (sp i : Nat) (v : CellV) : (m.setCell sp i v).latch = m.latch := rfl
@[simp] theorem Mach.setCell_st (sp i : Nat) (v : CellV) : (m.setCell sp i v).st = m.st := rfl
@[simp] theorem Mach.setCell_epoch (sp i : Nat) (v : CellV) : (m.setCell sp i v).epoch = m.epoch := rfl
@[simp] theorem Mach.setCell_pts (sp i : Nat) (v : CellV) : (m.setCell sp i v).pts = m.pts := rfl
@[simp] theorem Mach.setCell_exp (sp i : Nat) (v : CellV) : (m.setCell sp i v).exp = m.exp := rfl
@[simp] theorem Mach.setCell_tasks (sp i : Nat) (v : CellV) : (m.setCell sp i v).tasks = m.tasks := rfl
@[simp] theorem Mach.setCell_engs (sp i : Nat) (v : CellV) : (m.setCell sp i v).engs = m.engs := rfl
@[simp] theorem Mach.setCell_quads (sp i : Nat) (v : CellV) : (m.setCell sp i v).quads = m.quads := rfl
@[simp] theorem Mach.setCell_cu (sp i : Nat) (v : CellV) : (m.setCell sp i v).cu = m.cu := rfl
@[simp] theorem Mach.setCell_ev (sp i : Nat) (v : CellV) : (m.setCell sp i v).ev = m.ev := rfl
@[simp] theorem Mach.setCell_faults (sp i : Nat) (v : CellV) : (m.setCell sp i v).faults = m.faults := rfl
@[simp] theorem Mach.setCell_fatal (sp i : Nat) (v : CellV) : (m.setCell sp i v).fatal = m.fatal := rfl
@[simp] theorem Mach.setCell_pair (sp i : Nat) (v : CellV) : (m.setCell sp i v).pair = m.pair := rfl
@[simp] theorem Mach.setCell_olcOpen (sp i : Nat) (v : CellV) : (m.setCell sp i v).olcOpen = m.olcOpen := rfl
@[simp] theorem Mach.setCell_decode (sp i : Nat) (v : CellV) : (m.setCell sp i v).decode = m.decode := rfl
@[simp] theorem Mach.setCell_fio (sp i : Nat) (v : CellV) : (m.setCell sp i v).fio = m.fio := rfl
@[simp] theorem Mach.setCell_sup (sp i : Nat) (v : CellV) : (m.setCell sp i v).sup = m.sup := rfl
@[simp] theorem Mach.setCell_ret (sp i : Nat) (v : CellV) : (m.setCell sp i v).ret = m.ret := rfl
@[simp] theorem Mach.setCell_bays (sp i : Nat) (v : CellV) : (m.setCell sp i v).bays = m.bays := rfl
@[simp] theorem Mach.setCell_stas (sp i : Nat) (v : CellV) : (m.setCell sp i v).stas = m.stas := rfl
@[simp] theorem Mach.setCell_olcEnd (sp i : Nat) (v : CellV) : (m.setCell sp i v).olcEnd = m.olcEnd := rfl
@[simp] theorem Mach.setCell_tk (sp i : Nat) (v : CellV) : (m.setCell sp i v).tk = m.tk := rfl
@[simp] theorem Mach.setCell_sp (sp i : Nat) (v : CellV) : (m.setCell sp i v).sp = m.sp := rfl
@[simp] theorem Mach.setCell_mov (sp i : Nat) (v : CellV) : (m.setCell sp i v).mov = m.mov := rfl
@[simp] theorem Mach.setCell_dsp (sp i : Nat) (v : CellV) : (m.setCell sp i v).dsp = m.dsp := rfl
@[simp] theorem Mach.setCell_upd (sp i : Nat) (v : CellV) : (m.setCell sp i v).upd = m.upd := rfl
@[simp] theorem Mach.setCell_olc (sp i : Nat) (v : CellV) : (m.setCell sp i v).olc = m.olc := rfl
@[simp] theorem Mach.setCell_svc (sp i : Nat) (v : CellV) : (m.setCell sp i v).svc = m.svc := rfl
@[simp] theorem Mach.setCell_bootAt (sp i : Nat) (v : CellV) : (m.setCell sp i v).bootAt = m.bootAt := rfl
@[simp] theorem Mach.setCell_ran (sp i : Nat) (v : CellV) : (m.setCell sp i v).ran = m.ran := rfl
@[simp] theorem Mach.setCell_runPend (sp i : Nat) (v : CellV) : (m.setCell sp i v).runPend = m.runPend := rfl
@[simp] theorem Mach.setCell_warn (sp i : Nat) (v : CellV) : (m.setCell sp i v).warn = m.warn := rfl

@[simp] theorem Mach.send_now (o : Out) : (m.send o).now = m.now := rfl
@[simp] theorem Mach.send_free (o : Out) : (m.send o).free = m.free := rfl
@[simp] theorem Mach.send_regs (o : Out) : (m.send o).regs = m.regs := rfl
@[simp] theorem Mach.send_latch (o : Out) : (m.send o).latch = m.latch := rfl
@[simp] theorem Mach.send_st (o : Out) : (m.send o).st = m.st := rfl
@[simp] theorem Mach.send_epoch (o : Out) : (m.send o).epoch = m.epoch := rfl
@[simp] theorem Mach.send_img (o : Out) : (m.send o).img = m.img := rfl
@[simp] theorem Mach.send_pts (o : Out) : (m.send o).pts = m.pts := rfl
@[simp] theorem Mach.send_exp (o : Out) : (m.send o).exp = m.exp := rfl
@[simp] theorem Mach.send_tasks (o : Out) : (m.send o).tasks = m.tasks := rfl
@[simp] theorem Mach.send_engs (o : Out) : (m.send o).engs = m.engs := rfl
@[simp] theorem Mach.send_quads (o : Out) : (m.send o).quads = m.quads := rfl
@[simp] theorem Mach.send_cu (o : Out) : (m.send o).cu = m.cu := rfl
@[simp] theorem Mach.send_ev (o : Out) : (m.send o).ev = m.ev := rfl
@[simp] theorem Mach.send_faults (o : Out) : (m.send o).faults = m.faults := rfl
@[simp] theorem Mach.send_fatal (o : Out) : (m.send o).fatal = m.fatal := rfl
@[simp] theorem Mach.send_pair (o : Out) : (m.send o).pair = m.pair := rfl
@[simp] theorem Mach.send_olcOpen (o : Out) : (m.send o).olcOpen = m.olcOpen := rfl
@[simp] theorem Mach.send_decode (o : Out) : (m.send o).decode = m.decode := rfl
@[simp] theorem Mach.send_fio (o : Out) : (m.send o).fio = m.fio := rfl
@[simp] theorem Mach.send_sup (o : Out) : (m.send o).sup = m.sup := rfl
@[simp] theorem Mach.send_ret (o : Out) : (m.send o).ret = m.ret := rfl
@[simp] theorem Mach.send_bays (o : Out) : (m.send o).bays = m.bays := rfl
@[simp] theorem Mach.send_stas (o : Out) : (m.send o).stas = m.stas := rfl
@[simp] theorem Mach.send_olcEnd (o : Out) : (m.send o).olcEnd = m.olcEnd := rfl
@[simp] theorem Mach.send_tk (o : Out) : (m.send o).tk = m.tk := rfl
@[simp] theorem Mach.send_sp (o : Out) : (m.send o).sp = m.sp := rfl
@[simp] theorem Mach.send_mov (o : Out) : (m.send o).mov = m.mov := rfl
@[simp] theorem Mach.send_dsp (o : Out) : (m.send o).dsp = m.dsp := rfl
@[simp] theorem Mach.send_upd (o : Out) : (m.send o).upd = m.upd := rfl
@[simp] theorem Mach.send_olc (o : Out) : (m.send o).olc = m.olc := rfl
@[simp] theorem Mach.send_svc (o : Out) : (m.send o).svc = m.svc := rfl
@[simp] theorem Mach.send_bootAt (o : Out) : (m.send o).bootAt = m.bootAt := rfl
@[simp] theorem Mach.send_ran (o : Out) : (m.send o).ran = m.ran := rfl
@[simp] theorem Mach.send_runPend (o : Out) : (m.send o).runPend = m.runPend := rfl
@[simp] theorem Mach.send_warn (o : Out) : (m.send o).warn = m.warn := rfl

@[simp] theorem Mach.setState_now (x : MState) : (m.setState x).now = m.now := rfl
@[simp] theorem Mach.setState_free (x : MState) : (m.setState x).free = m.free := rfl
@[simp] theorem Mach.setState_out (x : MState) : (m.setState x).out = m.out := rfl
@[simp] theorem Mach.setState_latch (x : MState) : (m.setState x).latch = m.latch := rfl
@[simp] theorem Mach.setState_epoch (x : MState) : (m.setState x).epoch = m.epoch := rfl
@[simp] theorem Mach.setState_img (x : MState) : (m.setState x).img = m.img := rfl
@[simp] theorem Mach.setState_pts (x : MState) : (m.setState x).pts = m.pts := rfl
@[simp] theorem Mach.setState_exp (x : MState) : (m.setState x).exp = m.exp := rfl
@[simp] theorem Mach.setState_tasks (x : MState) : (m.setState x).tasks = m.tasks := rfl
@[simp] theorem Mach.setState_engs (x : MState) : (m.setState x).engs = m.engs := rfl
@[simp] theorem Mach.setState_quads (x : MState) : (m.setState x).quads = m.quads := rfl
@[simp] theorem Mach.setState_cu (x : MState) : (m.setState x).cu = m.cu := rfl
@[simp] theorem Mach.setState_ev (x : MState) : (m.setState x).ev = m.ev := rfl
@[simp] theorem Mach.setState_faults (x : MState) : (m.setState x).faults = m.faults := rfl
@[simp] theorem Mach.setState_fatal (x : MState) : (m.setState x).fatal = m.fatal := rfl
@[simp] theorem Mach.setState_pair (x : MState) : (m.setState x).pair = m.pair := rfl
@[simp] theorem Mach.setState_olcOpen (x : MState) : (m.setState x).olcOpen = m.olcOpen := rfl
@[simp] theorem Mach.setState_decode (x : MState) : (m.setState x).decode = m.decode := rfl
@[simp] theorem Mach.setState_fio (x : MState) : (m.setState x).fio = m.fio := rfl
@[simp] theorem Mach.setState_sup (x : MState) : (m.setState x).sup = m.sup := rfl
@[simp] theorem Mach.setState_ret (x : MState) : (m.setState x).ret = m.ret := rfl
@[simp] theorem Mach.setState_bays (x : MState) : (m.setState x).bays = m.bays := rfl
@[simp] theorem Mach.setState_stas (x : MState) : (m.setState x).stas = m.stas := rfl
@[simp] theorem Mach.setState_olcEnd (x : MState) : (m.setState x).olcEnd = m.olcEnd := rfl
@[simp] theorem Mach.setState_tk (x : MState) : (m.setState x).tk = m.tk := rfl
@[simp] theorem Mach.setState_sp (x : MState) : (m.setState x).sp = m.sp := rfl
@[simp] theorem Mach.setState_mov (x : MState) : (m.setState x).mov = m.mov := rfl
@[simp] theorem Mach.setState_dsp (x : MState) : (m.setState x).dsp = m.dsp := rfl
@[simp] theorem Mach.setState_upd (x : MState) : (m.setState x).upd = m.upd := rfl
@[simp] theorem Mach.setState_olc (x : MState) : (m.setState x).olc = m.olc := rfl
@[simp] theorem Mach.setState_svc (x : MState) : (m.setState x).svc = m.svc := rfl
@[simp] theorem Mach.setState_bootAt (x : MState) : (m.setState x).bootAt = m.bootAt := rfl
@[simp] theorem Mach.setState_ran (x : MState) : (m.setState x).ran = m.ran := rfl
@[simp] theorem Mach.setState_runPend (x : MState) : (m.setState x).runPend = m.runPend := rfl
@[simp] theorem Mach.setState_warn (x : MState) : (m.setState x).warn = m.warn := rfl
@[simp] theorem Mach.setState_st (x : MState) : (m.setState x).st = x := rfl

end Sys2Proof.Machine
end

