-- ==== Sys2Proof/Laws/Ops.lean ====
section
/-!
SUPPORT. Reading after writing, for registers, register fields and the records of the state; and what the shared updates compute.
-/
namespace Sys2Proof.Machine
open Sys2Proof

variable (m : Mach)

/-! ### Registers -/

@[simp] theorem Mach.rget_rset_same (a : Nat) (w : Word) : (m.rset a w).rget a = w := by simp [Mach.rget, Mach.rset]

theorem Mach.rget_rset_ne {a b : Nat} (h : b ≠ a) (w : Word) : (m.rset a w).rget b = m.rget b := by
  simp [Mach.rget, Mach.rset, sget_sset_ne _ _ _ _ h]

/-- A register of a state whose registers are those of another. -/
theorem Mach.rget_congr {m n : Mach} (h : m.regs = n.regs) (a : Nat) : m.rget a = n.rget a := by simp [Mach.rget, h]

/-- The bits of a word with a field replaced. -/
theorem bitsSet_testBit (w : Word) {l n v : Nat} (h : l + n ≤ 32) (i : Nat) :
    (bitsSet w l n v).toNat.testBit i = if l ≤ i ∧ i < l + n then v.testBit (i - l) else w.toNat.testBit i := by
  have hw : w.toNat < 2 ^ 32 := w.isLt
  set x := w.toNat with hx
  set b := (x >>> l) % 2 ^ n with hb
  have e1 : x = 2 ^ l * (2 ^ n * (x / 2 ^ l / 2 ^ n) + b) + x % 2 ^ l := by
    have h1 := Nat.div_add_mod x (2 ^ l)
    have h2 := Nat.div_add_mod (x / 2 ^ l) (2 ^ n)
    rw [hb, Nat.shiftRight_eq_div_pow, h2, h1]
  have e2 : x - b <<< l + (v % 2 ^ n) <<< l = 2 ^ l * (2 ^ n * (x / 2 ^ l / 2 ^ n) + v % 2 ^ n) + x % 2 ^ l := by
    rw [Nat.shiftLeft_eq, Nat.shiftLeft_eq]
    have : b * 2 ^ l ≤ x := by
      rw [hb, Nat.shiftRight_eq_div_pow]
      calc x / 2 ^ l % 2 ^ n * 2 ^ l ≤ x / 2 ^ l * 2 ^ l := Nat.mul_le_mul_right _ (Nat.mod_le _ _)
        _ ≤ x := Nat.div_mul_le_self _ _
    have h3 : 2 ^ l * (2 ^ n * (x / 2 ^ l / 2 ^ n) + b) = 2 ^ l * (2 ^ n * (x / 2 ^ l / 2 ^ n)) + b * 2 ^ l := by ring
    have h4 : 2 ^ l * (2 ^ n * (x / 2 ^ l / 2 ^ n) + v % 2 ^ n) = 2 ^ l * (2 ^ n * (x / 2 ^ l / 2 ^ n)) + v % 2 ^ n * 2 ^ l := by ring
    omega
  have hv : v % 2 ^ n < 2 ^ n := Nat.mod_lt _ (by positivity)
  have hlo : x % 2 ^ l < 2 ^ l := Nat.mod_lt _ (by positivity)
  have key : (2 ^ l * (2 ^ n * (x / 2 ^ l / 2 ^ n) + v % 2 ^ n) + x % 2 ^ l).testBit i =
      if l ≤ i ∧ i < l + n then v.testBit (i - l) else x.testBit i := by
    rw [Nat.testBit_two_pow_mul_add _ hlo]
    by_cases h1 : i < l
    · simp [h1, Nat.not_le.mpr h1, Nat.testBit_mod_two_pow]
    · rw [if_neg h1, Nat.testBit_two_pow_mul_add _ hv]
      by_cases h2 : i - l < n
      · rw [if_pos h2, if_pos (by omega)]; simp [Nat.testBit_mod_two_pow, h2]
      · rw [if_neg h2, if_neg (by omega), Nat.testBit_div_two_pow, Nat.testBit_div_two_pow]
        congr 1; omega
  have lt : 2 ^ l * (2 ^ n * (x / 2 ^ l / 2 ^ n) + v % 2 ^ n) + x % 2 ^ l < 2 ^ 32 := by
    apply Nat.lt_pow_two_of_testBit
    intro j hj
    have hj' : (2 ^ l * (2 ^ n * (x / 2 ^ l / 2 ^ n) + v % 2 ^ n) + x % 2 ^ l).testBit j = x.testBit j := by
      rw [Nat.testBit_two_pow_mul_add _ hlo, if_neg (by omega), Nat.testBit_two_pow_mul_add _ hv, if_neg (by omega),
        Nat.testBit_div_two_pow, Nat.testBit_div_two_pow]
      congr 1; omega
    rw [hj']
    exact Nat.testBit_lt_two_pow (lt_of_lt_of_le hw (Nat.pow_le_pow_right (by norm_num) hj))
  have : (bitsSet w l n v).toNat = 2 ^ l * (2 ^ n * (x / 2 ^ l / 2 ^ n) + v % 2 ^ n) + x % 2 ^ l := by
    simp only [bitsSet, bitsOf, BitVec.toNat_ofNat]
    rw [← hx, ← hb, e2, Nat.mod_eq_of_lt lt]
  rw [this, key]

theorem bitsOf_testBit (w : Word) (l n i : Nat) : (bitsOf w l n).testBit i = (decide (i < n) && w.toNat.testBit (l + i)) := by
  simp [bitsOf, Nat.testBit_mod_two_pow, Nat.testBit_shiftRight]

/-- The field just replaced reads as the value written, at the field's width. -/
theorem bitsOf_bitsSet_same (w : Word) {l n : Nat} (v : Nat) (h : l + n ≤ 32) : bitsOf (bitsSet w l n v) l n = v % 2 ^ n := by
  apply Nat.eq_of_testBit_eq
  intro i
  rw [bitsOf_testBit, bitsSet_testBit w h, Nat.testBit_mod_two_pow]
  by_cases hi : i < n
  · rw [if_pos (by omega)]; simp [hi]
  · simp [hi]

/-- Replacing a field leaves a field of other bits as it was. -/
theorem bitsOf_bitsSet_disj (w : Word) {l n l' n' : Nat} (v : Nat) (h : l + n ≤ 32) (hd : l' + n' ≤ l ∨ l + n ≤ l') :
    bitsOf (bitsSet w l n v) l' n' = bitsOf w l' n' := by
  apply Nat.eq_of_testBit_eq
  intro i
  rw [bitsOf_testBit, bitsOf_testBit, bitsSet_testBit w h]
  by_cases hi : i < n'
  · rw [if_neg (by omega)]
  · simp [hi]

/-- A field written reads as written. -/
theorem Mach.fld_setFld_same (f : Fld) (v : Nat) (h : f.lsb + f.width ≤ 32) : (m.setFld f v).fld f = v % 2 ^ f.width := by
  simp [Mach.fld, Mach.setFld, bitsOf_bitsSet_same _ v h]

/-- A field of another register, or of other bits of the same register, is left as it was. -/
theorem Mach.fld_setFld_ne (f g : Fld) (v : Nat) (h : f.lsb + f.width ≤ 32)
    (hd : g.addr ≠ f.addr ∨ g.lsb + g.width ≤ f.lsb ∨ f.lsb + f.width ≤ g.lsb) : (m.setFld f v).fld g = m.fld g := by
  by_cases ha : g.addr = f.addr
  · have hd' := hd.resolve_left (fun h => h ha)
    simp only [Mach.fld, Mach.setFld, ha, Mach.rget_rset_same]
    exact bitsOf_bitsSet_disj _ v h hd'
  · simp [Mach.fld, Mach.setFld, Mach.rget_rset_ne _ ha]

theorem Mach.flag_setFlag_same (f : Fld) (b : Bool) (h : f.lsb + 1 ≤ 32) (hw : f.width = 1) : (m.setFlag f b).flag f = b := by
  have := m.fld_setFld_same f b.toNat (by omega)
  simp [Mach.flag, Mach.setFlag, this, hw]
  cases b <;> simp

theorem Mach.rget_setFld_ne (f : Fld) (v : Nat) {a : Nat} (h : a ≠ f.addr) : (m.setFld f v).rget a = m.rget a :=
  m.rget_rset_ne h _

/-! ### Records by number -/

@[simp] theorem Mach.task_setTask_same (k : Nat) (x : Task) : (m.setTask k x).task k = x := by simp [Mach.task, Mach.setTask]
theorem Mach.task_setTask_ne {k j : Nat} (h : j ≠ k) (x : Task) : (m.setTask k x).task j = m.task j := by
  simp [Mach.task, Mach.setTask, sget_sset_ne _ _ _ _ h]
@[simp] theorem Mach.eng_setEng_same (e : Nat) (x : Eng) : (m.setEng e x).eng e = x := by simp [Mach.eng, Mach.setEng]
theorem Mach.eng_setEng_ne {e i : Nat} (h : i ≠ e) (x : Eng) : (m.setEng e x).eng i = m.eng i := by
  simp [Mach.eng, Mach.setEng, sget_sset_ne _ _ _ _ h]
@[simp] theorem Mach.quad_setQuad_same (q : Nat) (x : Quad) : (m.setQuad q x).quad q = x := by simp [Mach.quad, Mach.setQuad]
@[simp] theorem Mach.pt_setPt_same (i : Nat) (x : Pt) : (m.setPt i x).pt i = x := by simp [Mach.pt, Mach.setPt]
theorem Mach.pt_setPt_ne {i j : Nat} (h : j ≠ i) (x : Pt) : (m.setPt i x).pt j = m.pt j := by
  simp [Mach.pt, Mach.setPt, sget_sset_ne _ _ _ _ h]
@[simp] theorem Mach.cell_setCell_same (sp i : Nat) (v : CellV) : (m.setCell sp i v).cell sp i = v := by simp [Mach.cell, Mach.setCell]

/-- A write of an image element leaves every element of another key as it was. -/
theorem Mach.cell_setCell_ne {sp i sp' i' : Nat} (h : ikey sp' i' ≠ ikey sp i) (v : CellV) : (m.setCell sp i v).cell sp' i' = m.cell sp' i' := by
  simp [Mach.cell, Mach.setCell, sget_sset_ne _ _ _ _ h]

/-- A write of an image element keeps the image's canonical form. -/
theorem Mach.img_wf_setCell (sp i : Nat) (v : CellV) (h : swf (fun _ => 0) m.img = true) : swf (fun _ => 0) (m.setCell sp i v).img = true :=
  swf_sset (fun _ => 0) m.img (ikey sp i) v h

/-! ### Repetition -/

/-- What every step of a repetition keeps, the repetition keeps. -/
theorem foldM_keeps {α β : Type} (φ : Mach → β) (f : α → Mach → Mach) (h : ∀ x m, φ (f x m) = φ m) (xs : List α) (m : Mach) :
    φ (foldM xs f m) = φ m := by
  induction xs generalizing m with
  | nil => rfl
  | cons x xs ih => simpa [foldM, h] using ih (f x m)

/-- A property every step of a repetition keeps holds at its end. -/
theorem foldM_inv {α : Type} (P : Mach → Prop) (f : α → Mach → Mach) (xs : List α) (h : ∀ x ∈ xs, ∀ m, P m → P (f x m)) (m : Mach) (h0 : P m) :
    P (foldM xs f m) := by
  induction xs generalizing m with
  | nil => exact h0
  | cons x xs ih => exact ih (fun y hy => h y (List.mem_cons_of_mem _ hy)) _ (h x (by simp) m h0)

end Sys2Proof.Machine
end

