-- ==== Sys2Proof/Laws/Events.lean ====
section
/-!
SUPPORT. What the journal, the link's sending side, squashes, triggers, changes of the image and faults can touch: `Rest` says what they
leave as it was, and one lemma for each of these operations says that it is within it.
-/
namespace Sys2Proof.Machine
open Sys2Proof

/-- `n` differs from `m` only in what events, squashes and faults write. -/
structure RestBut (m n : Mach) : Prop where
  same : n = { m with out := n.out, regs := n.regs, img := n.img, pts := n.pts, tasks := n.tasks, engs := n.engs, quads := n.quads, cu := n.cu, ev := n.ev,
                      faults := n.faults, fatal := n.fatal, pair := n.pair }
  regs : ∀ a, evAddr a = false → n.rget a = m.rget a

/-- `n` differs from `m` only in what events, squashes and faults write, and every fault present in `m` is present in `n`. -/
structure Rest (m n : Mach) : Prop where
  same : n = { m with out := n.out, regs := n.regs, img := n.img, pts := n.pts, tasks := n.tasks, engs := n.engs, quads := n.quads, cu := n.cu, ev := n.ev,
                      faults := n.faults, fatal := n.fatal, pair := n.pair }
  regs : ∀ a, evAddr a = false → n.rget a = m.rget a
  faults : ∀ f ∈ m.faults, f ∈ n.faults
  out : m.out <+: n.out

namespace Rest

theorem refl (m : Mach) : Rest m m := ⟨rfl, fun _ _ => rfl, fun _ h => h, List.prefix_rfl⟩

theorem trans {a b c : Mach} (h : Rest a b) (k : Rest b c) : Rest a c := by
  refine ⟨?_, fun x hx => (k.regs x hx).trans (h.regs x hx), fun f hf => k.faults f (h.faults f hf), h.out.trans k.out⟩
  have := k.same
  rw [h.same] at this
  exact this

theorem st {m n : Mach} (h : Rest m n) : n.st = m.st := by rw [h.same]
theorem now {m n : Mach} (h : Rest m n) : n.now = m.now := by rw [h.same]

theorem fld {m n : Mach} (h : Rest m n) {f : Fld} (hf : evAddr f.addr = false) : n.fld f = m.fld f := by simp [Mach.fld, h.regs _ hf]
theorem flag {m n : Mach} (h : Rest m n) {f : Fld} (hf : evAddr f.addr = false) : n.flag f = m.flag f := by simp [Mach.flag, h.fld hf]

/-- A register of the event group is written. -/
theorem rset (m : Mach) {a : Nat} (w : Word) (h : evAddr a = true) : Rest m (m.rset a w) :=
  ⟨rfl, fun x hx => m.rget_rset_ne (by rintro rfl; simp [h] at hx) w, fun _ h => h, List.prefix_rfl⟩

theorem setFld (m : Mach) {f : Fld} (v : Nat) (h : evAddr f.addr = true) : Rest m (m.setFld f v) := rset m _ h

theorem setFlag (m : Mach) {f : Fld} (b : Bool) (h : evAddr f.addr = true) : Rest m (m.setFlag f b) := rset m _ h

theorem addFld (m : Mach) {f : Fld} (v : Nat) (h : evAddr f.addr = true) : Rest m (m.addFld f v) := rset m _ h

theorem satFld (m : Mach) {f : Fld} (v : Nat) (h : evAddr f.addr = true) : Rest m (m.satFld f v) := rset m _ h

theorem maxFld (m : Mach) {f : Fld} (v : Nat) (h : evAddr f.addr = true) : Rest m (m.maxFld f v) := rset m _ h

theorem setFld64 (m : Mach) {f : Fld} (v : Nat) (h : evAddr f.addr = true) (h' : evAddr (f.addr + 4) = true) : Rest m (m.setFld64 f v) :=
  (rset m _ h).trans (rset _ _ h')

/-- Records of the state that events write. -/
theorem upd (m : Mach) {n : Mach} (h : n = { m with img := n.img, pts := n.pts, tasks := n.tasks, engs := n.engs, quads := n.quads, cu := n.cu,
                                                        ev := n.ev, fatal := n.fatal, pair := n.pair }) : Rest m n := by
  refine ⟨?_, fun a _ => ?_, fun f hf => ?_, ?_⟩
  · rw [h]
  · exact Mach.rget_congr (congrArg Mach.regs h) a
  · rw [h]; exact hf
  · rw [h]

theorem evRec (m : Mach) (x : EvUnit) : Rest m { m with ev := x } := upd m rfl
theorem faultsRec (m : Mach) {x : List (Nat × Nat × Nat)} (h : ∀ f ∈ m.faults, f ∈ x) : Rest m { m with faults := x } := ⟨rfl, fun _ _ => rfl, h, List.prefix_rfl⟩
theorem faultsAdd (m : Mach) (x : List (Nat × Nat × Nat)) : Rest m { m with faults := m.faults ++ x } :=
  faultsRec m (fun _ h => List.mem_append_left _ h)
theorem fatalRec (m : Mach) (x : Option Nat) : Rest m { m with fatal := x } := upd m rfl
theorem pairRec (m : Mach) (x : Pair) : Rest m { m with pair := x } := upd m rfl

theorem foldM {α : Type} (f : α → Mach → Mach) (xs : List α) (h : ∀ x ∈ xs, ∀ m, Rest m (f x m)) (m : Mach) : Rest m (foldM xs f m) :=
  foldM_inv (Rest m) f xs (fun x hx n hn => hn.trans (h x hx n)) m (refl m)

theorem onlyIf (b : Bool) {f : Mach → Mach} {m : Mach} (h : Rest m (f m)) : Rest m (onlyIf b f m) := by
  cases b
  · exact refl m
  · exact h

theorem but {m n : Mach} (h : Rest m n) : RestBut m n := ⟨h.same, h.regs⟩

end Rest

theorem RestBut.trans {a b c : Mach} (h : RestBut a b) (k : RestBut b c) : RestBut a c := by
  refine ⟨?_, fun x hx => (k.regs x hx).trans (h.regs x hx)⟩
  have := k.same
  rw [h.same] at this
  exact this

theorem RestBut.faultsRec (m : Mach) (x : List (Nat × Nat × Nat)) : RestBut m { m with faults := x } := ⟨rfl, fun _ _ => rfl⟩

theorem Rest.events {m n : Mach} (h : Rest m n) (as : Nat → Prop) : Events m n as := ⟨h.same, fun a ha _ => h.regs a ha, h.faults, h.out⟩

theorem Events.trans {a b c : Mach} {as : Nat → Prop} (h : Events a b as) (k : Events b c as) : Events a c as := by
  refine ⟨?_, fun x hx hm => (k.regs x hx hm).trans (h.regs x hx hm), fun f hf => k.faults f (h.faults f hf), h.out.trans k.out⟩
  have := k.same
  rw [h.same] at this
  exact this

/-- A register that events do not write is written. -/
theorem Events.rset (m : Mach) {a : Nat} (w : Word) {as : Nat → Prop} (h : as a) : Events m (m.rset a w) as :=
  ⟨rfl, fun _ _ hx => m.rget_rset_ne (by rintro rfl; exact hx h) w, fun _ h => h, List.prefix_rfl⟩

/-! ### The link's sending side and the journal -/

theorem rest_linkSend (m : Mach) (ty : Nat) (p : List Byte) : Rest m (m.linkSend ty p) := by
  unfold Mach.linkSend; split
  · exact ⟨rfl, fun _ _ => rfl, fun _ h => h, ⟨_, rfl⟩⟩
  · exact Rest.refl m

theorem rest_flushStream (m : Mach) : Rest m m.flushStream := by
  unfold Mach.flushStream
  refine ((Rest.upd m (n := { m with pair := { m.pair with stream := [] } }) rfl).trans ?_).trans (Rest.setFld _ _ (by decide))
  exact Rest.foldM _ _ (fun p _ n => rest_linkSend n _ _) _

theorem rest_streamPut (m : Mach) (r : List Byte) : Rest m (m.streamPut r) := by
  unfold Mach.streamPut; split
  · exact (Rest.upd m (n := { m with pair := { m.pair with stream := m.pair.stream ++ [r] } }) rfl).trans (Rest.setFld _ _ (by decide))
  · exact Rest.refl m

theorem rest_fifoPut (m : Mach) (j : JEntry) : Rest m (m.fifoPut j) := by
  unfold Mach.fifoPut; split
  · exact Rest.trans (Rest.trans (Rest.upd m rfl) (Rest.satFld _ _ (by decide))) (Rest.setFlag _ _ (by decide))
  · exact Rest.trans (Rest.upd m rfl) (Rest.maxFld _ _ (by decide))

theorem rest_journalEntry (m : Mach) (j : JEntry) : Rest m (m.journalEntry j) := (rest_streamPut m _).trans (rest_fifoPut _ _)

theorem rest_journal (m : Mach) (t p k f : Nat) : Rest m (m.journal t p k f) := by
  unfold Mach.journal; split
  · exact Rest.refl m
  · exact (Rest.addFld m _ (by decide)).trans (rest_journalEntry _ _)

theorem rest_sysEvent (m : Mach) (c k : Nat) (b : Bool) : Rest m (m.sysEvent c k b) := by
  unfold Mach.sysEvent; split
  · split
    · exact rest_linkSend _ _ _
    · exact Rest.refl m
  · exact rest_journal _ _ _ _ _

theorem rest_info (m : Mach) (c : Nat) : Rest m (m.info c) := rest_sysEvent _ _ _ _
theorem rest_note (m : Mach) (c : Nat) : Rest m (m.note c) := rest_sysEvent _ _ _ _
theorem rest_taskEvent (m : Mach) (k kind t : Nat) : Rest m (m.taskEvent k kind t) := rest_journal _ _ _ _ _

/-! ### Records -/

theorem rest_setTask (m : Mach) (k : Nat) (x : Task) : Rest m (m.setTask k x) := Rest.upd m rfl
theorem rest_setEng (m : Mach) (e : Nat) (x : Eng) : Rest m (m.setEng e x) := Rest.upd m rfl
theorem rest_setPt (m : Mach) (i : Nat) (x : Pt) : Rest m (m.setPt i x) := Rest.upd m rfl
theorem rest_setCell (m : Mach) (sp i : Nat) (v : CellV) : Rest m (m.setCell sp i v) := Rest.upd m rfl

/-! ### Squashes and snapshots -/

theorem rest_putSnap (m : Mach) (k : Nat) (sn : Snap) (a : Bool) (o : Nat) : Rest m (m.putSnap k sn a o) := by
  unfold Mach.putSnap
  exact Rest.upd m rfl

theorem rest_stopEngine (m : Mach) (e : Nat) : Rest m (m.stopEngine e) := by
  unfold Mach.stopEngine
  extract_lets en n m1
  refine Rest.trans (b := m1) ?_ (rest_setEng _ _ _)
  show Rest m (Machine.onlyIf _ _ m)
  unfold Machine.onlyIf
  split
  · rename_i h
    refine Rest.addFld _ _ ?_
    have : e < 16 := by simp only [Bool.and_eq_true, decide_eq_true_eq] at h; exact h.1
    interval_cases e <;> decide
  · exact Rest.refl m

theorem rest_stopScan (m : Mach) (sc : Scan) : Rest m (m.stopScan sc) := Rest.foldM _ _ (fun _ _ n => rest_stopEngine n _) _

theorem rest_takeBudget (m : Mach) {k : Nat} (hk : k < 32) : Rest m (m.takeBudget k) := by
  have h1 : evAddr (R.TSK_RESTARTS k).addr = true := by interval_cases k <;> decide
  have h2 : evAddr (R.TSK_BUDGET_RSTLEFT k).addr = true := by interval_cases k <;> decide
  unfold Mach.takeBudget
  have h := (Rest.addFld m 1 h1).trans (Rest.setFld _ (m.fld (R.TSK_BUDGET_RSTLEFT k) - 1) h2)
  dsimp only
  split
  · exact (h.trans (rest_taskEvent _ _ _ _)).trans (rest_setTask _ _ _)
  · exact h

theorem rest_countSquash (m : Mach) {k c : Nat} (hk : k < 32) (hc : c < 8) : Rest m (m.countSquash k c) := by
  have h1 : evAddr (R.TSK_SQUASHES k).addr = true := by interval_cases k <;> decide
  have h2 : evAddr (R.IMG_SQCNT c).addr = true := by interval_cases c <;> decide
  unfold Mach.countSquash
  exact ((Rest.addFld m _ h1).trans (Rest.addFld _ _ h2)).trans (Rest.onlyIf _ (rest_takeBudget _ hk))

theorem rest_rerun (m : Mach) (k c : Nat) (sc : Scan) : Rest m (m.rerun k c sc) := by
  unfold Mach.rerun; split
  · exact Rest.refl m
  · split
    · cases h : (m.task k).snap
      · exact (rest_setTask _ _ _).trans (rest_putSnap _ _ _ _ _)
      · exact Rest.trans (Rest.trans (Rest.upd m rfl) (rest_setTask _ _ _)) (rest_putSnap _ _ _ _ _)
    · split <;> exact rest_putSnap _ _ _ _ _

theorem rest_squashRun (m : Mach) {k c : Nat} (hk : k < 32) (hc : c < 8) : Rest m (m.squashRun k c) := by
  unfold Mach.squashRun; split
  · exact Rest.refl m
  · exact (((rest_stopScan _ _).trans (rest_setTask _ _ _)).trans (rest_countSquash _ hk hc)).trans (rest_rerun _ _ _ _)

theorem rest_squashHeld (m : Mach) {k c : Nat} (hk : k < 32) (hc : c < 8) : Rest m (m.squashHeld k c) := by
  unfold Mach.squashHeld; dsimp only; split
  · exact Rest.refl m
  · split
    · exact Rest.refl m
    · exact (((rest_squashRun _ hk (by split <;> omega)).trans (rest_setTask _ _ _)).trans (rest_countSquash _ hk hc)).trans (rest_rerun _ _ _ _)

theorem rest_squashSnap (m : Mach) {k c : Nat} (hk : k < 32) (hc : c < 8) : Rest m (m.squashSnap k c) := by
  unfold Mach.squashSnap; split
  · exact (rest_setTask _ _ _).trans (rest_countSquash _ hk hc)
  · exact Rest.refl m

theorem rest_dropScans (m : Mach) {k : Nat} (hk : k < 32) : Rest m (m.dropScans k) :=
  ((rest_squashHeld m hk (show 7 < 8 by omega)).trans (rest_squashRun _ hk (show 7 < 8 by omega))).trans (rest_squashSnap _ hk (show 7 < 8 by omega))

/-! ### Light -/

theorem rest_light (m : Mach) {e : Nat} (he : e < 16) : Rest m (m.light e) := by
  unfold Mach.light
  extract_lets en q
  have h : evAddr (R.ENG_WAKEDIM e).addr = true := by interval_cases e <;> decide
  split
  · exact Rest.trans (rest_setEng _ _ _) (Rest.onlyIf _ (Rest.addFld _ _ h))
  · exact Rest.upd m rfl
  · exact Rest.refl m

theorem taskEngines_lt (m : Mach) (k : Nat) {e : Nat} (h : e ∈ m.taskEngines k) : e < 16 := by
  simp only [Mach.taskEngines, List.mem_map] at h
  obtain ⟨j, -, rfl⟩ := h
  exact Nat.mod_lt _ (show 0 < 2 ^ 4 by decide)

theorem rest_lightTask (m : Mach) (k : Nat) : Rest m (m.lightTask k) :=
  Rest.foldM _ _ (fun _ h n => rest_light n (taskEngines_lt m k h)) m

theorem rest_fixSnap (m : Mach) (k t g i : Nat) : Rest m (m.fixSnap k t g i) := by
  unfold Mach.fixSnap
  dsimp only
  have h : Rest m (Mach.setFld64 { (((m.putSnap k (m.mkSnap k (m.snapTimeOf k t) g i) false 0).setTask k
      { (m.putSnap k (m.mkSnap k (m.snapTimeOf k t) g i) false 0).task k with lastSnap := some (m.mkSnap k (m.snapTimeOf k t) g i).time })) with
      pair := { (((m.putSnap k (m.mkSnap k (m.snapTimeOf k t) g i) false 0).setTask k
        { (m.putSnap k (m.mkSnap k (m.snapTimeOf k t) g i) false 0).task k with lastSnap := some (m.mkSnap k (m.snapTimeOf k t) g i).time })).pair with
        snapNo := ((((m.putSnap k (m.mkSnap k (m.snapTimeOf k t) g i) false 0).setTask k
        { (m.putSnap k (m.mkSnap k (m.snapTimeOf k t) g i) false 0).task k with lastSnap := some (m.mkSnap k (m.snapTimeOf k t) g i).time })).pair.snapNo + 1) % 2 ^ 32 } }
      R.EVU_LASTSNAP_LO (max ((Mach.fld64 { (((m.putSnap k (m.mkSnap k (m.snapTimeOf k t) g i) false 0).setTask k
        { (m.putSnap k (m.mkSnap k (m.snapTimeOf k t) g i) false 0).task k with lastSnap := some (m.mkSnap k (m.snapTimeOf k t) g i).time })) with
        pair := { (((m.putSnap k (m.mkSnap k (m.snapTimeOf k t) g i) false 0).setTask k
        { (m.putSnap k (m.mkSnap k (m.snapTimeOf k t) g i) false 0).task k with lastSnap := some (m.mkSnap k (m.snapTimeOf k t) g i).time })).pair with
        snapNo := ((((m.putSnap k (m.mkSnap k (m.snapTimeOf k t) g i) false 0).setTask k
        { (m.putSnap k (m.mkSnap k (m.snapTimeOf k t) g i) false 0).task k with lastSnap := some (m.mkSnap k (m.snapTimeOf k t) g i).time })).pair.snapNo + 1) % 2 ^ 32 } }
        R.EVU_LASTSNAP_LO)) (m.mkSnap k (m.snapTimeOf k t) g i).time)) :=
    (((rest_putSnap _ _ _ _ _).trans (rest_setTask _ _ _)).trans (Rest.upd _ rfl)).trans (Rest.setFld64 _ _ (by decide) (by decide))
  split
  · exact (h.trans (rest_flushStream _)).trans (Rest.trans (Rest.upd _ rfl) (rest_linkSend _ _ _))
  · exact h

theorem rest_trigger (m : Mach) {k : Nat} (hk : k < 32) (t g i : Nat) : Rest m (m.trigger k t g i) := by
  unfold Mach.trigger; split
  · dsimp only
    have h := (rest_fixSnap m k t g i).trans (rest_lightTask _ k)
    split
    · split
      · exact h
      · exact h.trans (rest_squashRun _ hk (by split <;> omega))
    · exact h
  · exact Rest.refl m

/-! ### Changes, status bits and faults -/

theorem rest_preserve (m : Mach) (w : Bool) (i : Nat) : Rest m (m.preserve w i) := by
  unfold Mach.preserve; split
  · exact Rest.upd m rfl
  · exact Rest.refl m

theorem rest_writePoint (m : Mach) (p : PtChange) : Rest m (m.writePoint p) := by
  unfold Mach.writePoint
  dsimp only
  split
  · have h : ∀ x : Pt, Rest m ((if m.alters p then m.preserve false p.idx else m).setPt p.idx x) := by
      intro x
      split
      · exact (rest_preserve _ _ _).trans (rest_setPt _ _ _)
      · exact rest_setPt _ _ _
    split
    · exact (h _).trans (rest_journal _ _ _ _ _)
    · split
      · split
        · split
          · exact ((h _).trans (rest_journal _ _ _ _ _)).trans (rest_journal _ _ _ _ _)
          · exact (h _).trans (rest_journal _ _ _ _ _)
        · split
          · exact (h _).trans (rest_journal _ _ _ _ _)
          · exact h _
      · exact (h _).trans (rest_journal _ _ _ _ _)
  · exact Rest.refl m

theorem rest_writeWord (m : Mach) (t : Nat) (w : Nat × Word) : Rest m (m.writeWord t w) := by
  unfold Mach.writeWord; split
  · exact Rest.refl m
  · exact ((rest_preserve _ _ _).trans (rest_setCell _ _ _ _)).trans (rest_streamPut _ _)

theorem rest_wake (m : Mach) (cs : List PtChange) (t : Nat) : Rest m (m.wake cs t) := by
  unfold Mach.wake
  refine Rest.foldM _ _ (fun k hk n => ?_) m
  have hk : k < 32 := by simpa [allTasks] using hk
  split
  · exact Rest.refl n
  · exact (Rest.addFld _ _ (by decide)).trans (rest_trigger _ hk _ _ _)

theorem rest_writeChange (m : Mach) (c : Change) : Rest m (m.writeChange c) := by
  unfold Mach.writeChange
  extract_lets ch src m1 m2 m3
  have h1 : Rest m m1 := Rest.evRec m _
  have h2 : Rest m1 m2 := Rest.foldM _ _ (fun _ _ n => rest_writeWord n _ _) _
  have h3 : Rest m2 m3 := Rest.foldM _ _ (fun _ _ n => rest_writePoint n _) _
  exact ((h1.trans h2).trans h3).trans (rest_wake _ _ _)

theorem rest_faultSum (m : Mach) : Rest m m.faultSum := by
  unfold Mach.faultSum
  exact (((Rest.setFlag _ _ (by decide)).trans (Rest.setFlag _ _ (by decide))).trans (Rest.setFld _ _ (by decide))).trans
    (Rest.setFld _ _ (by decide))

theorem rest_holdChange (m : Mach) (c : Change) : Rest m (m.holdChange c) := by
  unfold Mach.holdChange
  extract_lets q m1 src m2 m3 m4
  have h2 : Rest m m2 := (Rest.satFld m 1 (by decide)).trans (Rest.evRec m1 _)
  have h3 : Rest m2 m3 := rest_sysEvent _ _ _ _
  have h4 : Rest m3 m4 := (Rest.faultsAdd m3 _).trans (rest_faultSum _)
  split
  · exact ((h2.trans h3).trans h4).trans (Rest.evRec m4 _)
  · exact h2

theorem rest_change (m : Mach) (c : Change) : Rest m (m.change c) := by
  unfold Mach.change; split
  · exact Rest.refl m
  · split
    · exact rest_writeChange _ _
    · exact rest_holdChange _ _

theorem rest_setStat (m : Mach) (i w v : Nat) : Rest m (m.setStat i w v) := by
  unfold Mach.setStat
  dsimp only
  have h := Rest.foldM (fun (p : PtChange) (m : Mach) => m.setPt p.idx { m.pt p.idx with sv := p.v, sq := 0, sAt := if (m.pt p.idx).sv = p.v then
    (m.pt p.idx).sAt else p.stamp }) ((List.range w).map (fun j => ({ idx := i + j, v := v.testBit j, q := 0, stamp := m.now } : PtChange)))
    (fun _ _ n => rest_setPt n _ _) m
  split
  · exact h.trans (rest_change _ _)
  · exact h

theorem rest_stat (m : Mach) (i : Nat) (b : Bool) : Rest m (m.stat i b) := rest_setStat _ _ _ _

theorem rest_showFaults (m : Mach) : Rest m m.showFaults :=
  ((rest_faultSum m).trans (rest_stat _ _ _)).trans (rest_stat _ _ _)

theorem rest_startYield (m : Mach) (r : Nat) : Rest m (m.startYield r) := by
  unfold Mach.startYield; split
  · refine Rest.trans (Rest.upd m rfl) (Rest.foldM _ _ (fun k hk n => ?_) _)
    have hk : k < 32 := by simpa [allTasks] using hk
    exact ((rest_squashSnap _ hk (show 3 < 8 by omega)).trans (rest_squashRun _ hk (show 3 < 8 by omega))).trans (rest_setTask _ _ _)
  · exact Rest.refl m

theorem rest_lastFault (m : Mach) (c k : Nat) : Rest m (m.lastFault c k) := by
  unfold Mach.lastFault
  exact (((Rest.setFld _ _ (by decide)).trans (Rest.setFld _ _ (by decide))).trans (Rest.setFlag _ _ (by decide))).trans
    (Rest.setFld64 _ _ (by decide) (by decide))

/-- Raising a fault touches only what events, squashes and faults write. -/
theorem rest_raise (m : Mach) (c s k : Nat) : Rest m (m.raise c s k) := by
  unfold Mach.raise
  extract_lets m1 m2 m3 m4 m5
  have h3 : Rest m m3 := by
    refine (rest_sysEvent m c (0x30 + k) true).trans (Rest.trans (b := m2) ?_ (rest_showFaults _))
    show Rest m1 (if _ then _ else _)
    split
    · exact Rest.refl _
    · exact Rest.faultsAdd _ _
  split
  · split
    · exact ((h3.trans (rest_lastFault _ _ _)).trans (Rest.setFlag _ _ (by decide))).trans (rest_stat _ _ _)
    · exact (h3.trans (rest_lastFault _ _ _)).trans (rest_startYield _ _)
  · split
    · exact (h3.trans (rest_lastFault _ _ _)).trans (Rest.fatalRec _ _)
    · exact h3

/-- A fault raised is present. -/
theorem raise_mem (m : Mach) (c s k : Nat) : (c, s, k) ∈ (m.raise c s k).faults := by
  unfold Mach.raise
  extract_lets m1 m2 m3 m4 m5
  have h2 : (c, s, k) ∈ m2.faults := by
    show (c, s, k) ∈ (if _ then _ else _ : Mach).faults
    split
    · simp_all
    · simp
  have h3 : (c, s, k) ∈ m3.faults := (rest_showFaults m2).faults _ h2
  split
  · split
    · exact (((rest_lastFault _ _ _).trans (Rest.setFlag _ _ (by decide))).trans (rest_stat _ _ _)).faults _ h3
    · exact ((rest_lastFault _ _ _).trans (rest_startYield _ _)).faults _ h3
  · split
    · exact ((rest_lastFault _ _ _).trans (Rest.fatalRec _ _)).faults _ h3
    · exact h3

/-- Clearing a fault touches the faults, and what events, squashes and faults write. -/
theorem but_clear (m : Mach) (c s k : Nat) : RestBut m (m.clear c s k) := by
  unfold Mach.clear; split
  · extract_lets m1
    have h1 : RestBut m m1 := (rest_sysEvent m c (0x30 + k) false).but
    exact (h1.trans (RestBut.faultsRec m1 _)).trans (rest_showFaults _).but
  · exact (Rest.refl m).but

/-! ### Sources -/

theorem rest_showBlocked (m : Mach) (i : Nat) : Rest m (m.showBlocked i) := by
  unfold Mach.showBlocked
  extract_lets m1
  have h1 : Rest m m1 := Rest.setFld _ _ (by decide)
  split
  · refine h1.trans (Rest.setFlag _ _ ?_)
    simp [evAddr, R.EVU_DI_CFG_BLOCKED]
    omega
  · exact h1

theorem rest_accept (m : Mach) (p : PtChange) : Rest m (m.accept p).2 := by
  unfold Mach.accept
  extract_lets o tr o' kept m1 m2 q m3 m4
  have h2 : Rest m m2 := by
    refine Rest.trans (b := m1) ?_ (rest_setPt _ _ _)
    show Rest m (if _ then _ else _)
    split
    · exact Rest.satFld _ _ (by decide)
    · exact Rest.refl m
  have h4 : Rest m m4 := (rest_setPt m _ _).trans (rest_showBlocked _ _)
  split
  · exact rest_setPt _ _ _
  · split
    · split <;> exact h2
    · split
      · extract_lets trs
        split
        · exact h4
        · exact rest_setPt _ _ _
      · exact rest_setPt _ _ _

theorem rest_acceptAll (m : Mach) (ps : List PtChange) : Rest m (m.acceptAll ps).2 := by
  induction ps generalizing m with
  | nil => exact Rest.refl m
  | cons p ps ih => exact (rest_accept m p).trans (ih _)

/-- A source's changes touch only what events write. -/
theorem rest_sourceAt (m : Mach) (ps : List PtChange) (ws : List (Nat × Word)) (t : Nat) : Rest m (m.sourceAt ps ws t) := by
  have h := rest_acceptAll m (ps.foldr insPt [])
  unfold Mach.sourceAt
  dsimp only
  split
  · exact h.trans (rest_change _ _)
  · exact h

theorem rest_source (m : Mach) (ps : List PtChange) : Rest m (m.source ps) := rest_sourceAt _ _ _ _

theorem rest_sourceQuality (m : Mach) (is : List Nat) (q t : Nat) : Rest m (m.sourceQuality is q t) := rest_source _ _

end Sys2Proof.Machine
end

