-- ==== Sys2Proof/Laws/Pass.lean ====
section
/-!
SUPPORT. What the passing of time does to the module: the time base shows the instant that has come, and the module's state stays.
-/
namespace Sys2Proof.Machine
open Sys2Proof

variable (m : Mach)

theorem Mach.endLeap_keeps {β : Type} (φ : Mach → β) (h : ∀ m f v, φ (Mach.setFld m f v) = φ m) : φ m.endLeap = φ m := by
  unfold Mach.endLeap Mach.setFlag
  split
  · exact h _ _ _
  · rfl

theorem Mach.dspTime_keeps {β : Type} (φ : Mach → β) (h : ∀ m f v, φ (Mach.setFld m f v) = φ m) (hd : ∀ (m : Mach) d, φ { m with dsp := d } = φ m) :
    φ m.dspTime = φ m := by
  unfold Mach.dspTime
  split
  · split
    · simp only
      split
      · rw [h, h, hd]
      · rw [h, hd]
    · rfl
  · rfl

theorem Mach.nodeAge_keeps {β : Type} (φ : Mach → β) (h : ∀ m f v, φ (Mach.setFld m f v) = φ m) (hs : ∀ (m : Mach) x, φ { m with sp := x } = φ m) :
    φ m.nodeAge = φ m := by
  unfold Mach.nodeAge
  simp only
  refine (foldM_keeps φ _ (fun r m => ?_) _ _).trans (hs _ _)
  exact h _ _ _

theorem Mach.runEngineCounters_keeps {β : Type} (φ : Mach → β) (h : ∀ m f v, φ (Mach.setFld m f v) = φ m) (t : Nat) : φ (m.runEngineCounters t) = φ m := by
  unfold Mach.runEngineCounters
  refine foldM_keeps φ _ (fun e m => ?_) _ _
  split
  · split
    · exact h _ _ _
    · exact h _ _ _
    · rfl
  · rfl

/-- What register writes, the display's and the ports' records do not touch is, past the counters, as it was before the instant but for the instant itself. -/
theorem Mach.pass_keeps {β : Type} (φ : Mach → β) (h : ∀ m f v, φ (Mach.setFld m f v) = φ m) (hd : ∀ (m : Mach) d, φ { m with dsp := d } = φ m)
    (hs : ∀ (m : Mach) x, φ { m with sp := x } = φ m) (t : Nat) : φ (m.pass t) = φ { (m.runEngineCounters t).runWatchdog t with now := t } :=
  (Mach.dspTime_keeps _ φ h hd).trans ((Mach.nodeAge_keeps _ φ h hs).trans (Mach.endLeap_keeps _ φ h))

/-- The time base shows the instant a command comes at. -/
theorem Mach.pass_now (t : Nat) : (m.pass t).now = t := Mach.pass_keeps m (fun n => n.now) (fun _ _ _ => rfl) (fun _ _ => rfl) (fun _ _ => rfl) t

theorem Mach.runWatchdog_now_st (t : Nat) : ({ m.runWatchdog t with now := t } : Mach).st = m.st := rfl

/-- Time alone changes no module state. -/
theorem Mach.pass_st (t : Nat) : (m.pass t).st = m.st := by
  have h := Mach.pass_keeps m (fun n => n.st) (fun _ _ _ => rfl) (fun _ _ => rfl) (fun _ _ => rfl) t
  have h2 := Mach.runEngineCounters_keeps m (fun n => n.st) (fun _ _ _ => rfl) t
  simp only at h h2
  rw [h, Mach.runWatchdog_now_st, h2]

end Sys2Proof.Machine
end

