-- ==== Sys2Proof/Laws/Pipeline.lean ====
section
/-!
SUPPORT. What the issue of an instruction does, once for all instructions: in a slot that issues under a true guard, the body runs on the
engine moved on by one slot.
-/
namespace Sys2Proof.Machine
open Sys2Proof

theorem Eng.apply_act (en : Eng) (w : Wr) : (en.apply w).act = en.act := by cases w <;> rfl
theorem Eng.applyAll_act (ws : List Wr) (en : Eng) : (ws.foldl Eng.apply en).act = en.act := by
  induction ws generalizing en with
  | nil => rfl
  | cons w ws ih => simpa [Eng.apply_act] using ih (en.apply w)

theorem Mach.applyPerf_engs (m : Mach) (e : Nat) (w : Wr) : (m.applyPerf e w).engs = m.engs := by
  cases w <;> try rfl
  simp only [Mach.applyPerf]
  split
  · rw [foldM_keeps (·.engs)]
    · rfl
    · intros; rfl
  · rfl

theorem Mach.applyPerfs_engs (ws : List Wr) (m : Mach) (e : Nat) : (ws.foldl (fun m w => m.applyPerf e w) m).engs = m.engs := by
  induction ws generalizing m with
  | nil => rfl
  | cons w ws ih => simpa [Mach.applyPerf_engs] using ih (m.applyPerf e w)

theorem Mach.complete_act (m : Mach) (e : Nat) (ws : List Wr) : ((m.complete e ws).eng e).act = (m.eng e).act := by
  have h : ∀ n : Mach, n.engs = (ws.foldl (fun m w => m.applyPerf e w) (m.setEng e (ws.foldl Eng.apply (m.eng e)))).engs →
      (n.eng e).act = (m.eng e).act := by
    intro n hn
    have : n.eng e = ws.foldl Eng.apply (m.eng e) := by
      rw [Mach.eng, hn, Mach.applyPerfs_engs]
      exact m.eng_setEng_same e _
    rw [this, Eng.applyAll_act]
  unfold Mach.complete
  dsimp only
  split
  · split
    · split <;> exact h _ rfl
    · exact h _ rfl
  · exact h _ rfl

/-- Letting writes complete leaves the engine's segment as it was. -/
theorem atSlot_act (m : Mach) (e : Nat) : ((atSlot m e).eng e).act = (m.eng e).act := by
  unfold atSlot Mach.retire
  dsimp only
  split
  · rfl
  · rw [Mach.complete_act, Mach.eng_setEng_same]

/-! ### Counters of the engine -/

theorem Mach.perf_same (m : Mach) (e : Nat) (f : Fld) (n : Nat) : m.perf e f n = { m with regs := (m.perf e f n).regs } := by
  unfold Mach.perf onlyIf
  split <;> rfl

theorem Mach.perf_rget (m : Mach) (e : Nat) (f : Fld) (n : Nat) {a : Nat} (h : a ≠ f.addr) : (m.perf e f n).rget a = m.rget a := by
  unfold Mach.perf onlyIf
  split
  · exact m.rget_setFld_ne f _ h
  · rfl

theorem Mach.perf_eng (m : Mach) (e i : Nat) (f : Fld) (n : Nat) : (m.perf e f n).eng i = m.eng i := by rw [m.perf_same]; rfl
theorem Mach.perf_task (m : Mach) (e k : Nat) (f : Fld) (n : Nat) : (m.perf e f n).task k = m.task k := by rw [m.perf_same]; rfl

/-! ### Issue -/

theorem issueBase_same (m : Mach) (e : Nat) (gd : Guard) (c : Ctx) (st : Nat) (gs ps : List Nat) :
    issueBase m e gd c st gs ps =
      { atSlot m e with engs := ((atSlot m e).setEng e (issued c st)).engs, regs := (issueBase m e gd c st gs ps).regs } := by
  unfold issueBase
  rw [Mach.perf_same _ e (R.ENG_EARLY e), Mach.perf_same _ e (R.ENG_EARLY e), Mach.perf_same _ e (R.ENG_ISSUED e)]
  rfl

theorem issueBase_eng (m : Mach) (e : Nat) (gd : Guard) (c : Ctx) (st : Nat) (gs ps : List Nat) :
    (issueBase m e gd c st gs ps).eng e = issued c st := by
  unfold issueBase
  rw [Mach.perf_eng, Mach.perf_eng, Mach.perf_eng, Mach.eng_setEng_same]

theorem issueBase_engNe (m : Mach) (e : Nat) (gd : Guard) (c : Ctx) (st : Nat) (gs ps : List Nat) {i : Nat} (h : i ≠ e) :
    (issueBase m e gd c st gs ps).eng i = (atSlot m e).eng i := by
  unfold issueBase
  rw [Mach.perf_eng, Mach.perf_eng, Mach.perf_eng, Mach.eng_setEng_ne _ h]

theorem issueBase_rget (m : Mach) (e : Nat) (gd : Guard) (c : Ctx) (st : Nat) (gs ps : List Nat) {a : Nat}
    (h1 : a ≠ (R.ENG_ISSUED e).addr) (h2 : a ≠ (R.ENG_EARLY e).addr) : (issueBase m e gd c st gs ps).rget a = (atSlot m e).rget a := by
  unfold issueBase
  rw [Mach.perf_rget _ _ _ _ h2, Mach.perf_rget _ _ _ _ h2, Mach.perf_rget _ _ _ _ h1]
  rfl

/-- An instruction without control flow, in a slot under a true guard: its body runs, then the frame and the end of the code are checked. -/
theorem Slot.issue {m : Mach} {e : Nat} {gd : Guard} {c : Ctx} (h : Slot m e gd c) (st : Nat) (gs ps : List Nat) (body : Ctx → Mach → Mach) :
    m.issue e gd .none none st gs ps body = ((body c (issueBase m e gd c st gs ps)).checkShade e c.k).checkEnd e := by
  have hl : ¬ 64 * (((atSlot m e).setEng e (issued c st)).perf e (R.ENG_ISSUED e) 1).fld (R.ENG_SEG_STEPLIM e c.k) < c.en.steps + 1 := by
    have : (((atSlot m e).setEng e (issued c st)).perf e (R.ENG_ISSUED e) 1).fld (R.ENG_SEG_STEPLIM e c.k) =
        (atSlot m e).fld (R.ENG_SEG_STEPLIM e c.k) := by
      simp only [Mach.fld]
      rw [Mach.perf_rget]
      · rfl
      · have := h.task
        simp only [R.ENG_SEG_STEPLIM, R.ENG_ISSUED]; omega
    rw [this]
    exact Nat.not_lt.mpr h.steps
  have hg : ¬ (c.p gd.p.val == gd.neg) = true := by simpa using h.guard
  unfold Mach.issue
  rw [h.act]
  dsimp only
  rw [if_neg (by simp [h.drain])]
  have hr := h.run
  have hf := h.calm
  unfold atSlot at hr hf
  rw [hf, hr]
  dsimp only
  have hc := h.ctx
  unfold atSlot at hc
  rw [← hc]
  have he : ((m.retire e ((m.eng e).slot + 2)).eng e) = c.en := by rw [hc]
  have hi : (m.eng e).slot = c.i := by rw [hc]
  simp only [he]
  have hb : ((m.retire e ((m.eng e).slot + 2)).setEng e
      { pc := c.en.advance.pc, power := c.en.advance.power, wantTill := c.en.advance.wantTill, wake := c.en.advance.wake, act := c.en.advance.act,
        drain := c.en.advance.drain, freeAt := c.en.advance.freeAt, litSince := c.en.advance.litSince, slot := (m.eng e).slot + 1,
        steps := c.en.steps + 1, ds := c.en.advance.ds, tgt := c.en.advance.tgt, g := c.en.advance.g, p := c.en.advance.p,
        link := c.en.advance.link, loop := c.en.advance.loop, flight := c.en.advance.flight,
        ends := List.filter (fun x => decide ((m.eng e).slot ≤ x)) c.en.ends ++ [(m.eng e).slot + max 7 st - 1],
        de := c.en.pc, flt := c.en.advance.flt, ldata := c.en.advance.ldata, preset := c.en.advance.preset, bank0 := c.en.advance.bank0, bank1 := c.en.advance.bank1,
        retired := c.en.advance.retired }) = (atSlot m e).setEng e (issued c st) := by
    have hpc : c.pc = c.en.pc := by rw [h.ctx]
    simp only [hi, atSlot, issued, hpc]
  rw [hb, if_neg hl, if_neg (by simp), if_neg hg]
  rfl

/-! ### The end of an instruction -/

/-- Within the frame's limit and before the end of the code, an instruction ends by keeping the frame's largest count. -/
theorem checks_calm {n : Mach} {e k : Nat} (hr : n.entryCount e ≤ 2048) (hp : (n.eng e).pc ≤ 16383) :
    (n.checkShade e k).checkEnd e = n.maxFld (R.IMG_SHD_MAX e) (n.entryCount e) := by
  unfold Mach.checkShade
  dsimp only
  rw [if_neg (by omega)]
  unfold Mach.checkEnd
  have : ((n.maxFld (R.IMG_SHD_MAX e) (n.entryCount e)).eng e) = n.eng e := by simp only [Mach.eng, Mach.maxFld_engs]
  simp [this, hp]

theorem insFlight_apply {f : Flight} (hf : ∀ s : Seg, s.apply f.w = s) (fs : List Flight) (s : Seg) :
    ((insFlight f fs).map (·.w)).foldl Seg.apply s = (fs.map (·.w)).foldl Seg.apply s := by
  induction fs generalizing s with
  | nil => simp [insFlight, hf]
  | cons g gs ih =>
    unfold insFlight
    split
    · simpa using ih (s.apply g.w)
    · simp [hf]

theorem Slot.ctxE {m : Mach} {e : Nat} {gd : Guard} {c : Ctx} (h : Slot m e gd c) : c.e = e := by rw [h.ctx]
theorem Slot.ctxEn {m : Mach} {e : Nat} {gd : Guard} {c : Ctx} (h : Slot m e gd c) : (atSlot m e).eng e = c.en := by rw [h.ctx]

theorem Slot.actEn {m : Mach} {e : Nat} {gd : Guard} {c : Ctx} (h : Slot m e gd c) : c.en.act = some (c.k, c.j) := by
  rw [← h.ctxEn, atSlot_act, h.act]

theorem advance_act (en : Eng) : en.advance.act = en.act := by
  unfold Eng.advance; split
  · rfl
  · split <;> rfl

theorem advance_flight (en : Eng) : en.advance.flight = en.flight := by
  unfold Eng.advance; split
  · rfl
  · split <;> rfl

/-- The frame's entries after an instruction that leaves the tasks alone and whose write is none of the frame's. -/
theorem Slot.entries {m n : Mach} {e : Nat} {gd : Guard} {c : Ctx} (h : Slot m e gd c) (ht : n.tasks = (atSlot m e).tasks)
    (ha : (n.eng e).act = c.en.act) (hf : ∀ s, ((n.eng e).flight.map (·.w)).foldl Seg.apply s = (c.en.flight.map (·.w)).foldl Seg.apply s) :
    n.entryCount e = (atSlot m e).entryCount e := by
  have hk : ∀ k, n.task k = (atSlot m e).task k := fun k => by simp [Mach.task, ht]
  unfold Mach.entryCount
  rw [ha, h.ctxEn, h.actEn]
  dsimp only
  rw [hk]
  split
  · rfl
  · rw [hf]

theorem engRegs_trans {a b c : Mach} (h : b = { a with engs := b.engs, regs := b.regs }) (k : c = { b with engs := c.engs, regs := c.regs }) :
    c = { a with engs := c.engs, regs := c.regs } := by
  rw [h] at k
  exact k

theorem maxFld_engRegs (n : Mach) (f : Fld) (v : Nat) : n.maxFld f v = { n with engs := (n.maxFld f v).engs, regs := (n.maxFld f v).regs } := rfl

/-- What the instruction's body leaves holds at its end too, but for IMG.SHDe. -/
theorem Slot.finish {m b n : Mach} {e : Nat} {gd : Guard} {c : Ctx} (_h : Slot m e gd c) (hpc : (n.eng e).pc ≤ 16383)
    (hr : n.entryCount e ≤ 2048) (ho : OnlyEngine b n e) :
    (((n.checkShade e c.k).checkEnd e).eng e = n.eng e) ∧ OnlyEngine b ((n.checkShade e c.k).checkEnd e) e := by
  rw [checks_calm hr hpc]
  have hq : ∀ i, (n.maxFld (R.IMG_SHD_MAX e) (n.entryCount e)).eng i = n.eng i := fun i => by simp only [Mach.eng, Mach.maxFld_engs]
  refine ⟨hq e, engRegs_trans ho.1 (maxFld_engRegs n _ _), fun i hi => (hq i).trans (ho.2.1 i hi), fun a ha => ?_⟩
  have h1 : (n.maxFld (R.IMG_SHD_MAX e) (n.entryCount e)).rget a = n.rget a := by
    simp only [List.mem_cons, List.not_mem_nil, or_false, not_or] at ha
    unfold Mach.maxFld; exact n.rget_setFld_ne _ _ ha.2.2
  exact h1.trans (ho.2.2 a ha)

theorem onlyEngine_base (m : Mach) (e : Nat) (gd : Guard) (c : Ctx) (st : Nat) (gs ps : List Nat) :
    OnlyEngine (atSlot m e) (issueBase m e gd c st gs ps) e := by
  refine ⟨?_, fun i hi => issueBase_engNe _ _ _ _ _ _ _ hi, fun a ha => ?_⟩
  · have := issueBase_same m e gd c st gs ps
    have h2 := congrArg Mach.engs this
    dsimp only at h2
    rw [h2]; exact this
  · simp only [List.mem_cons, List.not_mem_nil, or_false, not_or] at ha
    exact issueBase_rget _ _ _ _ _ _ _ ha.1 ha.2.1

theorem OnlyEngine.setEng {b n : Mach} {e : Nat} (h : OnlyEngine b n e) (x : Eng) : OnlyEngine b (n.setEng e x) e := by
  refine ⟨engRegs_trans h.1 rfl, fun i hi => ?_, fun a ha => ?_⟩
  · rw [Mach.eng_setEng_ne _ hi]; exact h.2.1 i hi
  · have : (n.setEng e x).rget a = n.rget a := Mach.rget_congr (Mach.setEng_regs _ _ _) a
    rw [this]; exact h.2.2 a ha

/-- Putting a list of writes in flight. -/
def Ctx.putAll (c : Ctx) (st : Nat) (ws : List Wr) (m : Mach) : Mach := ws.foldl (fun m w => c.put st w m) m

theorem putAll_eng (c : Ctx) (st : Nat) (ws : List Wr) (n : Mach) :
    (c.putAll st ws n).eng c.e = { n.eng c.e with flight := ws.foldl (fun fs w => insFlight ⟨c.i + st - 1, w⟩ fs) (n.eng c.e).flight } ∧
    (c.putAll st ws n).tasks = n.tasks ∧ (∀ b, OnlyEngine b n c.e → OnlyEngine b (c.putAll st ws n) c.e) := by
  induction ws generalizing n with
  | nil => exact ⟨rfl, rfl, fun _ h => h⟩
  | cons w ws ih =>
    obtain ⟨h1, h2, h3⟩ := ih (c.put st w n)
    have he : (c.put st w n).eng c.e = { n.eng c.e with flight := insFlight ⟨c.i + st - 1, w⟩ (n.eng c.e).flight } := by
      unfold Ctx.put; exact Mach.eng_setEng_same _ _ _
    refine ⟨?_, ?_, fun b hb => ?_⟩
    · show (c.putAll st ws (c.put st w n)).eng c.e = _
      rw [h1, he]; rfl
    · show (c.putAll st ws (c.put st w n)).tasks = _
      rw [h2]; rfl
    · exact h3 b (hb.setEng _)

theorem inFlight_apply (c : Ctx) (st : Nat) {ws : List Wr} (hw : ∀ w ∈ ws, ∀ s : Seg, s.apply w = s) (fs : List Flight) (s : Seg) :
    ((ws.foldl (fun fs w => insFlight ⟨c.i + st - 1, w⟩ fs) fs).map (·.w)).foldl Seg.apply s = (fs.map (·.w)).foldl Seg.apply s := by
  induction ws generalizing fs with
  | nil => rfl
  | cons w ws ih =>
    rw [List.foldl_cons, ih (fun x hx => hw x (List.mem_cons_of_mem _ hx))]
    exact insFlight_apply (f := ⟨c.i + st - 1, w⟩) (hw w (by simp)) _ _

/-- The entries of the frame with writes in flight, seen on the engine moved on. -/
theorem entries_room {m n : Mach} {c : Ctx} {st : Nat} {ws : List Wr} (ht : n.tasks = (atSlot m c.e).tasks)
    (he : n.eng c.e = { issued c st with flight := inFlight c st ws }) (hr : Room m c st ws) : n.entryCount c.e ≤ 2048 := by
  have hk : ∀ k, n.task k = (atSlot m c.e).task k := fun k => by simp [Mach.task, ht]
  have : n.entryCount c.e = ((atSlot m c.e).setEng c.e { c.en with flight := inFlight c st ws }).entryCount c.e := by
    have ha : (n.eng c.e).act = c.en.act := by rw [he]; exact advance_act _
    have hfl : (n.eng c.e).flight = inFlight c st ws := by rw [he]
    unfold Mach.entryCount
    rw [ha, hfl, Mach.eng_setEng_same]
    dsimp only
    cases c.en.act with
    | none => rfl
    | some x => dsimp only; rw [hk]; rfl
  rw [this]; exact hr

/-- A frame within its limit has room for writes that are none of the frame's. -/
theorem Slot.roomFor {m : Mach} {e : Nat} {gd : Guard} {c : Ctx} (h : Slot m e gd c) (st : Nat) {ws : List Wr}
    (hw : ∀ w ∈ ws, ∀ s : Seg, s.apply w = s) : Room m c st ws := by
  have hce := h.ctxE
  unfold Room
  rw [hce]
  have := h.entries (n := (atSlot m e).setEng e { c.en with flight := inFlight c st ws }) rfl (by rw [Mach.eng_setEng_same])
    (fun s => by rw [Mach.eng_setEng_same]; exact inFlight_apply c st hw _ s)
  rw [this]; exact h.room

/-- An instruction whose body puts writes in flight on a module that differs from the engine's moved-on module in nothing the frame counts. -/
theorem Slot.putsOn {m b n : Mach} {e : Nat} {gd : Guard} {c : Ctx} (h : Slot m e gd c) {st : Nat} {ws : List Wr}
    (hn : n.eng e = issued c st) (ht : n.tasks = (atSlot m e).tasks) (ho : OnlyEngine b n e) (hr : Room m c st ws) :
    Puts b (((c.putAll st ws n).checkShade e c.k).checkEnd e) c st ws := by
  have hce := h.ctxE
  subst hce
  obtain ⟨h1, h2, h3⟩ := putAll_eng c st ws n
  have h4 : (c.putAll st ws n).eng c.e = { issued c st with flight := inFlight c st ws } := by
    rw [h1, hn]; simp only [issued, inFlight, advance_flight]
  have := h.finish (b := b) (n := c.putAll st ws n) (by rw [h4]; exact h.inCode) (entries_room (by rw [h2, ht]) h4 hr) (h3 b ho)
  exact ⟨this.1.trans h4, this.2⟩

/-- An instruction without control flow whose body puts writes in flight, and does nothing else. -/
theorem Slot.puts {m : Mach} {e : Nat} {gd : Guard} {c : Ctx} (h : Slot m e gd c) (st : Nat) (gs ps : List Nat) (ws : List Wr) (hr : Room m c st ws)
    (body : Ctx → Mach → Mach) (hb : body c (issueBase m e gd c st gs ps) = c.putAll st ws (issueBase m e gd c st gs ps)) :
    Puts (atSlot m e) (m.issue e gd .none Option.none st gs ps body) c st ws := by
  rw [h.issue, hb]
  exact h.putsOn (issueBase_eng _ _ _ _ _ _ _) (by rw [issueBase_same]) (onlyEngine_base _ _ _ _ _ _ _) hr

/-- An instruction that writes one general register writes it, and nothing else (R87, R131). -/
theorem Slot.setsG {m : Mach} {e : Nat} {gd : Guard} {c : Ctx} (h : Slot m e gd c) (st : Nat) (gs ps : List Nat) (d : Fin 64) (v : Word)
    (body : Ctx → Mach → Mach) (hb : ∀ n, body c n = c.setG st d v n) :
    Puts (atSlot m e) (m.issue e gd .none Option.none st gs ps body) c st (gWrite d v) := by
  have hw : ∀ w ∈ gWrite d v, ∀ s : Seg, s.apply w = s := by
    intro w hw s
    unfold gWrite at hw
    split at hw
    · simp at hw
    · simp only [List.mem_singleton] at hw; subst hw; rfl
  refine h.puts st gs ps _ (h.roomFor st hw) body ?_
  rw [hb]
  unfold Ctx.setG gWrite
  have : ¬ 63 < d.val := by omega
  simp only [this, or_false]
  split <;> rfl

theorem Slot.compute {m : Mach} {e : Nat} {gd : Guard} {c : Ctx} (h : Slot m e gd c) (st : Nat) (gs ps : List Nat) (d : Fin 64) (val : Ctx → Word) :
    Puts (atSlot m e) (m.compute e gd st gs ps d val) c st (gWrite d (val c)) := h.setsG st gs ps d (val c) _ (fun _ => rfl)

/-- An instruction that writes one predicate writes it, and nothing else (R87, R135). -/
theorem Slot.predicate {m : Mach} {e : Nat} {gd : Guard} {c : Ctx} (h : Slot m e gd c) (f : FmtE) (gs ps : List Nat) (val : Ctx → Bool) :
    Puts (atSlot m e) (m.predicate e gd f gs ps val) c stX1 (pWrite f.pd (val c && c.p f.c.val)) := by
  have hw : ∀ w ∈ pWrite f.pd (val c && c.p f.c.val), ∀ s : Seg, s.apply w = s := by
    intro w hw s
    unfold pWrite at hw
    split at hw
    · simp at hw
    · simp only [List.mem_singleton] at hw; subst hw; rfl
  refine h.puts stX1 gs _ _ (h.roomFor stX1 hw) _ ?_
  unfold Ctx.setP pWrite
  split <;> rfl

end Sys2Proof.Machine
end

