-- ==== Sys2Proof/Laws/Uart.lean ====
section
/-!
SUPPORT. The frames of the UART (R539): what stands between the delimiters of a message's frame is that message again.
-/
namespace Sys2Proof.Machine
open Sys2Proof

/-- Stuffed bytes hold no delimiter and read back as they were. -/
theorem uartUnstuff_stuff (b : List Byte) : uartUnstuff false (uartStuff b) = some b := by
  induction b with
  | nil => rfl
  | cons x xs ih =>
    unfold uartStuff
    split
    · next h => rcases h with rfl | rfl <;> simp [uartUnstuff, ih]
    · next h =>
      obtain ⟨h1, h2⟩ := not_or.mp h
      rw [uartUnstuff, if_neg h2, if_neg h1, ih, Option.map_some]

@[simp] theorem leBytes_length (n v : Nat) : (leBytes n v).length = n := by
  induction n generalizing v with
  | zero => rfl
  | succ n ih => simp [leBytes, ih]

/-- The frame of a message of at most 1472 bytes holds that message. -/
theorem uartMessage_part (b : List Byte) (h : b.length ≤ 1472) : uartMessage (uartPart b) = some b := by
  simp [uartMessage, uartPart, uartUnstuff_stuff]
  omega

end Sys2Proof.Machine
end

