-- ==== Sys2Proof/Tests/Slice0.lean ====
section
/-!
SUPPORT. The model's own tests: an ill-formed command for each check of WellFormed, single steps against the manual's own figures, and for every statement a
witness of its hypotheses, clause by clause.
-/
set_option Elab.async false

namespace Sys2Proof.Tests
open Sys2Proof Sys2Proof.Machine

/-! ### Witnesses: the engines -/

/-- A snapshot of instant 1 ms without values. -/
def snap0 : Snap := ⟨1000000, 0, 0, 7, 0, 0, 100, 0, 0, 0, [], []⟩

/-- A scan of one running segment on engine 0. -/
def scan0 : Scan :=
  { id := 0, snap := snap0, segs := [⟨.running, 0, none, [], []⟩], rset := [], anchored := false, anchOrd := 0, started := 0, complete := false, heldAt := 0,
    deferredAt := none, waitFrom := 0 }

/-- Engine 0 in its scan, with boundary values of the spaces in its registers. -/
def eng0 : Eng :=
  { power := .lit, act := some (0, 0), pc := 5, slot := 3,
    g := [(1, 8191), (2, 4095), (3, 65535), (4, 262143), (5, 16383), (6, 0x7FFC), (7, 8160), (8, 4064), (9, 65504), (10, 0xFFFFFFFF), (11, 0x7F80), (12, 0x7BFC), (13, 2), (14, 257023)],
    ldata := [], p := [] }

/-- A module in RUN at 2 ms with engine 0 running segment 0 of task 0. -/
def engM (en : Eng) : Mach :=
  ((({ State.reset.m with st := .run, now := 2000000 }.setEng 0 en).setTask 0 { run := some scan0 }).setFld (R.ENG_SEG_STEPLIM 0 0) 10).setFld (R.ENG_CFG_PRESET 0) 1

def engS (en : Eng) : State := { m := engM en }

/-- What the next instruction sees. -/
def ctxOf (en : Eng) : Ctx := ⟨0, 0, 0, en.slot, ((atSlot (engM en) 0).eng 0).pc, (atSlot (engM en) 0).eng 0, scan0⟩

/-- Always true. -/
def gd0 : Guard := ⟨false, 0⟩

theorem wit_slot : Slot (engS eng0).m 0 gd0 (ctxOf eng0) :=
  { act := by decide +kernel, task := by decide, drain := by decide +kernel, calm := by decide +kernel, run := by decide +kernel, ctx := rfl, steps := by decide +kernel,
    guard := by decide +kernel, room := by decide +kernel, inCode := by decide +kernel }

/-- A false guard, for GuardFalseTakesItsSlotOnly. -/
theorem wit_slotFalse : Slot (engS eng0).m 0 { (⟨true, 0⟩ : Guard) with neg := false } (ctxOf eng0) := wit_slot

/-- ResultsBecomeVisibleAtTheirDistance: flights of each kind. -/
theorem wit_flights :
    (let fs : List Flight := []
     (∀ x ∈ fs, ∀ u, x.w ≠ .g 63 u) ∧ (∀ x ∈ fs, ∀ u, x.w ≠ .p 1 u) ∧ (∀ x ∈ fs, ∀ u, x.w ≠ .link u) ∧ (∀ x ∈ fs, ∀ u, x.w ≠ .loop u) ∧
     { ctxOf eng0 with en := { eng0 with flight := insFlight ⟨5, .g 63 1⟩ (insFlight ⟨4, .g 63 2⟩ fs) } }.en.flight = insFlight ⟨5, .g 63 1⟩ (insFlight ⟨4, .g 63 2⟩ fs) ∧
     ((engM { eng0 with flight := insFlight ⟨3 + 4 - 1, .p 1 true⟩ fs }).eng 0).flight = insFlight ⟨3 + 4 - 1, .p 1 true⟩ fs ∧
     ((engM { eng0 with flight := insFlight ⟨3 + 3 - 1, .link 9⟩ fs }).eng 0).flight = insFlight ⟨3 + 3 - 1, .link 9⟩ fs ∧
     ((engM { eng0 with flight := insFlight ⟨3 + 3 - 1, .loop 9⟩ fs }).eng 0).flight = insFlight ⟨3 + 3 - 1, .loop 9⟩ fs) := by
  refine ⟨by simp, by simp, by simp, by simp, rfl, ?_, ?_, ?_⟩ <;> decide +kernel

/-- LocalLoadsAndStores: the last address of each width, and the last below the preset area. -/
theorem wit_local :
    let c := ctxOf eng0
    let a := fun (f : FmtD) (n : Nat) => ((c.g f.a).toNat + f.off.toNat * n) % 2 ^ 32
    (a ⟨1, 6, 3⟩ 1 + 1 = 0x8000) ∧ (2 ∣ a ⟨1, 6, 1⟩ 2 ∧ a ⟨1, 6, 1⟩ 2 + 2 = 0x8000) ∧ (4 ∣ a ⟨1, 6, 0⟩ 4 ∧ a ⟨1, 6, 0⟩ 4 + 4 = 0x8000) ∧
    a ⟨1, 12, 3⟩ 1 + 1 = (atSlot (engS eng0).m 0).presetBase 0 ∧ a ⟨1, 12, 1⟩ 2 + 2 = (atSlot (engS eng0).m 0).presetBase 0 ∧
    a ⟨1, 12, 0⟩ 4 + 4 = (atSlot (engS eng0).m 0).presetBase 0 := by decide +kernel

/-- ImageLoadsAndStores: the last index of each space, with room for the entries. -/
theorem wit_image :
    let c := ctxOf eng0
    let i := fun (f : FmtD) => ((c.g f.a).toNat + f.off.toNat) % 2 ^ 32
    i ⟨1, 1, 0⟩ = 8191 ∧ i ⟨1, 2, 0⟩ = 4095 ∧ i ⟨1, 3, 0⟩ = 65535 ∧ i ⟨1, 4, 0⟩ = 262143 ∧ i ⟨61, 7, 0⟩ + 31 = 8191 ∧ i ⟨62, 8, 0⟩ + 31 = 4095 ∧ i ⟨62, 9, 0⟩ + 31 = 65535 ∧
    Room (engS eng0).m c 6 [.shade (ikey spQ 4095) 0] ∧ Room (engS eng0).m c 6 ((List.range 32).map (fun k => .shade (ikey spM (65504 + k)) 1)) := by
  refine ⟨?_, ?_, ?_, ?_, ?_, ?_, ?_, ?_, ?_⟩ <;> first | decide +kernel | (unfold Room; decide +kernel)

/-- GathersAndScatters: a descriptor of 32 empty lanes, and one whose first lane is enabled. -/
theorem wit_gather :
    ((ctxOf eng0).descriptor (atSlot (engS eng0).m 0) (((ctxOf eng0).g 11).toNat + 0 * 128)).isSome = true ∧
    Room (engS eng0).m (ctxOf eng0) 6 [] := by refine ⟨?_, ?_⟩ <;> first | decide +kernel | (unfold Room; decide +kernel)

/-- ReadsFollowTheirSources: each source in turn. -/
theorem wit_sources :
    let c := ctxOf eng0
    let m := engM eng0
    let own := { c with sc := { scan0 with segs := [⟨.running, 0, none, [(ikey spM 1, some 1)], []⟩] } }
    let mOwn := m.setTask 0 { run := some own.sc }
    let mHeld := m.setTask 0 { run := some scan0, held := some own.sc }
    own.own mOwn (ikey spM 1) = some 1 ∧ c.own m (ikey spM 1) = none ∧ c.pred mHeld (ikey spM 1) = some 1 ∧ c.own mHeld (ikey spM 1) = none ∧ c.pred m (ikey spM 1) = none ∧
    m.liveEntry (ikey spM 1) = none := by decide +kernel

/-- TimerInstructions and CounterAndEdgeInstructions: the last cells, with room for their entries. -/
theorem wit_cells :
    let c := ctxOf eng0
    let i := fun (a : Fin 64) => ((c.g a).toNat + (0 : BitVec 8).toNat) % 2 ^ 32
    i 1 = 8191 ∧ i 2 = 4095 ∧ i 5 = 16383 ∧ Room (engS eng0).m c 6 [.shade (ikey spT 8191) 1] ∧ Room (engS eng0).m c 6 [] ∧
    Room (engS eng0).m c 6 [.shade (ikey spC 4092) 1, .shade (ikey spC 4093) 1, .shade (ikey spC 4094) 1, .shade (ikey spC 4095) 1] := by
  refine ⟨?_, ?_, ?_, ?_, ?_, ?_⟩ <;> first | decide +kernel | (unfold Room; decide +kernel)

/-- TimerTable: every state of every kind is a cell of its kind. -/
theorem wit_timerKinds : ∀ k : Fin 6, ∀ st : Fin 5, ({ kind := k.val, state := st.val, start := 5, preset := 7, flags := 0, owner := 0 } : TCell).kind = k.val ∧
    ({ kind := k.val, state := st.val, start := 5, preset := 7, flags := 0, owner := 0 } : TCell).state = st.val := by decide

/-- Branches: outside a delay slot, with code behind it; MovesAndSystemAccess: HALT, and room for a deferred action. -/
theorem wit_control :
    let c := ctxOf eng0
    c.en.ds = 0 ∧ c.pc < 16381 ∧ Room (engS eng0).m c 6 [.act (.wdck 0)] ∧ Room (engS eng0).m c 6 [.act (.mvrq 15 16383)] := by
  refine ⟨?_, ?_, ?_, ?_⟩ <;> first | decide +kernel | (unfold Room; decide +kernel)

/-- EngineFaultsAreRecorded: an entry that is not valid, accesses beyond their limits, a CALL at the end of the code, a branch in a delay slot. -/
theorem wit_faults :
    let c := ctxOf eng0
    let last := { eng0 with pc := 16381 }
    let slot := { eng0 with ds := 1, tgt := none }
    c.pc < 2 ^ 14 ∧ c.j < 8 ∧ ((engS eng0).m.custEntry 0).valid = false ∧ ¬ ((c.g 6).toNat + 1 * 4 + 4 ≤ 0x8000) ∧ ¬ ((c.g 13).toNat % 4 = 0) ∧
    65535 < ((c.g 3).toNat + (1 : BitVec 8).toNat) % 2 ^ 32 ∧ 16381 ≤ (ctxOf last).pc ∧ (ctxOf last).en.ds = 0 ∧ (ctxOf slot).en.ds ≠ 0 := by
  refine ⟨?_, ?_, ?_, ?_, ?_, ?_, ?_, ?_, ?_⟩ <;> decide +kernel

/-- A fault of a custom instruction that is still to come leaves the slot as it is; words of engine 1's bank that are not given. -/
theorem wit_fetch : (engM eng0).bankWord 1 ((engM eng0).eng 1).pc = 0xFFFFFFFF ∧ (Instr.swrPerfctl 3 ⟨true, 15⟩ ⟨63, 0x3FFF⟩).wf = true ∧
    (encodeWord (.swrPerfctl 3 ⟨true, 15⟩ ⟨63, 0x3FFF⟩)).isSome = true ∧ (Instr.reservedOpcode 0 gd0 0x7FFFFFF).wf = true := by decide +kernel

theorem wit_slotLast : Slot (engS { eng0 with pc := 16381 }).m 0 gd0 (ctxOf { eng0 with pc := 16381 }) :=
  { act := by decide +kernel, task := by decide, drain := by decide +kernel, calm := by decide +kernel, run := by decide +kernel, ctx := rfl, steps := by decide +kernel,
    guard := by decide +kernel, room := by decide +kernel, inCode := by decide +kernel }

theorem wit_slotDelay : Slot (engS { eng0 with ds := 1 }).m 0 gd0 (ctxOf { eng0 with ds := 1 }) :=
  { act := by decide +kernel, task := by decide, drain := by decide +kernel, calm := by decide +kernel, run := by decide +kernel, ctx := rfl, steps := by decide +kernel,
    guard := by decide +kernel, room := by decide +kernel, inCode := by decide +kernel }

/-- CustomInstructions: entry 0 is valid, of format E, with one micro-operation (NOP). -/
def custM : Mach := { engM eng0 with decode := [(0, 0x80), (2, 1), (3, 1), (4, 1)] }

theorem wit_custom :
    let x := custM.custEntry 0
    let M := issueBase custM 0 gd0 (ctxOf eng0) (3 + x.dist) (x.readsG 0) (x.readsP 0)
    let u := CustRun.sequence (ctxOf eng0) (x.args (ctxOf eng0) 0) x.uops 0 { m := M }
    x.valid = true ∧ u.fault = none ∧ (u.m.setEng 0 (issued (ctxOf eng0) (3 + x.dist))).entryCount 0 ≤ 2048 := by decide +kernel

/-! ### Witnesses: tasks, snapshots and scans -/

/-- A state around a module. -/
def st (m : Mach) : State := { m := m }

/-- A module in RUN at 2 ms that holds the token, task 31 enabled with one segment on engine 0 and its next boundary at 2 ms. -/
def runM : Mach :=
  ((((({ State.reset.m with st := .run, now := 2000000 }.setFlag R.PRT_STAT_TOKEN true).setFld R.PRT_STAT_ROLE 1).setFlag (R.TSK_CFG_EN 31) true).setFld
    (R.TSK_SEGCFG_SEGCNT 31) 1).setFld (R.TSK_PERIOD_PERIOD 31) 1).setFld64 (R.TSK_NBND_LO 31) 2000000

theorem wit_boundary :
    let s1 := st runM
    let s2 := st (runM.setTask 31 { anyTaken := true, served := false, lastTaken := 1000000 })
    let due := fun (m : Mach) => m.st = .run ∧ m.taskOn 31 = true ∧ m.fld64 (R.TSK_NBND_LO 31) ≤ m.now
    let own := fun (m : Mach) => m.hasToken = true ∧ m.following = false ∧ m.pair.yielding = none ∧ m.olcOpen = false
    (due (arrive 2000000 s1) ∧ own (arrive 2000000 s1) ∧ ((arrive 2000000 s1).task 31).anyTaken = false ∧ ((arrive 2000000 s1).task 31).run = none) ∧
    (due (arrive 2000000 s2) ∧ own (arrive 2000000 s2) ∧ ((arrive 2000000 s2).task 31).anyTaken = true ∧ ((arrive 2000000 s2).task 31).served = false) := by decide +kernel

/-- QuadsAndLight: a boundary exactly 26.1 µs and exactly 1.1 µs ahead, the last quad asked for, idle, and powering down. -/
theorem wit_quads :
    let m1 := arrive 2000000 (st (runM.setFld64 (R.TSK_NBND_LO 31) 2026100))
    let m2 := arrive 2000000 (st (runM.setQuad 3 { req := true }))
    let m3 := arrive 2000000 (st (runM.setQuad 3 { on := true }))
    let m4 := arrive 2000000 (st (runM.setQuad 3 { down := true }))
    let m5 := arrive 2000000 (st ((runM.setFld64 (R.TSK_NBND_LO 31) 2001100).setEng 0 { power := .dim }))
    (m1.st = .run ∧ m1.taskOn 31 = true ∧ m1.fld64 (R.TSK_NBND_LO 31) ≤ m1.now + 26100 ∧ ∃ e ∈ m1.firstEngines 31, (m1.eng e).power = .dark) ∧
    ((m2.quad 3).req = true ∧ (m2.quad 3).down = false ∧ m2.alive = true) ∧ m3.quadIdle 3 = true ∧ (m4.quad 3).down = true ∧
    (m5.st = .run ∧ m5.taskOn 31 = true ∧ m5.fld64 (R.TSK_NBND_LO 31) ≤ m5.now + 1100 ∧ 0 ∈ m5.firstEngines 31 ∧ (m5.eng 0).act = none ∧ (m5.eng 0).power = .dim) := by
  decide +kernel

/-- A scan of one segment that waits for engine 0 and is ready. -/
def scanW : Scan := { scan0 with segs := [⟨.waiting, 0, some 2000000, [], []⟩] }

theorem wit_segments :
    let m1 := arrive 2000000 (st ((runM.setEng 0 { power := .lit }).setTask 31 { snap := some scanW }))
    let m2 := arrive 2000000 (st ((runM.setEng 0 { power := .lit, act := some (31, 0), drain := true }).setTask 31 { run := some scan0 }))
    (m1.st = .run ∧ (m1.eng 0).power = .lit ∧ (m1.eng 0).act = none ∧ (m1.eng 0).freeAt ≤ m1.now ∧ m1.framesUsed 0 < 3 ∧ m1.nextSeg 0 = some (31, 0) ∧
      (m1.task 31).run = none ∧ (m1.task 31).snap = some scanW ∧ 0 < scanW.segs.length) ∧
    ((m2.eng 0).act = some (31, 0) ∧ (m2.eng 0).drain = true ∧ (m2.eng 0).flt = none ∧ (m2.task 31).run = some scan0 ∧ 0 < scan0.segs.length) ∧
    (0x13 : Fin 64).val ∈ [1, 2, 3, 4, 5, 6, 7, 8, 9, 0x10, 0x11, 0x12, 0x13] := by decide +kernel

/-- A HELD scan. -/
def scanH : Scan := { scan0 with segs := [⟨.halted, 0, none, [(ikey spM 1, some 1)], []⟩], complete := true, heldAt := 1500000 }

/-- An application of task 31 that ends at 2 ms. -/
def app0 : App :=
  { task := 31, scan := 0, csn := 2 ^ 48 - 1, prev := 2 ^ 48 - 2, snapTime := 1000000, startAt := 1999898, doneAt := 2000000, entries := [(ikey spM 1, 1)], qchg := [], digest := 5,
    victims := [(31, 0, 0, 0)], deferred := [.mvrq 15 0], anchored := false, snapNo := 0 }

theorem wit_applications :
    let m1 := arrive 2000000 (st (runM.setTask 31 { held := some scanH }))
    let m2 := arrive 2000000 (st ({ runM with cu := { runM.cu with app := some app0 } }.setTask 31 { held := some scanH, inCommit := true }))
    (m1.st = .run ∧ m1.hasToken = true ∧ m1.cu.app = none ∧ m1.cu.nextStart ≤ m1.now ∧ m1.olc.mapped = false ∧ m1.nextHeld = some (31, scanH)) ∧
    (m2.cu.app = some app0 ∧ app0.doneAt ≤ m2.now ∧ app0.task < 32 ∧ (∀ v ∈ app0.victims, v.1 < 32) ∧ (app0.entries.map (·.1)).Nodup ∧
      (∀ x ∈ app0.entries, keySp x.1 ≠ spPrimed) ∧ ∀ c ∈ [15], c < 16) := by decide +kernel

/-- The deferred actions of app0 stay on their channels. -/
theorem wit_applicationChannels : ∀ c i, Deferred.mvrq c i ∈ app0.deferred → c < 16 := by
  intro c i h
  have h' := List.mem_singleton.mp h
  cases h'
  decide

theorem wit_expiries :
    let ch : Change := { pts := [{ idx := 8191, v := true, q := 0, stamp := 5 }], heldAt := 1000000 }
    let m1 := arrive 2000000 (st { runM with exp := [(8191, some 2000000), (8190, some 2000001)] })
    let m2 := arrive 2000000 (st { runM with ev := { runM.ev with held := [ch] } })
    let m3 := arrive 20000000000 (st { runM with ev := { runM.ev with lastHold := some 10000000000 }, faults := [(0x3013, 0, 1)] })
    (m1.st = .run ∧ m1.hasToken = true ∧ m1.cu.app = none) ∧ (m2.ev.held = [ch] ∧ m2.shareBits + m2.changeBits ch ≤ 2 ^ 21) ∧
    (m3.ev.lastHold = some 10000000000 ∧ 10000000000 + 10000000000 ≤ m3.now ∧ m3.ev.held = [] ∧ (0x3013, 0, 1) ∈ m3.faults) := by decide +kernel

/-! ### Witnesses: events -/

/-- A point from invalid to good and true, and one GOOSE word. -/
def change0 : Change := { pts := [{ idx := 8191, v := true, q := 0, stamp := 5 }], words := [(262143, 7)], wordsAt := 5 }

/-- A FIFO of n entries that are alike. -/
def fifoM (n lost : Nat) : Mach :=
  let m := State.reset.m
  { m with ev := { m.ev with fifo := List.replicate n ⟨0, 0, 1, 0, 0⟩, fifoLost := lost } }

theorem wit_events :
    (let m := State.reset.m; m.following = false ∧ m.ev.held = [] ∧ m.shareBits + m.changeBits change0 ≤ 2 ^ 21 ∧ (change0.pts.map (·.idx)).Nodup ∧
      (change0.words.map (·.1)).Nodup) ∧
    ({ State.reset.m with pair := { State.reset.m.pair with syncing := true } }).following = true ∧
    (fifoM 4094 3).following = false ∧ (fifoM 4094 3).ev.fifo.length < 4095 ∧ 4095 ≤ (fifoM 4095 0).ev.fifo.length ∧
    ((runM.setFld R.PRT_STAT_ROLE 0).role = 0 ∧ (runM.setFld R.PRT_STAT_ROLE 0).st = .run ∧
      (0x3206, 0, 2) ∈ { runM with faults := [(0x3206, 0, 2)] }.faults ∧ ((0x3206, 0, 2) : Nat × Nat × Nat) ≠ (0x3013, 0, 1)) ∧
    (let m := runM.setTask 31 { run := some scan0, snap := some scanW }
     (m.task 31).run = some scan0 ∧ m.following = false ∧ ∃ g ∈ scan0.segs, g.st = .running) := by decide +kernel

/-! ### Witnesses: the bay buses -/

/-- The token holder in RUN with bus 1 error-active and configured, every receive buffer taking all identifiers, at 10 ms. -/
def bayM : Mach :=
  ((({ runM with now := 10000000 }.setFld (R.BB_STAT_STATE 1) 1).setFlag (R.BB_CFG_CONF 1) true).setFld (R.BB_TIMING_RFPER 1) 1).setFlag (R.BB_RXBUF_FILT_EN 1 63) true

/-- The module of bayM with station 16 of bus 1 in a state. -/
def staM (state : Nat) (x : Station) : Mach := (bayM.setFld (R.BB_STA_STAT_STATE 1 15) state).setSta 1 16 { x with conf := true }

theorem wit_bayTransmission :
    let on := fun (m : Mach) => m.fld (R.BB_STAT_STATE 1) = 1 ∨ m.fld (R.BB_STAT_STATE 1) = 2
    let a := arrive 10000000 (st bayM)
    let frame := arrive 10000000 (st (bayM.setBay 1 { bus := some 31, offPend := true }))
    let asked := arrive 10000000 (st (bayM.setFlag (R.BB_TXBUF_CTRL_REQ 1 31) true))
    let busy := arrive 10000000 (st ((bayM.setFlag (R.BB_TXBUF_CTRL_REQ 1 31) true).setBay 1 { bus := some 31 }))
    let sync := arrive 10000000 (st (bayM.setBay 1 { sync := some (65535, 9999000) }))
    let refr := arrive 10937500 (st (staM ssOnline {}))
    let foll := arrive 10000000 (st ((bayM.setFlag R.PRT_STAT_TOKEN false).setFlag R.PRT_CFG_PAIRED true))
    (a.alive = true ∧ (a.bay 1).offPend = false ∧ (a.bay 1).bus = none) ∧ ((frame.bay 1).offPend = true ∧ (frame.bay 1).bus = some 31) ∧
    (asked.flag (R.BB_TXBUF_CTRL_REQ 1 31) = true ∧ (asked.bay 1).bus = none ∧ (asked.bay 1).txq = []) ∧
    (busy.flag (R.BB_TXBUF_CTRL_REQ 1 31) = true ∧ (busy.bay 1).bus = some 31) ∧
    (on a ∧ a.holderRun = true ∧ a.flag (R.BB_CFG_CONF 1) = true ∧ a.now % 10000000 = 0) ∧ (on sync ∧ (sync.bay 1).sync = some (65535, 9999000)) ∧
    (on refr ∧ refr.sendsOutputs = true ∧ refr.staSends 1 16 = true ∧ 0 < refr.fld (R.BB_TIMING_RFPER 1) ∧
      refr.now % (refr.fld (R.BB_TIMING_RFPER 1) * 1000000) = 15 * (refr.fld (R.BB_TIMING_RFPER 1) * 62500) ∧ refr.txHas 1 (idOutu 16 refr.side) = false) ∧
    (foll.st = .run ∧ foll.flag R.PRT_CFG_PAIRED = true ∧ foll.hasToken = false ∧ foll.pair.hbSent = none ∧ on foll ∧ foll.flag (R.BB_CFG_CONF 1) = true) := by
  decide +kernel

theorem wit_bayErrors :
    let on := fun (m : Mach) => m.fld (R.BB_STAT_STATE 1) = 1 ∨ m.fld (R.BB_STAT_STATE 1) = 2
    let a := arrive 10000000 (st (bayM.setFld (R.BB_ECR_REC 1) 127))
    let off := arrive 10000000 (st (bayM.setFld (R.BB_STAT_STATE 1) 3))
    let boff := arrive 10000000 (st ((staM ssOnline { heard := some 9000000 }).setBay 1 { bus := some 31, cancel := true }))
    on a ∧ a.fld (R.BB_ECR_REC 1) = 127 ∧ off.fld (R.BB_STAT_STATE 1) = 3 ∧ on boff ∧ (boff.bay 1).bus = some 31 ∧ (boff.bay 1).cancel = true ∧ (boff.bay 1).txq = [] ∧ boff.onBus 1 16 = true ∧
    canBad 0x190 [0, 16] = true ∧ a.ownId 0x010 = true := by decide +kernel

/-- An EVT frame of station 16 with one record of input 63, and other frames of it. -/
def evtData : List Byte := [1, 16, 1, 0] ++ leBytes 8 9000000 ++ leBytes 2 1 ++ [63, 1]
def stsData : List Byte := [1, 16] ++ leBytes 46 0
def svcData (cmd status : Nat) : List Byte := leBytes 1 cmd ++ [16, 7] ++ leBytes 1 status ++ leBytes 60 0

/-- A frame of station 16 that a receive buffer takes. -/
def fit (m : Mach) (id : Nat) (d : List Byte) : Bool :=
  m.bayOn 1 && m.bayRuns && !canBad id d && (m.sta 1 16).conf && m.staState 1 16 != ssIsolated && (m.rxBuf 1 id).isSome

theorem wit_stationFrames :
    let on := arrive 10000000 (st (staM ssOnline { seqFixed := true, written := true }))
    let abs := arrive 10000000 (st (staM ssAbsent {}))
    let syn := arrive 10000000 (st (staM ssSync {}))
    let foll := arrive 10000000 (st ((staM ssAbsent {}).setFlag R.PRT_STAT_TOKEN false))
    let ex := fun k => arrive 10000000 (st (staM (if k = 0 then ssIdent else if k = 2 then ssConfig else ssImage) { exch := some ⟨k, 7, 0, 1, [], []⟩ }))
    let img := arrive 10000000 (st (staM ssImage { exch := some ⟨3, 7, 0, 1, [], []⟩ }))
    let full := arrive 10000000 (st (bayM.setFlag (R.BB_RXBUF_CTRL_NEWDAT 1 63) true))
    let hb := arrive 10000000 (st (((bayM.setFlag R.PRT_STAT_TOKEN false).setFlag R.PRT_CFG_PAIRED true).setFld R.PRT_STAT_SIDE 1))
    (fit on 0x090 evtData ∧ (on.sta 1 16).seqFixed = true ∧ (on.sta 1 16).written = true ∧ byteAt evtData 2 = 1 ∧ byteAt evtData 14 ≤ 63 ∧
      eseqLater (fieldAt evtData 12 2) (on.fld (R.BB_STA_ESEQ_LAST 1 15)) = true) ∧
    (fit abs 0x190 stsData ∧ abs.holderRun = true ∧ abs.staState 1 16 = ssAbsent ∧ (abs.sta 1 16).retryAt = none) ∧
    (fit syn 0x190 stsData ∧ syn.staState 1 16 = ssSync ∧ (byteAt stsData 0).testBit 0 = true) ∧
    (fit img 0x190 stsData ∧ img.holderRun = true ∧ img.staState 1 16 = ssImage ∧ fieldAt stsData 28 6 = (img.sta 1 16).image) ∧
    (full.partnerId 0x011 = true ∧ canClass 0x011 ≠ .hb (1 - full.side) ∧ full.rxBuf 1 0x011 = some 63 ∧ full.flag (R.BB_RXBUF_CTRL_NEWDAT 1 63) = true) ∧
    (fit foll 0x190 stsData ∧ foll.holderRun = false) ∧
    (∀ k ∈ [0, 2, 4], fit (ex k) 0x21F (svcData 0x81 0) ∧ (ex k).holderRun = true ∧ ((ex k).sta 1 16).exch.isSome = true) ∧
    byteAt (svcData 0x83 2) 2 = 7 ∧ byteAt (svcData 0x83 2) 0 = 0x83 ∧ byteAt (svcData 0x83 2) 3 = 2 ∧
    (0x7F0 + (1 - hb.side) = 0x7F0 ∧ hb.side ≤ 1 ∧ canBad 0x7F0 (leBytes 16 0) = false ∧ hb.rxBuf 1 0x7F0 ≠ none ∧ hb.linkOn = true) := by
  decide +kernel

theorem wit_stationLife :
    let e : Exch := ⟨1, 7, 0, 3, [], []⟩
    let ex := arrive 20000000 (st (staM ssConfig { exch := some e }))
    let syn := arrive 1000000000 (st (staM ssSync {}))
    let live := arrive 10000000 (st (staM ssOnline { heard := some 10000000, viol := List.replicate 16 9000001 }))
    let isol := arrive 10000000000 (st (staM ssIsolated {}))
    let rt := arrive 10000000000 (st (staM ssAbsent { retryAt := some 10000000000 }))
    ((ex.sta 1 16).exch = some e ∧ ex.holderRun = true ∧ e.since + 20000000 ≤ ex.now ∧ 3 ≤ e.n) ∧
    (syn.holderRun = true ∧ syn.staState 1 16 = ssSync ∧ (syn.sta 1 16).since + 1000000000 ≤ syn.now) ∧
    ((live.sta 1 16).heard = some 10000000 ∧ live.staState 1 16 = ssOnline ∧ 10000000 + live.fld (R.BB_TIMING_TDROP 1) * 1000000 ≤ live.now ∧
      16 ≤ ((live.sta 1 16).viol.filter (fun u => decide (live.now < u + 1000000000))).length) ∧
    (isol.staState 1 16 = ssIsolated ∧ (isol.sta 1 16).since + 10000000000 ≤ isol.now) ∧
    ((rt.sta 1 16).retryAt = some 10000000000 ∧ 10000000000 ≤ rt.now) := by decide +kernel

/-! ### Witnesses: field inputs and outputs -/

/-- A module in STOP at 10 ms. -/
def stopM : Mach := { State.reset.m with st := .stop, now := 10000000 }

theorem wit_fieldInputs :
    let a := arrive 10000000 (st ((stopM.setFlag (R.FIO_DIG_STAT_OK 3) true).setFld (R.EVU_DI_CFG_FILTER 63) 255))
    let ch := arrive 10000000 (st ((stopM.setPt 4223 { v := true, q := 0, sv := true, sq := 0, chEn := true, chPrf := 3, blocked := true }).setFld (R.EVU_CHPRF_A_N 3) 1))
    let wb := fun (cls decl : Nat) => arrive 10000000 (st ((stopM.setFlag (diBit R.FIO_WBEN_LO 63) true).setDi 63 { cls := cls, run := 20, decl := decl }))
    (a.alive = true ∧ a.now % 100 = 0 ∧ ([((63 : Fin 64), 9745000)].map (·.1)).Nodup ∧ a.flag (R.FIO_DIG_STAT_OK 3) = true ∧ 9745000 ≤ a.now - a.diTime 63) ∧
    (ch.alive = true ∧ ch.chatter 4223 = some (1, 0, 0) ∧ (ch.pt 4223).blocked = true ∧ (ch.pt 4223).lastAcc + 0 ≤ ch.now) ∧
    ((wb 1 1).alive = true ∧ (wb 1 1).flag (diBit R.FIO_WBEN_LO 63) = true ∧ 20 ≤ ((wb 1 1).di 63).run ∧ ((wb 1 1).di 63).cls = 1 ∧ ((wb 1 1).di 63).decl ≠ 2 ∧
      ((wb 2 2).di 63).cls = 2 ∧ ((wb 2 2).di 63).decl ≠ 1) ∧
    (arrive 10000000 (st stopM)).flag (R.FIO_DIG_STAT_OK 3) = false ∧ (arrive 10000000 (st stopM)).faultOn (0x31C4 + 3) = false := by decide +kernel

/-- The field side of a module in RUN, with some of its bits. -/
def fioM (cmd sw clamp : BitVec 32) : Mach := { runM.setFlag R.PWR_STAT_VSUP_OK true with now := 10000000, fio := { runM.fio with cmd := cmd, sw := sw, clamp := clamp } }

theorem wit_fieldSwitches :
    let a := arrive 10000000 (st (fioM 0x80000000 0 0))
    let off := arrive 10000000 (st (fioM 0 0x80000000 0))
    let cl := arrive 10000000 (st (fioM 0 0 0x80000000))
    (a.alive = true ∧ 9998000 + 2000 ≤ a.now) ∧ (a.fio.cmd.getLsbD 31 ≠ a.fio.sw.getLsbD 31 ∧ a.fio.clamp.getLsbD 31 = false) ∧
    (off.fio.cmd.getLsbD 31 ≠ off.fio.sw.getLsbD 31 ∧ off.fio.clamp.getLsbD 31 = false) ∧
    (cl.fio.clamp.getLsbD 31 = true ∧ sget 0 cl.fio.clampAt 31 + 2000000 ≤ cl.now) ∧ a.hcMay = true ∧ a.fio.hcAt + 10000000 ≤ a.now := by decide +kernel

theorem wit_fieldSupervision :
    let cfg := fun (m : Mach) => arrive 10000000 (st ((m.setFlag (R.FIO_DO_CFG_OWON 31) true).setFlag (R.FIO_DO_CFG_OWOFF 31) true))
    let on := cfg (fioM 0x80000000 0x80000000 0)
    let off := cfg (fioM 0 0 0)
    let shown := (((stopM.setFlag (R.FIO_DO_STAT_OPENON 31) true).setFlag (R.FIO_DO_STAT_OPENOFF 31) true).setFlag (R.FIO_DO_STAT_OVL 31) true).setFlag
      (R.FIO_DO_STAT_OTMP 31) true
    let shown := arrive 10000000 (st ((shown.setFlag (R.FIO_DOG_STAT_GTRIP 1) true).setFlag (R.FIO_DOG_STAT_VFLDOK 1) true))
    (on.alive = true ∧ on.fio.sw.getLsbD 31 = true ∧ on.flag (R.FIO_DO_STAT_OVL 31) = false ∧ on.flag (R.FIO_DO_STAT_OTMP 31) = false ∧
      on.flag (R.FIO_DO_CFG_OWON 31) = true ∧ on.flag (R.FIO_DO_STAT_OPENON 31) = false ∧ on.fio.cmd.getLsbD 31 = true ∧ on.fio.clamp.getLsbD 31 = false ∧
      on.flag (R.FIO_DO_STAT_RB 31) = false ∧ on.flag (R.FIO_DO_STAT_RBERR 31) = false ∧ sget 0 on.fio.onAt 31 + 100000 ≤ on.now) ∧
    (off.fio.sw.getLsbD 31 = false ∧ off.fio.clamp.getLsbD 31 = false ∧ off.flag (R.FIO_DO_STAT_RB 31) = false ∧ off.flag (R.FIO_DO_CFG_OWOFF 31) = true ∧
      off.flag (R.FIO_DO_STAT_OPENOFF 31) = false) ∧
    (let fed := arrive 10000000 (st ((fioM 0 0 0).setFlag (R.FIO_DO_STAT_RB 31) true))
     fed.st = .run ∧ fed.role ≤ 1 ∧ fed.fio.sw.getLsbD 31 = false ∧ fed.flag (R.FIO_DO_STAT_RB 31) = true ∧ fed.flag (R.FIO_DO_STAT_RBFEED 31) = false) ∧
    (shown.alive = true ∧ shown.flag (R.FIO_DO_STAT_OPENON 31) = true ∧ shown.flag (R.FIO_DO_STAT_OPENOFF 31) = true ∧ shown.flag (R.FIO_DO_STAT_OVL 31) = true ∧
      shown.flag (R.FIO_DO_STAT_OTMP 31) = true ∧ shown.flag (R.FIO_DOG_STAT_GTRIP 1) = true ∧ shown.flag (R.FIO_DOG_STAT_VFLDOK 1) = true) ∧
    (off.flag (R.FIO_DOG_STAT_GTRIP 1) = false ∧ off.faultOn (0x31C2 + 1) = false) := by decide +kernel

/-! ### Witnesses: power, resets, start -/

theorem wit_resets :
    (arrive 0 (st { State.reset.m with st := .off })).st = .off ∧
    (let m := arrive 10000000 (st { stopM with sup := { stopM.sup with due := some (7, 10000000) } }); m.sup.due = some (7, 10000000) ∧ m.now = 10000000 ∧ m.st ≠ .off) ∧
    (let m := arrive 0 (st State.reset.m); m.sup.due = none ∧ m.st = .boot) ∧
    ¬ (0x50008 = 0x50004) ∧ regReset (R.IMG_CSN_LO).addr = 0 := by decide +kernel

theorem wit_power :
    let a := arrive 10000000 (st stopM)
    let held := arrive 10000000 (st ((stopM.setFlag R.PWR_STAT_HOLDUP_OK true)))
    let w := fun t => arrive t (st { stopM with warn := some (4900000, true) })
    let sv := arrive 10000000 (st { stopM with st := .save })
    let f := arrive 10000000 (st { stopM with st := .fault, warn := some (9000000, false) })
    (a.st ≠ .off ∧ a.st ≠ .save ∧ a.warn = none ∧ a.st = .stop ∧ a.flag R.PWR_STAT_HOLDUP_OK = false) ∧ held.flag R.PWR_STAT_HOLDUP_OK = true ∧
    ((w 10000000).warn = some (4900000, true) ∧ (w 10000000).now = 4900000 + 5100000) ∧
    (let b := arrive 9800000 (st { stopM with now := 0, warn := some (4900000, true) }); b.warn = some (4900000, true) ∧ 4900000 + 4900000 = b.now) ∧
    (sv.st = .save ∧ sv.saveDone = true ∧ sv.sup.due = none) ∧
    (f.warn ≠ none ∧ f.st = .fault) := by decide +kernel

/-- A key header whose slots are VALID. -/
def hdr0 (active : Nat) : KeyHdr := ⟨1, active, 2, 2, 100, 100, List.replicate 32 0, List.replicate 32 0, 0, List.replicate 16 0⟩

/-- A module in CONFIG with a header of the key. -/
def keyM (h : KeyHdr) : Mach := { stopM with st := .config, upd := { stopM.upd with key := { stopM.upd.key with hdr := some h } } }

theorem wit_start :
    let l := arrive 10000000 (st { stopM with st := .loader, upd := { stopM.upd with lines := [⟨1, 0, 0, 0, []⟩, ⟨2, 0, 0, 1, []⟩] } })
    let c := fun h => arrive 10000000 (st (keyM h))
    let w := fun tq => arrive 10000000 (st ({ stopM with st := .config, tk := { stopM.tk with waitEnd := some 10000000 } }.setFld R.TB_STAT_TQ tq))
    let k := arrive 10000000 (st { stopM with upd := { stopM.upd with actPend := some 1 } })
    (l.st = .loader ∧ updArmed l.upd.lines = true ∧ updFailed l.upd.lines = false) ∧
    ((c (hdr0 1)).st = .config ∧ (c (hdr0 1)).fld R.UPD_PKGSTAT_STATE = 0 ∧ (c (hdr0 1)).upd.key.hdr = some (hdr0 1) ∧ (hdr0 1).active ≤ 1 ∧
      (hdr0 1).slotState 1 = 2 ∧ (c (hdr0 2)).upd.key.hdr = some (hdr0 2) ∧ 1 < (hdr0 2).active) ∧
    ((w 3).tk.waitEnd = some 10000000 ∧ (w 3).st = .config ∧ 10000000 ≤ (w 3).now ∧ (w 3).tq = tqUnset ∧ (w 1).tq ≠ tqUnset ∧
      (w 1).flag R.UPD_PKGSTAT_START = false ∧ (w 1).flag R.PWR_STAT_HOLDUP_OK = false ∧ (w 1).cu.app = none ∧ (w 1).flag R.PRT_CFG_PAIRED = false) ∧
    (k.alive = true ∧ k.upd.actPend = some 1) := by decide +kernel

/-! ### Witnesses: time keeping -/

/-- A module in a state with a source in use that is available and has an offset. -/
def srcM (s : MState) (tq : Nat) (off : Int) (tk : TimeK) : Mach :=
  ((({ State.reset.m with st := s, now := 20000000000, tk := { tk with offs := [(1, some off)], avail := tk.avail ||| 2, fresh := 2 } }.setFld R.TB_STAT_TSRC 1)).setFld R.TB_STAT_TQ tq)

/-- A valid IRIG-B frame. -/
def irig0 : IrigFrame :=
  { marks := true, parity := true, sec := 60, min := 59, hour := 23, day := 366, bcdYear := some 24, extYear := 24, leapPending := false, leapDelete := false, dstPending := false, dst := false, local30 := 0, qcode := 4 }

theorem wit_timeSources :
    let a := fun (s : MState) (tq : Nat) (off : Int) (tk : TimeK) => arrive 20000000000 (st (srcM s tq off tk))
    let usable := fun (m : Mach) (off : Int) => m.selects = true ∧ m.fld R.TB_STAT_TSRC ≠ 3 ∧ m.srcUsable (m.fld R.TB_STAT_TSRC) = true ∧
      m.secondOffset (m.fld R.TB_STAT_TSRC) = some off
    let up := arrive 20000000000 (st (srcM .run 1 0 { since := [(0, some 10000000000)], avail := 1 }))
    let irg := a .run 1 0 { irigPrev := some ((arrive 20000000000 (st (srcM .run 1 0 {}))).irigSecs irig0), irigGood := 1 }
    let pps := a .run 1 0 { ppsPrev := some 18999000000, ppsGood := 2, ppsBad := 2 }
    usable (a .run 0 (-1000000001) {}) (-1000000001) ∧ usable (a .run 2 1000000000 {}) 1000000000 ∧
    (usable (a .run 1 1000 { good := 7 }) 1000 ∧ (a .run 1 1000 { good := 7 }).tq = 1 ∧ (a .run 1 1000 { good := 7 }).tk.good = 7) ∧
    (usable (a .run 3 1001 {}) 1001 ∧ (a .run 3 1001 {}).tq = 3) ∧ usable (a .stop 0 1000000001 {}) 1000000001 ∧
    (up.selects = true ∧ 0 < up.fld R.TB_STAT_TSRC ∧ up.srcUsable 0 = true ∧ sget none up.tk.since 0 = some 10000000000 ∧ 10000000000 + 10000000000 ≤ up.now) ∧
    (irg.alive = true ∧ irigFrameOk irig0 true = true ∧ irigFrameOk { irig0 with marks := false } false = false ∧ irg.irigNext 19000000000 irig0 = true ∧
      irg.irigNext 19000000000 { irig0 with sec := 59 } = false ∧ irg.tk.irigGood ≠ 0 ∧ irg.st = .run ∧ irg.tk.irigAt + 3000000000 ≤ irg.now) ∧
    (pps.alive = true ∧ 18999000000 + 999000000 ≤ 20000000000 - pps.fld R.TB_INDLY_PPS ∧ 20000000000 - pps.fld R.TB_INDLY_PPS ≤ 18999000000 + 1001000000 ∧
      pps.tk.ppsBad = 2 ∧ ¬ (1000 ≤ 999)) ∧
    (let h := a .run 1 0 { leftLock := some 0 }; h.isFollow = false ∧ h.tk.leftLock = some 0 ∧ h.tq = 1 ∧ 0 + h.fld R.TB_CFG2_HOLDLIM * 1000000000 ≤ h.now) := by decide +kernel

theorem wit_calendar :
    let leap := arrive 20000000000 (st (({ stopM with tk := { stopM.tk with leapAt := 20000000000 } }).setFlag R.TB_UTC_OFFSET_LEAPPEND true))
    let stp := arrive 20000000000 (st (({ stopM with tk := { stopM.tk with wr := { sec := 60, min := 59, hour := 23, day := 31, mon := 12, year := 2199 } } }).setFld R.TB_STAT_TQ 0))
    let bad := arrive 20000000000 (st { stopM with tk := { stopM.tk with wr := { sec := 61 } } })
    let src := arrive 20000000000 (st ({ stopM with tk := { stopM.tk with avail := 4 } }))
    (leap.flag R.TB_UTC_OFFSET_LEAPPEND = true ∧ leap.tk.leapAt ≤ leap.now) ∧
    (stp.tk.cmtWait = false ∧ stp.alive = true ∧ stp.tq = 0 ∧ stp.st ≠ .off ∧ stp.otherSrc = false ∧ stp.maySteps = true ∧ stp.tk.wr.valid = true) ∧
    (bad.st ≠ .off ∧ bad.otherSrc = false ∧ bad.tk.wr.valid = false) ∧ src.otherSrc = true ∧
    (arrive 0 (st { State.reset.m with st := .off })).st = .off := by decide +kernel

/-! ### Witnesses: the pair -/

/-- A module in RUN of a pair in a role, with a token, its link on, and its next frame expected under FSEQ 0xFFFFFFFF. -/
def pairM (role : Nat) (token : Bool) (p : Pair) : Mach :=
  ((({ State.reset.m with st := .run, now := 20000000000, pair := { p with rxNext := some 0xFFFFFFFF } }.setFld R.PRT_STAT_ROLE role).setFlag R.PRT_STAT_TOKEN token).setFlag
    R.PRT_CFG_PAIRED true)

/-- The module of pairM as a command finds it. -/
def pairA (role : Nat) (token : Bool) (p : Pair) : Mach := arrive 20000000000 (st (pairM role token p))

/-- A frame on lane 1 with the token bit, of epoch 0 and of a payload. -/
def rxF (fseq : BitVec 32) (payload : List Byte) : LinkRx := ⟨1, 2, fseq, 0, payload, 0⟩

/-- A frame with its CRC right. -/
def sealed (ty : Nat) (f : LinkRx) : LinkRx := { f with crc := (linkFrame ty f).crc }

def turn (m : Mach) (ty : Nat) (f : LinkRx) : Bool :=
  m.linkOn && !m.pair.alien && !(linkFrame ty f).bad && m.pair.rxNext == some f.fseq.toNat && m.pair.rxHeld == [] && (ty != 1 || f.fseq != 0)

theorem inTurn_of_turn (m : Mach) (ty : Nat) (f : LinkRx) (h : turn m ty f = true) : InTurn m ty (sealed ty f) := by
  simp only [turn, Bool.and_eq_true, Bool.not_eq_true', beq_iff_eq, Bool.or_eq_true, bne_iff_ne, ne_eq] at h
  obtain ⟨⟨⟨⟨⟨h1, hk⟩, h2⟩, h3⟩, h4⟩, h5⟩ := h
  exact ⟨h1, rfl, hk, h2, h3, h4, fun e => h5.resolve_left (fun n => n e)⟩

/-- Every type of frame takes its turn with a payload of 128 bytes. -/
theorem wit_linkTurns : ∀ ty ∈ [1, 2, 3, 4, 5, 6, 7, 8, 0x10, 0x11, 0x12, 0x13, 0x14, 0x15, 0x20, 0x21, 0x22, 0x30],
    turn (pairA 1 true {}) ty (rxF 0xFFFFFFFF (leBytes 2 0x6016 ++ leBytes 126 0)) = true := by decide +kernel

theorem wit_linkSequence :
    let g0 : Gap := ⟨0xFFFFFFFF, 1, 19999800000⟩
    let m := pairA 1 true {}
    let d := fun (q : BitVec 32) => (q.toNat + 2 ^ 32 - 0xFFFFFFFF) % 2 ^ 32
    let gap := pairA 2 false { gaps := [g0] }
    let lead := pairA 1 true { gaps := [g0], streaming := true, ptnFollow := true }
    let up := arrive 20000000000 (st (((pairM 1 true { ptnFollow := true }).setFlag (R.PRT_LANE_STAT_UP 1) true)))
    m.linkOn = true ∧ m.pair.rxNext = some 0xFFFFFFFF ∧ d 0x7FFFFFFF = 2 ^ 31 ∧ d 0 = 1 ∧ d 0x7FFFFFFE = 2 ^ 31 - 1 ∧
    (linkFrame 0x05 (rxF 0 (leBytes 4 0))).bad = false ∧ (linkFrame 0x05 (rxF 0xFFFFFFFF (leBytes 3 0))).bad = true ∧ (linkFrame 0x7F (rxF 0 (leBytes 129 0))).bad = true ∧
    m.pair.rxHeld = [] ∧ m.pair.lastViol = none ∧
    (g0 ∈ gap.pair.gaps ∧ g0.since + 200000 ≤ gap.now ∧ gap.pair.rxNext = some 0xFFFFFFFF ∧ gap.pair.rxHeld = [] ∧ gap.following = true) ∧
    (lead.following = false ∧ lead.hasToken = true ∧ lead.pair.streaming = true) ∧
    (up.laneUp 1 = true ∧ up.pair.laneAt.2 + 50000 ≤ up.now ∧ up.laneUp 0 = false ∧ up.isLead = true ∧ up.pair.ptnFollow = true) ∧
    (let m := pairA 3 false { laneRun := (0, 1000) }; m.laneUp 1 = false ∧ 1000 ≤ m.pair.laneRun.2 ∧ m.isFollow = false ∧ m.pair.ptnFollow = false) ∧
    m.olcState ≠ olcReady := by decide +kernel

/-- A HELLO whose second copy is to come, a partner that is not recognised, and a frame with another CRC. -/
theorem wit_linkStart :
    let f := rxF 0 (leBytes 128 0)
    let p := (pairM 1 true { restart := some (0, linkFrame 1 f) })
    let m := arrive 20000000000 (st { p with pair := { p.pair with rxNext := some 1 } })
    let al := pairA 1 true { alien := true }
    (m.linkOn = true ∧ (linkFrame 1 f).bad = false ∧ m.pair.restart = some (0, linkFrame 1 f) ∧ f.lane.val = 1 ∧ m.pair.rxNext = some 1) ∧
    (al.linkOn = true ∧ al.pair.alien = true ∧ al.following = false ∧ al.pair.rxNext = some (rxF 0xFFFFFFFF []).fseq.toNat ∧ al.pair.rxHeld = []) := by decide +kernel

theorem wit_linkCrc (ty : Nat) (f : LinkRx) : (let g := { f with crc := (linkFrame ty f).crc + 1 }; g.crc ≠ (linkFrame ty g).crc) := by
  intro g h
  have h' : (linkFrame ty f).crc + 1 = (linkFrame ty f).crc := h
  bv_omega

theorem wit_lease :
    let lead := pairA 1 true { lastRenew := some 0, yielding := some 1, yieldWaits := some 19999000000 }
    let foll := pairA 2 false { leaseAt := some 10000000000, ptnHbAt := some 0, rxCount := some 5 }
    let uns := fun b => arrive 20000000000 (st ((pairM 3 false { leaseAt := some 10000000000 }).setFlag R.PRT_CFG_TAKEOVER_UNSYNC b))
    let start := fun (side : Nat) (up : Bool) => arrive 20000000000 (st ({ ((pairM 0 false { listenFrom := some 0, readyFrom := some 0 }).setFld R.PRT_STAT_SIDE side).setFlag
      (R.PRT_LANE_STAT_UP 0) up |>.setFld R.UPD_PKGSTAT_STATE 1 |>.setFlag R.UPD_KEYSTAT_PRESENT true with st := .config }))
    let hb := arrive 20000000000 (st ((pairM 1 true { ptnHbAt := some 0 }).setFlag R.PRT_STAT_PHB true))
    (lead.st = .run ∧ lead.hasToken = true ∧ lead.paired = true ∧ lead.pair.lastRenew = some 0 ∧ 0 + lead.leaseNs ≤ lead.now ∧ lead.pair.yielding = some 1 ∧
      lead.pair.yieldWaits = some 19999000000 ∧ 19999000000 + 1000000 ≤ lead.now ∧ (1 : BitVec 32).toNat = (lead.fld R.PRT_EPOCH + 1) % 2 ^ 32 ∧
      turn lead 0x04 ⟨1, 2, 0xFFFFFFFF, 1, leBytes 8 0, 0⟩ = true) ∧
    (foll.st = .run ∧ foll.paired = true ∧ foll.hasToken = false ∧ foll.pair.leaseAt = some 10000000000 ∧ 10000000000 + foll.guardNs ≤ foll.now ∧ foll.isFollow = true ∧
      countLater (fieldAt (leBytes 4 (5 + 2 ^ 31 - 1)) 0 4) foll.pair.rxCount = true ∧ (rxF 0 []).flags.getLsbD 1 = true ∧ (rxF 0 []).epoch.toNat = foll.fld R.PRT_EPOCH) ∧
    ((uns true).isFollow = false ∧ (uns true).flag R.PRT_CFG_TAKEOVER_UNSYNC = true ∧ (uns false).flag R.PRT_CFG_TAKEOVER_UNSYNC = false ∧ (uns false).hasToken = false ∧
      10000000000 + (uns false).guardNs ≤ (uns false).now ∧ (uns false).paired = true) ∧
    ((start 0 false).pair.listenFrom = some 0 ∧ 0 + (start 0 false).leaseNs ≤ (start 0 false).now ∧ (start 0 false).lanesDown = true ∧ (start 0 false).pair.ptnHbAt = none ∧
      (start 0 true).lanesDown = false ∧ (start 0 true).side = 0 ∧ (start 1 true).side = 1 ∧ (start 1 true).pair.readyFrom = some 0 ∧
      0 + (start 1 true).fld R.PRT_CFG_JOINWAIT * 10000000 ≤ (start 1 true).now) ∧
    ((start 0 true).fld R.UPD_PKGSTAT_STATE = 1 ∧ (start 0 true).flag R.UPD_KEYSTAT_PRESENT = true) ∧
    (hb.pair.ptnHbAt = some 0 ∧ hb.flag R.PRT_STAT_PHB = true ∧ 0 + hb.leaseNs ≤ hb.now) := by decide +kernel

theorem wit_lead :
    let m := pairA 1 true { ptnFollow := true, streaming := true, snapFseq := [(0, 5)], sent := [⟨0x10, 0, 7, 0, []⟩], deltas := [(9, [1])], delaySent := some 0 }
    let hm := arrive 20000000000 (st ((pairM 1 true { ptnFollow := true, snapFseq := [(0, 5)] }).setTask 31 { held := some scanH }))
    let x := fun (item off : Nat) => pairA 1 true { streaming := true, xferAt := some 0, xferItem := item, xferOff := off, xferStep := some 19997000000 }
    let foll := pairA 3 false {}
    (m.isLead = true ∧ m.pair.ptnFollow = true ∧ m.hasToken = true ∧ m.pair.streaming = true ∧ m.following = false ∧ m.st = .run ∧ m.linkOn = true ∧
      m.pair.yielding = none ∧ m.pair.delaySent = some 0 ∧ m.ev.fifo.length < 4095 ∧ (rxF 0 []).epoch.toNat = m.fld R.PRT_EPOCH) ∧
    (hm.heldScans = [(31, scanH)] ∧ hm.agreed scanH = false ∧ scanH.heldAt + 100000 ≤ hm.now) ∧
    ((m.pair.sent.any (fun f => f.fseq == 7)) = true ∧ (m.pair.sent.all (fun f => f.fseq != 8)) = true ∧ (m.pair.deltas.find? (fun d => d.1 == 9)).isSome = true ∧
      m.pair.deltas.find? (fun d => d.1 == 8) = none) ∧
    (∀ p ∈ [(0, 0), (8, 0), (8, xferSize 8), (2, xferSize 2 - 4096)], (x p.1 p.2).pair.xferAt = some 0 ∧ (x p.1 p.2).cu.app = none ∧ (x p.1 p.2).pair.xferItem ≤ 8 ∧
      (x p.1 p.2).pair.xferStep = some 19997000000 ∧ 19997000000 + 3000000 ≤ (x p.1 p.2).now) ∧
    (foll.linkOn = true ∧ 2 ≤ foll.role ∧ foll.hasToken = false) ∧ byteAt (leBytes 24 1) 0 = 1 ∧ byteAt (leBytes 24 2) 0 = 2 := by decide +kernel

theorem wit_follower :
    let m := pairA 2 false { oneWay := some 500 }
    let sync := pairA 3 false { syncing := true, xferAt := some 15000000000 }
    let c := fun (d : BitVec 64) => (⟨8, 31, 0, 3, 0, d, 0⟩ : CommitRec)
    let sc : Scan := { scanH with snap := { snap0 with no := 3 } }
    let fm := fun (held : Option Scan) (d : BitVec 64) (dd : List (Nat × List Byte)) =>
      arrive 20000000000 (st (((pairM 2 false { commits := [c d], deltaDone := dd }).setFlag (R.PRT_LANE_STAT_UP 0) true).setTask 31 { held := held }))
    let d0 := (fm (some sc) 0 []).scanDigest 31 sc
    let join := arrive 20000000000 (st ((List.range 5).foldl (fun n f => n.setFlag ([R.PRT_PCMP_PKG, R.PRT_PCMP_PVER, R.PRT_PCMP_PROG, R.PRT_PCMP_RETLAY, R.PRT_PCMP_SIDES].getD f R.PRT_PCMP_PKG) true)
      ((pairM 3 false { oneWay := some 500, ptnToken := true }).setFlag R.PRT_PCMP_VALID true)))
    let j := fun (point kind : Nat) => JEntry.ofBytes (JEntry.bytes ⟨5, point, kind, 1, 0xFFFFFFFF⟩)
    (m.following = true ∧ m.isFollow = true ∧ m.hasToken = false ∧ m.pair.oneWay = some 500 ∧ m.pair.syncing = false) ∧
    ((j 4351 4).point = 4351 ∧ (j 4351 4).kind = 4 ∧ (j 0xFFFF 1).point = 0xFFFF ∧ (j 0x201F 0x22).point = 0x201F ∧ (j 0x201F 0x22).kind = 0x22 ∧ (j 4352 1).point = 4352 ∧
      (JEntry.bytes ⟨5, 4351, 4, 1, 0⟩).length = 16) ∧
    (sync.following = true ∧ sync.pair.syncing = true ∧ sync.pair.xferCsn = none ∧ sync.pair.xferAt = some 15000000000 ∧ 15000000000 + 5000000000 ≤ sync.now) ∧
    ((fm (some sc) d0 []).st = .run ∧ (fm (some sc) d0 []).isFollow = true ∧ (fm (some sc) d0 []).lanesDown = false ∧ (fm (some sc) d0 []).cu.app = none ∧
      (fm (some sc) d0 []).cu.nextStart ≤ 20000000000 ∧ (fm (some sc) d0 []).pair.commits = [c d0] ∧ (c d0).flags.testBit 1 = false ∧
      ((fm (some sc) d0 []).task 31).held = some sc ∧ sc.snap.no = 3 ∧ (fm (some sc) d0 []).scanDigest 31 sc = d0 ∧ (fm (some sc) (d0 + 1) []).scanDigest 31 sc ≠ d0 + 1) ∧
    (((fm none 0 []).task 31).held = none ∧ (fm none 0 []).holdsSnap 31 3 = false ∧ (fm none 0 []).pair.deltaDone.find? (fun d => d.1 == 8) = none ∧
      ((fm none 0 [(8, [])]).pair.deltaDone.find? (fun d => d.1 == 8)).isSome = true) ∧
    (join.mayJoin = true ∧ join.isFollow = false ∧ join.pair.syncing = false ∧ join.pair.timeTaken = false ∧ join.pair.oneWay = some 500) ∧
    (let o := fun s => arrive 20000000000 (st ((pairM 2 false {}).setFld R.IMG_OLCSTAT_STATE s)); (o olcReady).olcState = olcReady ∧ (o olcArmed).olcState = olcArmed ∧
      (o olcArmed).isFollow = true) := by decide +kernel

/-! ### Witnesses: the station ports -/

/-- A subscription entry with one BOOLEAN at I:4223. -/
def gsub0 : GSub := { mac := 1, appid := 2, gocbRef := [3], datSet := [4], confRev := 5, members := [⟨0, 4223, none, none⟩], status := none, acceptTest := true }

/-- A frame of it. -/
def goose0 : GooseMsg :=
  { ok := true, dst := 1, appid := 2, gocbRef := [3], datSet := [4], tal := 10, stNum := 15, sqNum := 0, sim := false, test := true, confRev := 5, ndsCom := false, leaves := [.bool true] }

/-- A module in RUN, of the MAC address 9, with both ports enabled and linked, and its station port records. -/
def portM (sp : Ports) : Mach :=
  ((((({ State.reset.m with st := .run, now := 20000000000, sp := sp, regs := [(R.STA_MAC_LO.addr, 9), (R.STA_MAC_HI_VALUE.addr, 0)] }.setFlag (linkFld 0) true).setFlag
    (linkFld 1) true).setFlag (R.STA_SP_CFG_EN 0) true).setFlag (R.STA_SP_CFG_EN 1) true).setFlag R.PRT_STAT_TOKEN true)

/-- The module of portM as a command finds it. -/
def portA (sp : Ports) : Mach := arrive 20000000000 (st (portM sp))

/-- A head of a frame received on SP1 from another source. -/
def head1 : PortHead := ⟨1, 7, some (65535, 1), 19999999000⟩

theorem wit_takes : Takes (portA {}) head1 ∧ SupTakes (portA {}) head1 ∧ PtpTakes (arrive 20000000000 (st ((portM {}).setFlag R.STA_CFG_PTPEN true))) head1 := by
  unfold SupTakes Takes PtpTakes; decide +kernel

theorem wit_goose :
    let sp : Ports := { subs := [(127, some gsub0)], tal := [(127, some 20000000000)], known := [127] }
    let b := fun (known : List Nat) (st' sq : Nat) => arrive 20000000000 (st ((((portM { sp with known := known }).setFld (R.STA_GSUB_STNUM 127) st').setFld (R.STA_GSUB_SQNUM 127) sq).setFlag
      (R.STA_GSUB_STAT_VALID 127) true))
    let earlier := fun (m : Mach) => (m.fld (R.STA_GSUB_STNUM 127) + 2 ^ 32 - goose0.stNum.toNat) % 2 ^ 32
    let ahead := fun (m : Mach) => (goose0.sqNum.toNat + 2 ^ 32 - m.fld (R.STA_GSUB_SQNUM 127)) % 2 ^ 32
    let run : GRun := ⟨[1], 0, 7, 2 ^ 32 - 1, 10000000, 20000000000, true⟩
    let pub : GPub := ⟨1, 2, 0, [3], [4], [5], 1, [⟨0, 8191⟩]⟩
    let pm := arrive 20000000000 (st (((portM { pubs := [(31, some pub)], runs := [(31, some run)] }).setFlag (R.STA_GPUB_CFG_ACTIVE 31) true).setFld (R.STA_GPUB_SQNUM 31) (2 ^ 32 - 1)))
    ((b [127] 15 0).gooseBlock goose0 = some 127 ∧ (b [127] 15 0).gsub 127 = some gsub0 ∧ goose0.ok = true ∧ goose0.tal ≠ 0 ∧ goose0.sim = false ∧ gsub0.acceptTest = true ∧
      goose0.confRev = gsub0.confRev ∧ goose0.leaves.map GLeaf.code = gsub0.members.map (·.ty) ∧ 127 ∉ (b [] 15 0).sp.known ∧ 127 ∈ (b [127] 15 0).sp.known) ∧
    (earlier (b [127] 31 0) = 16 ∧ earlier (b [127] 30 0) = 15 ∧ earlier (b [127] 16 0) = 1 ∧ earlier (b [127] 15 0) = 0) ∧
    (ahead (b [127] 15 0) = 0 ∧ ahead (b [127] 15 (2 ^ 32 - 1)) = 1 ∧ ahead (b [127] 15 (2 ^ 31 + 1)) = 2 ^ 31 - 1 ∧ ahead (b [127] 15 (2 ^ 31)) = 2 ^ 31) ∧
    (((memberPts 5 (memberQ goose0.leaves ⟨0, 4223, none, none⟩) ⟨0, 4223, none, none⟩ (.bool true)).map (·.idx)) = [4223]) ∧
    ((b [127] 15 0).alive = true ∧ sget none (b [127] 15 0).sp.tal 127 = some 20000000000 ∧ 20000000000 ≤ (b [127] 15 0).now ∧ (b [127] 15 0).flag (R.STA_GSUB_STAT_VALID 127) = true) ∧
    (pm.gpub 31 = some pub ∧ sget none pm.sp.runs 31 = some run ∧ pm.drives = true ∧ pm.flag (R.STA_GPUB_CFG_ACTIVE 31) = true ∧ run.nextAt ≤ pm.now ∧ pm.portUp 0 = true ∧ pm.pubMay = true ∧
      (arrive 20000000000 (st { pm with pair := { pm.pair with fenced := true } })).pubMay = false) := by
  decide +kernel

/-- Messages of domain 0 from the port identity 5. -/
def ann0 : AnnounceMsg :=
  { ok := true, domain := 0, src := 5, prio1 := 1, cls := 6, acc := 33, var := 0, prio2 := 1, gm := 5, steps := 0, logInterval := 1, utc := 37, utcValid := true, leap61 := false, leap59 := false }
def sync0 : SyncMsg := { ok := true, domain := 0, src := 5, seq := 65535, twoStep := true, origin := 19999000000, corr := 0, logInterval := -4 }
def pdelay0 : PdelayMsg := { ok := true, domain := 0, seq := 65535, own := true, time := 10, corr := 0, twoStep := false }

theorem wit_ptp :
    let f : Foreign := ⟨ann0, 14000000000, none⟩
    let px : PtpPort := { foreign := [f], master := some (5, 0), sync := some sync0, reqSeq := 65535, reqAt := some 9, resp := some (5, 8, 0), misses := 2, delay := some (3, 17000000000),
                              lastSync := some (19000000000, 62500000), delivers := true }
    let m := arrive 20000000000 (st (((portM { ptp := [(1, px)] }).setFlag R.STA_CFG_PTPEN true).setFld R.STA_CFG_DOMAIN 0))
    let x := m.ptp 1
    let lost := (m.setPtp 1 { px with resp := none }).ptp 1
    m.st = .run ∧ (ann0.domain.toNat = m.fld R.STA_CFG_DOMAIN ∧ logOk ann0.logInterval = true ∧ logOk 2 = false ∧ logOk (-5) = false) ∧
    (x.master.map (·.1) = some sync0.src ∧ x.master.map (·.1) ≠ some 6 ∧ logOk sync0.logInterval = true ∧ x.sync = some sync0) ∧
    (pdelay0.own = true ∧ pdelay0.seq.toNat = x.reqSeq ∧ x.reqAt = some 9 ∧ x.resp = some (5, 8, 0)) ∧
    (m.portUp 1 = true ∧ m.flag R.STA_CFG_PTPEN = true ∧ lost.reqAt = some 9 ∧ lost.resp = none ∧ lost.misses = 2) ∧ (x.slave = some f ∧ f.at_ + 3 * logNs f.ann.logInterval ≤ m.now) ∧
    (x.delivers = true ∧ x.lastSync = some (19000000000, 62500000) ∧ 19000000000 + 3 * 62500000 ≤ m.now ∧ x.delay = some (3, 17000000000) ∧ 17000000000 + 3000000000 ≤ m.now) := by
  decide +kernel

theorem wit_links :
    let n : Node := ⟨0, []⟩
    let old := arrive 60000000000 (st (portM { nodes := [(7, some n)], ports := [(1, { rxAt := some 58000000000, garpAt := some 60000000000 })] }))
    let cfg := fun (en link : Bool) (down : Option Nat) =>
      arrive 20000000000 (st (((portM { ports := [(1, { downAt := down })] }).setFlag (R.STA_SP_CFG_EN 1) en).setFlag (linkFld 1) link))
    ((portA {}).alive = true ∧ (portA {}).fld R.STA_CFG_MODE = 0 ∧ (portA {}).portUp 0 = true) ∧
    (sget none old.sp.nodes 7 = some n ∧ n.seen + 60000000000 ≤ old.now) ∧ ((old.port 1).rxAt = some 58000000000 ∧ 58000000000 + 2000000000 ≤ old.now) ∧
    ((old.port 1).garpAt = some 60000000000 ∧ 60000000000 ≤ old.now) ∧ (0 : BitVec 32).toNat = (portA {}).fld R.STA_IPADDR ∧
    ((cfg true false none).flag (linkFld 1) = false ∧ (cfg true false none).flag (R.STA_SP_CFG_EN 1) = true ∧ (cfg true false none).flag (enpendFld 1) = false ∧
      (cfg true true none).flag (linkFld 1) = true) ∧
    ((cfg false false none).flag (R.STA_SP_CFG_EN 1) = false ∧ ((cfg false false none).port 1).downAt = none ∧ (cfg false false (some 20000000001)).now = 20000000000 ∧
      ((cfg false false (some 20000000001)).port 1).downAt = some 20000000001) ∧
    (9 : BitVec 48).toNat = (portA {}).ownMac := by decide +kernel

/-- A port whose link-down time is over, whatever that time is. -/
theorem wit_negotiation :
    let m := arrive 0 (st { State.reset.m with now := Config.linkDownTime, sp := { State.reset.m.sp with ports := [(1, { downAt := some 0 })] } })
    (m.port 1).downAt = some 0 ∧ 0 + Config.linkDownTime ≤ m.now := by
  refine ⟨by decide +kernel, ?_⟩
  have h := Mach.pass_now { State.reset.m with now := Config.linkDownTime, sp := { State.reset.m.sp with ports := [(1, { downAt := some 0 })] } } (max 0 Config.linkDownTime)
  simp only [arrive, st, h]
  omega

/-! ### Witnesses: display, move engine, online change -/

/-- A module in STOP with a display whose section has 64 bytes of zeros, in a display state. -/
def dspM (state : Nat) (d : Dsp) : Mach := { stopM with dsp := { d with sect := leBytes 64 0 } }.setFld R.DSP_STAT_STATE state

def dspA (state : Nat) (d : Dsp) : Mach := arrive 10000000 (st (dspM state d))

theorem wit_display :
    let run : DspRun := ⟨⟨0, 0, 8, 8, 0⟩, 0, 0, 0, 0, []⟩
    let en := arrive 10000000 (st ((dspM 0 { retryAt := some 10000000 }).setFlag R.DSP_CTRL_EN true))
    (dspA 0 {}).st ≠ .off ∧ ((dspA 2 { stopPend := true }).dsp.stopPend = true ∧ (dspA 2 { stopPend := true }).dspState = 2) ∧
    ((dspA 0 {}).dsp.stopPend = false ∧ (dspA 0 {}).dsp.dischAt = none ∧ (dspA 0 {}).dspState = 0 ∧ (dspA 0 {}).dsp.warned = false ∧ (dspA 0 {}).flag R.DSP_CTRL_EN = false) ∧
    (∀ n ∈ [0, 1, 2, 5], (arrive 10000000 (st ((dspM n { runs := [(15, some run)] }).setFlag R.DSP_CTRL_EN true))).flag R.DSP_CTRL_EN = true ∧
      (dspA n { runs := [(15, some run)] }).dspState = n ∧ ((dspA n { runs := [(15, some run)] }).dsp.runs.all (fun x => decide (x.1 < 16))) = true) ∧
    ((dspA 4 { dischAt := some 10000000 }).dsp.dischAt = some 10000000 ∧ (dspA 4 { dischAt := some 10000000 }).dsp.stopping = false ∧
      (dspA 4 { dischAt := some 10000000 }).dsp.stopPend = false) ∧
    ((dspA 2 { runs := [(15, some run)] }).dsp.runs.map (·.1)).Nodup ∧ (dspA 2 { runs := [(15, some run)] }).dspRun 15 = some run ∧
    (dspA 2 {}).dspRuns = true ∧ ((dspA 2 {}).alive = true ∧ (dspA 2 {}).dspOn = true ∧ (-451 : Int) < -450 ∧ (900 : Int) ≤ 900) ∧ (30 : Fin 32).val ≠ 31 ∧
    (en.dsp.retryAt = some 10000000 ∧ 10000000 ≤ en.now ∧ en.dspState = 0 ∧ en.flag R.DSP_CTRL_EN = true ∧ en.dsp.stopPend = false ∧ en.dsp.dischAt = none ∧ en.dspRuns = true ∧ en.dsp.warned = false) := by decide +kernel

/-- Program descriptor 255: FILL of a length in rows, on to a descriptor. -/
def fillM (m : Mach) (len rows next : Nat) : Mach :=
  (((((m.setFld (R.MOV_PDESC_DST 255) 0x0F000000).setFld (R.MOV_PDESC_LEN_LEN 255) len).setFld (R.MOV_PDESC_ROWS_ROWS 255) rows).setFld (R.MOV_PDESC_STRIDE_DSTRIDE 255) 1024).setFld
    (R.MOV_PDESC_MODE_MODE 255) 1).setFld (R.MOV_PDESC_MODE_NEXT 255) next

/-- Channel 15 with its records, enabled. -/
def movA (m : Mach) (x : MovCh) : Mach := arrive 10000000 (st ((m.setMovCh 15 x).setFlag (R.MOV_CH_CTRL_EN 15) true))

theorem wit_move :
    let q : MovReq := ⟨255, [], []⟩
    let r := fun (row pos : Nat) => (⟨255, q, row, pos, none⟩ : MovRun)
    let jr := arrive 10000000 (st (((fifoM 5 0).setFlag (R.MOV_CH_CTRL_EN 0) true).setFld (R.MOV_CH_STAT_PEND 0) 1))
    let run := fun (len rows next row pos : Nat) => movA (fillM stopM len rows next) { run := some (r row pos) }
    let took := fun (len rows next : Nat) (idx : Nat) => movA (fillM stopM len rows next) { queue := [⟨idx, [], []⟩] }
    let copy := movA ((fillM stopM 64 1 0xFFFF).setFld (R.MOV_PDESC_MODE_MODE 255) 0) { run := some (r 0 0) }
    (lineChannels 1 ≠ [] ∧ lineChannels 4 ≠ [] ∧ stopM.alive = true) ∧
    (jr.movWinner = some 0 ∧ jr.ev.ring.length + 4 ≤ 1048576) ∧
    ((run 65 1 0xFFFF 0 0).movWinner = some 15 ∧ ((run 65 1 0xFFFF 0 0).movCh 15).run = some (r 0 0) ∧ ((run 65 1 0xFFFF 0 0).pdesc 255).kind = 1 ∧
      min 64 (((run 65 1 0xFFFF 0 0).pdesc 255).len - 0) = 64) ∧
    (((run 64 2 0xFFFF 0 0).pdesc 255).len - 0 ≤ 64 ∧ 0 + 1 < ((run 64 2 0xFFFF 0 0).pdesc 255).rows ∧ ((run 64 2 0xFFFF 1 0).pdesc 255).rows ≤ 1 + 1) ∧
    (((run 64 1 0xFFFF 0 0).pdesc 255).next = 0xFFFF ∧ ((run 64 1 256 0 0).pdesc 255).next = 256 ∧ ((run 64 1 255 0 0).pdesc 255).next = 255 ∧
      ((run 64 1 255 0 0).pdesc 255).refusal ((run 64 1 255 0 0).flag (R.MOV_CH_CTRL_NOOVL 15)) = none) ∧
    (copy.movWinner = some 15 ∧ (copy.movCh 15).run = some (r 0 0) ∧ (copy.pdesc 255).kind ≠ 1 ∧ inView (copy.pdesc 255).src = false) ∧
    ((took 64 1 0xFFFF 255).movWinner = some 15 ∧ ((took 64 1 0xFFFF 255).movCh 15).run = none ∧ ((took 64 1 0xFFFF 255).movCh 15).queue = [q] ∧
      ((took 64 1 0xFFFF 255).pdesc 255).refusal ((took 64 1 0xFFFF 255).flag (R.MOV_CH_CTRL_NOOVL 15)) = none ∧
      ((took 65 1 0xFFFF 255).pdesc 255).refusal ((took 65 1 0xFFFF 255).flag (R.MOV_CH_CTRL_NOOVL 15)) = some 5) ∧
    (stopM.st ≠ .off ∧ (movA stopM {}).flag (R.MOV_CH_CTRL_EN 15) = true ∧
      (arrive 10000000 (st (stopM.setFlag (R.MOV_CH_ERRINFO_ERR 15) true))).flag (R.MOV_CH_ERRINFO_ERR 15) = true) := by decide +kernel

/-- An online change in a state, of engine 15 and task 31, with an empty package. -/
def olcA (state : Nat) (o : Olc) : Mach :=
  arrive 10000000 (st (((((({ runM with olc := o, now := 10000000 }).setFld R.IMG_OLCSTAT_STATE state).setFld R.IMG_OLCENG_AFFECTED 0x8000).setFld R.IMG_OLCTSK 0x80000000))))

theorem wit_olc :
    let free := (olcA olcWindow {}).isLead = false
    let held := arrive 10000000 (st ((({ runM with now := 10000000 }).setFld R.IMG_OLCSTAT_STATE olcArmed).setFld64 R.IMG_OLCDRN_LO 10000000))
    ((olcA olcLoad {}).olcState = olcLoad ∧ (olcA olcLoad {}).olcEngs.find? (fun e => !((olcA olcLoad {}).fld R.IMG_OLCENG_LOADED).testBit e) = some 15 ∧
      (let d := arrive 10000000 (st ((olcA olcLoad {}).setFld R.IMG_OLCENG_LOADED 0x8000)); d.olcEngs.find? (fun e => !(d.fld R.IMG_OLCENG_LOADED).testBit e) = none)) ∧
    (held.olcState = olcArmed ∧ held.fld64 R.IMG_OLCDRN_LO ≤ held.now) ∧
    ((olcA olcWindow {}).olcState = olcWindow ∧ (olcA olcWindow {}).olcTasks = [31] ∧ ((olcA olcWindow {}).task 31).run = none ∧ ((olcA olcWindow {}).task 31).held = none ∧
      (olcA olcWindow {}).olc.mapped = false ∧ (olcA olcWindow { eng := [(15, [])] }).olc.eng.all (fun x => decide (x.1 < 16)) = true) ∧
    ((olcA olcWindow { mapped := true }).olc.mapped = true ∧ (olcA olcWindow { mapped := true }).hasToken = true ∧ (olcA olcWindow { mapped := true }).st = .run ∧
      (olcA olcWindow { mapped := true }).cu.app = none ∧ (olcA olcWindow { mapped := true }).cu.nextStart ≤ 10000000 ∧ (free ∨ (olcA olcWindow {}).pair.ptnFollow = false)) ∧
    (let f := arrive 10000000 (st ((olcA olcWindow { leadDone := true }).setFld R.PRT_STAT_ROLE 2));
      f.olcState = olcWindow ∧ f.following = true ∧ f.olc.leadDone = true ∧ f.pair.commits = [] ∧ f.cu.app = none ∧ f.olc.mapped = false) ∧
    (let l := arrive 10000000 (st ({ (olcA olcWindow { mapped := true }) with pair := { (olcA olcWindow { mapped := true }).pair with ptnFollow := true } }));
      l.olcState = olcWindow ∧ l.olc.mapped = true ∧ l.hasToken = true ∧ l.isLead = true ∧ l.pair.ptnFollow = true ∧ l.pair.olc ≠ 3 ∧
      l.fld64 R.IMG_OLCDRN_LO + l.olc.len ≤ l.now) ∧
    ((olcA olcWindow {}).olc.saved = none ∧ (olcA olcWindow { len := 5, est := 5 }).fld64 R.IMG_OLCDRN_LO + 5 - 5 ≤ (olcA olcWindow { len := 5, est := 5 }).now) := by
  decide +kernel

/-! ### Witnesses: self-tests and watchdog -/

/-- An audit of a commit of task 31 by engine 15. -/
def audit0 : Audit := { task := 31, snap := snap0, engs := [15], digests := [1], first := none, since := 0, kept := [], running := true }

/-- A module in STOP at 24 hours with the supervisor's records. -/
def supM (u : Sup) : Mach := { stopM with now := 86400000000000, sup := u }

def supA (u : Sup) : Mach := arrive 86400000000000 (st (supM u))

theorem wit_selfTests :
    let heard := supA { corrected := [(5, 7, [1, 2])] }
    let eng := fun (en : Eng) => arrive 86400000000000 (st ((supM {}).setEng 15 en))
    let moving := supA { moving := some (14, 15, 0) }
    let ready := arrive 86400000000000 (st ((supM { audit := some { audit0 with running := false } }).setFlag R.DIAG_AUD_INSVC true))
    let fault := arrive 86400000000000 (st ({ supM { faultAt := some 86399000000000 } with st := .fault }.setFld R.DIAG_CFG_FRESTART 1))
    (supA {}).alive = true ∧
    (heard.sup.corrected.find? (fun z => z.1 == (5 : Fin 6).val && z.2.1 == (7 : BitVec 28).toNat) = some (5, 7, [1, 2] ++ []) ∧ heard.now < 1 + 86400000000000) ∧
    (((eng {}).eng 15).act = none ∧ ((eng { act := some (31, 7) }).eng 15).act = some (31, 7)) ∧
    (((eng {}).eng 15).retired = false ∧ ((eng { power := .heldOut }).eng 15).power = .heldOut ∧ ((eng { power := .dim }).eng 15).power = .dim ∧ (eng { power := .dim }).readySegs = []) ∧
    (moving.sup.moving = some (14, 15, 0) ∧ moving.tasksOf 14 = []) ∧
    (ready.sup.audit = some { audit0 with running := false } ∧ ready.audOn = true ∧ ready.cu.app = none ∧ audit0.task < 32) ∧
    ((supA { audit := some audit0 }).sup.audit = some audit0 ∧ ([2] : List (BitVec 64)).length = audit0.digests.length ∧ [2] ≠ audit0.digests ∧ audit0.first = none) ∧
    ((supA { audit := some { audit0 with first := some [2] } }).sup.audit = some { audit0 with first := some [2] } ∧ [3] ≠ ([2] : List (BitVec 64)) ∧ audit0.engs[0]? = some 15 ∧
      audit0.digests[0]? ≠ ([2] : List (BitVec 64))[0]? ∧ ((supA {}).eng 0).act = none) ∧
    audit0.since + 100000000 ≤ (supA { audit := some audit0 }).now ∧
    (fault.st = .fault ∧ fault.sup.faultAt = some 86399000000000 ∧ fault.fld R.DIAG_CFG_FRESTART ≠ 0 ∧ 86399000000000 + fault.fld R.DIAG_CFG_FRESTART * 1000000000 ≤ fault.now ∧
      fault.flag R.WDG_STAT_HOLD = false ∧ fault.sup.due = none ∧ fault.alive = true) := by decide +kernel

theorem wit_watchdog :
    let w := fun (amber : Bool) => arrive 10000000 (st (((stopM.setFlag R.WDG_STAT_RUN true).setFlag (R.WDG_SLOT_CFG_EN 47) true).setFlag (diBit R.WDG_AMBER_LO 47) amber))
    let cut := arrive 90000000 (st { stopM with sup := { stopM.sup with suspAt := some 10000000 } })
    let locked := arrive 10000000 (st (stopM.setFlag R.WDG_CTL_LOCK true))
    ((w false).wdOut 47 = true ∧ (w false).amber 47 = false ∧ ((w false).eng 15).act = none ∧ ((w false).eng 15).de < 2 ^ 14) ∧
    ((w true).st ≠ .off ∧ (List.range 48).filter (fun n => (w true).wdOut n && (w true).amber n) = [47]) ∧
    (w false).flag R.WDG_STAT_RUN = true ∧ (cut.sup.suspAt = some 10000000 ∧ 10000000 + 80000000 ≤ cut.now) ∧ (w false).flag R.WDG_CTL_LOCK = false ∧
    locked.flag R.WDG_CTL_LOCK = true ∧ (w false).alive = true ∧ (w false).flag (R.WDG_SLOT_CFG_EN (32 + (15 : Fin 16).val)) = true := by decide +kernel

/-! ### Witnesses: the retained store and register accesses -/

/-- A record of the store in a sector. -/
def rec0 (seq sector : Nat) (done : Bool) : Rec := ⟨0x10, 0, seq, 5, [1], 0, 0, sector, 2, done⟩

/-- A module in a state with its retained store. -/
def retA (s : MState) (r : RetStore) : Mach := arrive 10000000 (st { stopM with st := s, ret := r, ran := true })

theorem wit_store :
    let j : JEntry := ⟨0, 0, 1, 0, 9⟩
    let pend := arrive 10000000 (st { stopM with ev := { stopM.ev with rjPend := List.replicate 8193 j } })
    let psave := fun (r : RetStore) (app : Option App) => arrive 10000000 (st ({ runM with ret := r, ran := true, cu := { runM.cu with app := app } }.setFld R.RET_CFG_PSAVE 1))
    let save := fun (commit : Bool) => (⟨2, 1, 0, 0, [], [7], commit, 0, false, []⟩ : Save)
    let img : ParImage := { num := 1, src := 0, digest := 0, csn := 0, time := 0, level := 0, data := [] }
    let bank := retA .stop { recs := [rec0 3 121 true, rec0 4 120 false], sectors := (List.range 8).map (fun i => (120 + i, { top := 9 })) }
    let prot := arrive 10000000 (st (stopM.setFld R.RET_PROT_LEVEL 2))
    (pend.alive = true ∧ pend.st ≠ .save ∧ (pend.ev.rjPend.take 8192).getLast? = some j) ∧
    ((retA .stop {}).ev.rjPend = [] ∧ (retA .stop { recCsn := 2 ^ 48 - 2 ^ 19 }).csn = 0 ∧
      2 ^ 19 ≤ ((retA .stop { recCsn := 2 ^ 48 - 2 ^ 19 }).csn + 2 ^ 48 - (2 ^ 48 - 2 ^ 19) % 2 ^ 48) % 2 ^ 48 ∧
      ¬ (2 ^ 19 ≤ ((retA .stop {}).csn + 2 ^ 48 - 0 % 2 ^ 48) % 2 ^ 48 ∨ 2 ^ 22 ≤ ((retA .stop {}).fld R.EVU_SEQ + 2 ^ 32 - 0 % 2 ^ 32) % 2 ^ 32)) ∧
    ((psave {} (some app0)).st = .run ∧ (psave {} (some app0)).fld R.RET_CFG_PSAVE ≠ 0 ∧ (psave {} (some app0)).ret.save = none ∧ (psave {} (some app0)).ret.savePend = none ∧
      (psave {} (some app0)).cu.app.isSome = true ∧ (psave {} none).cu.app = none ∧ (psave {} none).ran = true ∧ (psave { dirty := [3] } none).ret.dirty ≠ []) ∧
    ((retA .stop { recs := [rec0 7 8 false], save := some (save true) }).ret.recs.find? (fun x => x.seq == 7 && !x.done) = some (rec0 7 8 false) ∧ (save true).wait = [7] ∧
      (retA .stop { recs := [rec0 7 8 false], save := some (save false) }).ret.save = some (save false)) ∧
    (2 ≤ (15 : Fin 16).val ∧ bank.st ≠ .save ∧ bank.warn = none ∧ bank.ret.erase = none ∧ (bank.erasedAhead 15).length < 2 ∧ bank.oldestSector 15 = some 121 ∧
      (bank.ret.recs.all (fun r => r.sector != 121 || r.done)) = true ∧ (List.range 16).all (fun c => decide (bank.openSector c < 8)) = true) ∧
    ((retA .stop { erase := some 127, pstore := some ⟨1, [127, 126], img⟩ }).ret.erase = some 127 ∧ (retA .stop { pstore := some ⟨1, [], img⟩ }).ret.pstore = some ⟨1, [], img⟩ ∧
      (arrive 10000000 (st { stopM with ret := { stopM.ret with erase := some 127 }, sup := { stopM.sup with suspAt := some 10000000 } })).sup.suspAt = some 10000000) ∧
    (prot.fld R.RET_PROT_LEVEL = 2 ∧ prot.st = .stop ∧ (arrive 2000000 (st (runM.setFld R.RET_PROT_LEVEL 3))).st ≠ .stop) := by decide +kernel

theorem wit_registers :
    (arrive 10000000 (st stopM)).st ≠ .off ∧ isLo 0x30000 = true ∧ isLo 0x30004 = false ∧ regOutside 0xFFFFFF = true ∧ regFields 0x30003 = [] ∧ regOutside 0x10000 = false ∧
    0x30000 / 0x10000 = 3 ∧ (regFields R.RET_PROT_LEVEL.addr).any (fun f => decide (f.acc = .rw)) = true := by decide +kernel

/-! ### Witnesses: the service protocol -/

/-- The key of every role, accepted on both transports. -/
def key0 : List Byte := List.replicate 32 7

/-- A module of a package with keys, in a state. -/
def svcM (s : MState) : Mach := { stopM with st := s, upd := { stopM.upd with roles := List.replicate 3 ⟨true, true, key0⟩ } }

/-- A request of role 3 of client 5 over the UART, without its MAC, and with it. -/
def reqHead (op : Nat) (body : List Byte) : List Byte :=
  leBytes 2 0x53A7 ++ [1, 0, 3, 0] ++ leBytes 2 op ++ leBytes 8 5 ++ leBytes 4 0 ++ leBytes 4 9 ++ leBytes 2 0 ++ leBytes 2 body.length ++ body

/-- The message with its MAC. -/
def reqMsg (head : List Byte) : SvcMsg := ⟨none, 1, uartPart (head ++ (hmac256 key0 head).take 16)⟩

/-- The request it is. -/
def reqOf (head : List Byte) : SvcReq :=
  { uart := true, role := byteAt head 4, op := fieldAt head 6 2, client := fieldAt head 8 8, session := fieldAt head 16 4, reqid := fieldAt head 20 4, body := head.drop 28,
    mac := (hmac256 key0 head).take 16, signed := head }

/-- The module as a request finds it, and as it works on it. -/
def found (m : Mach) : Mach := arrive 10000000 (st m)
def askB (m : Mach) (op : Nat) (body : List Byte) : Mach := ((found m).takeClient (reqOf (reqHead op body))).getD (found m)

/-- Is it accepted by every check? -/
def askOk (m0 : Mach) (op : Nat) (body : List Byte) : Bool :=
  let m := found m0
  let head := reqHead op body
  let b := askB m0 op body
  decide (28 ≤ head.length ∧ head.length ≤ 1456 ∧ fieldAt head 0 2 = 0x53A7 ∧ byteAt head 2 = 1 ∧ byteAt head 3 = 0 ∧ fieldAt head 26 2 + 28 = head.length ∧ fieldAt head 6 2 = op) &&
    !(m.st == .off || m.st == .boot) && decide (byteAt head 4 ≠ 0) && m.roleKey true (byteAt head 4) == some key0 && (op == opIdent || fieldAt head 16 4 == m.svc.session) &&
    (m.takeClient (reqOf head)).isSome && (storedOf b (reqOf head)).isEmpty && !b.roleLow (reqOf head) && !b.stateBad (reqOf head)

theorem hmac_length (k a : List Byte) : ((hmac256 k a).take 16).length = 16 := by
  simp [hmac256, sha256, beBytes, leBytes]

theorem fieldAt_append (a b : List Byte) (i n : Nat) (h : i + n ≤ a.length) : fieldAt (a ++ b) i n = fieldAt a i n := by
  unfold fieldAt
  rw [List.drop_append_of_le_length (by omega), List.take_append_of_le_length (by simp; omega)]

theorem byteAt_append (a b : List Byte) (i : Nat) (h : i < a.length) : byteAt (a ++ b) i = byteAt a i := by
  unfold byteAt
  simp [List.getD_eq_getElem?_getD, List.getElem?_append_left h]

/-- A request that passes the checks asks for its operation. -/
theorem asks_of_ok (m0 : Mach) (op : Nat) (body : List Byte) (h : askOk m0 op body = true) :
    Asks (arrive 10000000 (st m0)) (reqMsg (reqHead op body)) op (reqOf (reqHead op body)) (some key0) (askB m0 op body) := by
  change Asks (found m0) _ _ _ _ _
  generalize hh : reqHead op body = head at *
  have hb : askB m0 op body = ((found m0).takeClient (reqOf head)).getD (found m0) := by rw [askB, hh]

  simp only [askOk, hh, Bool.and_eq_true, decide_eq_true_eq, Bool.not_eq_true', Bool.or_eq_false_iff, beq_iff_eq, beq_eq_false_iff_ne, Bool.or_eq_true, List.isEmpty_iff] at h
  obtain ⟨⟨⟨⟨⟨⟨⟨⟨⟨hl, hu, hf0, h2, h3, hn, ho⟩, hs⟩, h4⟩, hk⟩, hse⟩, ht⟩, hr⟩, hlow⟩, hbad⟩ := h
  have hm := hmac_length key0 head
  refine ⟨⟨?_, ho, ⟨found m0, ⟨hs.1, hs.2, rfl⟩, ?_, hse, ?_⟩, ?_, ?_⟩, hlow, hbad⟩
  · have e : (head ++ (hmac256 key0 head).take 16).length = head.length + 16 := by simp only [List.length_append, hm]
    simp only [reqMsg, svcParse, svcMessage, Option.isNone_none, if_pos, uartMessage_part _ (show (head ++ (hmac256 key0 head).take 16).length ≤ 1472 by omega), Option.bind_some, e]
    rw [fieldAt_append _ _ _ _ (by omega), byteAt_append _ _ _ (by omega), byteAt_append _ _ _ (by omega), fieldAt_append _ _ _ _ (by omega), if_pos (by omega),
      byteAt_append _ _ _ (by omega), fieldAt_append _ _ _ _ (by omega), fieldAt_append _ _ _ _ (by omega), fieldAt_append _ _ _ _ (by omega), fieldAt_append _ _ _ _ (by omega)]
    simp [reqOf, List.drop_append_of_le_length hl]
  · simp [Mach.svcAuth, reqOf, h4, hk]
  · rw [hb]
    obtain ⟨b, hb'⟩ := Option.isSome_iff_exists.mp ht
    simp [hb']
  · rw [hr]; simp
  · rw [hr]; simp

/-- Requests that pass every check, one for each operation at a length and at values of its range. -/
theorem wit_requests :
    (∀ x ∈ [(0x0001, []), (0x0002, []), (0x0003, leBytes 4 0x30000 ++ leBytes 4 0x30004), (0x0003, leBytes 256 0), (0x0003, leBytes 4 0x130000), (0x0003, [1]), (0x0003, []),
        (0x0003, leBytes 260 0), (0x0004, leBytes 12 0x30000), (0x0004, leBytes 12 0x130000)], askOk (svcM .config) x.1 x.2 = true) ∧
    (∀ x ∈ [(0x0005, leBytes 4 0 ++ leBytes 4 6764 ++ leBytes 4 1428), (0x0005, leBytes 4 3 ++ leBytes 4 262143 ++ leBytes 4 1), (0x0005, leBytes 4 3 ++ leBytes 4 262143 ++ leBytes 4 2),
        (0x0005, leBytes 12 0), (0x0030, leBytes 4 0x3FFA74 ++ leBytes 4 1420), (0x0030, leBytes 4 0x3FFFFF ++ leBytes 4 2), (0x0022, []), (0x0006, leBytes 8 1), (0x0041, leBytes 4 9),
        (0x0007, [0]), (0x0007, [1]), (0x0007, [2]), (0x0008, []), (0x000A, []), (0x001A, leBytes 4 3), (0x001A, leBytes 4 4)], askOk (svcM .stop) x.1 x.2 = true) ∧
    (∀ x ∈ [(0x0007, [0]), (0x0007, [1]), (0x001A, leBytes 4 0)], askOk (svcM .run) x.1 x.2 = true) := by decide +kernel

theorem wit_reads :
    let a := askB (svcM .stop) 0x0006 (leBytes 8 1)
    let h : Handle := { no := 9, op := 0x0010, client := 5, uart := true }
    let held := { svcM .stop with svc := { State.reset.m.svc with handles := [h] } }
    let mode := fun (m : Mach) => askB m 0x0007 [1]
    let good := (svcM .stop).setFld R.UPD_PKGSTAT_STATE 1
    let lead := { (svcM .run).setFld R.PRT_STAT_ROLE 1 with pair := { State.reset.m.pair with ptnFollow := true } }
    (a.runningOp 0x0006 = none ∧ a.svc.handles.length < 8 ∧ a.svc.nextHandle ≤ 65535) ∧ (askB (svcM .stop) 0x0041 (leBytes 4 9)).handle 9 = none ∧
    (askOk held 0x0041 (leBytes 4 9) = true ∧ (askB held 0x0041 (leBytes 4 9)).handle 9 = some h) ∧
    ((mode (svcM .stop)).verified = false ∧ (mode good).verified = true ∧ (mode good).flag R.PWR_STAT_HOLDUP_OK = false ∧
      (mode (good.setFlag R.PWR_STAT_HOLDUP_OK true)).flag R.PWR_STAT_HOLDUP_OK = true ∧ (mode good).cu.app = none ∧ (mode good).paired = false ∧ (mode good).st = .stop) ∧
    (askOk lead 0x0009 [] = true ∧ (askB lead 0x0009 []).pair.yielding = none) ∧
    (let p := (svcM .run).setFld R.RET_PROT_LEVEL 1; askOk p 0x001A (leBytes 4 0) = true ∧ 0 < (askB p 0x001A (leBytes 4 0)).fld R.RET_PROT_LEVEL) := by decide +kernel

/-- ServiceChecks: messages of role 0 whose MAC is wrong, whose session is another, whose client the table has no room for, which repeat a request, with the same MAC and with
another, and which are older; a role that is too low and a state that is wrong; a malformed message and an unknown operation. -/
def msg0 (role op session reqid : Nat) (mac : List Byte) : SvcMsg :=
  ⟨none, 1, uartPart (leBytes 2 0x53A7 ++ [1, 0] ++ leBytes 1 role ++ [0] ++ leBytes 2 op ++ leBytes 8 5 ++ leBytes 4 session ++ leBytes 4 reqid ++ leBytes 4 0 ++ mac)⟩

def ask0 (x : SvcMsg) : Option SvcReq := svcParse true x.bytes
def mac0 : List Byte := List.replicate 16 0
def svcWith (x : Svc) : Mach := found { svcM .stop with svc := x }
def busyM : Mach := svcWith { clients := (List.range 16).map (fun i => ⟨100 + i, true, [], 0⟩), handles := (List.range 16).map (fun i => { no := i, op := 6, client := 100 + i, uart := true }) }
def knowsM : Mach := svcWith { clients := [⟨5, true, [(8, mac0, [1]), (9, mac0, [2])], 0⟩] }

theorem wit_checks :
    ((found (svcM .stop)).st ≠ .off ∧ (found (svcM .stop)).st ≠ .boot) ∧ (ask0 (msg0 0 0x0001 0 9 (leBytes 16 1))).map (found (svcM .stop)).svcAuth = some none ∧
    (ask0 (msg0 0 0x0001 0 9 mac0)).map (found (svcM .stop)).svcAuth = some (some none) ∧ (ask0 (msg0 0 0x0022 1 9 mac0)).map (·.session) = some 1 ∧
    ((ask0 (msg0 0 0x0001 0 9 mac0)).bind busyM.svcClient = none ∧ 16 ≤ busyM.svc.clients.length ∧ busyM.svc.clients.all busyM.hasHandle = true) := by decide +kernel

theorem wit_repeats :
    (ask0 (msg0 0 0x0001 0 9 mac0)).bind (fun r => (knowsM.takeClient r).map (fun b => (storedOf b r).find? (fun x => x.1 == 9))) = some (some (9, mac0, [2])) ∧
    (ask0 (msg0 0 0x0001 0 7 mac0)).bind (fun r => (knowsM.takeClient r).map (fun b => (storedOf b r).getLast?)) = some (some (9, mac0, [2])) ∧
    idLater 9 7 = false ∧ idLater 9 10 = true ∧ (ask0 (msg0 0 0x0002 0 9 mac0)).map (fun r => (found (svcM .stop)).roleLow r) = some true ∧
    (askB (svcM .fault) 0x0007 [0]).stateBad (reqOf (reqHead 0x0007 [0])) = true ∧ ask0 ⟨none, 1, [1]⟩ = none ∧ opCodes.contains 0x7777 = false ∧
    askOk (svcM .stop) 0x7777 [] = true := by decide +kernel

/-- R539: the escapes of the UART frame. -/
theorem test_uart_stuffing : uartStuff [0x7E, 0x01, 0x7D] = [0x7D, 0x5E, 0x01, 0x7D, 0x5D] := by decide

/-- A module with a handle of client 5 for an operation. -/
def handM (s : MState) (h : Handle) : Mach := { svcM s with svc := { State.reset.m.svc with handles := [h], nextHandle := 65535 } }
def hand0 (op : Nat) : Handle := { no := 9, op := op, client := 5, uart := true }

/-- Module of a key whose slot A is active and VALID, with a staging. -/
def stageM (got : Nat) (rb : Bool) (h : Handle) : Mach :=
  { handM .stop h with upd := { (handM .stop h).upd with key := { hdr := some (hdr0 0) }, stg := some ⟨1, 4096, List.replicate 32 1, got, rb⟩ } }

theorem wit_packages :
    let d := fun (n : Nat) => leBytes 4 n ++ List.replicate 32 1
    let keyed := { svcM .stop with upd := { (svcM .stop).upd with key := { hdr := some (hdr0 0) } } }
    let pend := (keyed.setFlag R.UPD_KEYSTAT_ACTPEND true).setFld R.UPD_PKGSTAT_STATE 1
    (∀ n ∈ [4095, 4096, 29360128, 29360129], askOk (svcM .stop) 0x0010 (d n) = true) ∧ (askB (svcM .stop) 0x0010 (d 4096)).stageBusy = false ∧
    (askOk (stageM 0 false (hand0 0x0010)) 0x0010 (d 4096) = true ∧ (askB (stageM 0 false (hand0 0x0010)) 0x0010 (d 4096)).stageBusy = true) ∧
    (askOk pend 0x0010 (d 4096) = true ∧ (askB pend 0x0010 (d 4096)).stageBusy = false ∧ (askB pend 0x0010 (d 4096)).flag R.UPD_KEYSTAT_ACTPEND = true ∧
      (askB pend 0x0010 (d 4096)).verified = true) ∧
    ((askB (svcM .stop) 0x0010 (d 4096)).svc.handles.length < 8 ∧ (askB (svcM .stop) 0x0010 (d 4096)).svc.nextHandle ≤ 65535) ∧
    (askOk keyed 0x0011 (List.replicate 32 0) = true ∧ (askB keyed 0x0011 []).upd.stg = none ∧ (askB keyed 0x0011 []).upd.actPend = none ∧ (askB keyed 0x0011 []).keyHdr.active = 1 - 1 ∧
      (askB keyed 0x0011 []).keyHdr.slotState 1 = 2 ∧ (askB keyed 0x0011 []).keyHdr.slotDig 1 = List.replicate 32 0 ∧ askOk keyed 0x0011 (List.replicate 32 1) = true ∧
      (askB keyed 0x0011 []).keyHdr.slotDig 1 ≠ List.replicate 32 1) := by decide +kernel

/-- A package whose only section is a map from the package without bytes. -/
def mapPkg : List Byte :=
  List.replicate 12 0 ++ leBytes 2 1 ++ List.replicate 242 0 ++ (leBytes 2 17 ++ leBytes 2 2 ++ leBytes 4 320 ++ leBytes 4 64 ++ leBytes 4 0) ++ List.replicate 48 0 ++ (pkgDigest [] ++ List.replicate 32 0)

def olcM (s : Nat) : Mach := ({ svcM .run with upd := { (svcM .run).upd with staged := some mapPkg } }).setFld R.IMG_OLCSTAT_STATE s

theorem wit_onlineLoad :
    (askOk (olcM olcIdle) 0x0012 [] = true ∧ (askB (olcM olcIdle) 0x0012 []).runningOp 0x0012 = none ∧ (askB (olcM olcIdle) 0x0012 []).olcState = olcIdle ∧
      (askB (olcM olcIdle) 0x0012 []).olcCheck = none ∧ (askB (olcM olcIdle) 0x0012 []).upd.staged = some mapPkg) ∧
    ((askB (svcM .run) 0x0012 []).olcCheck = some 0x01 ∧ askOk (svcM .run) 0x0012 [] = true) := by decide +kernel

theorem wit_onlineSwap :
    (askOk (olcM olcReady) 0x0013 [] = true ∧ askOk (olcM olcIdle) 0x0013 [] = true ∧ (askB (olcM olcReady) 0x0013 []).olcState = olcReady ∧ (askB (olcM olcReady) 0x0013 []).swapCheck = none) ∧
    (∀ s ∈ [olcIdle, olcWindow, olcReady, olcArmed, olcLoad], askOk (olcM s) 0x0014 [] = true ∧ (askB (olcM s) 0x0014 []).olcState = s) := by decide +kernel

/-- A module with an image in the second half of the parameter store, a mapped word and a protect level. -/
def parM (level : Nat) : Mach :=
  let i : ParImage := { num := 4, src := 0, digest := 5, csn := 0, time := 0, level := 0, data := [(0, 1)] }
  (({ svcM .stop with ret := { State.reset.m.ret with half1 := some i, parMap := [(0, 1, 196604)], parDigest := 5 } }).setFld R.RET_PROT_LEVEL level).setFlag R.RET_STAT_BUSY false

theorem wit_parameters :
    (∀ x ∈ [0, 1], askOk (parM 1) 0x0018 (leBytes 4 x) = true) ∧ ((askB (parM 1) 0x0018 (leBytes 4 0)).parBusy = false ∧ (askB (parM 1) 0x0018 (leBytes 4 0)).runningOp 0x0018 = none ∧
      (askB (parM 1) 0x0018 (leBytes 4 0)).newestImage.map (·.1) = some 1 ∧ (askB (parM 1) 0x0018 (leBytes 4 0)).parWords = [(0, 196604)] ∧
      (askB (parM 1) 0x0018 (leBytes 4 0)).parProtected 196607 = false ∧ (askB (parM 1) 0x0018 (leBytes 4 0)).parProtected 196608 = true) ∧
    (let e := (svcM .stop).setFlag R.RET_STAT_BUSY false
     askOk e 0x0019 (leBytes 4 0) = true ∧ (askB e 0x0019 (leBytes 4 0)).newestImage = none ∧ (askB e 0x0019 (leBytes 4 0)).parBusy = false) ∧
    (askOk (parM 0) 0x0019 (leBytes 4 0) = true ∧ ((askB (parM 0) 0x0019 (leBytes 4 0)).newestImage.map (fun x => x.2.digest)) = some (askB (parM 0) 0x0019 (leBytes 4 0)).ret.parDigest) ∧
    (let o := { parM 0 with ret := { (parM 0).ret with parDigest := 6 } }
     askOk o 0x0019 (leBytes 4 1) = true ∧ ((askB o 0x0019 (leBytes 4 1)).newestImage.map (fun x => x.2.digest)) ≠ some (askB o 0x0019 (leBytes 4 1)).ret.parDigest ∧
      askOk o 0x0019 (leBytes 4 0) = true) := by decide +kernel

/-- A module with lines of the update journal, an image in its store, and the bytes announced of it. -/
def fwM (lines : List UpdLine) (img : List Byte) (len : Option Nat) : Mach :=
  { handM .stop (hand0 0x0020) with upd := { (svcM .stop).upd with lines := lines, store := img, fwLen := len } }

/-- An image without payload whose header names the digest of no bytes. -/
def img0 : List Byte := List.replicate 48 0 ++ sha256 [] ++ List.replicate 176 0

theorem wit_firmware :
    (askOk (svcM .stop) 0x0020 (leBytes 4 1) = true ∧ (askB (svcM .stop) 0x0020 (leBytes 4 1)).runningOp 0x0020 = none) ∧
    (askOk (olcM olcReady) 0x0021 (leBytes 4 1) = true ∧ (askB (olcM olcReady) 0x0021 (leBytes 4 1)).olcState ≠ olcIdle) ∧
    (let m := fwM [⟨1, 0, 0, 0, []⟩] [] none
     askOk m 0x0021 (leBytes 4 1) = true ∧ (askB m 0x0021 (leBytes 4 1)).olcState = olcIdle ∧ (askB m 0x0021 (leBytes 4 1)).flag R.IMG_OLCSTAT_KEYPEND = false ∧
      (askB m 0x0021 (leBytes 4 1)).upd.fwLen = none ∧ (askB m 0x0021 (leBytes 4 1)).upd.lines.getLast?.map (·.ty) = some 1) ∧
    (let m := arrive 10000000 (st (fwM [] img0 (some 256)))
     m.upd.fwLen = some 256 ∧ m.runningOp 0x0020 = some (hand0 0x0020) ∧ m.upd.store.length = 256 ∧ fwDigestOk m.upd.store = true ∧ m.st ≠ .loader) ∧
    (let m := arrive 10000000 (st (fwM [] (List.replicate 256 0) (some 256))); m.upd.store.length = 256 ∧ fwDigestOk m.upd.store = false) := by decide +kernel

/-- A step of handle 9 at an offset. -/
def stepBody (off : Nat) (data : List Byte) : List Byte := leBytes 2 9 ++ leBytes 2 0 ++ leBytes 4 off ++ data

def stepB (m : Mach) (off : Nat) (data : List Byte) : Mach := askB m 0x0040 (stepBody off data)

theorem wit_steps :
    (∀ s ∈ [0, 1, 2, 3], askOk (handM .stop { hand0 0x0006 with state := s }) 0x0040 (stepBody 0 []) = true ∧ askOk (handM .stop { hand0 0x0006 with state := s }) 0x0042 (leBytes 4 9) = true) ∧
    (askOk (svcM .stop) 0x0042 (leBytes 4 9) = true ∧ (askB (svcM .stop) 0x0042 (leBytes 4 9)).ownHandle (reqOf (reqHead 0x0042 (leBytes 4 9))) = none) ∧
    ((stepB (handM .stop (hand0 0x0006)) 0 []).ownHandle (reqOf (reqHead 0x0040 (stepBody 0 []))) = some (hand0 0x0006) ∧ (hand0 0x0006).taken = 0 ∧ (hand0 0x0006).done = 0 ∧ (hand0 0x0006).prev = []) ∧
    (let h := { hand0 0x0010 with done := 1, lastOff := 4, lastData := [1] }
     askOk (handM .stop h) 0x0040 (stepBody 4 [1]) = true ∧ (stepB (handM .stop h) 4 [1]).ownHandle (reqOf (reqHead 0x0040 (stepBody 4 [1]))) = some h) ∧
    (∀ op ∈ [0x0010, 0x0018, 0x0020], askOk (handM .stop (hand0 op)) 0x0042 (leBytes 4 9) = true ∧
      (askB (handM .stop (hand0 op)) 0x0042 (leBytes 4 9)).ownHandle (reqOf (reqHead 0x0042 (leBytes 4 9))) = some (hand0 op)) := by decide +kernel

/-- A header that passes steps 5 to 7 and whose directory does not. -/
def head0 (ver : Nat) : List Byte :=
  leBytes 4 0x58424B53 ++ leBytes 2 ver ++ leBytes 2 0x6016 ++ leBytes 4 4096 ++ leBytes 2 1 ++ List.replicate 242 0

theorem wit_download :
    (∀ x ∈ [(64, 64, 1), (64, 4064, 32), (64, 4064, 33), (63, 64, 1)], askOk (stageM x.1 false (hand0 0x0010)) 0x0040 (stepBody x.2.1 (List.replicate x.2.2 5)) = true ∧
      (stepB (stageM x.1 false (hand0 0x0010)) x.2.1 (List.replicate x.2.2 5)).upd.stg = some ⟨1, 4096, List.replicate 32 1, x.1, false⟩) ∧
    (hand0 0x0010).driven = true ∧
    (let m := stageM 0 false (hand0 0x0010)
     askOk m 0x0040 (stepBody 0 (head0 2)) = true ∧ headLen (head0 2) ≤ (head0 2 ++ List.replicate 16 0).length ∧
      (pkgCheckHead (head0 2 ++ List.replicate 16 0) 4096 5).isSome = true) ∧
    (let m := arrive 10000000 (st (stageM 4096 true (hand0 0x0010))); m.alive = true ∧ m.upd.stg = some ⟨1, 4096, List.replicate 32 1, 4096, true⟩ ∧ m.olcState = olcIdle ∧
      m.runningOp 0x0010 = some (hand0 0x0010)) := by decide +kernel

theorem wit_handles :
    let a := fun h => arrive 60000000000 (st (handM .stop h))
    (∀ op ∈ [0x0006, 0x0010, 0x0020], (a (hand0 op)).handle (9 : BitVec 16).toNat = some (hand0 op) ∧ (hand0 op).state = 0 ∧ (hand0 op).driven = true ∧
      (hand0 op).stepAt + 60000000000 ≤ (a (hand0 op)).now) ∧
    ((a { hand0 6 with state := 1, endAt := some 0 }).handle (9 : BitVec 16).toNat = some { hand0 6 with state := 1, endAt := some 0 } ∧ 0 + 60000000000 ≤ (a (hand0 6)).now) ∧
    (hand0 6).endAt = none := by decide +kernel

/-- A header with its check, over which the CRC-32 register passes in steps of 32 bytes, and a directory of the mandatory sections, each empty. -/
def headHead : List Byte := leBytes 4 0x58424B53 ++ leBytes 2 1 ++ leBytes 2 0x6016 ++ leBytes 4 4096 ++ leBytes 2 10 ++ List.replicate 18 0
def headOk : List Byte :=
  (headHead ++ List.replicate 220 0) ++ leBytes 4 0x81ff724b ++
    [1, 2, 3, 4, 5, 9, 10, 13, 15, 18].flatMap (fun t => leBytes 2 t ++ leBytes 2 (if t ≤ 5 then 3 else 2) ++ leBytes 4 448 ++ leBytes 8 0)

theorem head_crc : crc32 (sliceAt headOk 0 252) = 0x81ff724b#32 := by
  have e : sliceAt headOk 0 252 = headHead ++ (List.replicate 32 0 ++ (List.replicate 32 0 ++ (List.replicate 32 0 ++ (List.replicate 32 0 ++ (List.replicate 32 0 ++
    (List.replicate 32 0 ++ List.replicate 28 0)))))) := by decide +kernel
  have h0 : headHead.foldl crc32Byte 0xFFFFFFFF#32 = 0xdb21fe33#32 := by decide +kernel
  have h1 : (List.replicate 32 (0 : Byte)).foldl crc32Byte 0xdb21fe33#32 = 0x8c36ac63#32 := by decide +kernel
  have h2 : (List.replicate 32 (0 : Byte)).foldl crc32Byte 0x8c36ac63#32 = 0xdf72320b#32 := by decide +kernel
  have h3 : (List.replicate 32 (0 : Byte)).foldl crc32Byte 0xdf72320b#32 = 0x6ea30a04#32 := by decide +kernel
  have h4 : (List.replicate 32 (0 : Byte)).foldl crc32Byte 0x6ea30a04#32 = 0x106c0b29#32 := by decide +kernel
  have h5 : (List.replicate 32 (0 : Byte)).foldl crc32Byte 0x106c0b29#32 = 0xfa4f02be#32 := by decide +kernel
  have h6 : (List.replicate 32 (0 : Byte)).foldl crc32Byte 0xfa4f02be#32 = 0x4c09d217#32 := by decide +kernel
  have h7 : (List.replicate 28 (0 : Byte)).foldl crc32Byte 0x4c09d217#32 = 0x7e008db4#32 := by decide +kernel
  unfold crc32
  rw [e, List.foldl_append, h0, List.foldl_append, h1, List.foldl_append, h2, List.foldl_append, h3, List.foldl_append, h4, List.foldl_append, h5, List.foldl_append, h6, h7]
  decide

theorem wit_firstStep :
    let m := { stageM 0 false (hand0 0x0010) with regs := [(R.UPD_FWBUILD.addr, 5)] }
    askOk m 0x0040 (stepBody 0 headOk) = true ∧ (stepB m 0 headOk).upd.stg = some ⟨1, 4096, List.replicate 32 1, 0, false⟩ ∧ headLen headOk ≤ headOk.length ∧
    0 + headOk.length ≤ 4096 ∧ (stepB m 0 headOk).fld R.UPD_FWBUILD = 5 := by decide +kernel

theorem wit_firstStepHead : pkgCheckHead headOk 4096 5 = none := by
  unfold pkgCheckHead chkHeader
  rw [head_crc]
  decide +kernel

/-- A firmware header of a build, and the version the module's pair protocol has. -/
def fwHead : List Byte :=
  leBytes 4 0x465A4C42 ++ leBytes 2 256 ++ leBytes 2 0x6016 ++ leBytes 8 0 ++ leBytes 4 7 ++ leBytes 4 4062976 ++ List.replicate 232 0

/-- Whether a firmware header passes rests on its signature alone, which the model leaves open: the witness of a header that passes is one with a good signature. -/
theorem wit_fwHeader (h : Config.signatureOk (sliceAt fwHead 0 80) (sliceAt fwHead 80 64) = true) :
    let m := { fwM [] [] none with regs := [(R.UPD_FWBUILD.addr, 5), (R.UPD_FWPVER.addr, 0x10000)] }
    m.fwHeader fwHead false = none ∧ fwHead.length = 256 := by
  refine ⟨?_, by decide +kernel⟩
  unfold Mach.fwHeader
  simp only [h]
  decide +kernel

/-- A header that does not: its magic number is wrong. -/
theorem wit_fwHeaderBad : (askB (fwM [] [] none) 0x0040 (stepBody 0 (List.replicate 256 0))).fwHeader (List.replicate 256 0) false = some 0x01 := by decide +kernel

/-- Any package can be the one a staging has written: the module with its bytes in slot B reads them back. (A package that passes every check exists; NOTES.md says how one was
found.) -/
theorem wit_readback (p : List Byte) : (Mach.slotBytes { State.reset.m with upd := { State.reset.m.upd with key := { slotB := p.zipIdx.map (fun x => (x.2, x.1)) } } } 1 p.length).length = p.length := by
  simp [Mach.slotBytes]

/-! ### Ill-formed commands, one for each check -/

/-- A frame of a bay bus of 9 bytes, of no length a CAN FD frame has. -/
def canBad9 : CanFrame := ⟨0x081, List.replicate 9 0, 0⟩
/-- A head whose stamp is beyond 64 bits. -/
def headBad : PortHead := ⟨0, 0, none, 2 ^ 64⟩

/-- An instant beyond 64 bits, a bay-bus frame of 9 bytes, a link payload of 129 bytes, a stamp beyond 64 bits, and their well-formed neighbours. -/
theorem test_wf_frames :
    ((Instr.vsupStart (2 ^ 64)).wf = false ∧ (Instr.vsupStart (2 ^ 64 - 1)).wf = true) ∧
    ((Instr.evtFrame 0 0 canBad9).wf = false ∧ (Instr.evtFrame 0 0 { canBad9 with data := [] }).wf = true ∧ (Instr.evtFrame 0 0 ⟨0x081, [], 2 ^ 64⟩).wf = false) ∧
    ((Instr.hello 0 (rxF 0 (leBytes 129 0))).wf = false ∧ (Instr.hello 0 (rxF 0 (leBytes 128 0))).wf = true ∧ (Instr.malformedLinkFrame 0 1 (rxF 0 (leBytes 129 0))).wf = true) ∧
    ((Instr.announce 0 headBad ann0).wf = false ∧ (Instr.announce 0 head1 ann0).wf = true) := by decide +kernel
/-- Fields of PTP, GOOSE, IRIG-B and service messages beyond their widths. -/
theorem test_wf_messages :
    ((Instr.announce 0 head1 { ann0 with prio1 := 256 }).wf = false) ∧
    ((Instr.sync 0 head1 { sync0 with corr := 2 ^ 47 }).wf = false ∧ (Instr.sync 0 head1 sync0).wf = true) ∧
    ((Instr.pdelayReq 0 head1 { pdelay0 with time := 2 ^ 48 * 1000000000 } 0).wf = false ∧ (Instr.pdelayReq 0 head1 pdelay0 0).wf = true) ∧
    ((Instr.gooseFrame 0 head1 { goose0 with tal := 2 ^ 32 }).wf = false ∧ (Instr.gooseFrame 0 head1 goose0).wf = true) ∧
    ((Instr.irigFrame 0 0 { irig0 with sec := 86 }).wf = false ∧ (Instr.irigFrame 0 0 irig0).wf = true) ∧
    ((Instr.ident 0 ⟨none, 1, [0x7E]⟩).wf = false ∧ (Instr.ident 0 ⟨none, 2 ^ 48, []⟩).wf = false ∧ (Instr.ident 0 ⟨none, 1, []⟩).wf = true) ∧
    ((Instr.icmpEcho 0 head1 0 (leBytes 1473 0)).wf = false) := by decide +kernel
/-- Inputs named twice or none, nine digests, a bank named twice, sequence numbers beyond 32 bits, a current and a temperature no sensor gives. -/
theorem test_wf_operands :
    ((Instr.diTransitionAccepted 0 []).wf = false ∧ (Instr.diTransitionAccepted 0 [(5, 0), (5, 1)]).wf = false ∧ (Instr.diTransitionAccepted 0 [(5, 0), (6, 1)]).wf = true) ∧
    ((Instr.auditComplete 0 (List.replicate 9 0)).wf = false ∧ (Instr.auditComplete 0 (List.replicate 8 0)).wf = true) ∧
    ((Instr.codeBankCheck 0 [3, 3]).wf = false) ∧
    ((Instr.flashScrub 0 [] [2 ^ 32]).wf = false ∧ (Instr.recordWriteComplete 0 (2 ^ 32) true).wf = false) ∧
    ((Instr.wireBreakMeasurement 0 0 (2 ^ 16)).wf = false) ∧
    ((Instr.thermistorMeasurement 0 (2 ^ 63)).wf = false) := by decide +kernel
theorem test_wf_image (l : List (BitVec 8)) (h : 262144 < l.length) : (Instr.paramStore 0 ⟨none, 1, []⟩ l).wf = false := by
  simp [Instr.wf, Nat.not_le.mpr h]

/-! ### Single steps, against the manual's figures -/

/-- The module after a command. -/
def after (c : Instr) (m : Mach) : Option Mach :=
  match exec c (st m) with
  | .next s => some s.m
  | .fault _ => none
  | .refused _ => none

/-- R128: ADD is modulo 2^32: 0xFFFFFFFF + 2 = 1, written in X2, the fifth stage: issued in slot 3 it is written in slot cycle 7. R135: CMPLT is signed and CMPLTU is not: 0xFFFFFFFF and 2. -/
theorem test_arithmetic :
    (after (.add 0 gd0 ⟨20, 10, 13, 0⟩) (engM eng0)).map (fun m => (m.eng 0).flight) = some [⟨7, .g 20 1⟩] ∧
    (after (.cmplt 0 gd0 ⟨3, 10, 13, 0⟩) (engM eng0)).map (fun m => (m.eng 0).flight.map (·.w)) = some [.p 3 true] ∧
    (after (.cmpltu 0 gd0 ⟨3, 10, 13, 0⟩) (engM eng0)).map (fun m => (m.eng 0).flight.map (·.w)) = some [.p 3 false] := by decide +kernel

/-- The example of *Scope of this manual*: the inputs of station 7 on BB0 begin at I:512, its outputs at Q:224. -/
theorem test_station_ranges : staIn 0 7 = 512 ∧ staOut 0 7 = 224 ∧ staIn 0 7 + 63 = 575 ∧ staOut 0 7 + 31 = 255 := by decide

/-- R38: an application of a segment with one entry lasts 0.102 µs. R304: below 0.3 mA a measurement says broken, from 0.5 mA on intact. -/
theorem test_figures :
    (after (.applicationStart 2000000) (runM.setTask 31 { held := some scanH })).bind (fun m => m.cu.app.map (fun a => a.doneAt - a.startAt)) = some 102 ∧
    (∀ x ∈ [(299, 1), (300, 0), (499, 0), (500, 2)],
      (after (.wireBreakMeasurement 10000000 63 x.1) (stopM.setFlag (diBit R.FIO_WBEN_LO 63) true)).map (fun m => (m.di 63).cls) = some x.2) := by decide +kernel

/-- The CRC-32 of R162 of the bytes of "123456789", whose value the CRC's name fixes: 0xCBF43926 (PRESUMED: from outside the manual). -/
theorem test_crc32 : crc32 (asciiBytes "123456789") = 0xCBF43926#32 := by decide +kernel

/-- SHA-256 of no bytes begins 0xE3B0C442 (FIPS 180-4). -/
theorem test_sha256 : (sha256 []).take 4 = [0xE3, 0xB0, 0xC4, 0x42] := by decide +kernel

/-- The command in front is taken, and the others wait on. -/
theorem test_queue : (match step { m := stopM, pending := [.vsupStart 0, .holdupOkReached 10000000] } with
    | .next s => s.pending.length
    | .fault _ => 9
    | .refused _ => 9) = 1 := by decide +kernel

/-- An idle module's time base moves on by one period of 10 ns. -/
theorem test_idle : (match step (st stopM) with
    | .next s => s.m.now
    | .fault _ => 0
    | .refused _ => 0) = 10000010 := by decide +kernel

/-! ### Instruction words the manual writes out -/

/-- The examples of R130: `AND g4, g1, g2`, `BGTH g1, [g0 + 224]` and `(!p3) AND g4, g1, g2`; R90: the fill 0xFFFFFFFF is a reserved opcode, and so are all of 0x70–0x7F. -/
theorem test_decode_opcode_map :
    decodeTableWord 32 0x01410108 = some (.and 0 gd0 ⟨4, 1, 2, 0⟩) ∧
    decodeTableWord 32 0x041040E0 = some (.bgth 0 gd0 ⟨1, 0, 0xE0⟩) ∧
    decodeTableWord 32 0x99410108 = some (.and 0 ⟨true, 3⟩ ⟨4, 1, 2, 0⟩) ∧
    (decodeTableWord 32 0xFFFFFFFF).map Instr.wf = some true ∧
    (match decodeTableWord 32 0xFFFFFFFF with | some (.reservedOpcode 0 g w) => g == ⟨true, 15⟩ && w == 0x7FFFFFF | _ => false) = true := by decide +kernel
/-- The program of the example of chapter 5, word by word. -/
theorem test_decode_program :
    decodeTableWord 32 0x00828200 = some (.movi 0 gd0 ⟨10, 512⟩) ∧
    decodeTableWord 32 0x035040E1 = some (.lqb 0 gd0 ⟨1, 0, 225⟩) ∧
    decodeTableWord 32 0x03408A00 = some (.lib 0 gd0 ⟨2, 10, 0⟩) ∧
    decodeTableWord 32 0x0082CBB8 = some (.movi 0 gd0 ⟨11, 3000⟩) ∧
    decodeTableWord 32 0x0140C108 = some (.and 0 gd0 ⟨3, 1, 2, 0⟩) ∧
    decodeTableWord 32 0x0440C046 = some (.ton 0 gd0 ⟨3, 0, 70⟩) ∧
    decodeTableWord 32 0x03D0CB07 = some (.smb 0 gd0 ⟨3, 11, 7⟩) ∧
    (match decodeTableWord 32 0x05B00000 with | some (.halt 0 g _) => g == gd0 | _ => false) = true := by decide +kernel

end Sys2Proof.Tests
end

section
/-!
SUPPORT. Reads and writes of single registers: what a written field's access code makes of each bit (R5), which registers take a plain write, and what a read latches (R55).
-/
namespace Sys2Proof.Machine
open Sys2Proof

/-- A module whose command is a meaning at an instant answers with what the meaning makes of the module it finds. -/
theorem answers_runAt {c : Instr} {s : State} {t : Nat} {f : Mach → Mach} {P : Mach → Prop} (h : exec c s = runAt t f s) (hP : P (f (arrive t s))) :
    Answers c s P := ⟨_, h, hP⟩

/-- The bit of a field's mask in its register. -/
theorem fieldMask_getLsbD (l n i : Nat) :
    (BitVec.ofNat 32 ((2 ^ n - 1) <<< l)).getLsbD i = (decide (i < 32) && decide (l ≤ i ∧ i < l + n)) := by
  rw [BitVec.getLsbD_ofNat, Nat.testBit_shiftLeft, Nat.testBit_two_pow_sub_one]
  by_cases h : l ≤ i
  · have : i - l < n ↔ i < l + n := by omega
    simp [h, this]
  · simp [h]

/-- R5: what a bit of a field holds after a write, by the field's access code, from the bit held, the bit of the mask and the bit written. -/
def bitWritten (acc : Access) (b mask v : Bool) : Bool :=
  match acc with
  | .ro | .wo | .rwl | .otp => b
  | .rw => if mask then v else b
  | .w1c | .stk => b && !(mask && v)

/-- A field's write leaves every bit outside the field as it was. -/
theorem fieldWrite_outside (otp : Bool) (f : FieldRow) (w mask v : Word) {i : Nat} (h : i < f.lsb ∨ f.lsb + f.width ≤ i) :
    (fieldWrite otp f w mask v).getLsbD i = w.getLsbD i := by
  have hm : (BitVec.ofNat 32 ((2 ^ f.width - 1) <<< f.lsb)).getLsbD i = false := by
    rw [fieldMask_getLsbD]
    have : ¬ (f.lsb ≤ i ∧ i < f.lsb + f.width) := by omega
    simp [this]
  have hw : w.getLsbD i = true → i < 32 := BitVec.lt_of_getLsbD
  unfold fieldWrite
  cases f.acc with
  | ro | wo | rwl => rfl
  | rw | w1c | stk => simpa [hm] using hw
  | otp => dsimp only; split <;> simp [hm]

/-- R5: a field's write changes each of its bits by the field's access code. -/
theorem fieldWrite_inside (otp : Bool) (f : FieldRow) (w mask v : Word) {i : Nat} (h1 : f.lsb ≤ i) (h2 : i < f.lsb + f.width) (ho : f.acc ≠ .otp) :
    (fieldWrite otp f w mask v).getLsbD i = bitWritten f.acc (w.getLsbD i) (mask.getLsbD i) (v.getLsbD i) := by
  by_cases hi : i < 32
  · have hm : (BitVec.ofNat 32 ((2 ^ f.width - 1) <<< f.lsb))[i] = true := by
      rw [← BitVec.getLsbD_eq_getElem, fieldMask_getLsbD]; simp [hi, h1, h2]
    unfold fieldWrite bitWritten
    cases hacc : f.acc with
    | ro | wo | rwl => rfl
    | rw => cases hb : mask[i] <;> simp [hm, hb, hi]
    | w1c | stk => simp [hm, hi, Bool.or_comm]
    | otp => exact absurd hacc ho
  · rw [BitVec.getLsbD_of_ge _ i (by omega), BitVec.getLsbD_of_ge w i (by omega), BitVec.getLsbD_of_ge mask i (by omega)]
    unfold bitWritten
    cases f.acc <;> rfl

/-- The fields of a register do not share a bit. -/
def fieldsApart (fs : List FieldRow) : Prop := fs.Pairwise (fun f g => f.lsb + f.width ≤ g.lsb ∨ g.lsb + g.width ≤ f.lsb)

/-- The register map gives no bit to two fields of a register (R587). -/
theorem regRows_apart : ∀ n < 0x13, ∀ r ∈ regRows n, fieldsApart r.fields := by
  unfold fieldsApart; decide +kernel

/-- Behind its last block the map holds no register. -/
theorem regRows_beyond {n : Nat} (h : 0x13 ≤ n) : regRows n = [] := by
  obtain ⟨k, rfl⟩ := Nat.exists_eq_add_of_le' h
  rfl

theorem regFields_apart (a : Nat) : fieldsApart (regFields a) := by
  unfold regFields regRow
  split
  · next r h =>
    have hr := List.mem_of_find?_eq_some h
    by_cases hb : a / 0x10000 < 0x13
    · exact regRows_apart _ hb r hr
    · rw [regRows_beyond (by omega)] at hr
      exact absurd hr List.not_mem_nil
  · exact List.Pairwise.nil

/-- Fields that share no bit with bit `i` leave it as it was. -/
theorem writeFields_outside (otp : Bool) (fs : List FieldRow) (w mask v : Word) {i : Nat} (h : ∀ f ∈ fs, i < f.lsb ∨ f.lsb + f.width ≤ i) :
    (fs.foldl (fun (w : Word) f => fieldWrite otp f w mask v) w).getLsbD i = w.getLsbD i := by
  induction fs generalizing w with
  | nil => rfl
  | cons f fs ih =>
    rw [List.foldl_cons, ih _ (fun g hg => h g (List.mem_cons_of_mem _ hg)), fieldWrite_outside _ _ _ _ _ (h f (by simp))]

/-- Of a register's fields each bit is written by its own field alone. -/
theorem writeFields_inside (otp : Bool) {fs : List FieldRow} (hfs : fieldsApart fs) (w mask v : Word) {f : FieldRow} (hf : f ∈ fs) (ho : f.acc ≠ .otp)
    {i : Nat} (h1 : f.lsb ≤ i) (h2 : i < f.lsb + f.width) :
    (fs.foldl (fun (w : Word) f => fieldWrite otp f w mask v) w).getLsbD i = bitWritten f.acc (w.getLsbD i) (mask.getLsbD i) (v.getLsbD i) := by
  induction fs generalizing w with
  | nil => simp at hf
  | cons g gs ih =>
    obtain ⟨hg, hgs⟩ := List.pairwise_cons.mp hfs
    rw [List.foldl_cons]
    rcases List.mem_cons.mp hf with rfl | hf
    · rw [writeFields_outside _ _ _ _ _ (fun x hx => by have := hg x hx; omega), fieldWrite_inside _ _ _ _ _ h1 h2 ho]
    · rw [ih hgs _ hf, fieldWrite_outside _ _ _ _ _ (by have := hg f hf; omega)]

variable (m : Mach)

/-- A plain write changes each bit of a field by its access code. -/
theorem Mach.writePlain_bit (otp : Bool) (a : Nat) (mask v : Word) {f : FieldRow} (hf : f ∈ regFields a) (ho : f.acc ≠ .otp) {i : Nat}
    (h1 : f.lsb ≤ i) (h2 : i < f.lsb + f.width) :
    ((m.writePlain otp a mask v).rget a).getLsbD i = bitWritten f.acc ((m.rget a).getLsbD i) (mask.getLsbD i) (v.getLsbD i) := by
  rw [Mach.writePlain, Mach.rget_rset_same, writeFields_inside _ (regFields_apart a) _ _ _ hf ho h1 h2]

/-- A plain write touches its register alone. -/
theorem Mach.writePlain_regs (otp : Bool) (a : Nat) (mask v : Word) : Regs m (m.writePlain otp a mask v) [a] :=
  ⟨rfl, fun _ hb => m.rget_rset_ne (by simpa using hb) _⟩

/-- The registers of these blocks, and those of the tasks but STAT, take a plain write. -/
theorem Mach.writeReg_plain (otp : Bool) {a : Nat} (mask v : Word) (hf : regFields a ≠ [])
    (h : a / 0x10000 ∈ [0, 1, 2, 3, 9, 0xD, 0x11] ∨ (a / 0x10000 = 7 ∧ a % 0x80 ≠ (R.TSK_STAT 0).addr % 0x80)) :
    m.writeReg otp a mask v = m.writePlain otp a mask v := by
  unfold Mach.writeReg
  rw [if_neg (by simpa using hf)]
  rcases h with h | ⟨h, hs⟩
  · simp only [List.mem_cons, List.not_mem_nil, or_false] at h
    rcases h with h | h | h | h | h | h | h <;> simp only [h]
  · have hne : ∀ b : Nat, b / 0x10000 ≠ 7 → a ≠ b := by rintro b hb rfl; exact hb h
    simp only [h, Mach.writeCore, hs, hne R.IMG_FSTAT.addr (by decide), hne R.WDG_CTL.addr (by decide), hne R.WDG_RSTCNT.addr (by decide),
      hne R.DIAG_FCLR.addr (by decide), and_false, false_and, if_false, Nat.reduceEqDiff]

/-- R183: a write of TSKk.STAT is a plain write, and its OVRW goes to the status point of the task. -/
theorem Mach.writeReg_tskStat (otp : Bool) (k : Fin 32) (mask v : Word) :
    m.writeReg otp (R.TSK_STAT k).addr mask v =
      (m.writePlain otp (R.TSK_STAT k).addr mask v).stat (4320 + k) ((m.writePlain otp (R.TSK_STAT k).addr mask v).flag (R.TSK_STAT_OVRW k)) := by
  have hf : ∀ k : Fin 32, (regFields (R.TSK_STAT k).addr).isEmpty = false := by decide +kernel
  have hb : (R.TSK_STAT k).addr / 0x10000 = 7 := by simp only [R.TSK_STAT]; omega
  have hk : ((R.TSK_STAT k).addr - 0x70000) / 0x80 = k := by simp only [R.TSK_STAT]; omega
  unfold Mach.writeReg
  rw [hf k, if_neg (by simp), hb]
  simp only [Mach.writeCore, hk]
  rw [if_neg (by omega), if_neg (by omega), if_pos (by simp only [R.TSK_STAT]; omega)]


/-! ### Reads -/

/-- FIO.DOGh.CUR and PWR.VSUP stand behind no _LO register. -/
theorem extreme_behindLo {a : Nat} (h : isLo a = true) : m.extreme (a + 4) = m := by
  have hne : ∀ b : Nat, isLo (b - 4) = false → a + 4 ≠ b := by
    rintro b hb rfl
    rw [Nat.add_sub_cancel, h] at hb
    exact Bool.noConfusion hb
  unfold Mach.extreme
  rw [if_neg (not_or.mpr ⟨hne _ (by decide +kernel), hne _ (by decide +kernel)⟩), if_neg (hne _ (by decide +kernel))]

/-- What a register shows leaves the module behind, but for its extremes, with some free values drawn. -/
theorem regView_module (a : Nat) : (m.regView a).2 = { m.extreme a with free := (m.regView a).2.free } := by
  unfold Mach.regView
  exact List.foldlRecOn (motive := fun x : Word × Mach => x.2 = { m.extreme a with free := x.2.free }) _ _ rfl
    (fun x hx f _ => by dsimp only [Mach.fresh]; rw [hx])

/-- TB.NOW_HI shows the upper half of the time base. -/
theorem regView_nowHi : (m.regView 0x30004).1 = BitVec.ofNat 32 (m.now / 2 ^ 32) := by
  have h : (m.regView 0x30004).1 = bitsSet (m.rget 0x30004) 0 32 (m.now / 2 ^ 32) := rfl
  rw [h]
  apply BitVec.eq_of_toNat_eq
  have hw := (m.rget 0x30004).isLt
  simp only [bitsSet, bitsOf, BitVec.toNat_ofNat, Nat.shiftRight_zero, Nat.shiftLeft_zero, Nat.mod_eq_of_lt hw]
  omega

/-- R55: a read of a _LO register latches the half above it, and draws free values. -/
theorem supRead_lo {a : Nat} (h : isLo a = true) :
    m.supRead a = { m with latch := sset none m.latch (a + 4) (some (m.regView (a + 4)).1), free := (m.regView (a + 4)).2.free } := by
  unfold Mach.supRead
  have hv := regView_module m (a + 4)
  rw [extreme_behindLo m h] at hv
  rw [if_pos h]
  dsimp only
  rw [hv]

/-- Any other read drops the latch at its address. -/
theorem supRead_other {a : Nat} (h : isLo a = false) : m.supRead a = { m with latch := sset none m.latch a none } := by
  unfold Mach.supRead
  rw [if_neg (by simp [h])]

end Sys2Proof.Machine
end

section
/-!
SUPPORT. A change of the image leaves what the sources say as it was (R188), so the source shadow of a status point shows the bit written (R183).
-/
namespace Sys2Proof.Machine
open Sys2Proof

variable (m : Mach)

/-! ### What the sources say, through a change of the image -/

theorem linkSend_pts (ty : Nat) (p : List Byte) : (m.linkSend ty p).pts = m.pts := by unfold Mach.linkSend; split <;> rfl

theorem flushStream_pts : m.flushStream.pts = m.pts := by
  unfold Mach.flushStream
  exact (Mach.setFld_pts _ _ _).trans (foldM_keeps Mach.pts _ (fun p n => linkSend_pts n _ _) _ _)

theorem streamPut_pts (r : List Byte) : (m.streamPut r).pts = m.pts := by unfold Mach.streamPut; split <;> rfl

theorem fifoPut_pts (j : JEntry) : (m.fifoPut j).pts = m.pts := by unfold Mach.fifoPut; split <;> simp

theorem journal_pts (t p k f : Nat) : (m.journal t p k f).pts = m.pts := by
  unfold Mach.journal; split
  · rfl
  · exact (fifoPut_pts _ _).trans (streamPut_pts _ _)

theorem sysEvent_pts (c k : Nat) (b : Bool) : (m.sysEvent c k b).pts = m.pts := by
  unfold Mach.sysEvent; split
  · split
    · exact linkSend_pts _ _ _
    · rfl
  · exact journal_pts _ _ _ _ _

theorem taskEvent_pts (k e t : Nat) : (m.taskEvent k e t).pts = m.pts := journal_pts _ _ _ _ _

theorem faultSum_pts : m.faultSum.pts = m.pts := by simp only [Mach.faultSum, Mach.setFld_pts, Mach.setFlag_pts]

theorem putSnap_pts (k : Nat) (sn : Snap) (a : Bool) (o : Nat) : (m.putSnap k sn a o).pts = m.pts := rfl

theorem fixSnap_pts (k t g i : Nat) : (m.fixSnap k t g i).pts = m.pts := by
  unfold Mach.fixSnap
  extract_lets sn m1 x m2 p m3 m4 m5 q m6
  have h1 : m1.pts = m.pts := putSnap_pts _ _ _ _ _
  have h2 : m2.pts = m1.pts := Mach.setTask_pts _ _ _
  clear_value m1
  have h3 : m3.pts = m2.pts := rfl
  clear_value m2
  have h4 : m4.pts = m3.pts := Mach.setFld64_pts _ _ _
  clear_value m3
  have h5 : m5.pts = m4.pts := flushStream_pts _
  clear_value m4
  have h6 : m6.pts = m5.pts := rfl
  clear_value m6
  split
  · rw [linkSend_pts, h6, h5, h4, h3, h2, h1]
  · rw [h4, h3, h2, h1]

theorem light_pts (e : Nat) : (m.light e).pts = m.pts := by
  unfold Mach.light
  extract_lets en q
  split
  · unfold Machine.onlyIf; split <;> rfl
  · rfl
  · rfl

theorem stopEngine_pts (e : Nat) : (m.stopEngine e).pts = m.pts := by
  unfold Mach.stopEngine Machine.onlyIf
  split <;> rfl

theorem takeBudget_pts (k : Nat) : (m.takeBudget k).pts = m.pts := by
  unfold Mach.takeBudget
  extract_lets left m1
  have h1 : m1.pts = m.pts := by simp only [m1, Mach.setFld_pts, Mach.addFld_pts]
  split
  · simp only [Mach.setTask_pts, taskEvent_pts, h1]
  · exact h1

theorem countSquash_pts (k c : Nat) : (m.countSquash k c).pts = m.pts := by
  unfold Mach.countSquash
  extract_lets m1
  have h1 : m1.pts = m.pts := by simp only [m1, Mach.addFld_pts]
  unfold Machine.onlyIf
  split
  · exact (takeBudget_pts m1 _).trans h1
  · exact h1

theorem rerun_pts (k c : Nat) (sc : Scan) : (m.rerun k c sc).pts = m.pts := by
  unfold Mach.rerun
  split
  · rfl
  · split <;> split <;> rfl

theorem squashRun_pts (k c : Nat) : (m.squashRun k c).pts = m.pts := by
  unfold Mach.squashRun
  split
  · rfl
  · exact (rerun_pts _ _ _ _).trans ((countSquash_pts _ _ _).trans (foldM_keeps Mach.pts _ (fun _ n => stopEngine_pts n _) _ _))

theorem trigger_pts (k t g i : Nat) : (m.trigger k t g i).pts = m.pts := by
  have h : ((m.fixSnap k t g i).lightTask k).pts = m.pts :=
    (foldM_keeps Mach.pts _ (fun e n => light_pts n e) _ _).trans (fixSnap_pts _ _ _ _ _)
  unfold Mach.trigger
  split
  · extract_lets m1
    split
    · split
      · exact h
      · exact (squashRun_pts _ _ _).trans h
    · exact h
  · rfl

theorem wake_pts (cs : List PtChange) (t : Nat) : (m.wake cs t).pts = m.pts := by
  unfold Mach.wake
  refine foldM_keeps Mach.pts _ (fun k n => ?_) _ _
  split
  · rfl
  · exact trigger_pts _ _ _ _ _

theorem preserve_pts (w : Bool) (i : Nat) : (m.preserve w i).pts = m.pts := by unfold Mach.preserve; split <;> rfl

theorem writeWord_pts (t : Nat) (w : Nat × Word) : (m.writeWord t w).pts = m.pts := by
  unfold Mach.writeWord; split
  · rfl
  · exact (streamPut_pts _ _).trans (preserve_pts _ _ _)

theorem holdChange_pts (c : Change) : (m.holdChange c).pts = m.pts := by
  unfold Mach.holdChange
  extract_lets q m1 src m2 m3 m4
  have h2 : m2.pts = m.pts := by simp only [m2, m1, Mach.satFld_pts]
  split
  · simp only [m4, faultSum_pts, m3, sysEvent_pts, h2]
  · exact h2

theorem pt_congr {n : Mach} (h : n.pts = m.pts) (i : Nat) : n.pt i = m.pt i := by simp only [Mach.pt, h]

/-- The write of a point of a change leaves what the sources say as it was (R188). -/
theorem writePoint_sv (p : PtChange) (i : Nat) : ((m.writePoint p).pt i).sv = (m.pt i).sv := by
  have hset : ∀ n : Mach, n.pts = m.pts → ((n.setPt p.idx { m.pt p.idx with v := p.v, q := p.q }).pt i).sv = (m.pt i).sv := by
    intro n hn
    by_cases hi : i = p.idx
    · subst hi; rw [Mach.pt_setPt_same]
    · rw [Mach.pt_setPt_ne _ hi, pt_congr m hn]
  have hpre : (if m.alters p then m.preserve false p.idx else m).pts = m.pts := by
    split
    · exact preserve_pts _ _ _
    · rfl
  have hj : ∀ (n : Mach) (t c k f : Nat), ((n.journal t c k f).pt i).sv = (n.pt i).sv := fun n t c k f => by rw [pt_congr n (journal_pts n t c k f)]
  unfold Mach.writePoint
  dsimp only
  split
  · split
    · rw [hj, hset _ hpre]
    · split
      · split <;> split <;> simp only [hj, hset _ hpre]
      · rw [hj, hset _ hpre]
  · rfl

/-- A change of the image leaves what the sources say as it was. -/
theorem change_sv (c : Change) (i : Nat) : ((m.change c).pt i).sv = (m.pt i).sv := by
  unfold Mach.change
  split
  · rfl
  · split
    · unfold Mach.writeChange
      extract_lets ch src m1 m2 m3
      rw [pt_congr m3 (wake_pts _ _ _)]
      refine (foldM_keeps (fun n => (n.pt i).sv) _ (fun p n => writePoint_sv n p i) _ m2).trans ?_
      rw [pt_congr m1 (foldM_keeps Mach.pts _ (fun w n => writeWord_pts n _ w) _ m1)]
      rfl
    · rw [pt_congr m (holdChange_pts _ _)]

/-- R183: the source shadow of a status point shows the bit written. -/
theorem stat_sv (i : Nat) (b : Bool) : ((m.stat i b).pt i).sv = b := by
  unfold Mach.stat Mach.setStat
  extract_lets pts n
  have h : (n.pt i).sv = b := by
    have hb : decide (b.toNat % 2 = 1) = b := by cases b <;> rfl
    simp [n, pts, List.range_succ, foldM, hb]
  split
  · rw [change_sv, h]
  · exact h

end Sys2Proof.Machine
end

section
/-!
PROOF. Register reads and writes of the supervisor (O53).
-/
namespace Sys2Proof.Machine
open Sys2Proof

/-! ### Register accesses of the supervisor -/

theorem supRead_lo_latch (m : Mach) {a : Nat} (h : isLo a = true) :
    (m.supRead a).latch = sset none m.latch (a + 4) (some (m.regView (a + 4)).1) := by rw [supRead_lo m h]

theorem supRead_other_latch (m : Mach) {a : Nat} (h : isLo a = false) : (m.supRead a).latch = sset none m.latch a none := by rw [supRead_other m h]

theorem loRegisterRead_answers {s : State} {t : Nat} {a : BitVec 24} (hon : (arrive t s).st ≠ .off) {P : Mach → Prop}
    (h : P ((arrive t s).supRead a.toNat)) : Answers (.loRegisterRead t a) s P :=
  answers_runAt (f := fun m => if m.st == .off then m else m.supRead a.toNat) rfl (by rw [if_neg (by simpa using hon)]; exact h)

theorem registerWrite_answers {s : State} {t : Nat} {a : BitVec 24} {mask v : Word} (hon : (arrive t s).st ≠ .off) (ha : regOutside a.toNat = false)
    {P : Mach → Prop} (h : P ((arrive t s).writeReg true a.toNat mask v)) : Answers (.registerWrite t a mask v) s P :=
  answers_runAt (f := fun m => if m.st == .off || regOutside a.toNat then m else m.writeReg true a.toNat mask v) rfl
    (by rw [if_neg (by simp [hon, ha])]; exact h)

/-- R6, R587: an address outside the map, or a reserved offset, takes no write. -/
theorem registerWrite_ignored {s : State} {t : Nat} {a : BitVec 24} (mask v : Word) (h : regOutside a.toNat = true ∨ regFields a.toNat = []) :
    Answers (.registerWrite t a mask v) s (fun m' => m' = arrive t s) := by
  refine answers_runAt (f := fun m => if m.st == .off || regOutside a.toNat then m else m.writeReg true a.toNat mask v) rfl ?_
  split
  · rfl
  · next hn =>
    have hf : regFields a.toNat = [] := h.resolve_left (fun ho => hn (by simp [ho]))
    unfold Mach.writeReg
    rw [if_pos (by simp [hf])]

/-- A one-bit field is a bit of its register. -/
theorem Mach.flag_eq_getLsbD (m : Mach) (f : Fld) (h : f.width = 1) : m.flag f = (m.rget f.addr).getLsbD f.lsb := by
  have hb := bitsOf_testBit (m.rget f.addr) f.lsb 1 0
  have hl : bitsOf (m.rget f.addr) f.lsb 1 < 2 := Nat.mod_lt _ (by omega)
  rw [Mach.flag, Mach.fld, h, BitVec.getLsbD]
  simp only [Nat.add_zero, Nat.zero_lt_one, decide_true, Bool.true_and] at hb
  rw [← hb, Nat.testBit_zero]
  generalize bitsOf (m.rget f.addr) f.lsb 1 = x at hl ⊢
  interval_cases x <;> rfl

/-- R183: OVRW of a task's STAT is cleared by a 1 written to it, and shown at the task's status point; the write touches nothing else but what events write. -/
theorem writeReg_ovrw (m : Mach) (k : Fin 32) (mask v : Word) :
    let m' := m.writeReg true (R.TSK_STAT k).addr mask v
    Events m m' (· = (R.TSK_STAT k).addr) ∧
      m'.flag (R.TSK_STAT_OVRW k) = (m.flag (R.TSK_STAT_OVRW k) && !(mask.getLsbD (R.TSK_STAT_OVRW k).lsb && v.getLsbD (R.TSK_STAT_OVRW k).lsb)) ∧
      (m'.pt (4320 + k.val)).sv = m'.flag (R.TSK_STAT_OVRW k) := by
  have hf : ∀ k : Fin 32, (⟨8, 1, .stk, 0⟩ : FieldRow) ∈ regFields (R.TSK_STAT k).addr := by decide +kernel
  have he : ∀ k : Fin 32, evAddr (R.TSK_STAT k).addr = false := by decide +kernel
  have hr := rest_stat (m.writePlain true (R.TSK_STAT k).addr mask v) (4320 + k) ((m.writePlain true (R.TSK_STAT k).addr mask v).flag (R.TSK_STAT_OVRW k))
  have hflag := hr.flag (f := R.TSK_STAT_OVRW k) (he k)
  intro m'
  simp only [m', m.writeReg_tskStat]
  refine ⟨(Events.rset m _ (as := (· = (R.TSK_STAT k).addr)) rfl).trans (hr.events _), ?_, ?_⟩
  · rw [hflag, Mach.flag_eq_getLsbD _ _ rfl, Mach.flag_eq_getLsbD _ _ rfl]
    exact m.writePlain_bit true _ mask v (hf k) (by decide) (show 8 ≤ 8 by omega) (show 8 < 8 + 1 by omega)
  · rw [hflag, stat_sv]

/-- R5: a write of a register without effects of its own changes the written bits by their access codes, and nothing beside the register. -/
theorem writeReg_bits (m : Mach) {a : Nat} (mask v : Word)
    (h : a / 0x10000 ∈ [0, 1, 2, 3, 9, 0xD, 0x11] ∨ (a / 0x10000 = 7 ∧ a % 0x80 ≠ (R.TSK_STAT 0).addr % 0x80)) :
    Regs m (m.writeReg true a mask v) [a] ∧ ∀ f ∈ regFields a, f.acc ≠ .otp → ∀ i, f.lsb ≤ i → i < f.lsb + f.width →
      ((m.writeReg true a mask v).rget a).getLsbD i = bitWritten f.acc ((m.rget a).getLsbD i) (mask.getLsbD i) (v.getLsbD i) := by
  by_cases hf : regFields a = []
  · have : m.writeReg true a mask v = m := by unfold Mach.writeReg; rw [if_pos (by simp [hf])]
    rw [this]
    exact ⟨⟨rfl, fun _ _ => rfl⟩, by simp [hf]⟩
  · rw [m.writeReg_plain true mask v hf h]
    exact ⟨m.writePlain_regs true a mask v, fun f hf ho i h1 h2 => m.writePlain_bit true a mask v hf ho h1 h2⟩

/-- Settles O53: reads by what the supervisor's read does to the latches, writes by what each access code does to a bit. -/
theorem registerAccess : Obligations.RegisterAccess := by
  unfold Obligations.RegisterAccess
  intro s t a m hon
  refine ⟨?_, fun hlo => ?_, ?_, fun hlo => ?_, fun mask v => ⟨fun h => registerWrite_ignored mask v h, fun k hk => ?_, fun ho hb => ?_⟩⟩
  · refine loRegisterRead_answers hon ?_
    cases hlo : isLo a.toNat with
    | true => rw [supRead_lo m hlo]
    | false => rw [supRead_other m hlo]
  · refine loRegisterRead_answers hon ?_
    rw [supRead_lo_latch m hlo]
    exact ⟨sget_sset_same _ _ _ _, fun x hx => sget_sset_ne _ _ _ _ hx⟩
  · rintro rfl
    refine loRegisterRead_answers hon ?_
    rw [supRead_lo_latch m (by decide +kernel), ← regView_nowHi m]
    exact sget_sset_same _ _ _ _
  · refine loRegisterRead_answers hon ?_
    rw [supRead_other_latch m hlo]
    exact ⟨sget_sset_same _ _ _ _, fun x hx => sget_sset_ne _ _ _ _ hx⟩
  · have hin : ∀ k : Fin 32, regOutside (R.TSK_STAT k).addr = false := by decide +kernel
    refine registerWrite_answers hon (hk ▸ hin k) ?_
    rw [hk]
    exact writeReg_ovrw m k mask v
  · refine registerWrite_answers hon ho ?_
    obtain ⟨hr, hbits⟩ := writeReg_bits m mask v hb
    refine ⟨hr, fun f hf i h1 h2 => ⟨fun hacc => ?_, fun hacc => ?_, fun hacc => ?_⟩⟩
    · rcases hacc with hacc | hacc | hacc <;> rw [hbits f hf (by simp [hacc]) i h1 h2, hacc] <;> rfl
    · rw [hbits f hf (by simp [hacc]) i h1 h2, hacc]; rfl
    · rcases hacc with hacc | hacc <;> rw [hbits f hf (by simp [hacc]) i h1 h2, hacc] <;> rfl

end Sys2Proof.Machine
end

section
/-!
SUPPORT. What an operation of the start leaves: the module's state, the update store and the registers outside the blocks it writes; the bays, the watchdog, the engines and the display of a start.
-/
namespace Sys2Proof.Machine
open Sys2Proof

/-- `n` differs from `m` in nothing that a start rests on: the module's state, the key and the update store are as they were, an ended wait for a time source has
not begun again, and, beside what events write, the registers outside the 64 KiB blocks `B` are as they were. -/
structure Within (B : List Nat) (m n : Mach) : Prop where
  st : n.st = m.st
  upd : n.upd = m.upd
  wait : m.tk.waitEnd = none → n.tk.waitEnd = none
  regs : ∀ a, evAddr a = false → a / 0x10000 ∉ B → n.rget a = m.rget a

namespace Within

variable {B : List Nat} {b : Nat}

theorem refl (m : Mach) : Within B m m := ⟨rfl, rfl, id, fun _ _ _ => rfl⟩

theorem trans {x y z : Mach} (h : Within B x y) (k : Within B y z) : Within B x z :=
  ⟨k.st.trans h.st, k.upd.trans h.upd, fun w => k.wait (h.wait w), fun a he hb => (k.regs a he hb).trans (h.regs a he hb)⟩

/-- A change of other records. -/
theorem recs {m n k : Mach} (h : Within B m n) (hk : k.st = n.st ∧ k.upd = n.upd ∧ k.tk = n.tk ∧ k.regs = n.regs) : Within B m k := by
  obtain ⟨hs, hu, ht, hr⟩ := hk
  exact h.trans ⟨hs, hu, fun w => by rw [ht]; exact w, fun a _ _ => Mach.rget_congr hr a⟩

theorem rset {m n : Mach} (h : Within B m n) {a : Nat} {w : Word} (hb : b ∈ B) (ha : a / 0x10000 = b) : Within B m (n.rset a w) :=
  h.trans ⟨rfl, rfl, id, fun x _ hx => n.rget_rset_ne (by rintro rfl; rw [ha] at hx; exact hx hb) w⟩

theorem setFld {m n : Mach} (h : Within B m n) {f : Fld} {v : Nat} (hb : b ∈ B) (ha : f.addr / 0x10000 = b) : Within B m (n.setFld f v) :=
  h.rset hb ha
theorem setFlag {m n : Mach} (h : Within B m n) {f : Fld} {v : Bool} (hb : b ∈ B) (ha : f.addr / 0x10000 = b) : Within B m (n.setFlag f v) :=
  h.rset hb ha
theorem addFld {m n : Mach} (h : Within B m n) {f : Fld} {v : Nat} (hb : b ∈ B) (ha : f.addr / 0x10000 = b) : Within B m (n.addFld f v) :=
  h.rset hb ha
theorem satFld {m n : Mach} (h : Within B m n) {f : Fld} {v : Nat} (hb : b ∈ B) (ha : f.addr / 0x10000 = b) : Within B m (n.satFld f v) :=
  h.rset hb ha
theorem setFld64 {m n : Mach} (h : Within B m n) {f : Fld} {v : Nat} (hb : b ∈ B) (ha : f.addr / 0x10000 = b)
    (ha' : (f.addr + 4) / 0x10000 = b) : Within B m (n.setFld64 f v) := (h.rset hb ha).rset hb ha'

theorem foldM {α : Type} {m n : Mach} (h : Within B m n) {f : α → Mach → Mach} {xs : List α} (hf : ∀ x ∈ xs, ∀ k, Within B k (f x k)) :
    Within B m (foldM xs f n) :=
  foldM_inv (Within B m) f xs (fun x hx k hk => hk.trans (hf x hx k)) n h

theorem onlyIf {c : Bool} {f : Mach → Mach} {m n : Mach} (h : Within B m n) (hf : Within B n (f n)) : Within B m (onlyIf c f n) := by
  cases c
  · exact h
  · exact h.trans hf

theorem ite {p : Prop} [Decidable p] {m x y : Mach} (hx : Within B m x) (hy : Within B m y) : Within B m (if p then x else y) := by
  split
  · exact hx
  · exact hy

theorem but {m n k : Mach} (h : Within B m n) (hk : RestBut n k) : Within B m k :=
  h.trans ⟨by rw [hk.same], by rw [hk.same], fun w => by rw [hk.same]; exact w, fun a he _ => hk.regs a he⟩

theorem rest {m n k : Mach} (h : Within B m n) (hk : Rest n k) : Within B m k := h.but hk.but

theorem fld {m n : Mach} (h : Within B m n) {f : Fld} (he : evAddr f.addr = false) (hb : f.addr / 0x10000 ∉ B) : n.fld f = m.fld f := by
  simp only [Mach.fld, h.regs _ he hb]

theorem flag {m n : Mach} (h : Within B m n) {f : Fld} (he : evAddr f.addr = false) (hb : f.addr / 0x10000 ∉ B) : n.flag f = m.flag f := by
  simp only [Mach.flag, h.fld he hb]

end Within

theorem fld_lt (m : Mach) (f : Fld) : m.fld f < 2 ^ f.width := Nat.mod_lt _ (Nat.two_pow_pos _)

theorem mem_allTasks {k : Nat} : k ∈ allTasks ↔ k < 32 := List.mem_range

theorem mem_channels {c : Nat} : c ∈ [0, 1] ↔ c < 2 := by
  simp only [List.mem_cons, List.not_mem_nil, or_false]; omega

theorem mem_allStations {s : Nat} (h : s ∈ allStations) : s - 1 < 16 := by
  simp only [allStations, List.mem_map, List.mem_range] at h
  omega

/-! ### The bay buses, the watchdog, retired engines -/

variable {B : List Nat} (m : Mach)

theorem rest_hello : Rest m m.hello := by
  unfold Mach.hello
  dsimp only
  split
  · exact (Rest.upd m rfl).trans (rest_linkSend _ _ _)
  · exact rest_linkSend _ _ _

theorem within_setBayState {c : Nat} (s : Nat) (hc : c < 2) (hb : 0xB ∈ B) : Within B m (m.setBayState c s) := by
  have ha : (R.BB_STAT_STATE c).addr / 0x10000 = 0xB := by interval_cases c <;> rfl
  exact ((Within.refl m).setFld hb ha).rest (rest_stat _ _ _)

theorem within_bayEnable {c : Nat} (hc : c < 2) (hb : 0xB ∈ B) : Within B m (m.bayEnable c) := by
  have h1 : (R.BB_CFG_EN c).addr / 0x10000 = 0xB := by interval_cases c <;> rfl
  have h2 : ∀ n ∈ List.range 64, (R.BB_RXBUF_FILT c n).addr / 0x10000 = 0xB := by interval_cases c <;> decide
  unfold Mach.bayEnable
  extract_lets m1 m2
  have h : Within B m m2 := ((Within.refl m).setFlag hb h1).foldM (fun n hn k => (Within.refl k).rset hb (h2 n hn))
  split
  · exact h
  · exact h.trans (within_setBayState m2 1 hc hb)

theorem within_bayBegin (c : Nat) : Within B m (m.bayBegin c) := by
  refine (Within.refl m).foldM (fun s _ n => ?_)
  split
  · exact (Within.refl n).recs ⟨rfl, rfl, rfl, rfl⟩
  · exact Within.refl n

/-- The channels go on in the bay block alone (R356, R594). -/
theorem within_enableBays (hb : 0xB ∈ B) : Within B m m.enableBays := by
  unfold Mach.enableBays
  refine Within.ite ((Within.refl m).foldM (fun c hc n => ?_)) (Within.refl m)
  split
  · exact (within_bayEnable n (mem_channels.mp hc) hb).trans (within_bayBegin _ c)
  · exact Within.refl n

theorem within_setLeft (n v : Nat) : Within B m (m.setLeft n v) := (Within.refl m).recs ⟨rfl, rfl, rfl, rfl⟩

theorem within_slotOn {n : Nat} (p : Nat) (hn : n < 64) (hb : 5 ∈ B) : Within B m (m.slotOn n p) := by
  have h1 : (R.WDG_SLOT_CFG_PERIOD n).addr / 0x10000 = 5 := by simp only [R.WDG_SLOT_CFG_PERIOD]; omega
  have h2 : (R.WDG_SLOT_CFG_EN n).addr / 0x10000 = 5 := by simp only [R.WDG_SLOT_CFG_EN]; omega
  exact (((Within.refl m).setFld hb h1).setFlag hb h2).trans (within_setLeft _ _ _)

theorem within_wdgClk (b : Bool) (hb : 5 ∈ B) : Within B m (m.wdgClk b) := by
  unfold Mach.wdgClk
  split
  · exact Within.refl m
  · exact ((Within.refl m).setFlag hb (by decide)).setFlag hb (by decide)

theorem within_loadWatchdog (is : List PkgItem) (hb : 5 ∈ B) : Within B m (m.loadWatchdog is) := (within_wdgClk m _ hb).setFlag hb (by decide)

theorem within_auditEnd (hb : 0x12 ∈ B) : Within B m m.auditEnd := by
  unfold Mach.auditEnd Mach.auditDrop
  exact (((Within.refl m).recs (by exact ⟨rfl, rfl, rfl, rfl⟩)).setFlag hb (by decide)).setFlag hb (by decide)

theorem within_copySegs (e : Nat) {a : Nat} (ha : a < 16) (hb : 6 ∈ B) : Within B m (m.copySegs e a) := by
  refine (Within.refl m).foldM (fun k hk n => ?_)
  have hk := mem_allTasks.mp hk
  have h : (R.ENG_SEG a k).addr / 0x10000 = 6 := by simp only [R.ENG_SEG]; omega
  exact (Within.refl n).rset hb h

theorem within_fromReference {a : Nat} (e : Nat) (ha : a < 16) (hb : 6 ∈ B) : Within B m (m.fromReference a e) := by
  have h : (R.ENG_CFG_PRESET a).addr / 0x10000 = 6 := by simp only [R.ENG_CFG_PRESET]; omega
  exact ((Within.refl m).recs (by exact ⟨rfl, rfl, rfl, rfl⟩)).setFld hb h

/-- A retired engine leaves its mark in the engines' and the diagnosis blocks alone (R428). -/
theorem within_retireEngine {e : Nat} (he : e < 16) (h6 : 6 ∈ B) (h12 : 0x12 ∈ B) : Within B m (m.retireEngine e) := by
  have hrole : (R.ENG_CFG_ROLE e).addr / 0x10000 = 6 := by simp only [R.ENG_CFG_ROLE]; omega
  unfold Mach.retireEngine
  extract_lets isAud m1 en m2 m3 a m4
  have h1 : Within B m m1 := ((Within.refl m).recs (by exact ⟨rfl, rfl, rfl, rfl⟩)).setFld h6 hrole
  have h2 : Within B m m2 := h1.recs ⟨rfl, rfl, rfl, rfl⟩
  clear_value m2
  have h3 : Within B m m3 := (h2.setFld h12 (by decide)).rest (rest_raise _ _ _ _)
  clear_value m3
  have ha : a < 16 := fld_lt m3 R.DIAG_AUD_ENG
  have hbank : (R.ENG_CFG_BANK a).addr / 0x10000 = 6 := by simp only [R.ENG_CFG_BANK]; omega
  have h4 : Within B m m4 := (((h3.trans (within_auditEnd _ h12)).trans (within_fromReference _ _ ha h6)).trans (within_copySegs _ _ ha h6)).setFld h6 hbank
  clear_value m4
  split
  · exact (h3.trans (within_auditEnd _ h12)).rest (rest_stat _ _ _)
  · split
    · exact h4.recs ⟨rfl, rfl, rfl, rfl⟩
    · exact h3.rest (rest_raise _ _ _ _)

theorem within_stillRetired (h6 : 6 ∈ B) (h12 : 0x12 ∈ B) : Within B m m.stillRetired :=
  (Within.refl m).foldM (fun _ he n => within_retireEngine n (List.mem_range.mp (List.mem_of_mem_filter he)) h6 h12)

theorem within_showImage (hb : 0xF ∈ B) : Within B m m.showImage := by
  unfold Mach.showImage
  split
  · exact (((Within.refl m).setFlag hb (by decide)).setFld hb (by decide)).setFlag hb (by decide)
  · exact ((((Within.refl m).setFld hb (by decide)).setFlag hb (by decide)).setFld hb (by decide)).setFlag hb (by decide)

/-! ### The display at the start -/

theorem within_setNew (x y l : Nat) : Within B m (m.setNew x y l) := by
  unfold Mach.setNew
  exact Within.ite ((Within.refl m).recs (by exact ⟨rfl, rfl, rfl, rfl⟩)) (Within.refl m)

theorem within_blit (x y w : Nat) (ls : List Nat) : Within B m (m.blit x y w ls) := (Within.refl m).foldM (fun _ _ n => within_setNew n _ _ _)

theorem within_glyphs (x y : Nat) (gs : List Nat) : Within B m (m.glyphs x y gs) := by
  induction gs generalizing m x with
  | nil => exact Within.refl m
  | cons g gs ih => exact (within_blit m _ _ _ _).trans (ih _ _)

theorem within_drawElem (p a : Nat) : Within B m (m.drawElem p a) := by
  unfold Mach.drawElem
  dsimp only
  refine Within.ite ?_ (Within.trans ?_ (within_glyphs _ _ _ _))
  · exact ((Within.refl m).recs (by exact ⟨rfl, rfl, rfl, rfl⟩)).foldM (fun _ _ n => within_setNew n _ _ _)
  · exact (Within.refl m).foldM (fun _ _ n => within_setNew n _ _ _)

theorem within_composePage (p : Nat) : Within B m (m.composePage p) := by
  unfold Mach.composePage
  extract_lets base m1 es m2
  have h2 : Within B m m2 := (within_blit m _ _ _ _).foldM (fun _ _ n => within_drawElem n p _)
  clear_value m2
  exact h2.recs ⟨rfl, rfl, rfl, rfl⟩

theorem within_setQueue (q : List DspReq) (hb : 0x10 ∈ B) : Within B m (m.setQueue q) := ((Within.refl m).recs (by exact ⟨rfl, rfl, rfl, rfl⟩)).setFld hb (by decide)

theorem within_dspRequest (r : DspReq) (hb : 0x10 ∈ B) : Within B m (m.dspRequest r) := by
  unfold Mach.dspRequest
  refine Within.ite (Within.refl m) (Within.ite (within_setQueue m _ hb) ?_)
  split
  · exact Within.refl m
  · exact (((Within.refl m).recs (by exact ⟨rfl, rfl, rfl, rfl⟩)).trans (within_setQueue _ _ hb)).satFld hb (by decide)

theorem within_showPage (p mode : Nat) (hb : 0x10 ∈ B) : Within B m (m.showPage p mode) :=
  (((Within.refl m).setFld hb (by decide)).trans (within_composePage _ p)).trans (within_dspRequest _ _ hb)

/-- The display's content at the start touches the display's block alone (R535). -/
theorem within_dspBegin (hb : 0x10 ∈ B) : Within B m m.dspBegin := by
  unfold Mach.dspBegin
  refine Within.ite ?_ (Within.refl m)
  extract_lets tiles d m1 d2 m2
  have h1 : Within B m m1 := by
    simp only [m1]
    split
    · split
      · refine ((Within.refl m).recs (by exact ⟨rfl, rfl, rfl, rfl⟩)).foldM (fun n _ x => ?_)
        split
        · exact (Within.refl x).rest (rest_journal _ _ _ _ _)
        · exact Within.refl x
      · exact (Within.refl m).rest (rest_note _ _)
    · exact (Within.refl m).rest (rest_note _ _)
  clear_value m1
  exact (h1.recs (by exact ⟨rfl, rfl, rfl, rfl⟩)).trans (within_showPage _ _ _ hb)

end Sys2Proof.Machine
end

section
/-!
SUPPORT. The loader's step (R489): a sector written, an image complete, a failure shown.
-/
namespace Sys2Proof.Machine
open Sys2Proof

variable (m : Mach)

/-- `n` has the state, the clock, the due reset and the update store of `m`. -/
structure Loading (m n : Mach) : Prop where
  st : n.st = m.st
  now : n.now = m.now
  due : n.sup.due = m.sup.due
  upd : n.upd = m.upd

theorem Loading.trans {x y z : Mach} (h : Loading x y) (k : Loading y z) : Loading x z :=
  ⟨k.st.trans h.st, k.now.trans h.now, k.due.trans h.due, k.upd.trans h.upd⟩

theorem loading_rset (a : Nat) (w : Word) : Loading m (m.rset a w) := ⟨rfl, rfl, rfl, rfl⟩

theorem loading_setFld (f : Fld) (v : Nat) : Loading m (m.setFld f v) := loading_rset m _ _

theorem loading_setLeft (n v : Nat) : Loading m (m.setLeft n v) := ⟨rfl, rfl, rfl, rfl⟩

theorem loading_clear (c s k : Nat) : Loading m (m.clear c s k) := by
  have h := (but_clear m c s k).same
  constructor <;> rw [h]

theorem loading_amberEnd (n : Nat) : Loading m (m.amberEnd n) := by
  unfold Mach.amberEnd
  split
  · exact (loading_setFld m (diBit R.WDG_AMBER_LO n) _).trans (loading_clear _ _ _ _)
  · exact ⟨rfl, rfl, rfl, rfl⟩

theorem loading_checkIn (n : Nat) : Loading m (m.checkIn n) := by
  unfold Mach.checkIn
  split
  · exact ((((loading_setLeft m _ _).trans (loading_rset _ _ _)).trans (loading_rset _ _ _)).trans (loading_setFld _ _ _)).trans (loading_amberEnd _ n)
  · exact ⟨rfl, rfl, rfl, rfl⟩

theorem loading_showFw : Loading m m.showFw := by
  unfold Mach.showFw
  extract_lets ls staged last st m1 m2
  have h1 : Loading m m1 := ((loading_setFld m _ _).trans (loading_setFld _ _ _)).trans (loading_setFld _ _ _)
  have h2 : Loading m1 m2 := loading_setFld _ _ _
  exact (h1.trans h2).trans (loading_rset _ _ _)

/-- The registers that the firmware's status stands in. -/
theorem rget_showFw {a : Nat} (h : a ≠ R.UPD_FWSTAT.addr) (h1 : a ≠ R.UPD_FWSBUILD.addr) (h2 : a ≠ R.UPD_FWCNT.addr) : m.showFw.rget a = m.rget a := by
  unfold Mach.showFw
  extract_lets ls staged last st m1 m2
  simp only [m2, m1]
  rw [Mach.rget_rset_ne _ h2, Mach.rget_setFld_ne _ _ _ h1, Mach.rget_setFld_ne _ R.UPD_FWSTAT_SECTOR _ h,
    Mach.rget_setFld_ne _ R.UPD_FWSTAT_CODE _ h, Mach.rget_setFld_ne _ R.UPD_FWSTAT_STATE _ h]

theorem showFw_failed (h : updFailed m.upd.lines = true) : m.showFw.fld R.UPD_FWSTAT_STATE = 5 := by
  unfold Mach.showFw
  extract_lets ls staged last st m1 m2
  have hst : st = 5 := if_pos h
  simp only [Mach.fld, Mach.rget_rset_ne _ (show R.UPD_FWSTAT_STATE.addr ≠ R.UPD_FWCNT.addr by decide)]
  change m2.fld _ = 5
  simp only [m2, m1]
  rw [Mach.fld_setFld_ne _ _ _ _ (by decide) (by decide), Mach.fld_setFld_ne _ _ _ _ (by decide) (by decide),
    Mach.fld_setFld_ne _ _ _ _ (by decide) (by decide), Mach.fld_setFld_same _ _ _ (by decide), hst]
  rfl

theorem showFw_sector : m.showFw.fld R.UPD_FWSTAT_SECTOR = (updDone m.upd.lines).length % 64 := by
  unfold Mach.showFw
  extract_lets ls staged last st m1 m2
  simp only [Mach.fld, Mach.rget_rset_ne _ (show R.UPD_FWSTAT_SECTOR.addr ≠ R.UPD_FWCNT.addr by decide)]
  change m2.fld _ = _
  simp only [m2, m1]
  rw [Mach.fld_setFld_ne _ _ _ _ (by decide) (by decide), Mach.fld_setFld_same _ _ _ (by decide)]
  rfl

/-- The line that a step of the update adds (R489). -/
def Mach.newLine (m : Mach) (ty sector : Nat) : UpdLine :=
  { ty := ty, sector := sector, build := fieldAt m.upd.store 16 4, seq := (m.upd.lines.getLast?.map (fun x => x.seq + 1)).getD 0, dig := sliceAt m.upd.store 48 8 }

theorem updLine_lines {ty : Nat} (sector : Nat) (h : ty ≠ 1) : (m.updLine ty sector).upd.lines = m.upd.lines ++ [m.newLine ty sector] := by
  simp only [Mach.updLine, if_neg h, Mach.newLine]

theorem updFailed_append (ls : List UpdLine) (l : UpdLine) :
    updFailed (ls ++ [l]) = if l.ty = 1 ∨ l.ty = 4 then false else if l.ty = 6 then true else updFailed ls := by
  simp only [updFailed, List.foldl_append, List.foldl_cons, List.foldl_nil]

theorem updDone_append (ls : List UpdLine) (l : UpdLine) :
    updDone (ls ++ [l]) = if l.ty = 2 then [] else if l.ty = 3 then updDone ls ++ [l.sector] else updDone ls := by
  simp only [updDone, List.foldl_append, List.foldl_cons, List.foldl_nil]

theorem leNat_lt (bs : List Byte) : leNat bs < 256 ^ bs.length := by
  induction bs with
  | nil => exact Nat.one_pos
  | cons b bs ih =>
    have hb : b.toNat < 256 := b.isLt
    simp only [leNat, List.length_cons, pow_succ]
    omega

theorem fieldAt_lt (bs : List Byte) (off n : Nat) : fieldAt bs off n < 256 ^ n :=
  (leNat_lt _).trans_le (Nat.pow_le_pow_right (by decide) (by simp))

/-- A sector is written (R489). -/
def Mach.sectorWritten (m : Mach) : Mach := ((m.updLine 3 (updDone m.upd.lines).length).checkIn 44).showFw

/-- The image is complete: its line, its count and its build (R489). -/
def Mach.imageWritten (m : Mach) : Mach :=
  let m1 := m.updLine 4 0
  ({ m1 with upd := { m1.upd with updates := m1.upd.updates + 1, freshDone := true } })

/-- The registers of a complete image: its build, its version and the status. -/
def Mach.imageShown (m : Mach) (img : List Byte) : Mach := ((m.setFld R.UPD_FWBUILD (fieldAt img 16 4)).setFld R.UPD_FWPVER_PVER (fieldAt img 12 2)).showFw

theorem sectorWritten_loading : Loading (m.updLine 3 (updDone m.upd.lines).length) m.sectorWritten := (loading_checkIn _ 44).trans (loading_showFw _)

theorem sectorWritten_lines : m.sectorWritten.upd.lines = m.upd.lines ++ [m.newLine 3 (updDone m.upd.lines).length] := by
  rw [(sectorWritten_loading m).upd, updLine_lines m _ (by decide)]

theorem sectorWritten_sector : m.sectorWritten.fld R.UPD_FWSTAT_SECTOR = ((updDone m.upd.lines).length + 1) % 64 := by
  unfold Mach.sectorWritten
  rw [showFw_sector, (loading_checkIn _ 44).upd, updLine_lines m _ (by decide), updDone_append]
  simp [Mach.newLine]

/-- The loader's step where nothing stands against it. -/
theorem loaderSector_eq (ok : Bool) (hst : m.st = .loader) (ha : updArmed m.upd.lines = true) (hf : updFailed m.upd.lines = false) :
    m.loaderSector ok =
      if !ok || (m.fwHeader m.upd.store true).isSome || !fwDigestOk m.upd.store then
        (if (updDone m.upd.lines).isEmpty then (m.updLine 5 0).requestReset 5 0 else (m.updLine 6 0).showFw)
      else if fwSectors m.upd.store ≤ (updDone m.upd.lines).length + 1 then
        (m.sectorWritten.imageWritten.imageShown m.upd.store).requestReset 5 0
      else m.sectorWritten := by
  have h : ¬ (m.st ≠ .loader ∨ (!updArmed m.upd.lines) = true ∨ updFailed m.upd.lines = true) := by simp [hst, ha, hf]
  unfold Mach.loaderSector
  extract_lets ls img done
  rw [if_neg h]
  rfl

/-- The registers and the records that a sector's step leaves. -/
theorem sectorWritten_kept : m.sectorWritten.st = m.st ∧ m.sectorWritten.upd.store = m.upd.store ∧ m.sectorWritten.upd.updates = m.upd.updates ∧
    m.sectorWritten.sup.due = m.sup.due ∧ m.sectorWritten.now = m.now := by
  have h := sectorWritten_loading m
  exact ⟨h.st, by rw [h.upd]; rfl, by rw [h.upd]; rfl, h.due, h.now⟩

theorem imageWritten_lines : m.imageWritten.upd.lines = m.upd.lines ++ [m.newLine 4 0] := updLine_lines m 0 (by decide)

theorem imageShown_loading (img : List Byte) : Loading m (m.imageShown img) :=
  ((loading_setFld m _ _).trans (loading_setFld _ _ _)).trans (loading_showFw _)

theorem imageShown_build (img : List Byte) : (m.imageShown img).fld R.UPD_FWBUILD = fieldAt img 16 4 := by
  unfold Mach.imageShown
  have h : fieldAt img 16 4 < 2 ^ 32 := fieldAt_lt img 16 4
  calc (((m.setFld R.UPD_FWBUILD (fieldAt img 16 4)).setFld R.UPD_FWPVER_PVER (fieldAt img 12 2)).showFw).fld R.UPD_FWBUILD
      = ((m.setFld R.UPD_FWBUILD (fieldAt img 16 4)).setFld R.UPD_FWPVER_PVER (fieldAt img 12 2)).fld R.UPD_FWBUILD := by
        simp only [Mach.fld, rget_showFw _ (show R.UPD_FWBUILD.addr ≠ R.UPD_FWSTAT.addr by decide) (by decide) (by decide)]
    _ = fieldAt img 16 4 % 2 ^ 32 := by rw [Mach.fld_setFld_ne _ _ _ _ (by decide) (by decide), Mach.fld_setFld_same _ _ _ (by decide)]; rfl
    _ = fieldAt img 16 4 := Nat.mod_eq_of_lt h

theorem imageWritten_kept : m.imageWritten.st = m.st ∧ m.imageWritten.upd.store = m.upd.store ∧ m.imageWritten.upd.updates = m.upd.updates + 1 ∧
    m.imageWritten.now = m.now := ⟨rfl, rfl, rfl, rfl⟩

/-- What stands after a complete image. -/
theorem imageShown_kept :
    let n := m.sectorWritten.imageWritten.imageShown m.upd.store
    n.st = m.st ∧ n.upd.store = m.upd.store ∧ n.upd.updates = m.upd.updates + 1 ∧ n.now = m.now ∧ n.upd.lines.getLast?.map (·.ty) = some 4 := by
  have hl := imageShown_loading m.sectorWritten.imageWritten m.upd.store
  obtain ⟨hs, hstore, hups, hdue, hnow⟩ := sectorWritten_kept m
  obtain ⟨ks, kstore, kups, know⟩ := imageWritten_kept m.sectorWritten
  extract_lets n
  rw [hl.st, hl.upd, hl.now, ks, kstore, kups, know, hs, hstore, hups, hnow, imageWritten_lines, List.getLast?_concat]
  exact ⟨rfl, rfl, rfl, rfl, rfl⟩

/-- What the loader's step does to an armed image (R489). -/
theorem loaderSector_does (ok : Bool) (hst : m.st = .loader) (ha : updArmed m.upd.lines = true) (hf : updFailed m.upd.lines = false) :
    let m' := m.loaderSector ok
    let done := (updDone m.upd.lines).length
    m'.st = .loader ∧ m'.upd.store = m.upd.store ∧
      if !ok || (m.fwHeader m.upd.store true).isSome || !fwDigestOk m.upd.store then
        (if done = 0 then m'.sup.due = some (5, m.now) ∧ (m'.upd.lines.getLast?.map (·.ty)) = some 5
         else m'.fld R.UPD_FWSTAT_STATE = 5 ∧ (m'.upd.lines.getLast?.map (·.ty)) = some 6)
      else if fwSectors m.upd.store ≤ done + 1 then
        m'.sup.due = some (5, m.now) ∧ m'.fld R.UPD_FWBUILD = fieldAt m.upd.store 16 4 ∧ m'.upd.updates = m.upd.updates + 1 ∧
          (m'.upd.lines.getLast?.map (·.ty)) = some 4
      else m'.sup.due = m.sup.due ∧ m'.fld R.UPD_FWSTAT_SECTOR = (done + 1) % 64 ∧ (m'.upd.lines.getLast?.map (fun x => (x.ty, x.sector))) = some (3, done) := by
  extract_lets m' done
  have he : m' = _ := loaderSector_eq m ok hst ha hf
  rw [he]
  obtain ⟨hs, hstore, hups, hdue, hnow⟩ := sectorWritten_kept m
  split_ifs with hbad h0 hd hd hall
  · refine ⟨hst, rfl, rfl, ?_⟩
    change Option.map _ (m.updLine 5 0).upd.lines.getLast? = _
    rw [updLine_lines m 0 (by decide), List.getLast?_concat]
    rfl
  · simp [done, List.isEmpty_iff.mp h0] at hd
  · exact absurd (List.isEmpty_iff.mpr (List.length_eq_zero_iff.mp hd)) h0
  · have hl := loading_showFw (m.updLine 6 0)
    have hls := updLine_lines m (ty := 6) 0 (by decide)
    refine ⟨hl.st.trans hst, by rw [hl.upd]; rfl, showFw_failed _ ?_, ?_⟩
    · rw [hls, updFailed_append]; rfl
    · rw [hl.upd, hls, List.getLast?_concat]; rfl
  · obtain ⟨ha, hb, hc, hn, hlast⟩ := imageShown_kept m
    have hbuild := imageShown_build m.sectorWritten.imageWritten m.upd.store
    generalize m.sectorWritten.imageWritten.imageShown m.upd.store = n at ha hb hc hn hlast hbuild
    exact ⟨ha.trans hst, hb, by rw [← hn]; rfl, hbuild, hc, hlast⟩
  · refine ⟨hs.trans hst, hstore, hdue, sectorWritten_sector m, ?_⟩
    rw [sectorWritten_lines, List.getLast?_concat]
    rfl

end Sys2Proof.Machine
end

section
/-!
SUPPORT. The retained store's writes (R456) and the key's header and journal (R472–R474): an activation written, or failed (R256).
-/
namespace Sys2Proof.Machine
open Sys2Proof

variable {B : List Nat} (m : Mach)

/-! ### The retained store's writes -/

theorem within_countLines (n : Nat) (hb : 0xF ∈ B) : Within B m (m.countLines n) := (Within.refl m).setFld64 hb (by decide) (by decide)

theorem within_setSector (n : Nat) (x : Sector) : Within B m (m.setSector n x) := (Within.refl m).recs ⟨rfl, rfl, rfl, rfl⟩

theorem within_placeIn (b n : Nat) (hb : 0xF ∈ B) : Within B m (m.placeIn b n).2.2 := by
  unfold Mach.placeIn
  extract_lets s x m1
  have h1 : Within B m m1 := (within_setSector m _ _).trans (within_countLines _ _ hb)
  clear_value m1
  split
  · exact within_setSector m _ _
  · split
    · exact (h1.trans ((Within.refl m1).recs (by exact ⟨rfl, rfl, rfl, rfl⟩))).trans (within_setSector _ _ _)
    · exact h1

theorem within_putRec (ty arg key : Nat) (p : List Byte) (hb : 0xF ∈ B) : Within B m (m.putRec ty arg key p) := by
  have h := within_placeIn m m.chooseBank (recLines p.length) hb
  unfold Mach.putRec
  split
  rename_i s l n hn
  rw [hn] at h
  exact h.recs ⟨rfl, rfl, rfl, rfl⟩

theorem within_putJournal (n : Nat) (es : List JEntry) (hb : 0xF ∈ B) : Within B m (m.putJournal n es) := by
  induction n generalizing m es with
  | zero => exact Within.refl m
  | succ n ih =>
    cases es with
    | nil => exact Within.refl m
    | cons e es => exact (within_putRec m _ _ _ _ hb).trans (ih _ _)

theorem within_rjWrite (es : List JEntry) (h9 : 9 ∈ B) (hb : 0xF ∈ B) : Within B m (m.rjWrite es) := by
  unfold Mach.rjWrite
  split
  · exact Within.refl m
  · extract_lets all ev ret n
    have h1 : Within B m n := (Within.refl m).recs ⟨rfl, rfl, rfl, rfl⟩
    clear_value n
    exact (h1.trans (within_putJournal n _ _ hb)).setFld h9 (by decide)

theorem within_evRet (ev : EvUnit) (ret : RetStore) : Within B m { m with ev := ev, ret := ret } := (Within.refl m).recs ⟨rfl, rfl, rfl, rfl⟩

theorem within_finalFlush (h9 : 9 ∈ B) (hb : 0xF ∈ B) : Within B m m.finalFlush := by
  unfold Mach.finalFlush
  extract_lets pend drop es m1 ev ret m2
  have h1 : Within B m m1 := within_rjWrite m _ h9 hb
  have h2 : Within B m m2 := h1.trans (within_evRet m1 _ _)
  clear_value m2
  split
  · exact h2
  · exact (h2.satFld h9 (by decide)).setFlag h9 (by decide)

theorem within_saveStep (hb : 0xF ∈ B) : Within B m m.saveStep := by
  unfold Mach.saveStep
  split
  · exact Within.refl m
  · split
    · extract_lets n m1
      have h1 : Within B m m1 := within_putRec m _ _ _ _ hb
      clear_value m1
      exact h1.recs ⟨rfl, rfl, rfl, rfl⟩
    · exact Within.refl m

theorem within_saveChunks (k n : Nat) (hb : 0xF ∈ B) : Within B m (m.saveChunks k n) := by
  unfold Mach.saveChunks
  extract_lets s ret
  refine Within.trans ?_ (within_saveStep _ hb)
  exact (Within.refl m).recs ⟨rfl, rfl, rfl, rfl⟩

theorem within_showRet (hb : 0xF ∈ B) : Within B m m.showRet := by
  unfold Mach.showRet
  extract_lets reclaim n
  have h : Within B m n := (((Within.refl m).setFlag hb (by decide)).setFlag hb (by decide)).setFlag hb (by decide)
  exact h.rest (rest_stat _ _ _)

theorem within_beginSave (k : Nat) (h9 : 9 ∈ B) (hb : 0xF ∈ B) : Within B m (m.beginSave k) := by
  unfold Mach.beginSave
  extract_lets ran ret m1 gen n0 m2 m3
  have h1 : Within B m m1 := (Within.refl m).recs ⟨rfl, rfl, rfl, rfl⟩
  clear_value m1
  have h2 : Within B m1 m2 := Within.ite ((Within.refl m1).foldM (fun c _ n => within_putRec n _ _ _ _ hb)) (Within.refl m1)
  clear_value m2
  have h3 : Within B m2 m3 :=
    Within.ite (((within_finalFlush m2 h9 hb).trans (within_putRec _ _ _ _ _ hb)).trans (within_putRec _ _ _ _ _ hb)) (Within.refl m2)
  clear_value m3
  exact (((h1.trans h2).trans h3).trans (Within.ite (within_saveChunks m3 _ _ hb) (Within.refl m3))).trans (within_showRet _ hb)

/-- A save writes the retained store and its journal alone (R456). -/
theorem within_resumeSave (h9 : 9 ∈ B) (hb : 0xF ∈ B) : Within B m m.resumeSave := by
  unfold Mach.resumeSave
  split
  · exact Within.ite (Within.refl m) (within_beginSave m _ h9 hb)
  · exact Within.refl m

/-! ### The key's header (R472, R483) -/

theorem keyHdr_congr {m n : Mach} (h : n.upd.key.hdr = m.upd.key.hdr) : n.keyHdr = m.keyHdr := by simp only [Mach.keyHdr, h]

/-- What stands but the registers of UPD. -/
theorem within_showKey (hb : 0x11 ∈ B) : Within B m m.showKey := by
  unfold Mach.showKey
  extract_lets h n
  exact ((((Within.refl m).setFld hb (by decide)).setFld hb (by decide)).setFld hb (by decide) |>.setFlag hb (by decide)).setFld hb (by decide)

theorem showKey_hseq : m.showKey.fld R.UPD_HSEQ = m.keyHdr.hseq % 2 ^ 32 := Mach.fld_setFld_same _ _ _ (by decide)

/-- A bit of UPD.KEYSTAT that the header does not say. -/
theorem showKey_fld {f : Fld} (ha : f.addr ≠ R.UPD_HSEQ.addr)
    (hf : f.addr ≠ R.UPD_KEYSTAT.addr ∨ f.lsb + f.width ≤ 2 ∨ 4 ≤ f.lsb ∧ f.lsb + f.width ≤ 6 ∨ 11 ≤ f.lsb) : m.showKey.fld f = m.fld f := by
  have h : ∀ (g : Fld) (hg : g ∈ [R.UPD_KEYSTAT_ACTIVE, R.UPD_KEYSTAT_STATEA, R.UPD_KEYSTAT_STATEB, R.UPD_KEYSTAT_ACTPEND]),
      f.addr ≠ g.addr ∨ f.lsb + f.width ≤ g.lsb ∨ g.lsb + g.width ≤ f.lsb := by
    simp only [List.mem_cons, List.not_mem_nil, or_false, forall_eq_or_imp, forall_eq, R.UPD_KEYSTAT_ACTIVE, R.UPD_KEYSTAT_STATEA, R.UPD_KEYSTAT_STATEB,
      R.UPD_KEYSTAT_ACTPEND, R.UPD_KEYSTAT] at hf ⊢
    omega
  unfold Mach.showKey Mach.setFlag
  extract_lets k n
  rw [Mach.fld_setFld_ne _ _ _ _ (by decide) (.inl ha), Mach.fld_setFld_ne _ _ _ _ (by decide) (h _ (by simp)),
    Mach.fld_setFld_ne _ _ _ _ (by decide) (h _ (by simp)), Mach.fld_setFld_ne _ _ _ _ (by decide) (h _ (by simp)),
    Mach.fld_setFld_ne _ _ _ _ (by decide) (h _ (by simp))]

/-- The key's record with its next number (R472). -/
def Mach.nextHdr (m : Mach) (f : KeyHdr → KeyHdr) : KeyHdr := { f m.keyHdr with hseq := (m.keyHdr.hseq + 1) % 2 ^ 32, time := m.now, serial := m.serialBytes }

/-- The key with a new header in front of the ring (R472). -/
def Mach.putHdr (m : Mach) (h : KeyHdr) (old : List KeyHdr) : Mach := { m with upd := { m.upd with key := { m.upd.key with hdr := some h, old := old } } }

/-- The headers behind a new one. -/
def Mach.olderHdrs (m : Mach) : List KeyHdr := match m.upd.key.hdr with
  | some o => (o :: m.upd.key.old).take 240
  | none => []

theorem writeHdr_eq (f : KeyHdr → KeyHdr) : m.writeHdr f = (m.putHdr (m.nextHdr f) m.olderHdrs).showKey := by
  unfold Mach.writeHdr Mach.olderHdrs
  rfl

theorem writeHdr_upd (f : KeyHdr → KeyHdr) : (m.writeHdr f).upd = (m.putHdr (m.nextHdr f) m.olderHdrs).upd := by
  rw [writeHdr_eq, (within_showKey (B := [0x11]) _ (by decide)).upd]

theorem writeHdr_hdr (f : KeyHdr → KeyHdr) : (m.writeHdr f).upd.key.hdr = some (m.nextHdr f) := by rw [writeHdr_upd]; rfl

theorem writeHdr_st (f : KeyHdr → KeyHdr) : (m.writeHdr f).st = m.st := by rw [writeHdr_eq, (within_showKey (B := [0x11]) _ (by decide)).st]; rfl

theorem keyHdr_of_some {h : KeyHdr} (he : m.upd.key.hdr = some h) : m.keyHdr = h := by simp only [Mach.keyHdr, he, Option.getD_some]

theorem writeHdr_keyHdr (f : KeyHdr → KeyHdr) : (m.writeHdr f).keyHdr = m.nextHdr f := keyHdr_of_some _ (writeHdr_hdr m f)

theorem writeHdr_hseq (f : KeyHdr → KeyHdr) : (m.writeHdr f).fld R.UPD_HSEQ = (m.nextHdr f).hseq := by
  rw [writeHdr_eq, showKey_hseq]
  exact Nat.mod_eq_of_lt (Nat.mod_lt _ (by decide))

/-- An activation names its slot in the next header (R483). -/
theorem activate_does (slot : Nat) :
    (m.activate slot).st = m.st ∧ (m.activate slot).upd.actPend = m.upd.actPend ∧ (m.activate slot).keyHdr = m.nextHdr (fun h => { h with active := slot }) ∧
      (m.activate slot).fld R.UPD_HSEQ = (m.keyHdr.hseq + 1) % 2 ^ 32 := by
  unfold Mach.activate
  extract_lets n
  have hst : n.st = m.st := writeHdr_st m _
  have hpend : n.upd.actPend = m.upd.actPend := by
    rw [show n.upd = _ from writeHdr_upd m _]
    rfl
  have hhdr : n.keyHdr = _ := writeHdr_keyHdr m (fun h => { h with active := slot })
  have hseq : n.fld R.UPD_HSEQ = _ := writeHdr_hseq m (fun h => { h with active := slot })
  clear_value n
  have h := rest_info (n.keyLog 0x04 slot (n.keyHdr.slotDig slot) 0) 0x3584
  have hw : Within [] (n.keyLog 0x04 slot (n.keyHdr.slotDig slot) 0) _ := (Within.refl _).rest h
  refine ⟨hw.st.trans hst, (congrArg Upd.actPend hw.upd).trans hpend, ?_, ?_⟩
  · rw [keyHdr_congr (m := n.keyLog 0x04 slot (n.keyHdr.slotDig slot) 0) (by rw [hw.upd]), ← hhdr]
    rfl
  · rw [hw.fld (by decide) (by decide)]
    exact hseq

/-- No activation is pending. -/
def Mach.unpend (m : Mach) : Mach := { m with upd := { m.upd with actPend := none } }

theorem activationDone_ok_eq {slot : Nat} (hp : m.upd.actPend = some slot) :
    m.activationDone true = ((m.unpend.activate slot).setFlag R.IMG_OLCSTAT_KEYPEND false).resumeSave := by
  unfold Mach.activationDone
  rw [hp]
  rfl

theorem activationDone_fail_eq {slot : Nat} (hp : m.upd.actPend = some slot) :
    m.activationDone false = ((if m.st = .save then m.unpend else m).setFlag R.UPD_KEYSTAT_PRESENT false).resumeSave := by
  unfold Mach.activationDone
  rw [hp]
  simp only [Bool.false_eq_true, false_or, ↓reduceIte]
  rfl

/-- An activation written leaves no activation pending (R256, R483). -/
theorem activationDone_ok {slot : Nat} (hp : m.upd.actPend = some slot) :
    let m' := m.activationDone true
    m'.upd.actPend = none ∧ m'.st = m.st ∧ m'.keyHdr.active = slot ∧ m'.keyHdr.hseq = (m.keyHdr.hseq + 1) % 2 ^ 32 ∧
      m'.flag R.IMG_OLCSTAT_KEYPEND = false ∧ m'.fld R.UPD_HSEQ = m'.keyHdr.hseq := by
  extract_lets m'
  obtain ⟨hst, hpend, hhdr, hseq⟩ := activate_does m.unpend slot
  have he : m' = _ := activationDone_ok_eq m hp
  have hw := within_resumeSave (B := [9, 0xF]) ((m.unpend.activate slot).setFlag R.IMG_OLCSTAT_KEYPEND false) (by decide) (by decide)
  rw [← he] at hw
  generalize m.unpend.activate slot = n at *
  have hk : m'.keyHdr = n.keyHdr := keyHdr_congr (by rw [hw.upd]; rfl)
  have hq : m'.fld R.UPD_HSEQ = n.fld R.UPD_HSEQ := by
    rw [hw.fld (by decide) (by decide)]
    exact Mach.fld_setFld_ne _ _ _ _ (by decide) (by decide)
  refine ⟨(congrArg Upd.actPend hw.upd).trans hpend, hw.st.trans hst, by rw [hk, hhdr]; rfl, by rw [hk, hhdr]; rfl, ?_, ?_⟩
  · rw [hw.flag (by decide) (by decide)]
    exact Mach.flag_setFlag_same _ _ _ (by decide) (by decide)
  · rw [hq, hseq, hk, hhdr]
    rfl

/-- An activation that fails leaves the key as it is (R256). -/
theorem activationDone_fail {slot : Nat} (hp : m.upd.actPend = some slot) :
    let m' := m.activationDone false
    m'.upd.actPend = (if m.st = .save then none else some slot) ∧ m'.st = m.st ∧ m'.flag R.UPD_KEYSTAT_PRESENT = false ∧ m'.upd.key = m.upd.key := by
  extract_lets m'
  have he : m' = _ := activationDone_fail_eq m hp
  have hst : (if m.st = .save then m.unpend else m).st = m.st := by split <;> rfl
  have hkey : (if m.st = .save then m.unpend else m).upd.key = m.upd.key := by split <;> rfl
  have hpend : (if m.st = .save then m.unpend else m).upd.actPend = if m.st = .save then none else some slot := by
    split
    · rfl
    · exact hp
  generalize (if m.st = .save then m.unpend else m) = n at *
  have hw := within_resumeSave (B := [9, 0xF]) (n.setFlag R.UPD_KEYSTAT_PRESENT false) (by decide) (by decide)
  rw [← he] at hw
  refine ⟨(congrArg Upd.actPend hw.upd).trans hpend, hw.st.trans hst, ?_, (congrArg Upd.key hw.upd).trans hkey⟩
  rw [hw.flag (by decide) (by decide)]
  exact Mach.flag_setFlag_same _ _ _ (by decide) (by decide)

end Sys2Proof.Machine
end

section
/-!
SUPPORT. The image's content at a start (R191, R193), the tasks' begin, the quads and the package's functions: which registers they write.
-/
namespace Sys2Proof.Machine
open Sys2Proof

variable {B : List Nat} (m : Mach)

/-! ### The display, the reset hold, the image -/

theorem within_dspPower (hb : 0x10 ∈ B) : Within B m m.dspPower := ((Within.refl m).recs (by exact ⟨rfl, rfl, rfl, rfl⟩)).setFld hb (by decide)

theorem within_dspWake (hb : 0x10 ∈ B) : Within B m m.dspWake := by
  unfold Mach.dspWake
  exact Within.ite ((Within.refl m).setFlag hb (by decide)) (Within.ite (within_dspPower m hb) (Within.refl m))

theorem within_dspEnable (hb : 0x10 ∈ B) : Within B m m.dspEnable := by
  unfold Mach.dspEnable
  exact Within.ite (Within.refl m) (((Within.refl m).setFlag hb (by decide)).trans (within_dspWake _ hb))

theorem dspEnable_cu : m.dspEnable.cu = m.cu := by
  unfold Mach.dspEnable Mach.dspWake
  split
  · rfl
  · split
    · rfl
    · split <;> rfl

theorem within_holdReset (hb : 5 ∈ B) : Within B m m.holdReset := ((Within.refl m).setFlag hb (by decide)).rest (rest_raise _ _ _ _)

theorem rest_setRetByte (a : Nat) (b : Byte) : Rest m (m.setRetByte a b) := by
  unfold Mach.setRetByte
  split
  · exact Rest.foldM _ _ (fun _ _ n => rest_setCell n _ _ _) _
  · split
    · exact rest_setCell m _ _ _
    · split <;> exact rest_setCell m _ _ _

theorem rest_restoreChunk (g c : Nat) : Rest m (m.restoreChunk g c) := by
  unfold Mach.restoreChunk
  split
  · exact Rest.refl m
  · exact Rest.foldM _ _ (fun _ _ n => rest_setRetByte n _ _) _

theorem within_setRet (r : RetStore) : Within B m { m with ret := r } := (Within.refl m).recs ⟨rfl, rfl, rfl, rfl⟩

theorem within_restoreRet (h8 : 8 ∈ B) (hf : 0xF ∈ B) : Within B m m.restoreRet := by
  unfold Mach.restoreRet
  extract_lets ret m1
  have h1 : Within B m m1 := within_setRet m _
  clear_value m1
  split
  · rename_i r hr
    extract_lets m2 ret2 m3
    have h2 : Within B m m2 := h1.foldM (fun c _ n => (Within.refl n).rest (rest_restoreChunk n _ _))
    have h3 : Within B m m3 := h2.trans (within_setRet m2 _)
    clear_value m3
    exact (h3.setFlag h8 (by decide)).setFlag hf (by decide)
  · split
    · exact h1
    · exact h1.rest (rest_raise _ _ _ _)

theorem within_freshImage : Within B m m.freshImage := (Within.refl m).recs ⟨rfl, rfl, rfl, rfl⟩

/-- The image's content at a start is formed beside the registers of the image and of the retained store (R191, R193). -/
theorem within_formImage (h8 : 8 ∈ B) (hf : 0xF ∈ B) : Within B m m.formImage := by
  unfold Mach.formImage
  exact Within.ite (Within.refl m) ((within_freshImage m).trans (within_restoreRet _ h8 hf))

theorem within_setExp (e : SMap (Option Nat)) : Within B m { m with exp := e } := (Within.refl m).recs ⟨rfl, rfl, rfl, rfl⟩

theorem within_restartCells (ref : Nat) : Within B m (m.restartCells ref) := by
  unfold Mach.restartCells
  refine (Within.refl m).foldM (fun key _ n => ?_)
  exact ((Within.refl n).rest (rest_setCell n _ _ _)).trans (within_setExp _ _)

theorem within_enterImage (h8 : 8 ∈ B) (hf : 0xF ∈ B) : Within B m m.enterImage := by
  unfold Mach.enterImage
  exact (Within.ite (within_freshImage m) (within_formImage m h8 hf)).trans (within_restartCells _ _)

theorem within_parAbandon (hf : 0xF ∈ B) : Within B m m.parAbandon := by
  unfold Mach.parAbandon
  split
  · exact ((((within_setRet m _).setFld hf (by decide))).trans (within_showRet _ hf)).rest (rest_note _ _)
  · exact Within.refl m

theorem rest_unblock (ps : List PtChange) : Rest m (m.unblock ps) :=
  Rest.foldM _ _ (fun _ _ n => (rest_setPt n _ _).trans (rest_showBlocked _ _)) _

theorem within_setPair (p : Pair) : Within B m { m with pair := p } := (Within.refl m).recs ⟨rfl, rfl, rfl, rfl⟩

theorem within_takeShadow : Within B m m.takeShadow := by
  unfold Mach.takeShadow
  extract_lets ps pair n pair2
  have h : Within B m n := ((within_setPair m _).rest (rest_unblock _ _)).rest (rest_change _ _)
  clear_value n
  split
  · exact Within.refl m
  · exact h.trans (within_setPair n _)

theorem within_startTasks (hb : 7 ∈ B) : Within B m m.startTasks := by
  unfold Mach.startTasks
  refine (Within.refl m).foldM (fun k hk n => ?_)
  have hk := mem_allTasks.mp hk
  have h1 : (R.TSK_NBND_LO k).addr / 0x10000 = 7 := by simp only [R.TSK_NBND_LO]; omega
  have h2 : ((R.TSK_NBND_LO k).addr + 4) / 0x10000 = 7 := by simp only [R.TSK_NBND_LO]; omega
  have h3 : (R.TSK_BUDGET_RSTLEFT k).addr / 0x10000 = 7 := by simp only [R.TSK_BUDGET_RSTLEFT]; omega
  have h4 : (R.TSK_STAT_CONSKIP k).addr / 0x10000 = 7 := by simp only [R.TSK_STAT_CONSKIP]; omega
  have h5 : Within B n (n.setTask k {}) := (Within.refl n).recs ⟨rfl, rfl, rfl, rfl⟩
  extract_lets x
  have h6 : Within B n x := h5
  clear_value x
  split
  · exact ((h6.setFld64 hb h1 h2).setFld hb h3).setFld hb h4
  · exact h6

/-! ### The quads and the package's functions -/

theorem within_domain {d : Nat} (on : Bool) (hb : 1 ∈ B) : Within B m (m.domain d on) := (Within.refl m).setFlag hb (show R.PWR_DOM_ON.addr / 0x10000 = 1 by decide)

theorem within_quadOn {q : Nat} (hq : q < 4) (h1 : 1 ∈ B) (h6 : 6 ∈ B) : Within B m (m.quadOn q) := by
  unfold Mach.quadOn
  extract_lets n
  have h : Within B m n := (Within.recs (Within.refl m) ⟨rfl, rfl, rfl, rfl⟩ : Within B m (m.setQuad q { on := true })).trans (within_domain _ _ h1)
  clear_value n
  refine h.foldM (fun i hi x => ?_)
  have hi := List.mem_range.mp hi
  have ha : (R.ENG_WAKEDARK (4 * q + i)).addr / 0x10000 = 6 := by simp only [R.ENG_WAKEDARK]; omega
  have hs (e : Eng) : Within B x (x.setEng (4 * q + i) e) := (Within.refl x).recs ⟨rfl, rfl, rfl, rfl⟩
  extract_lets e en
  split
  · split
    · exact (hs _).onlyIf ((Within.refl _).addFld h6 ha)
    · exact hs _
  · exact Within.refl x

theorem within_assignedQuads (h1 : 1 ∈ B) (h6 : 6 ∈ B) : Within B m m.assignedQuads := by
  unfold Mach.assignedQuads
  refine (Within.refl m).foldM (fun q hq n => ?_)
  split
  · exact within_quadOn n (List.mem_range.mp hq) h1 h6
  · exact Within.refl n

theorem within_utcAtStart (hb : 3 ∈ B) : Within B m m.utcAtStart := ((Within.refl m).setFld hb (by decide)).setFlag hb (by decide)

/-- The package's functions at the start touch the supply, the time base, the watchdog, the engines and the display (R256, R535). -/
theorem within_pkgFunctions (h1 : 1 ∈ B) (h3 : 3 ∈ B) (h5 : 5 ∈ B) (h6 : 6 ∈ B) (h10 : 0x10 ∈ B) : Within B m m.pkgFunctions := by
  unfold Mach.pkgFunctions
  extract_lets m1 m2 m3 m4 m5 m6
  have k1 : Within B m m1 := Within.ite (within_utcAtStart m h3) (Within.refl m)
  clear_value m1
  have k2 : Within B m m2 := by
    refine k1.foldM (fun c hc n => ?_)
    split
    · exact within_slotOn n _ (by have := mem_channels.mp hc; omega) h5
    · exact Within.refl n
  clear_value m2
  have k3 : Within B m m3 := k2.trans (Within.ite (within_slotOn m2 _ (by decide) h5) (Within.refl m2))
  clear_value m3
  have k4 : Within B m m4 := k3.trans (Within.ite (within_slotOn m3 _ (by decide) h5) (Within.refl m3))
  clear_value m4
  have k5 : Within B m m5 := k4.trans (Within.ite (within_slotOn m4 _ (by decide) h5) (Within.refl m4))
  clear_value m5
  have k6 : Within B m m6 := by
    refine k5.foldM (fun k hk n => ?_)
    have hs : n.fld (R.TSK_CFG_WDSLOT k) < 2 ^ 5 := fld_lt n _
    have ha : (R.WDG_SLOT_CFG_PERIOD (n.fld (R.TSK_CFG_WDSLOT k))).addr / 0x10000 = 5 := by simp only [R.WDG_SLOT_CFG_PERIOD]; omega
    exact (Within.refl n).setFld h5 ha
  clear_value m6
  exact ((k6.rest (rest_stat _ _ _)).trans (within_assignedQuads _ h1 h6)).trans (within_dspBegin _ h10)

end Sys2Proof.Machine
end

section
/-!
SUPPORT. Steps of the time base (R388), the bay buses (R594) and the pair at a change of role (R265, R286): which registers they write.
-/
namespace Sys2Proof.Machine
open Sys2Proof

variable {B : List Nat} (m : Mach)

/-! ### Steps of the time base (R388, R392, R400) -/

theorem carry_kept (t : Nat) : (m.carry t).st = m.st ∧ (m.carry t).upd = m.upd ∧ (m.carry t).regs = m.regs ∧
    (m.carry t).tk.waitEnd = m.tk.waitEnd.map (moved m.now t) := ⟨rfl, rfl, rfl, rfl⟩

theorem within_carry (t : Nat) : Within B m (m.carry t) := by
  obtain ⟨hst, hupd, hregs, hwait⟩ := carry_kept m t
  exact ⟨hst, hupd, fun w => by rw [hwait, w]; rfl, fun a _ _ => Mach.rget_congr hregs a⟩

theorem within_setNow (t : Nat) : Within B m { m with now := t } := (Within.refl m).recs ⟨rfl, rfl, rfl, rfl⟩

theorem within_stepTo (t : Nat) (h3 : 3 ∈ B) (hd : 0xD ∈ B) : Within B m (m.stepTo t) := by
  unfold Mach.stepTo
  extract_lets x m1 m2
  have h1 : Within B m m1 := (within_carry m t).trans (within_setNow _ t)
  clear_value m1
  have h2 : Within B m m2 := by
    simp only [m2]
    split
    · exact h1.setFld64 hd (by decide) (by decide)
    · exact h1
  clear_value m2
  exact (h2.rest (rest_info _ _)).satFld h3 (by decide)

theorem within_setTk (x : TimeK) (h : m.tk.waitEnd = none → x.waitEnd = none) : Within B m { m with tk := x } :=
  ⟨rfl, rfl, h, fun _ _ _ => rfl⟩

theorem within_setTq (q : Nat) (h3 : 3 ∈ B) : Within B m (m.setTq q) := by
  unfold Mach.setTq
  extract_lets old _ m1 _ m2 _ m3 m4
  have h1 : Within B m m1 := Within.ite (within_setTk m _ id) (Within.refl m)
  clear_value m1
  have h2 : Within B m m2 := h1.trans (Within.ite (Within.refl m1) (within_setTk m1 _ id))
  clear_value m2
  have h3 : Within B m m3 := h2.trans (Within.ite (Within.refl m2) (within_setTk m2 _ id))
  clear_value m3
  have h4 : Within B m m4 := (h3.setFld ‹3 ∈ B› (by decide)).rest (rest_setStat _ _ _ _)
  clear_value m4
  split
  · exact h4.but (but_clear _ _ _ _)
  · exact h4

theorem within_takeStep (s : Nat) (h3 : 3 ∈ B) (hd : 0xD ∈ B) : Within B m (m.takeStep s) := by
  unfold Mach.takeStep
  split
  · split
    · rename_i off _
      extract_lets m1 _ m2
      have h1 : Within B m m1 := within_stepTo m _ h3 hd
      clear_value m1
      have h2 : Within B m m2 := h1.trans (within_setTk m1 _ (fun w => by simp only [w, Option.map_none]))
      clear_value m2
      split
      · exact h2.trans (within_setTq m2 _ h3)
      · exact h2
    · exact Within.refl m
  · exact Within.refl m

theorem within_changeSrc (s : Nat) (lost : Bool) (h3 : 3 ∈ B) (hd : 0xD ∈ B) : Within B m (m.changeSrc s lost) := by
  unfold Mach.changeSrc
  extract_lets m1 m2 _ m3 m4 _ m5
  have h1 : Within B m m1 := ((Within.refl m).setFld h3 (by decide)).rest (rest_setStat _ _ _ _)
  clear_value m1
  have h2 : Within B m m2 := (h1.satFld h3 (by decide)).rest (rest_info _ _)
  clear_value m2
  have k3 : Within B m m3 := h2.trans (within_setTk m2 _ id)
  clear_value m3
  have h4 : Within B m m4 := k3.trans (Within.ite (((Within.refl m3).setFld h3 (by decide)).setFlag h3 (by decide)) (Within.refl m3))
  clear_value m4
  have h5 : Within B m m5 := h4.trans (Within.ite (Within.ite (within_setTq m4 _ h3) (within_setTk m4 _ id)) (Within.refl m4))
  clear_value m5
  exact h5.trans (within_takeStep m5 s h3 hd)

theorem within_reselect (h3 : 3 ∈ B) (hd : 0xD ∈ B) : Within B m m.reselect := by
  unfold Mach.reselect
  extract_lets cur b
  split
  · split
    · exact Within.ite (Within.refl m) (within_changeSrc m _ _ h3 hd)
    · exact Within.ite (within_takeStep m _ h3 hd) (within_changeSrc m _ _ h3 hd)
  · exact Within.refl m

/-! ### The bay buses at a change of role (R594) -/

theorem within_setSta (c s : Nat) (x : Station) : Within B m (m.setSta c s x) := (Within.refl m).recs ⟨rfl, rfl, rfl, rfl⟩

theorem within_setBay (c : Nat) (x : Bay) : Within B m (m.setBay c x) := (Within.refl m).recs ⟨rfl, rfl, rfl, rfl⟩

theorem within_setStaState {c s : Nat} (v : Nat) (hc : c < 2) (hs : s ∈ allStations) (hb : 0xB ∈ B) : Within B m (m.setStaState c s v) := by
  have hs := mem_allStations hs
  have ha : (R.BB_STA_STAT_STATE c (s - 1)).addr / 0x10000 = 0xB := by simp only [R.BB_STA_STAT_STATE]; omega
  unfold Mach.setStaState
  exact (((Within.refl m).setFld hb ha).trans (within_setSta _ _ _ _)).rest (rest_stat _ _ _)

theorem within_bayEnterRun (hb : 0xB ∈ B) : Within B m m.bayEnterRun := by
  unfold Mach.bayEnterRun
  refine (Within.refl m).foldM (fun c hc n => (Within.refl n).foldM (fun s hs x => ?_))
  split
  · exact within_setStaState x _ (mem_channels.mp hc) hs hb
  · exact Within.refl x

theorem within_txFill {c n : Nat} (id : Nat) (d : List Byte) (hc : c < 2) (hn : n < 32) (hb : 0xB ∈ B) : Within B m (m.txFill c n id d) := by
  have hid : (R.BB_TXBUF_ID c n).addr / 0x10000 = 0xB := by simp only [R.BB_TXBUF_ID]; omega
  have hlen : (R.BB_TXBUF_CTRL_LEN c n).addr / 0x10000 = 0xB := by simp only [R.BB_TXBUF_CTRL_LEN]; omega
  have hreq : (R.BB_TXBUF_CTRL_REQ c n).addr / 0x10000 = 0xB := by simp only [R.BB_TXBUF_CTRL_REQ]; omega
  have hdata : ∀ i ∈ List.range 16, (R.BB_TXBUF_DATA c n i).addr / 0x10000 = 0xB := fun i hi => by
    have hi := List.mem_range.mp hi
    simp only [R.BB_TXBUF_DATA]
    omega
  unfold Mach.txFill
  extract_lets x
  have h : Within B m x := (Within.refl m).foldM (fun i hi k => (Within.refl k).rset hb (hdata i hi))
  clear_value x
  exact ((h.setFld hb hid).setFld hb hlen).setFlag hb hreq

theorem within_txGone {c n : Nat} (hc : c < 2) (hn : n < 32) (hb : 0xB ∈ B) : Within B m (m.txGone c n) := by
  have hreq : (R.BB_TXBUF_CTRL_REQ c n).addr / 0x10000 = 0xB := by simp only [R.BB_TXBUF_CTRL_REQ]; omega
  have hcncl : (R.BB_TXBUF_CTRL_CNCL c n).addr / 0x10000 = 0xB := by simp only [R.BB_TXBUF_CTRL_CNCL]; omega
  exact ((Within.refl m).setFlag hb hreq).setFlag hb hcncl

theorem within_txCancel {c n : Nat} (hc : c < 2) (hn : n < 32) (hb : 0xB ∈ B) : Within B m (m.txCancel c n) := by
  unfold Mach.txCancel
  exact Within.ite (Within.ite (within_setBay m _ _) (within_txGone m hc hn hb)) (Within.refl m)

theorem within_txRefill {c : Nat} (hc : c < 2) (hb : 0xB ∈ B) : Within B m (m.txRefill c) := by
  unfold Mach.txRefill
  split
  · rename_i id d rest n _ hn
    exact (within_setBay m _ _).trans (within_txFill _ _ _ hc (List.mem_range.mp (List.mem_of_find?_eq_some hn)) hb)
  · exact Within.refl m

theorem within_txDrop {c : Nat} (ids : List Nat) (hc : c < 2) (hb : 0xB ∈ B) : Within B m (m.txDrop c ids) := by
  unfold Mach.txDrop
  extract_lets m1 _ m2
  have h1 : Within B m m1 :=
    (Within.refl m).foldM (fun n hn k => within_txCancel k hc (List.mem_range.mp (List.mem_of_mem_filter hn)) hb)
  have h2 : Within B m m2 := h1.trans (within_setBay m1 _ _)
  exact h2.foldM (fun _ _ k => within_txRefill k hc hb)

theorem within_stopFrames (heart : Bool) (hb : 0xB ∈ B) : Within B m (m.stopFrames heart) :=
  (Within.refl m).foldM (fun _ hc n => (within_setBay n _ _).trans (within_txDrop _ _ (mem_channels.mp hc) hb))

theorem within_bayLeaveRun (hb : 0xB ∈ B) : Within B m m.bayLeaveRun := by
  unfold Mach.bayLeaveRun
  refine (within_stopFrames m false hb).foldM (fun c hc n => (Within.refl n).foldM (fun s hs x => ?_))
  extract_lets st
  split
  · exact within_setStaState x _ (mem_channels.mp hc) hs hb
  · exact Within.refl x

theorem within_pubStop (hb : 0xC ∈ B) : Within B m m.pubStop := by
  have h : Within B m { m with sp := { m.sp with runs := [] } } := (Within.refl m).recs ⟨rfl, rfl, rfl, rfl⟩
  refine h.foldM (fun b hn n => ?_)
  have hn := List.mem_range.mp hn
  have ha : (R.STA_GPUB_CFG_ACTIVE b).addr / 0x10000 = 0xC := by simp only [R.STA_GPUB_CFG_ACTIVE]; omega
  exact (Within.refl n).setFlag hb ha

/-! ### The pair at a change of role (R265, R274, R286) -/

theorem rest_dropForwarded {k : Nat} (hk : k < 32) : Rest m (m.dropForwarded k) := by
  have hclr (n : Mach) : Rest n (({ n with pair := { n.pair with fwd := n.pair.fwd.filter (fun f => f.task != k) } }).setTask k
      { ({ n with pair := { n.pair with fwd := n.pair.fwd.filter (fun f => f.task != k) } }).task k with snap := none }) := Rest.upd n rfl
  unfold Mach.dropForwarded
  extract_lets clr
  exact (((rest_squashRun m hk (by decide)).trans (hclr _)).trans (rest_squashHeld _ hk (by decide))).trans (hclr _)

theorem rest_dropForwardeds : Rest m (foldM allTasks (fun k n => n.dropForwarded k) m) :=
  Rest.foldM _ _ (fun _ hk n => rest_dropForwarded n (mem_allTasks.mp hk)) _

theorem within_dropLead (hd : 0xD ∈ B) : Within B m m.dropLead := (within_setPair m _).setFlag hd (by decide)

theorem rest_ownJournal : Rest m m.ownJournal := (Rest.setFld m _ (by decide)).trans (rest_info _ _)

theorem within_ownTime (h3 : 3 ∈ B) (hd : 0xD ∈ B) : Within B m m.ownTime := by
  unfold Mach.ownTime
  extract_lets n
  have h : Within B m n := ((Within.refl m).setFld hd (by decide)).but (but_clear _ _ _ _)
  clear_value n
  exact (h.rest (rest_stat _ _ _)).trans (within_reselect _ h3 hd)

theorem within_setOlcEnd (x : Option Nat) : Within B m { m with olcEnd := x } := (Within.refl m).recs ⟨rfl, rfl, rfl, rfl⟩

theorem within_unfollow (r : Nat) (h3 : 3 ∈ B) (hd : 0xD ∈ B) : Within B m (m.unfollow r) := by
  unfold Mach.unfollow
  split
  · extract_lets m1 m2
    have h1 : Within B m m1 := ((Within.refl m).rest (rest_dropForwardeds m)).trans (within_dropLead _ hd)
    have h2 : Within B m m2 := h1.trans (within_setOlcEnd m1 _)
    clear_value m2
    exact (((h2.setFld hd (by decide)).rest (rest_ownJournal _)).rest (rest_setStat _ _ _ _)).trans (within_ownTime _ h3 hd)
  · exact Within.refl m

theorem within_olcUnpaired : Within B m m.olcUnpaired := by
  unfold Mach.olcUnpaired
  exact Within.ite (within_setOlcEnd m _) (Within.refl m)

theorem within_stopForward (hd : 0xD ∈ B) : Within B m m.stopForward := (within_setPair m _).setFld hd (by decide)

theorem within_giveToken (hb : 0xB ∈ B) (hc : 0xC ∈ B) (hd : 0xD ∈ B) : Within B m m.giveToken := by
  unfold Mach.giveToken
  split
  · extract_lets m1 m2 pair
    have h1 : Within B m m1 := (((Within.refl m).setFlag hd (by decide)).trans (within_pubStop _ hc)).trans (within_bayLeaveRun _ hb)
    clear_value m1
    have h2 : Within B m m2 := (h1.trans ((within_olcUnpaired m1).trans (within_stopForward _ hd))).rest (rest_dropForwardeds _)
    clear_value m2
    exact (h2.trans (within_setPair m2 _)).setFld64 hd (by decide) (by decide)
  · exact Within.refl m

/-- A module that becomes UNSYNC keeps what a start rests on (R286). -/
theorem within_becomeUnsync (r : Nat) (h3 : 3 ∈ B) (hb : 0xB ∈ B) (hc : 0xC ∈ B) (hd : 0xD ∈ B) : Within B m (m.becomeUnsync r) := by
  unfold Mach.becomeUnsync
  extract_lets n
  have h : Within B m n := ((within_unfollow m 3 h3 hd).trans (within_giveToken _ hb hc hd)).trans (within_stopFrames _ _ hb)
  clear_value n
  exact (((h.setFld hd (by decide)).setFld hd (by decide)).rest (rest_setStat _ _ _ _)).rest (rest_hello _)

theorem within_takeToken (r : Nat) (hd : 0xD ∈ B) : Within B m (m.takeToken r) := by
  unfold Mach.takeToken
  extract_lets m1 m2 pair m3
  have h1 : Within B m m1 := (((Within.refl m).addFld hd (by decide)).setFlag hd (by decide)).setFld64 hd (by decide) (by decide)
  clear_value m1
  have h2 : Within B m m2 := by
    simp only [m2]
    split
    · exact h1.setFld hd (by decide)
    · exact h1
  clear_value m2
  have h3 : Within B m m3 := h2.trans (within_setPair m2 _)
  clear_value m3
  exact (((h3.setFlag hd (by decide)).setFld hd (by decide)).setFld hd (by decide)).rest (rest_setStat _ _ _ _)

end Sys2Proof.Machine
end

section
/-!
SUPPORT. The entry to RUN (R2, R23, R286) and the end of CONFIG (R395): neither touches the key, the update store or UPD's registers.
-/
namespace Sys2Proof.Machine
open Sys2Proof

variable {B : List Nat} (m : Mach)

/-! ### What no change of the module's state touches: the key, the update store and UPD's registers -/

/-- `n` has the update store of `m` and the registers of UPD, and an ended wait for a time source has not begun again. -/
structure Spares (m n : Mach) : Prop where
  upd : n.upd = m.upd
  wait : m.tk.waitEnd = none → n.tk.waitEnd = none
  regs : ∀ a, a / 0x10000 = 0x11 → n.rget a = m.rget a

theorem evAddr_of_upd {a : Nat} (h : a / 0x10000 = 0x11) : evAddr a = false := by
  simp only [evAddr, Bool.or_eq_false_iff, Bool.and_eq_false_iff, decide_eq_false_iff_not, beq_eq_false_iff_ne, List.contains_eq_mem]
  refine ⟨⟨⟨⟨fun hm => ?_, by omega⟩, .inl (by omega)⟩, .inl (by omega)⟩, by omega⟩
  exact (by decide : ∀ b ∈ _, b / 0x10000 ≠ 0x11) a hm h

namespace Spares

theorem refl : Spares m m := ⟨rfl, id, fun _ _ => rfl⟩

theorem trans {x y z : Mach} (h : Spares x y) (k : Spares y z) : Spares x z :=
  ⟨k.upd.trans h.upd, fun w => k.wait (h.wait w), fun a ha => (k.regs a ha).trans (h.regs a ha)⟩

theorem ite {p : Prop} [Decidable p] {m x y : Mach} (hx : Spares m x) (hy : Spares m y) : Spares m (if p then x else y) := by
  split
  · exact hx
  · exact hy

theorem fld {m n : Mach} (h : Spares m n) {f : Fld} (ha : f.addr / 0x10000 = 0x11) : n.fld f = m.fld f := by simp only [Mach.fld, h.regs _ ha]

theorem flag {m n : Mach} (h : Spares m n) {f : Fld} (ha : f.addr / 0x10000 = 0x11) : n.flag f = m.flag f := by simp only [Mach.flag, h.fld ha]

end Spares

theorem Within.spares {m n : Mach} (h : Within B m n) (hB : 0x11 ∉ B) : Spares m n :=
  ⟨h.upd, h.wait, fun a ha => h.regs a (evAddr_of_upd ha) (by rw [ha]; exact hB)⟩

theorem Rest.spares {m n : Mach} (h : Rest m n) : Spares m n := ((Within.refl (B := []) m).rest h).spares (by decide)

theorem spares_setState (s : MState) : Spares m (m.setState s) :=
  ⟨rfl, id, fun _ ha => Mach.rget_rset_ne _ (by rintro rfl; exact absurd ha (by decide)) _⟩

theorem within_cancelRun : Within B m m.cancelRun := ⟨rfl, rfl, id, fun _ _ _ => rfl⟩

/-- CONFIG ends in STOP (R2, R416). -/
def Mach.endsInStop (m : Mach) : Mach := m.formImage.enableBays.setState .stop

theorem spares_formedBays : Spares m m.formImage.enableBays :=
  ((within_formImage (B := [8, 0xB, 0xF]) m (by decide) (by decide)).trans (within_enableBays _ (by decide))).spares (by decide)

theorem spares_endsInStop : Spares m m.endsInStop := (spares_formedBays m).trans (spares_setState _ _)

theorem spares_stayOut : Spares m m.stayOut := by
  have h := (within_cancelRun (B := []) m).spares (by decide)
  unfold Mach.stayOut
  exact Spares.ite (h.trans (spares_endsInStop _)) h

theorem stayOut_st (h : m.st = .config) : m.stayOut.st = .stop := by
  unfold Mach.stayOut
  rw [if_pos (by rw [h]; rfl)]
  exact Mach.setState_st _ _

/-! ### The entry to RUN (R23, R191, R286) -/

/-- RUN is entered, the role still open. -/
def Mach.runBegun (m : Mach) : Mach :=
  let m := m.enableBays.parAbandon.setState .run
  let m := { m with epoch := roundUp m.now 10000, runPend := false, tk := { m.tk with runWaits := false, waitEnd := none },
                    pair := { m.pair with listenFrom := none } }
  let m := m.takeShadow.enterImage
  let m := (({ m with ran := true }).startTasks).clear 0x3089 0 1
  m.info 0x3001

/-- RUN is entered beside a holder of the token (R286). -/
def Mach.runJoined (m : Mach) : Mach :=
  let a := (m.pair.leaseAt).getD (m.now + m.leaseNs)
  (({ m with pair := { m.pair with leaseAt := some a } }).setFld64 R.PRT_LEXP_LO a).becomeUnsync 6

theorem enterRun_eq (role : Nat) : m.enterRun role =
    if !m.keyed then m.stayOut else if role = 3 then m.runBegun.runJoined else ((m.runBegun.takeToken role).hello.bayEnterRun).pubStop := by
  unfold Mach.enterRun
  extract_lets m1 tk pair m2 m3 m4 m5 a
  have h : m5 = m.runBegun := rfl
  rw [← h]
  clear_value m5
  rfl

/-- The blocks that a run's begin writes. -/
def runBlocks : List Nat := [3, 7, 8, 0xB, 0xC, 0xD, 0xF]

theorem within_epochSet (e : Nat) (p : Pair) (x : TimeK) (h : x.waitEnd = none) :
    Within B m { m with epoch := e, runPend := false, tk := x, pair := p } := ⟨rfl, rfl, fun _ => h, fun _ _ _ => rfl⟩

theorem within_setRan : Within B m { m with ran := true } := (Within.refl m).recs ⟨rfl, rfl, rfl, rfl⟩

/-- What stands before and after the entry to RUN. -/
theorem runBegun_within : Within runBlocks ((m.enableBays.parAbandon).setState .run) m.runBegun := by
  unfold Mach.runBegun
  extract_lets m1 tk pair m2 m3 m4
  have h2 : Within runBlocks m1 m2 := within_epochSet m1 _ _ _ rfl
  clear_value m2
  have h3 : Within runBlocks m1 m3 := (h2.trans (within_takeShadow m2)).trans (within_enterImage _ (by decide) (by decide))
  clear_value m3
  have h4 : Within runBlocks m1 m4 := ((h3.trans (within_setRan m3)).trans (within_startTasks _ (by decide))).but (but_clear _ _ _ _)
  clear_value m4
  exact h4.rest (rest_info _ _)

theorem runBegun_st : m.runBegun.st = .run := (runBegun_within m).st

theorem spares_runBegun : Spares m m.runBegun := by
  have h : Within runBlocks m m.enableBays.parAbandon := (within_enableBays m (by decide)).trans (within_parAbandon _ (by decide))
  exact ((h.spares (by decide)).trans (spares_setState _ _)).trans ((runBegun_within m).spares (by decide))

theorem within_runJoined : Within runBlocks m m.runJoined := by
  unfold Mach.runJoined
  extract_lets a
  exact ((within_setPair m _).setFld64 (by decide : 0xD ∈ runBlocks) (by decide) (by decide)).trans (within_becomeUnsync _ 6 (by decide) (by decide) (by decide) (by decide))

theorem within_runAlone (r : Nat) : Within runBlocks m (((m.takeToken r).hello.bayEnterRun).pubStop) :=
  (((within_takeToken m r (by decide)).rest (rest_hello _)).trans (within_bayEnterRun _ (by decide))).trans (within_pubStop _ (by decide))

theorem spares_enterRun (r : Nat) : Spares m (m.enterRun r) := by
  rw [enterRun_eq]
  refine Spares.ite (spares_stayOut m) (Spares.ite ?_ ?_)
  · exact (spares_runBegun m).trans ((within_runJoined _).spares (by decide))
  · exact (spares_runBegun m).trans ((within_runAlone _ r).spares (by decide))

theorem Mach.flag_setFld_ne {f g : Fld} (v : Nat) (h : f.lsb + f.width ≤ 32)
    (hd : g.addr ≠ f.addr ∨ g.lsb + g.width ≤ f.lsb ∨ f.lsb + f.width ≤ g.lsb) : (m.setFld f v).flag g = m.flag g := by
  simp only [Mach.flag, Mach.fld_setFld_ne _ f g v h hd]

/-- The role and the token after the token is taken. -/
theorem takeToken_shown (r : Nat) : (m.takeToken r).fld R.PRT_STAT_ROLE = r % 4 ∧ (m.takeToken r).hasToken = true := by
  unfold Mach.takeToken Mach.showRole Mach.hasToken
  extract_lets m1 m2 pair m3
  have h1 : m1.flag R.PRT_STAT_TOKEN = true := by
    simp only [m1, Mach.flag, Mach.setFld64, Mach.fld]
    rw [Mach.rget_rset_ne _ (by decide), Mach.rget_rset_ne _ (by decide)]
    exact Mach.flag_setFlag_same _ R.PRT_STAT_TOKEN true (by decide) rfl
  have h2 : m2.flag R.PRT_STAT_TOKEN = true := by
    simp only [m2]
    split
    · exact (Mach.flag_setFld_ne _ _ (by decide) (by decide)).trans h1
    · exact h1
  clear_value m2
  have h3 : m3.flag R.PRT_STAT_TOKEN = true := h2
  clear_value m3
  have hr := rest_setStat (((m3.setFlag R.PRT_STAT_FENCE false).setFld R.PRT_STAT_UNSR 0).setFld R.PRT_STAT_ROLE r) 4224 2 r
  constructor
  · rw [hr.fld (by decide)]
    exact Mach.fld_setFld_same _ _ _ (by decide)
  · rw [hr.flag (by decide), Mach.flag_setFld_ne _ _ (by decide) (by decide), Mach.flag_setFld_ne _ _ (by decide) (by decide)]
    exact (Mach.flag_setFld_ne _ _ (by decide) (by decide)).trans h3


/-- A module without a partner enters RUN as ALONE, with the token (R286), where a key with a verified package is present (R2). -/
theorem enterRun_alone (h : m.keyed = true) : (m.enterRun 0).st = .run ∧ (m.enterRun 0).hasToken = true ∧ (m.enterRun 0).role = 0 := by
  obtain ⟨hrole, htok⟩ := takeToken_shown m.runBegun 0
  have hst : (m.runBegun.takeToken 0).st = .run := (within_takeToken (B := [0xD]) _ 0 (by decide)).st.trans (runBegun_st m)
  rw [enterRun_eq, if_neg (by simp [h]), if_neg (by decide)]
  generalize m.runBegun.takeToken 0 = n at *
  have hw : Within [0xB, 0xC] n ((n.hello.bayEnterRun).pubStop) :=
    (((Within.refl n).rest (rest_hello n)).trans (within_bayEnterRun _ (by decide))).trans (within_pubStop _ (by decide))
  exact ⟨hw.st.trans hst, (hw.flag (by decide) (by decide)).trans htok, (hw.fld (by decide) (by decide)).trans hrole⟩

theorem enterRun_noKey (r : Nat) (h : m.keyed = false) : m.enterRun r = m.stayOut := by
  rw [enterRun_eq, if_pos (by simp [h])]

theorem within_setRunPend (b : Bool) : Within B m { m with runPend := b } := (Within.refl m).recs ⟨rfl, rfl, rfl, rfl⟩

theorem spares_joinRun : Spares m m.joinRun := by
  unfold Mach.joinRun
  exact Spares.ite (spares_enterRun m 3) (Spares.refl m)

theorem spares_decideRole : Spares m m.decideRole := by
  unfold Mach.decideRole
  refine Spares.ite (spares_enterRun m 0) ?_
  extract_lets pair n
  have h : Spares m n := (within_setPair (B := []) m _).spares (by decide)
  exact (h.trans (rest_hello n).spares).trans (spares_joinRun _)

theorem spares_tryRun : Spares m m.tryRun := by
  unfold Mach.tryRun
  refine Spares.ite ?_ ((within_setRunPend (B := []) m true).spares (by decide))
  exact ((within_setRunPend (B := []) m false).spares (by decide)).trans (spares_decideRole _)

/-! ### The end of CONFIG (R395, R416, R479) -/

/-- The wait for a time source is over, and a display of the package is enabled. -/
def Mach.waitOver (m : Mach) : Mach :=
  let m := { m with tk := { m.tk with waitEnd := none } }
  if m.dspOn then m.dspEnable else m

def Mach.setRunWaits (m : Mach) (b : Bool) : Mach := { m with tk := { m.tk with runWaits := b } }

/-- CONFIG ends in STOP for want of a time (R395). -/
def Mach.stopUnset (m : Mach) : Mach :=
  let m := m.endsInStop.raise 0x3089 0 1
  m.setRunWaits m.startsRun

theorem endConfig_eq : m.endConfig =
    if m.waitOver.tq = tqUnset then m.waitOver.stopUnset else if m.waitOver.startsRun then m.waitOver.tryRun else m.waitOver.endsInStop := by
  unfold Mach.endConfig
  extract_lets tk m1 m2 m3
  have h : m2 = m.waitOver := rfl
  rw [← h]
  clear_value m2
  have h3 : m3 = m2.endsInStop.raise 0x3089 0 1 := rfl
  refine if_congr Iff.rfl ?_ rfl
  unfold Mach.stopUnset
  rw [← h3]
  clear_value m3
  rfl

theorem waitOver_within : Within [0x10] m m.waitOver := by
  unfold Mach.waitOver
  extract_lets tk n
  have h : Within [0x10] m n := within_setTk m _ (fun _ => rfl)
  clear_value n
  exact h.trans (Within.ite (within_dspEnable n (by decide)) (Within.refl n))

theorem waitOver_wait : m.waitOver.tk.waitEnd = none := by
  unfold Mach.waitOver
  extract_lets tk n
  have h : n.tk.waitEnd = none := rfl
  clear_value n
  exact (Within.ite (within_dspEnable (B := [0x10]) n (by decide)) (Within.refl n)).wait h

theorem waitOver_cu : m.waitOver.cu = m.cu := by
  unfold Mach.waitOver
  extract_lets tk n
  have h : n.cu = m.cu := rfl
  clear_value n
  split
  · exact (dspEnable_cu n).trans h
  · exact h

theorem spares_setRunWaits (b : Bool) : Spares m (m.setRunWaits b) := ⟨rfl, id, fun _ _ => rfl⟩

theorem spares_raised : Spares m (m.endsInStop.raise 0x3089 0 1) := (spares_endsInStop m).trans (rest_raise _ _ _ _).spares

theorem spares_stopUnset : Spares m m.stopUnset := (spares_raised m).trans (spares_setRunWaits _ _)

theorem spares_endConfig : Spares m m.endConfig := by
  rw [endConfig_eq]
  refine Spares.trans ((waitOver_within m).spares (by decide)) ?_
  exact Spares.ite (spares_stopUnset _) (Spares.ite (spares_tryRun _) (spares_endsInStop _))

end Sys2Proof.Machine
end

section
/-!
SUPPORT. The end of CONFIG by cases (R394, R395, R479): without a time, with start mode STOP, without the hold-up bank, and into RUN.
-/
namespace Sys2Proof.Machine
open Sys2Proof

variable (m : Mach)

/-! ### The end of a wait for a time source (R394, R395, R479) -/

theorem spares_endConfig_waitOver : Spares m.waitOver m.endConfig := by
  rw [endConfig_eq]
  exact Spares.ite (spares_stopUnset _) (Spares.ite (spares_tryRun _) (spares_endsInStop _))

theorem endConfig_wait : m.endConfig.tk.waitEnd = none := (spares_endConfig_waitOver m).wait (waitOver_wait m)

theorem waitOver_tq : m.waitOver.tq = m.tq := (waitOver_within m).fld (by decide) (by decide)

theorem waitOver_startsRun : m.waitOver.startsRun = !m.flag R.UPD_PKGSTAT_START := congrArg (!·) ((waitOver_within m).flag (by decide) (by decide))

theorem stopUnset_does : m.stopUnset.st = .stop ∧ (0x3089, 0, 1) ∈ m.stopUnset.faults ∧ m.stopUnset.tk.runWaits = m.startsRun := by
  have hst : (m.endsInStop.raise 0x3089 0 1).st = .stop := (rest_raise m.endsInStop _ _ _).st.trans (Mach.setState_st _ _)
  have hmem := raise_mem m.endsInStop 0x3089 0 1
  have hs : (m.endsInStop.raise 0x3089 0 1).startsRun = m.startsRun := congrArg (!·) ((spares_raised m).flag (f := R.UPD_PKGSTAT_START) (by decide))
  unfold Mach.stopUnset
  generalize m.endsInStop.raise 0x3089 0 1 = n at *
  exact ⟨hst, hmem, hs⟩

/-- Without a time CONFIG ends in STOP, with its fault (R395). -/
theorem endConfig_unset (h : m.tq = tqUnset) :
    m.endConfig.st = .stop ∧ (0x3089, 0, 1) ∈ m.endConfig.faults ∧ m.endConfig.tk.runWaits = !m.flag R.UPD_PKGSTAT_START := by
  obtain ⟨hst, hmem, hwaits⟩ := stopUnset_does m.waitOver
  rw [endConfig_eq, if_pos ((waitOver_tq m).trans h)]
  exact ⟨hst, hmem, hwaits.trans (waitOver_startsRun m)⟩

/-- A package that starts in STOP ends CONFIG in STOP (R476). -/
theorem endConfig_stop (h : m.tq ≠ tqUnset) (hs : m.flag R.UPD_PKGSTAT_START = true) : m.endConfig.st = .stop := by
  rw [endConfig_eq, if_neg (by rwa [waitOver_tq]), if_neg (by rw [waitOver_startsRun, hs]; decide)]
  exact Mach.setState_st _ _

theorem endConfig_run (h : m.tq ≠ tqUnset) (hs : m.flag R.UPD_PKGSTAT_START = false) : m.endConfig = m.waitOver.tryRun := by
  rw [endConfig_eq, if_neg (by rwa [waitOver_tq]), if_pos (by rw [waitOver_startsRun, hs]; rfl)]

/-- Without the hold-up bank the entry to RUN waits (R562). -/
theorem endConfig_pend (h : m.tq ≠ tqUnset) (hs : m.flag R.UPD_PKGSTAT_START = false) (hh : m.flag R.PWR_STAT_HOLDUP_OK = false) :
    m.endConfig.runPend = true ∧ m.endConfig.st = m.st := by
  have hf : m.waitOver.flag R.PWR_STAT_HOLDUP_OK = false := ((waitOver_within m).flag (by decide) (by decide)).trans hh
  rw [endConfig_run m h hs]
  unfold Mach.tryRun
  rw [if_neg (by simp [hf])]
  exact ⟨rfl, (waitOver_within m).st⟩

/-- With it, and without a partner, RUN is entered as ALONE. -/
theorem endConfig_enters (h : m.tq ≠ tqUnset) (hs : m.flag R.UPD_PKGSTAT_START = false) (hh : m.flag R.PWR_STAT_HOLDUP_OK = true)
    (happ : m.cu.app = none) (hp : m.flag R.PRT_CFG_PAIRED = false) : ∃ n, Within [0x10] m n ∧ m.endConfig = n.enterRun 0 := by
  have hw := waitOver_within m
  have hf : m.waitOver.flag R.PWR_STAT_HOLDUP_OK = true := (hw.flag (by decide) (by decide)).trans hh
  have ha : m.waitOver.cu.app = none := (congrArg CmtUnit.app (waitOver_cu m)).trans happ
  have hn := hw.trans (within_setRunPend m.waitOver false)
  refine ⟨_, hn, ?_⟩
  rw [endConfig_run m h hs]
  unfold Mach.tryRun
  rw [if_pos (by simp [hf, ha])]
  have hpair : ({ m.waitOver with runPend := false } : Mach).paired = false := (hn.flag (by decide) (by decide)).trans hp
  unfold Mach.decideRole
  rw [if_pos (by rw [hpair]; rfl)]

end Sys2Proof.Machine
end

section
/-!
SUPPORT. A refused package (R479): STOP, its code, its fault and its key journal record.
-/
namespace Sys2Proof.Machine
open Sys2Proof

variable (m : Mach)

/-! ### A refused package (R479) -/

/-- The registers of a refusal. -/
def Mach.badShown (m : Mach) (b : PkgBad) : Mach :=
  (((m.setFld R.UPD_PKGSTAT_STATE 2).setFld R.UPD_PKGSTAT_CODE b.code).rset R.UPD_PKGDET.addr (BitVec.ofNat 32 (b.sect + b.off * 256))).rset
    R.UPD_PKGDET2.addr (BitVec.ofNat 32 (b.entry + b.uop * 256 + b.rule * 65536))

/-- A refusal goes to the key's journal where the key can be read. -/
def Mach.badLogged (m : Mach) (b : PkgBad) : Mach :=
  if m.flag R.UPD_KEYSTAT_PRESENT && m.flag R.UPD_KEYSTAT_SFDPOK then m.keyLog 0x05 m.keyHdr.active m.activeDig b.code else m

theorem pkgRefused_eq (b : PkgBad) : m.pkgRefused b = (((m.badShown b).badLogged b).enableBays.setState .stop).raise 0x3581 0 2 := by
  unfold Mach.pkgRefused
  extract_lets m1 m2 m3
  have h2 : m2 = m.badShown b := rfl
  have h3 : m3 = m2.badLogged b := rfl
  rw [← h2, ← h3]

theorem badShown_shown (b : PkgBad) : (m.badShown b).fld R.UPD_PKGSTAT_STATE = 2 ∧ (m.badShown b).fld R.UPD_PKGSTAT_CODE = b.code % 256 := by
  have h : ∀ f : Fld, f.addr = R.UPD_PKGSTAT.addr →
      (m.badShown b).fld f = ((m.setFld R.UPD_PKGSTAT_STATE 2).setFld R.UPD_PKGSTAT_CODE b.code).fld f := by
    intro f hf
    unfold Mach.badShown
    simp only [Mach.fld, hf]
    rw [Mach.rget_rset_ne _ (by decide), Mach.rget_rset_ne _ (by decide)]
  constructor
  · rw [h R.UPD_PKGSTAT_STATE rfl, Mach.fld_setFld_ne _ _ _ _ (by decide) (by decide), Mach.fld_setFld_same _ _ _ (by decide)]
    rfl
  · rw [h R.UPD_PKGSTAT_CODE rfl, Mach.fld_setFld_same _ _ _ (by decide)]
    rfl

theorem badShown_keystat (b : PkgBad) : (m.badShown b).rget R.UPD_KEYSTAT.addr = m.rget R.UPD_KEYSTAT.addr := by
  unfold Mach.badShown
  rw [Mach.rget_rset_ne _ (by decide), Mach.rget_rset_ne _ (by decide), Mach.rget_setFld_ne _ _ _ (by decide), Mach.rget_setFld_ne _ _ _ (by decide)]

theorem badLogged_regs (b : PkgBad) (a : Nat) : (m.badLogged b).rget a = m.rget a := by
  unfold Mach.badLogged
  split <;> rfl

theorem badLogged_pkg (b : PkgBad) : (m.badLogged b).upd.pkg = m.upd.pkg := by
  unfold Mach.badLogged
  split <;> rfl

theorem badLogged_jrn (b : PkgBad) (h : m.flag R.UPD_KEYSTAT_PRESENT = true) (h' : m.flag R.UPD_KEYSTAT_SFDPOK = true) :
    ∃ r, (m.badLogged b).upd.key.jrn.getLast? = some r ∧ r.ty = 0x05 := by
  unfold Mach.badLogged
  rw [if_pos (by rw [h, h']; rfl)]
  unfold Mach.keyLog
  extract_lets r j
  exact ⟨r, List.getLast?_concat, rfl⟩

/-- What every refusal shows: STOP, the code and the fault. -/
theorem pkgRefused_does (b : PkgBad) :
    (m.pkgRefused b).st = .stop ∧ (m.pkgRefused b).fld R.UPD_PKGSTAT_STATE = 2 ∧ (m.pkgRefused b).fld R.UPD_PKGSTAT_CODE = b.code % 256 ∧
      (0x3581, 0, 2) ∈ (m.pkgRefused b).faults ∧ (m.pkgRefused b).upd = ((m.badShown b).badLogged b).upd := by
  obtain ⟨hstate, hcode⟩ := badShown_shown m b
  have hregs := badLogged_regs (m.badShown b) b
  rw [pkgRefused_eq]
  generalize m.badShown b = n at *
  generalize n.badLogged b = k at *
  have hs : Spares k ((k.enableBays.setState .stop).raise 0x3581 0 2) :=
    ((((within_enableBays (B := [0xB]) k (by decide)).spares (by decide)).trans (spares_setState _ _))).trans (rest_raise _ _ _ _).spares
  refine ⟨(rest_raise _ _ _ _).st.trans (Mach.setState_st _ _), ?_, ?_, raise_mem _ _ _ _, hs.upd⟩
  · rw [hs.fld (by decide), ← hstate]
    simp only [Mach.fld, hregs]
  · rw [hs.fld (by decide), ← hcode]
    simp only [Mach.fld, hregs]

theorem pkgRefused_pkg (b : PkgBad) : (m.pkgRefused b).upd.pkg = m.upd.pkg := by
  obtain ⟨-, -, -, -, hu⟩ := pkgRefused_does m b
  rw [hu, badLogged_pkg]
  rfl

theorem pkgRefused_jrn (b : PkgBad) (h : m.flag R.UPD_KEYSTAT_PRESENT = true) (h' : m.flag R.UPD_KEYSTAT_SFDPOK = true) :
    ∃ r, (m.pkgRefused b).upd.key.jrn.getLast? = some r ∧ r.ty = 0x05 := by
  obtain ⟨-, -, -, -, hu⟩ := pkgRefused_does m b
  have hk := badShown_keystat m b
  rw [hu]
  refine badLogged_jrn _ b ?_ ?_
  · rw [← h]
    exact congrArg (fun w => bitsOf w 0 1 != 0) hk
  · rw [← h']
    exact congrArg (fun w => bitsOf w 1 1 != 0) hk

end Sys2Proof.Machine
end

section
/-!
SUPPORT. The key read in CONFIG (R473, R478): what it shows and what it leaves.
-/
namespace Sys2Proof.Machine
open Sys2Proof

variable (m : Mach)

/-! ### The key read in CONFIG (R478) -/

/-- The registers that say what the read of the key found. -/
def Mach.keyShown (m : Mach) (present : Bool) (key : KeyRead) (jedec : Nat) : Mach :=
  let m := (m.setFlag R.UPD_KEYSTAT_PRESENT present).setFlag R.UPD_KEYSTAT_SFDPOK (present && key != .unfit)
  let m := if present then m.setFld R.UPD_KEYID jedec else m
  let (n, m) := m.fresh
  m.rset R.UPD_PKGREAD.addr (Config.freeWord n)

/-- A key without a header gets a blank one (R473). -/
def Mach.keyBlanked (m : Mach) (c : Bool) : Mach := if c && m.upd.key.hdr.isNone then m.writeHdr (fun _ => blankHdr) else m

/-- The module after the read of the key. -/
def Mach.keyIsRead (m : Mach) (present : Bool) (key : KeyRead) (jedec : Nat) : Mach :=
  let usable := present && key != .unfit
  let m := (m.keyShown present key jedec).keyBlanked (usable && key != .noHeader)
  if usable then m.showKey.keyStart else m

/-- The package that the key's active slot holds, taken or refused (R479). -/
def Mach.loadActive (m : Mach) : Mach :=
  let h := m.keyHdr
  let p := m.slotBytes h.active (h.slotLen h.active)
  match pkgCheck p (h.slotLen h.active) (h.slotDig h.active) (m.fld R.UPD_FWBUILD) with
  | some b => m.pkgRefused b
  | none => m.pkgLoaded p h.active

theorem configLoad_eq (present : Bool) (key : KeyRead) (jedec : Nat) (hst : m.st = .config) (h0 : m.fld R.UPD_PKGSTAT_STATE = 0) :
    m.configLoad present key jedec = match (m.keyIsRead present key jedec).keyCode present (key != .unfit) with
      | some c => (m.keyIsRead present key jedec).pkgRefused { code := c }
      | none => (m.keyIsRead present key jedec).loadActive := by
  unfold Mach.configLoad
  rw [if_pos ⟨hst, h0⟩]
  rfl

theorem keyShown_upd (present : Bool) (key : KeyRead) (jedec : Nat) : (m.keyShown present key jedec).upd = m.upd := by
  unfold Mach.keyShown
  split <;> rfl

theorem keyShown_shows (present : Bool) (key : KeyRead) (jedec : Nat) :
    let n := m.keyShown present key jedec
    n.flag R.UPD_KEYSTAT_PRESENT = present ∧ n.flag R.UPD_KEYSTAT_SFDPOK = (present && key != .unfit) ∧ n.fld R.UPD_FWBUILD = m.fld R.UPD_FWBUILD := by
  have hreg (x : Mach) (w : Word) (f : Fld) (hf : f.addr ≠ R.UPD_PKGREAD.addr) : (x.rset R.UPD_PKGREAD.addr w).fld f = x.fld f := by
    simp only [Mach.fld, Mach.rget_rset_ne _ hf]
  have hid (x : Mach) (f : Fld) (hf : f.addr ≠ R.UPD_KEYID.addr) : (if present then x.setFld R.UPD_KEYID jedec else x).fld f = x.fld f := by
    split
    · exact Mach.fld_setFld_ne _ _ _ _ (by decide) (.inl hf)
    · rfl
  have h : ∀ f : Fld, f.addr ≠ R.UPD_PKGREAD.addr → f.addr ≠ R.UPD_KEYID.addr → (m.keyShown present key jedec).fld f =
      ((m.setFlag R.UPD_KEYSTAT_PRESENT present).setFlag R.UPD_KEYSTAT_SFDPOK (present && key != .unfit)).fld f := fun f h1 h2 =>
    (hreg _ _ f h1).trans (hid _ f h2)
  refine ⟨?_, ?_, ?_⟩
  · rw [Mach.flag, h R.UPD_KEYSTAT_PRESENT (by decide) (by decide)]
    exact (Mach.flag_setFld_ne _ _ (by decide) (by decide)).trans (Mach.flag_setFlag_same _ _ _ (by decide) rfl)
  · rw [Mach.flag, h R.UPD_KEYSTAT_SFDPOK (by decide) (by decide)]
    exact Mach.flag_setFlag_same _ _ _ (by decide) rfl
  · rw [h R.UPD_FWBUILD (by decide) (by decide)]
    exact (Mach.fld_setFld_ne _ _ _ _ (by decide) (by decide)).trans (Mach.fld_setFld_ne _ _ _ _ (by decide) (by decide))

/-- What the read of a key leaves as it is. -/
structure KeyKept (m n : Mach) : Prop where
  pkg : n.upd.pkg = m.upd.pkg
  slotA : n.upd.key.slotA = m.upd.key.slotA
  slotB : n.upd.key.slotB = m.upd.key.slotB
  build : n.fld R.UPD_FWBUILD = m.fld R.UPD_FWBUILD
  present : n.flag R.UPD_KEYSTAT_PRESENT = m.flag R.UPD_KEYSTAT_PRESENT
  sfdp : n.flag R.UPD_KEYSTAT_SFDPOK = m.flag R.UPD_KEYSTAT_SFDPOK

namespace KeyKept

theorem refl : KeyKept m m := ⟨rfl, rfl, rfl, rfl, rfl, rfl⟩

theorem trans {x y z : Mach} (h : KeyKept x y) (k : KeyKept y z) : KeyKept x z :=
  ⟨k.pkg.trans h.pkg, k.slotA.trans h.slotA, k.slotB.trans h.slotB, k.build.trans h.build, k.present.trans h.present, k.sfdp.trans h.sfdp⟩

theorem ite {p : Prop} [Decidable p] {m x y : Mach} (hx : KeyKept m x) (hy : KeyKept m y) : KeyKept m (if p then x else y) := by
  split
  · exact hx
  · exact hy

end KeyKept

theorem keyKept_showKey : KeyKept m m.showKey := by
  have hu := (within_showKey (B := [0x11]) m (by decide)).upd
  refine ⟨by rw [hu], by rw [hu], by rw [hu], ?_, ?_, ?_⟩
  · exact showKey_fld m (by decide) (.inl (by decide))
  · exact congrArg (· != 0) (showKey_fld m (f := R.UPD_KEYSTAT_PRESENT) (by decide) (.inr (.inl (by decide))))
  · exact congrArg (· != 0) (showKey_fld m (f := R.UPD_KEYSTAT_SFDPOK) (by decide) (.inr (.inl (by decide))))

theorem keyKept_putHdr (h : KeyHdr) (old : List KeyHdr) : KeyKept m (m.putHdr h old) := ⟨rfl, rfl, rfl, rfl, rfl, rfl⟩

theorem keyKept_keyBlanked (c : Bool) : KeyKept m (m.keyBlanked c) := by
  unfold Mach.keyBlanked
  rw [writeHdr_eq]
  exact KeyKept.ite ((keyKept_putHdr m _ _).trans (keyKept_showKey _)) (KeyKept.refl m)

theorem keyKept_keyLog (ty slot : Nat) (dig : List Byte) (code : Nat) : KeyKept m (m.keyLog ty slot dig code) := ⟨rfl, rfl, rfl, rfl, rfl, rfl⟩

theorem keyKept_info (c : Nat) : KeyKept m (m.info c) := by
  have h := (rest_info m c).spares
  exact ⟨by rw [h.upd], by rw [h.upd], by rw [h.upd], h.fld (by decide), h.flag (by decide), h.flag (by decide)⟩

theorem keyKept_keyStart : KeyKept m m.keyStart := by
  unfold Mach.keyStart
  split
  · exact KeyKept.ite (KeyKept.refl m) ((keyKept_keyLog m _ _ _ _).trans (keyKept_info _ _))
  · exact keyKept_keyLog m _ _ _ _

theorem keyStart_hdr : m.keyStart.upd.key.hdr = m.upd.key.hdr := by
  unfold Mach.keyStart
  split
  · split
    · rfl
    · rw [(rest_info _ _).spares.upd]
      rfl
  · rfl

theorem keyBlanked_hdr (c : Bool) : (m.keyBlanked c).upd.key.hdr =
    if c && m.upd.key.hdr.isNone then some (m.nextHdr (fun _ => blankHdr)) else m.upd.key.hdr := by
  unfold Mach.keyBlanked
  split
  · exact writeHdr_hdr m _
  · rfl

theorem keyIsRead_kept (present : Bool) (key : KeyRead) (jedec : Nat) : KeyKept (m.keyShown present key jedec) (m.keyIsRead present key jedec) := by
  unfold Mach.keyIsRead
  extract_lets usable n
  have h : KeyKept (m.keyShown present key jedec) n := keyKept_keyBlanked _ _
  clear_value n
  exact h.trans (KeyKept.ite ((keyKept_showKey n).trans (keyKept_keyStart _)) (KeyKept.refl n))

theorem keyIsRead_hdr (present : Bool) (key : KeyRead) (jedec : Nat) : (m.keyIsRead present key jedec).upd.key.hdr =
    ((m.keyShown present key jedec).keyBlanked ((present && key != .unfit) && key != .noHeader)).upd.key.hdr := by
  unfold Mach.keyIsRead
  extract_lets usable n
  split
  · rw [keyStart_hdr, (within_showKey (B := [0x11]) n (by decide)).upd]
  · rfl

end Sys2Proof.Machine
end

section
/-!
SUPPORT. A package taken (R479, R493): it stays the one that runs, with its slot, as its functions start.
-/
namespace Sys2Proof.Machine
open Sys2Proof

variable (m : Mach)

/-! ### A package taken (R479) -/

theorem foldM_upd {α : Type} {f : α → Mach → Mach} {xs : List α} {k : Mach} (hk : k.upd = m.upd) (h : ∀ x n, (f x n).upd = n.upd) :
    (foldM xs f k).upd = m.upd := (foldM_keeps Mach.upd f h xs k).trans hk

theorem setSta_upd (c s : Nat) (x : Station) : (m.setSta c s x).upd = m.upd := rfl

theorem loadChatter_upd (p : List Byte) : (m.loadChatter p).upd = m.upd := by
  unfold Mach.loadChatter
  extract_lets n
  have h : n.upd = m.upd := foldM_upd m rfl (fun i k => Mach.setPt_upd k _ _)
  exact foldM_upd m h (fun i k => (Mach.setFld_upd _ _ _).trans (Mach.setFlag_upd _ _ _))

theorem wakeMasks_upd : m.wakeMasks.upd = m.upd := by
  unfold Mach.wakeMasks
  extract_lets n
  have h : n.upd = m.upd := foldM_upd m rfl (fun i k => Mach.setPt_upd k _ _)
  exact foldM_upd m h (fun i k => foldM_upd k rfl (fun j x => Mach.setPt_upd x _ _))

theorem loadStations_upd (p : List Byte) : (m.loadStations p).upd = m.upd := by
  unfold Mach.loadStations
  exact foldM_upd m rfl (fun _ k => (Mach.setFld_upd _ _ _).trans (setSta_upd k _ _ _))

theorem loadGoose_upd (p : List Byte) (is : List PkgItem) : (m.loadGoose p is).upd = m.upd := by
  unfold Mach.loadGoose
  extract_lets b o ns n
  have h : n.upd = m.upd := foldM_upd m rfl (fun i k => rfl)
  exact foldM_upd m h (fun i k => (Mach.setFld_upd _ _ _).trans (Mach.setFld_upd _ _ _))

theorem loadDisplay_upd (p : List Byte) : (m.loadDisplay p).upd = m.upd := by
  unfold Mach.loadDisplay
  split
  · rfl
  · simp only [Mach.setFld_upd]

theorem showPkg_upd (p : List Byte) : (m.showPkg p).upd = m.upd := by
  unfold Mach.showPkg
  extract_lets n
  have h : n.upd = m.upd := foldM_upd m rfl (fun i k => (Mach.rset_upd _ _ _).trans (Mach.rset_upd _ _ _))
  clear_value n
  simp only [Mach.setFld_upd, h]

theorem movInit_upd : m.movInit.upd = m.upd := by
  unfold Mach.movInit
  extract_lets n
  have h : n.upd = m.upd := foldM_upd m rfl (fun i k => foldM_upd k rfl (fun j x => Mach.setFld_upd _ _ _))
  refine foldM_upd m h (fun c k => ?_)
  split
  · exact Mach.setFlag_upd _ _ _
  · rfl

/-- The package loaded is the one that runs. -/
theorem loadPkg_pkg (p : List Byte) : (m.loadPkg p).upd.pkg = p := by
  unfold Mach.loadPkg
  extract_lets is m1 m2 ev upd m3 m4
  have h3 : m3.upd.pkg = p := rfl
  clear_value m3
  have h4 : m4.upd = m3.upd := by
    simp only [m4, movInit_upd, showPkg_upd, loadDisplay_upd, loadGoose_upd, loadStations_upd, wakeMasks_upd, loadChatter_upd]
  clear_value m4
  rw [Mach.setFld_upd, h4, h3]

/-- The registers of a package taken. -/
def Mach.takenShown (m : Mach) (p : List Byte) (slot : Nat) : Mach :=
  ((m.loadPkg p).setFld R.UPD_PKGSTAT_STATE 1).setFld R.UPD_KEYSTAT_RUNSLOT slot

/-- The functions that a package taken starts. -/
def Mach.takenStarts (m : Mach) (is : List PkgItem) : Mach :=
  (((((m.showKey).info 0x3580).showImage).stillRetired.loadWatchdog is).pkgFunctions).hello

theorem pkgLoaded_eq (p : List Byte) (slot : Nat) : ∃ n : Mach, m.pkgLoaded p slot =
    let k := (n.takenShown p slot).takenStarts (pkgItems p)
    if resetLoop k.sup.resets then k.holdReset else k.waitSource := by
  unfold Mach.pkgLoaded
  extract_lets mask n m2 m3 m4
  refine ⟨n, ?_⟩
  have h : m4 = (n.takenShown p slot).takenStarts (pkgItems p) := rfl
  rw [← h]

theorem takenShown_shows (p : List Byte) {slot : Nat} (h : slot ≤ 1) :
    let n := m.takenShown p slot
    n.upd.pkg = p ∧ n.fld R.UPD_PKGSTAT_STATE = 1 ∧ n.fld R.UPD_KEYSTAT_RUNSLOT = slot := by
  unfold Mach.takenShown
  have hp := loadPkg_pkg m p
  generalize m.loadPkg p = k at *
  refine ⟨hp, ?_, ?_⟩
  · rw [Mach.fld_setFld_ne _ _ _ _ (by decide) (by decide), Mach.fld_setFld_same _ _ _ (by decide)]
    rfl
  · rw [Mach.fld_setFld_same _ _ _ (by decide)]
    exact Nat.mod_eq_of_lt (h.trans_lt (by decide))

/-- What a package taken shows stays as its functions start. -/
theorem takenStarts_within (is : List PkgItem) : Within [1, 3, 5, 6, 0xF, 0x10, 0x12] m.showKey (m.takenStarts is) := by
  unfold Mach.takenStarts
  have h : Within [1, 3, 5, 6, 0xF, 0x10, 0x12] m.showKey ((m.showKey.info 0x3580).showImage) :=
    ((Within.refl _).rest (rest_info _ _)).trans (within_showImage _ (by decide))
  refine Within.rest ?_ (rest_hello _)
  refine Within.trans ?_ (within_pkgFunctions _ (by decide) (by decide) (by decide) (by decide) (by decide))
  exact (h.trans (within_stillRetired _ (by decide) (by decide))).trans (within_loadWatchdog _ _ (by decide))

theorem takenStarts_shows (is : List PkgItem) :
    let n := m.takenStarts is
    n.upd = m.upd ∧ n.fld R.UPD_PKGSTAT_STATE = m.fld R.UPD_PKGSTAT_STATE ∧ n.fld R.UPD_KEYSTAT_RUNSLOT = m.fld R.UPD_KEYSTAT_RUNSLOT := by
  have h := takenStarts_within m is
  refine ⟨h.upd.trans (within_showKey (B := [0x11]) m (by decide)).upd, ?_, ?_⟩
  · exact (h.fld (by decide) (by decide)).trans (showKey_fld m (by decide) (.inl (by decide)))
  · exact (h.fld (by decide) (by decide)).trans (showKey_fld m (by decide) (.inr (.inr (.inl (by decide)))))

/-- The wait for a time source begins or is over at once: the package and its registers stand (R394). -/
theorem waitSource_shows : m.waitSource.upd = m.upd ∧ ∀ a, a / 0x10000 = 0x11 → m.waitSource.rget a = m.rget a := by
  unfold Mach.waitSource
  extract_lets w tk
  split
  · exact ⟨rfl, fun _ _ => rfl⟩
  · have h := ((within_takeStep (B := [3, 0xD]) m m.bestSrc (by decide) (by decide)).spares (by decide)).trans (spares_endConfig _)
    exact ⟨h.upd, h.regs⟩

/-- A package taken shows itself, and its slot (R479, R493). -/
theorem pkgLoaded_does (p : List Byte) {slot : Nat} (h : slot ≤ 1) :
    let n := m.pkgLoaded p slot
    n.fld R.UPD_PKGSTAT_STATE = 1 ∧ n.fld R.UPD_KEYSTAT_RUNSLOT = slot ∧ n.upd.pkg = p := by
  obtain ⟨n, hn⟩ := pkgLoaded_eq m p slot
  obtain ⟨hpkg, hstate, hslot⟩ := takenShown_shows n p h
  obtain ⟨kupd, kstate, kslot⟩ := takenStarts_shows (n.takenShown p slot) (pkgItems p)
  simp only [hn]
  generalize n.takenShown p slot = x at *
  generalize x.takenStarts (pkgItems p) = k at *
  have hw : (if resetLoop k.sup.resets then k.holdReset else k.waitSource).upd = k.upd ∧
      ∀ a, a / 0x10000 = 0x11 → (if resetLoop k.sup.resets then k.holdReset else k.waitSource).rget a = k.rget a := by
    split
    · have hs := (within_holdReset (B := [5]) k (by decide)).spares (by decide)
      exact ⟨hs.upd, hs.regs⟩
    · exact waitSource_shows k
  obtain ⟨wupd, wregs⟩ := hw
  refine ⟨?_, ?_, by rw [wupd, kupd, hpkg]⟩
  · rw [← hstate, ← kstate]
    simp only [Mach.fld, wregs _ (show R.UPD_PKGSTAT_STATE.addr / 0x10000 = 0x11 by decide)]
  · rw [← hslot, ← kslot]
    simp only [Mach.fld, wregs _ (show R.UPD_KEYSTAT_RUNSLOT.addr / 0x10000 = 0x11 by decide)]

end Sys2Proof.Machine
end

section
/-!
PROOF. Loader, package load and the entry to RUN (O37).
-/
namespace Sys2Proof.Machine
open Sys2Proof

variable (m : Mach)

/-! ### What CONFIG_LOAD finds (R478, R479) -/

/-- A refusal with a code: STOP, the code, the fault, and the key's journal where the key can be read. -/
def Mach.refusedWith (code : Nat) (n : Mach) : Prop :=
  n.st = .stop ∧ n.fld R.UPD_PKGSTAT_STATE = 2 ∧ n.fld R.UPD_PKGSTAT_CODE = code % 256 ∧ (0x3581, 0, 2) ∈ n.faults ∧
    (2 < code → ∃ r, n.upd.key.jrn.getLast? = some r ∧ r.ty = 0x05)

theorem keyIsRead_flags (present : Bool) (key : KeyRead) (jedec : Nat) :
    let n := m.keyIsRead present key jedec
    n.flag R.UPD_KEYSTAT_PRESENT = present ∧ n.flag R.UPD_KEYSTAT_SFDPOK = (present && key != .unfit) := by
  obtain ⟨hp, hs, -⟩ := keyShown_shows m present key jedec
  have hk := keyIsRead_kept m present key jedec
  exact ⟨hk.present.trans hp, hk.sfdp.trans hs⟩

theorem keyIsRead_keyHdr (present : Bool) (key : KeyRead) (jedec : Nat) {h : KeyHdr} (hh : m.upd.key.hdr = some h) :
    (m.keyIsRead present key jedec).upd.key.hdr = some h := by
  rw [keyIsRead_hdr, keyBlanked_hdr, keyShown_upd, hh]
  simp

theorem keyCode_read {key : KeyRead} (jedec : Nat) {h : KeyHdr} (hk : key ≠ .unfit) (hh : m.upd.key.hdr = some h) :
    (m.keyIsRead true key jedec).keyCode true (key != .unfit) = if 1 < h.active ∨ h.slotState h.active ≠ 2 then some 0x04 else none := by
  have hhdr := keyIsRead_keyHdr m true key jedec hh
  unfold Mach.keyCode
  rw [keyHdr_of_some _ hhdr, hhdr]
  simp [hk]

theorem loadActive_some {b : PkgBad} {p : List Byte} (hp : m.slotBytes m.keyHdr.active (m.keyHdr.slotLen m.keyHdr.active) = p)
    (h : pkgCheck p (m.keyHdr.slotLen m.keyHdr.active) (m.keyHdr.slotDig m.keyHdr.active) (m.fld R.UPD_FWBUILD) = some b) :
    m.loadActive = m.pkgRefused b := by
  unfold Mach.loadActive
  extract_lets k q
  simp only [q, k, hp, h]

theorem loadActive_none {p : List Byte} (hp : m.slotBytes m.keyHdr.active (m.keyHdr.slotLen m.keyHdr.active) = p)
    (h : pkgCheck p (m.keyHdr.slotLen m.keyHdr.active) (m.keyHdr.slotDig m.keyHdr.active) (m.fld R.UPD_FWBUILD) = none) :
    m.loadActive = m.pkgLoaded p m.keyHdr.active := by
  unfold Mach.loadActive
  extract_lets k q
  simp only [q, k, hp, h]

theorem pkgRefused_refusedWith (b : PkgBad)
    (h : 2 < b.code → m.flag R.UPD_KEYSTAT_PRESENT = true ∧ m.flag R.UPD_KEYSTAT_SFDPOK = true) : (m.pkgRefused b).refusedWith b.code := by
  obtain ⟨hst, hstate, hcode, hf, -⟩ := pkgRefused_does m b
  exact ⟨hst, hstate, hcode, hf, fun hc => pkgRefused_jrn m b (h hc).1 (h hc).2⟩

section
variable {present : Bool} {key : KeyRead} (jedec : Nat) (hst : m.st = .config) (h0 : m.fld R.UPD_PKGSTAT_STATE = 0)
include hst h0

/-- A key that cannot give a package refuses it with its code. -/
theorem configLoad_keyBad {c : Nat} (h : (m.keyIsRead present key jedec).keyCode present (key != .unfit) = some c)
    (hu : 2 < c → present = true ∧ key ≠ .unfit) : (m.configLoad present key jedec).refusedWith c := by
  obtain ⟨hp, hs⟩ := keyIsRead_flags m present key jedec
  rw [configLoad_eq m present key jedec hst h0, h]
  refine pkgRefused_refusedWith _ { code := c } (fun hc => ?_)
  obtain ⟨h1, h2⟩ := hu hc
  exact ⟨hp.trans h1, hs.trans (by simp [h1, h2])⟩

theorem configLoad_absent : (m.configLoad false key jedec).refusedWith 0x01 :=
  configLoad_keyBad m jedec hst h0 rfl (fun h => absurd h (by decide))

theorem configLoad_unfit : (m.configLoad true .unfit jedec).refusedWith 0x02 :=
  configLoad_keyBad m jedec hst h0 rfl (fun h => absurd h (by decide))

/-- A key without a header: a blank one is written, which names no slot, or the key's cannot be read. -/
theorem configLoad_noHdr (hk : key ≠ .unfit) (hh : m.upd.key.hdr = none) :
    (m.configLoad true key jedec).refusedWith (if key = .fit then 0x04 else 0x03) := by
  have hhdr := keyIsRead_hdr m true key jedec
  rw [keyBlanked_hdr, keyShown_upd, hh] at hhdr
  refine configLoad_keyBad m jedec hst h0 ?_ (fun _ => ⟨rfl, hk⟩)
  unfold Mach.keyCode Mach.keyHdr
  rw [hhdr]
  cases key with
  | unfit => exact absurd rfl hk
  | fit => rfl
  | noHeader => rfl

section
variable {h : KeyHdr} (hk : key ≠ .unfit) (hh : m.upd.key.hdr = some h)
include hk hh

theorem configLoad_noSlot (hs : 1 < h.active ∨ h.slotState h.active ≠ 2) : (m.configLoad true key jedec).refusedWith 0x04 :=
  configLoad_keyBad m jedec hst h0 ((keyCode_read m jedec hk hh).trans (if_pos hs)) (fun _ => ⟨rfl, hk⟩)

/-- The package of the active slot is taken, or refused with the first check that fails. -/
theorem configLoad_slot (ha : h.active ≤ 1) (hs : h.slotState h.active = 2) :
    let p := m.slotBytes h.active (h.slotLen h.active)
    let n := m.configLoad true key jedec
    match pkgCheck p (h.slotLen h.active) (h.slotDig h.active) (m.fld R.UPD_FWBUILD) with
    | some b => n.refusedWith b.code ∧ n.upd.pkg = m.upd.pkg
    | none => n.fld R.UPD_PKGSTAT_STATE = 1 ∧ n.fld R.UPD_KEYSTAT_RUNSLOT = h.active ∧ n.upd.pkg = p := by
  have hcode := (keyCode_read m jedec hk hh).trans (if_neg (by omega))
  obtain ⟨hp, hsf⟩ := keyIsRead_flags m true key jedec
  obtain ⟨-, -, hbuild⟩ := keyShown_shows m true key jedec
  have hkept := keyIsRead_kept m true key jedec
  have hu := keyShown_upd m true key jedec
  have hhdr := keyHdr_of_some _ (keyIsRead_keyHdr m true key jedec hh)
  have hload : m.configLoad true key jedec = (m.keyIsRead true key jedec).loadActive := by rw [configLoad_eq m true key jedec hst h0, hcode]
  have hbytes : (m.keyIsRead true key jedec).slotBytes h.active (h.slotLen h.active) = m.slotBytes h.active (h.slotLen h.active) := by
    unfold Mach.slotBytes
    rw [hkept.slotA, hkept.slotB, hu]
  have hb := hkept.build.trans hbuild
  have hpkg : (m.keyIsRead true key jedec).upd.pkg = m.upd.pkg := by rw [hkept.pkg, hu]
  extract_lets p n
  have hn : n = (m.keyIsRead true key jedec).loadActive := hload
  clear_value n
  generalize m.keyIsRead true key jedec = k at *
  have hflags : k.flag R.UPD_KEYSTAT_PRESENT = true ∧ k.flag R.UPD_KEYSTAT_SFDPOK = true := ⟨hp, hsf.trans (by simp [hk])⟩
  have hbytes : k.slotBytes h.active (h.slotLen h.active) = p := hbytes
  clear_value p
  subst hhdr
  rw [← hb]
  split
  · rename_i b hc
    rw [hn, loadActive_some k hbytes hc]
    exact ⟨pkgRefused_refusedWith k b (fun _ => hflags), (pkgRefused_pkg k b).trans hpkg⟩
  · rename_i hc
    rw [hn, loadActive_none k hbytes hc]
    exact pkgLoaded_does k _ ha

end
end

/-! ### The end of the wait and the whole -/

/-- The entry to RUN at the end of CONFIG takes a key (R2). -/
theorem endConfig_keyed (hst : m.st = .config) (h : m.tq ≠ tqUnset) (hs : m.flag R.UPD_PKGSTAT_START = false) (hh : m.flag R.PWR_STAT_HOLDUP_OK = true)
    (happ : m.cu.app = none) (hp : m.flag R.PRT_CFG_PAIRED = false) (hv : m.fld R.UPD_PKGSTAT_STATE = 1) :
    (m.flag R.UPD_KEYSTAT_PRESENT = true → m.endConfig.st = .run ∧ m.endConfig.hasToken = true ∧ m.endConfig.role = 0) ∧
      (m.flag R.UPD_KEYSTAT_PRESENT = false → m.endConfig.st = .stop) := by
  obtain ⟨n, hw, he⟩ := endConfig_enters m h hs hh happ hp
  have hver : n.verified = true := beq_iff_eq.mpr ((hw.fld (by decide) (by decide)).trans hv)
  have hpres : n.flag R.UPD_KEYSTAT_PRESENT = m.flag R.UPD_KEYSTAT_PRESENT := hw.flag (by decide) (by decide)
  have hkey : n.keyed = m.flag R.UPD_KEYSTAT_PRESENT := by rw [Mach.keyed, hver, hpres, Bool.true_and]
  rw [he]
  refine ⟨fun hk => enterRun_alone n (hkey.trans hk), fun hk => ?_⟩
  rw [enterRun_noKey n 0 (hkey.trans hk)]
  exact stayOut_st n (hw.st.trans hst)

/-- The command that ends the wait for a time source, where it is due. -/
def Mach.waitEnded (m : Mach) : Mach :=
  match m.tk.waitEnd with
  | some a => if m.st = .config ∧ a ≤ m.now then m.endConfig else m
  | none => m

theorem waitEnded_due {a : Nat} (hw : m.tk.waitEnd = some a) (hst : m.st = .config) (ha : a ≤ m.now) : m.waitEnded = m.endConfig := by
  unfold Mach.waitEnded
  rw [hw]
  exact if_pos ⟨hst, ha⟩

/-- Settles O37, each command by what its operation does to the module: the loader's sector by its line, the load of the package by the key that is read and the
checks it passes, the wait's end by the cases of the start mode, and the activation by the header it writes. -/
theorem startAndConfiguration : Obligations.StartAndConfiguration := by
  unfold Obligations.StartAndConfiguration
  intro s t
  refine ⟨fun ok hst ha hf => answers_runAt (f := fun m => m.loaderSector ok) rfl ?_, fun present key jedec hst h0 => ⟨?_, ?_, ?_, ?_, ?_⟩, ?_, ?_⟩
  · have h := loaderSector_does (arrive t s) ok hst ha hf
    generalize (arrive t s).loaderSector ok = n at h ⊢
    exact h
  · rintro rfl
    exact answers_runAt rfl (configLoad_absent _ _ hst h0)
  · rintro rfl rfl
    exact answers_runAt rfl (configLoad_unfit _ _ hst h0)
  · rintro rfl hk hh
    exact answers_runAt rfl (configLoad_noHdr _ _ hst h0 hk hh)
  · rintro h rfl hk hh hs
    exact answers_runAt rfl (configLoad_noSlot _ _ hst h0 hk hh hs)
  · rintro h rfl hk hh ha hs
    exact answers_runAt rfl (configLoad_slot _ _ hst h0 hk hh ha hs)
  · intro a hw hst ha
    refine answers_runAt (f := fun m => m.waitEnded) rfl ?_
    rw [waitEnded_due _ hw hst ha]
    exact ⟨endConfig_wait _, endConfig_unset _, endConfig_stop _,
      fun h hs hh => (endConfig_pend _ h hs hh).imp_right (·.trans hst), endConfig_keyed _ hst⟩
  · intro slot ok halive hp
    refine answers_runAt (f := fun m => if m.alive then m.activationDone ok else m) rfl ?_
    rw [if_pos halive]
    cases ok with
    | true =>
      obtain ⟨hpend, hst, h⟩ := activationDone_ok _ hp
      exact ⟨hpend.trans (if_pos (.inl rfl)).symm, hst, h⟩
    | false =>
      obtain ⟨hpend, hst, h⟩ := activationDone_fail _ hp
      exact ⟨hpend.trans (by simp), hst, h⟩

end Sys2Proof.Machine
end

section
/-!
SUPPORT. The power of quads and engines (R11–R13, R24, R560): what one engine's step leaves, what a repetition over engines makes of each, and what a quad's change
of power and the request of quads are, engine by engine and quad by quad.
-/
namespace Sys2Proof.Machine
open Sys2Proof

theorem Mach.quad_setQuad_ne (m : Mach) {q p : Nat} (h : p ≠ q) (x : Quad) : (m.setQuad q x).quad p = m.quad p := by
  simp [Mach.quad, Mach.setQuad, sget_sset_ne _ _ _ _ h]

/-! ### What a change of power leaves -/

/-- `n` differs from `m` only in its quads, its engines and the registers of the blocks PWR and ENG. -/
structure PowerOnly (m n : Mach) : Prop where
  same : n = { m with quads := n.quads, engs := n.engs, regs := n.regs }
  regs : ∀ a, a / 0x10000 ≠ 1 → a / 0x10000 ≠ 6 → n.rget a = m.rget a

namespace PowerOnly

variable {m n k : Mach}

theorem refl (m : Mach) : PowerOnly m m := ⟨rfl, fun _ _ _ => rfl⟩

theorem trans (h : PowerOnly m n) (g : PowerOnly n k) : PowerOnly m k := by
  refine ⟨?_, fun a h1 h6 => (g.regs a h1 h6).trans (h.regs a h1 h6)⟩
  have hk := g.same
  rw [h.same] at hk
  exact hk

theorem setQuad (h : PowerOnly m n) (q : Nat) (x : Quad) : PowerOnly m (n.setQuad q x) := h.trans ⟨rfl, fun _ _ _ => rfl⟩

theorem setEng (h : PowerOnly m n) (e : Nat) (x : Eng) : PowerOnly m (n.setEng e x) := h.trans ⟨rfl, fun _ _ _ => rfl⟩

theorem setFld (h : PowerOnly m n) {f : Fld} (v : Nat) (hf : f.addr / 0x10000 = 1 ∨ f.addr / 0x10000 = 6) : PowerOnly m (n.setFld f v) :=
  h.trans ⟨rfl, fun _ h1 h6 => n.rget_setFld_ne f v (by rintro rfl; exact hf.elim h1 h6)⟩

theorem now (h : PowerOnly m n) : n.now = m.now := by rw [h.same]

/-- A task's next boundary is no register of power. -/
theorem nbnd (h : PowerOnly m n) {t : Nat} (ht : t < 32) : n.nbnd t = m.nbnd t := by
  have out (a : Nat) (ha : a / 0x10000 = 7) : n.rget a = m.rget a := h.regs a (by omega) (by omega)
  simp only [Mach.nbnd, Mach.fld64, R.TSK_NBND_LO]
  rw [out _ (by omega), out _ (by omega)]

end PowerOnly

/-! ### One engine's step, and a repetition of such steps -/

/-- `n` is `m` after a step of power that makes `g` of engine `e` and leaves every other engine. -/
structure EngStep (e : Nat) (g : Eng → Eng) (m n : Mach) : Prop extends PowerOnly m n where
  eng : ∀ i, n.eng i = if i = e then g (m.eng i) else m.eng i

namespace EngStep

variable {m n : Mach} {e : Nat} {g : Eng → Eng}

theorem refl (m : Mach) (e : Nat) (h : g (m.eng e) = m.eng e) : EngStep e g m m := by
  refine ⟨PowerOnly.refl m, fun i => ?_⟩
  split
  · subst i; exact h.symm
  · rfl

/-- The engine's record replaced, whatever the step before made of it. -/
theorem setEng {g' : Eng → Eng} (h : EngStep e g' m n) {x : Eng} (hx : x = g (m.eng e)) : EngStep e g m (n.setEng e x) := by
  refine ⟨h.toPowerOnly.setEng e x, fun i => ?_⟩
  split
  · subst i; rw [Mach.eng_setEng_same, hx]
  · rename_i hi; rw [Mach.eng_setEng_ne _ hi, h.eng, if_neg hi]

theorem setQuad (h : EngStep e g m n) (q : Nat) (x : Quad) : EngStep e g m (n.setQuad q x) := ⟨h.toPowerOnly.setQuad q x, h.eng⟩

/-- A count in a performance register. -/
theorem count (h : EngStep e g m n) (b : Bool) {f : Fld} (hf : f.addr / 0x10000 = 6) : EngStep e g m (onlyIf b (·.addFld f 1) n) := by
  cases b with
  | false => exact h
  | true => exact ⟨h.toPowerOnly.setFld _ (.inr hf), h.eng⟩

/-- Steps of engines, each making `g` of its own, make `g` of every engine named: `g` twice is `g`. -/
theorem foldM {α : Type} {ix : α → Nat} {f : α → Mach → Mach} {xs : List α} (hg : ∀ x, g (g x) = g x)
    (hf : ∀ x ∈ xs, ∀ n, PowerOnly m n → EngStep (ix x) g n (f x n)) (hn : PowerOnly m n) :
    PowerOnly m (foldM xs f n) ∧ ∀ i, (foldM xs f n).eng i = if i ∈ xs.map ix then g (n.eng i) else n.eng i := by
  induction xs generalizing n with
  | nil => exact ⟨hn, fun i => by simp [Machine.foldM]⟩
  | cons x xs ih =>
    have hx := hf x (by simp) n hn
    obtain ⟨hp, he⟩ := ih (fun y hy => hf y (by simp [hy])) (hn.trans hx.toPowerOnly)
    refine ⟨hp, fun i => (he i).trans ?_⟩
    simp only [hx.eng, List.map_cons, List.mem_cons]
    by_cases hi : i = ix x
    · simp only [hi, true_or, if_true, hg, ite_self]
    · simp only [hi, if_false, false_or]

end EngStep

theorem mem_quadEngines {q i : Nat} : i ∈ (List.range 4).map (4 * q + ·) ↔ i / 4 = q := by
  simp only [List.mem_map, List.mem_range]
  exact ⟨by rintro ⟨j, hj, rfl⟩; omega, fun h => ⟨i % 4, by omega, by omega⟩⟩

/-! ### A quad powers up (R11) and down (R560) -/

/-- A dark engine as its quad comes on: lit where a start waits, else dim. -/
def Eng.poweredUp (now : Nat) (x : Eng) : Eng :=
  if x.power = .dark then if x.wake then { x with power := .lit, wake := false, litSince := now } else { x with power := .dim } else x

theorem Eng.poweredUp_not_dark (now : Nat) {x : Eng} (h : x.power ≠ .dark) : x.poweredUp now = x := if_neg h

theorem Eng.poweredUp_power (now : Nat) {x : Eng} (h : x.power = .dark) : (x.poweredUp now).power = if x.wake then .lit else .dim := by
  rw [Eng.poweredUp, if_pos h]
  split <;> rfl

theorem Eng.poweredUp_poweredUp (now : Nat) (x : Eng) : (x.poweredUp now).poweredUp now = x.poweredUp now := by
  by_cases h : x.power = .dark
  · refine Eng.poweredUp_not_dark now ?_
    rw [Eng.poweredUp_power now h]
    split <;> decide
  · rw [Eng.poweredUp_not_dark now h, Eng.poweredUp_not_dark now h]

/-- An engine as its quad goes off: dark, unless it is held out. -/
def Eng.poweredDown (x : Eng) : Eng := if x.power = .dim ∨ x.power = .lit then { x with power := .dark } else x

theorem Eng.poweredDown_power (x : Eng) : x.poweredDown.power = if x.power = .heldOut then .heldOut else .dark := by
  unfold Eng.poweredDown
  cases h : x.power <;> simp [h]

theorem Eng.poweredDown_poweredDown (x : Eng) : x.poweredDown.poweredDown = x.poweredDown := by
  refine if_neg ?_
  rw [Eng.poweredDown_power]
  split <;> decide

variable (m : Mach)

/-- One engine's part of a quad's power-up. -/
def Mach.powerUpEng (m : Mach) (e : Nat) : Mach :=
  let en := m.eng e
  match en.power with
  | .dark =>
    if en.wake then onlyIf (m.flag (R.ENG_PERFCTL_EN e)) (·.addFld (R.ENG_WAKEDARK e) 1) (m.setEng e { en with power := .lit, wake := false, litSince := m.now })
    else m.setEng e { en with power := .dim }
  | _ => m

/-- One engine's part of a quad's power-down. -/
def Mach.powerDownEng (m : Mach) (e : Nat) : Mach :=
  let en := m.eng e
  match en.power with
  | .dim => m.setEng e { en with power := .dark }
  | .lit => m.setEng e { en with power := .dark }
  | _ => m

theorem quadOn_eq (q : Nat) :
    m.quadOn q = foldM (List.range 4) (fun i n => n.powerUpEng (4 * q + i)) ((m.setQuad q { on := true }).domain (3 + q) true) := rfl

theorem quadOff_eq (q : Nat) :
    m.quadOff q = foldM (List.range 4) (fun i n => n.powerDownEng (4 * q + i)) ((m.setQuad q {}).domain (3 + q) false) := rfl

theorem engStep_powerUpEng {e : Nat} (he : e < 16) : EngStep e (Eng.poweredUp m.now) m (m.powerUpEng e) := by
  have h0 : EngStep e id m m := EngStep.refl m e rfl
  unfold Mach.powerUpEng
  extract_lets en
  split
  · rename_i hd
    have ha : (R.ENG_WAKEDARK e).addr / 0x10000 = 6 := by simp only [R.ENG_WAKEDARK]; omega
    have hx : (m.eng e).poweredUp m.now = _ := if_pos hd
    split
    · rename_i hw
      exact (h0.setEng (by rw [hx, if_pos hw])).count _ ha
    · rename_i hw
      exact h0.setEng (by rw [hx, if_neg hw])
  · rename_i hd
    exact EngStep.refl m e (Eng.poweredUp_not_dark m.now hd)

theorem powerUpEng_quads (e : Nat) : (m.powerUpEng e).quads = m.quads := by
  unfold Mach.powerUpEng onlyIf
  extract_lets en
  split
  · split
    · split <;> rfl
    · rfl
  · rfl

theorem engStep_powerDownEng (e : Nat) : EngStep e Eng.poweredDown m (m.powerDownEng e) := by
  have h0 : EngStep e id m m := EngStep.refl m e rfl
  unfold Mach.powerDownEng
  extract_lets en
  split
  · rename_i h
    exact h0.setEng (if_pos (.inl h)).symm
  · rename_i h
    exact h0.setEng (if_pos (.inr h)).symm
  · rename_i hdim hlit
    exact EngStep.refl m e (if_neg (not_or.mpr ⟨hdim, hlit⟩))

theorem powerOnly_domain (d : Nat) (on : Bool) : PowerOnly m (m.domain d on) :=
  (PowerOnly.refl m).setFld _ (.inl (show R.PWR_DOM_ON.addr / 0x10000 = 1 by decide))

theorem quadOn_engs {q : Nat} (hq : q < 4) :
    PowerOnly m (m.quadOn q) ∧ ∀ e, (m.quadOn q).eng e = if e / 4 = q then (m.eng e).poweredUp m.now else m.eng e := by
  rw [quadOn_eq]
  have h := EngStep.foldM (m := m) (ix := (4 * q + ·)) (xs := List.range 4) (Eng.poweredUp_poweredUp m.now)
    (fun i hi n hn => hn.now ▸ engStep_powerUpEng n (by have := List.mem_range.mp hi; omega))
    (((PowerOnly.refl m).setQuad q { on := true }).trans (powerOnly_domain _ (3 + q) true))
  simp only [mem_quadEngines] at h
  exact h

theorem quadOn_quad (q : Nat) : (m.quadOn q).quad q = { on := true } := by
  rw [quadOn_eq, Mach.quad, foldM_keeps (·.quads) _ (fun _ n => powerUpEng_quads n _)]
  exact m.quad_setQuad_same q { on := true }

theorem quadOff_engs (q : Nat) :
    PowerOnly m (m.quadOff q) ∧ ∀ e, (m.quadOff q).eng e = if e / 4 = q then (m.eng e).poweredDown else m.eng e := by
  rw [quadOff_eq]
  have h := EngStep.foldM (m := m) (ix := (4 * q + ·)) (xs := List.range 4) Eng.poweredDown_poweredDown
    (fun i _ n _ => engStep_powerDownEng n (4 * q + i))
    (((PowerOnly.refl m).setQuad q {}).trans (powerOnly_domain _ (3 + q) false))
  simp only [mem_quadEngines] at h
  exact h

/-! ### The lead of a snapshot (R24) -/

/-- An engine that is to be lit (R13): a dim one is, a dark one has a start that waits. -/
def Eng.lightened (now : Nat) (x : Eng) : Eng :=
  if x.power = .dim then { x with power := .lit, litSince := now } else if x.power = .dark then { x with wake := true } else x

theorem engStep_light {e : Nat} (he : e < 16) : EngStep e (Eng.lightened m.now) m (m.light e) := by
  have h0 : EngStep e id m m := EngStep.refl m e rfl
  unfold Mach.light
  extract_lets en
  split
  · rename_i hdim
    have ha : (R.ENG_WAKEDIM e).addr / 0x10000 = 6 := by simp only [R.ENG_WAKEDIM]; omega
    have hx : (m.eng e).lightened m.now = _ := if_pos hdim
    exact (h0.setEng hx.symm).count _ ha
  · rename_i hdark
    have hdim : (m.eng e).power ≠ .dim := ne_of_eq_of_ne hdark (by decide)
    exact (h0.setEng (((if_neg hdim).trans (if_pos hdark)).symm)).setQuad _ _
  · rename_i hdim hdark
    exact EngStep.refl m e ((if_neg hdim).trans (if_neg hdark))

/-- A free engine 1 µs ahead of boundary `b`: to be lit, and wanted until then. -/
def Eng.led (now b : Nat) (x : Eng) : Eng := if x.act.isNone then { x.lightened now with wantTill := b } else x

theorem Eng.led_led (now b : Nat) (x : Eng) : (x.led now b).led now b = x.led now b := by
  unfold Eng.led Eng.lightened
  cases hp : x.power <;> cases ha : x.act <;> simp [hp, ha]

theorem Eng.led_dim (now b : Nat) {x : Eng} (ha : x.act = none) (hp : x.power = .dim) :
    x.led now b = { x with power := .lit, litSince := now, wantTill := b } := by
  simp [Eng.led, Eng.lightened, ha, hp]

/-- One engine's part of the lead of task `k`'s boundary. -/
def Mach.leadEng (m : Mach) (k e : Nat) : Mach :=
  if (m.eng e).act.isNone then (m.light e).setEng e { (m.light e).eng e with wantTill := m.nbnd k } else m

theorem engStep_leadEng (k : Nat) {e : Nat} (he : e < 16) : EngStep e (Eng.led m.now (m.nbnd k)) m (m.leadEng k e) := by
  have h := engStep_light m he
  unfold Mach.leadEng
  split
  · rename_i ha
    exact h.setEng (by rw [h.eng, if_pos rfl, Eng.led, if_pos ha])
  · rename_i ha
    exact EngStep.refl m e (by rw [Eng.led, if_neg ha])

theorem firstEngines_lt {k e : Nat} (h : e ∈ m.firstEngines k) : e < 16 := by
  obtain ⟨j, -, rfl⟩ := List.mem_map.mp h
  exact fld_lt m (segMap k j)

/-- The lead of task `k`'s boundary lights its first engines. -/
def Mach.lead (m : Mach) (k : Nat) : Mach := foldM (m.firstEngines k) (fun e n => n.leadEng k e) m

theorem lead_engs {k : Nat} (hk : k < 32) :
    PowerOnly m (m.lead k) ∧ ∀ e, (m.lead k).eng e = if e ∈ m.firstEngines k then (m.eng e).led m.now (m.nbnd k) else m.eng e := by
  have h := EngStep.foldM (m := m) (ix := id) (xs := m.firstEngines k) (Eng.led_led m.now (m.nbnd k))
    (fun e he n hn => hn.now ▸ hn.nbnd hk ▸ engStep_leadEng n k (firstEngines_lt m he)) (PowerOnly.refl m)
  rw [List.map_id] at h
  exact h

/-! ### The request of quads (R24) -/

/-- A quad asked for, unless it is on. -/
def Mach.askQuad (m : Mach) (q : Nat) : Mach := if (m.quad q).on then m else m.setQuad q { m.quad q with req := true }

theorem askQuad_quad (q p : Nat) : (m.askQuad q).quad p = if p = q ∧ (m.quad p).on = false then { m.quad p with req := true } else m.quad p := by
  unfold Mach.askQuad
  by_cases hp : p = q
  · subst p
    cases hon : (m.quad q).on <;> simp [hon]
  · rw [if_neg (show ¬ (p = q ∧ (m.quad p).on = false) from fun h => hp h.1)]
    split
    · rfl
    · exact m.quad_setQuad_ne hp _

theorem askQuad_same (q : Nat) : m.askQuad q = { m with quads := (m.askQuad q).quads } := by
  unfold Mach.askQuad
  split <;> rfl

theorem foldM_askQuad_same (qs : List Nat) (n : Mach) (h : n = { m with quads := n.quads }) :
    foldM qs (fun q n => n.askQuad q) n = { m with quads := (foldM qs (fun q n => n.askQuad q) n).quads } := by
  refine foldM_inv (fun n => n = { m with quads := n.quads }) _ qs (fun q _ n hn => ?_) n h
  have hq := askQuad_same n q
  rw [hn] at hq
  rw [hn]
  exact hq

theorem foldM_askQuad_quad (qs : List Nat) (p : Nat) : (foldM qs (fun q n => n.askQuad q) m).quad p =
    if p ∈ qs ∧ (m.quad p).on = false then { m.quad p with req := true } else m.quad p := by
  induction qs generalizing m with
  | nil => simp [foldM]
  | cons q qs ih =>
    refine (ih (m.askQuad q)).trans ?_
    simp only [askQuad_quad, List.mem_cons]
    by_cases hq : p = q ∧ (m.quad p).on = false
    · have hm : (p = q ∨ p ∈ qs) ∧ (m.quad p).on = false := ⟨.inl hq.1, hq.2⟩
      rw [if_pos hq, if_pos hm]
      exact ite_self _
    · rw [if_neg hq]
      refine if_congr ⟨fun h => ⟨.inr h.1, h.2⟩, fun h => ⟨h.1.resolve_left (fun e => hq ⟨e, h.2⟩), h.2⟩⟩ rfl rfl

/-- A boundary at most 26.1 µs ahead asks for the task's quads. -/
theorem requestQuads_near {k : Nat} (hst : m.st = .run) (hon : m.taskOn k = true) (hb : m.nbnd k ≤ m.now + 26100) :
    m.requestQuads k = foldM ((m.taskEngines k).map (· / 4)).eraseDups (fun q n => n.askQuad q) m := by
  unfold Mach.requestQuads
  rw [if_pos (by simp [hst, hon, hb])]
  rfl

end Sys2Proof.Machine
end

section
/-!
PROOF. Quads power up and down, and engines are lit (O19).
-/
namespace Sys2Proof.Machine
open Sys2Proof

variable (m : Mach)

theorem requestQuads_does {k : Nat} (hst : m.st = .run) (hon : m.taskOn k = true) (hb : m.nbnd k ≤ m.now + 26100) :
    let n := m.requestQuads k
    n = { m with quads := n.quads } ∧ ∀ e ∈ m.taskEngines k, (m.quad (e / 4)).on = false → (n.quad (e / 4)).req = true := by
  rw [requestQuads_near m hst hon hb]
  refine ⟨foldM_askQuad_same m _ m rfl, fun e he hoff => ?_⟩
  have hmem : e / 4 ∈ ((m.taskEngines k).map (· / 4)).eraseDups := List.mem_eraseDups.mpr (List.mem_map_of_mem he)
  rw [foldM_askQuad_quad, if_pos ⟨hmem, hoff⟩]

theorem quadOn_does {q : Nat} (hq : q < 4) :
    let n := m.quadOn q
    n = { m with quads := n.quads, engs := n.engs, regs := n.regs } ∧ n.quad q = { on := true } ∧
      (∀ e, e / 4 = q → (m.eng e).power = .dark → (n.eng e).power = if (m.eng e).wake then .lit else .dim) ∧
      (∀ e, e / 4 = q → (m.eng e).power ≠ .dark → n.eng e = m.eng e) ∧ ∀ e, e / 4 ≠ q → n.eng e = m.eng e := by
  obtain ⟨hp, he⟩ := quadOn_engs m hq
  refine ⟨hp.same, quadOn_quad m q, fun e h hd => ?_, fun e h hd => ?_, fun e h => ?_⟩
  · rw [he, if_pos h, Eng.poweredUp_power _ hd]
  · rw [he, if_pos h, Eng.poweredUp_not_dark _ hd]
  · rw [he, if_neg h]

theorem quadOff_does (q : Nat) :
    let n := (m.quadOff q).setQuad q { down := true }
    n = { m with quads := n.quads, engs := n.engs, regs := n.regs } ∧ n.quad q = { down := true } ∧
      (∀ e, e / 4 = q → (n.eng e).power = if (m.eng e).power = .heldOut then .heldOut else .dark) ∧ ∀ e, e / 4 ≠ q → n.eng e = m.eng e := by
  obtain ⟨hp, he⟩ := quadOff_engs m q
  refine ⟨(hp.setQuad q _).same, Mach.quad_setQuad_same _ q _, fun e h => ?_, fun e h => ?_⟩
  · exact ((congrArg Eng.power (he e)).trans (by rw [if_pos h])).trans (Eng.poweredDown_power _)
  · exact (he e).trans (if_neg h)

theorem powerDownEnded_does (q : Nat) :
    let n := m.setQuad q { m.quad q with down := false }
    n = { m with quads := n.quads } ∧ (n.quad q).down = false ∧ (n.quad q).req = (m.quad q).req ∧ ∀ p, p ≠ q → n.quad p = m.quad p :=
  ⟨rfl, by simp, by simp, fun _ h => m.quad_setQuad_ne h _⟩

theorem lead_does {k : Nat} (hk : k < 32) :
    let n := m.lead k
    n = { m with quads := n.quads, engs := n.engs, regs := n.regs } ∧
      ∀ e ∈ m.firstEngines k, (m.eng e).act = none → (m.eng e).power = .dim → (n.eng e).power = .lit ∧ (n.eng e).wantTill = m.nbnd k := by
  obtain ⟨hp, he⟩ := lead_engs m hk
  refine ⟨hp.same, fun e hm ha hd => ?_⟩
  rw [he, if_pos hm, Eng.led_dim _ _ ha hd]
  exact ⟨rfl, rfl⟩

/-- Settles O19, each command by what its operation does to the module: a repetition over quads or engines, read engine by engine. -/
theorem quadsAndLight : Obligations.QuadsAndLight := by
  unfold Obligations.QuadsAndLight
  intro s t
  refine ⟨fun k hst hon hb => ?_, fun q hr hd ha => ?_, fun q hi => ?_, fun q hd => ?_, fun k hst hon hb => ?_⟩
  · exact answers_runAt (f := fun m => m.requestQuads k) rfl (requestQuads_does _ hst hon hb)
  · refine answers_runAt (f := fun m => if (m.quad q).req && !(m.quad q).down && m.alive then m.quadOn q else m) rfl ?_
    rw [if_pos (by simp [hr, hd, ha])]
    exact quadOn_does _ q.isLt
  · refine answers_runAt (f := fun m => if m.quadIdle q then (m.quadOff q).setQuad q { down := true } else m) rfl ?_
    rw [if_pos hi]
    exact quadOff_does _ q
  · refine answers_runAt (f := fun m => if (m.quad q).down then m.setQuad q { m.quad q with down := false } else m) rfl ?_
    rw [if_pos hd]
    exact powerDownEnded_does _ q
  · refine answers_runAt (f := fun m => if m.st == .run && m.taskOn k && decide (m.nbnd k ≤ m.now + 1100) then m.lead k else m) rfl ?_
    rw [if_pos (by simp [hst, hon, show (arrive t s).nbnd k ≤ _ from hb])]
    exact lead_does _ k.isLt

end Sys2Proof.Machine
end

section
/-!
PROOF. The module after power-on (O60).
-/
namespace Sys2Proof.Machine
open Sys2Proof

/-- The type of R592 stands in the lower half of SYS.ID, whatever the silicon revision above it. -/
theorem regReset_sysId : (regReset R.SYS_ID.addr).toNat % 2 ^ 16 = 0x6016 := by
  rw [regReset, if_pos rfl, BitVec.toNat_ofNat]
  have := Config.siliconRev.isLt
  omega

/-- Nothing is written at the reset. -/
theorem rget_reset (a : Nat) : State.reset.m.rget a = regReset a := rfl

/-- A module outside RUN and STOP with nothing commanded and the health contact off has its outputs following their conditions. -/
theorem outputsFollow_off {m : Mach} (hrun : m.st ≠ .run) (hstop : m.st ≠ .stop) (hcmd : m.fio.cmd = 0) (hhc : m.fio.hc = false) : OutputsFollow m := by
  refine ⟨fun n _ => ⟨fun h => absurd h hrun, fun h => absurd h hstop, fun _ _ => ?_⟩, fun h => ?_⟩
  · rw [hcmd]
    exact BitVec.getLsbD_zero
  · rw [hhc] at h
    exact Bool.noConfusion h

/-- A point of a module without written points holds what R183 and R187 give an unlisted point. -/
theorem ptDflt_does (i : Nat) : (ptDflt i).v = false ∧ (ptDflt i).q = if 4224 ≤ i ∧ i ≤ 4351 then 0 else 1 := by
  unfold ptDflt
  split <;> exact ⟨rfl, rfl⟩

/-- Settles O60: nothing is written yet, so every register, point and element reads as its table gives it. -/
theorem resetState : Obligations.ResetState := by
  unfold Obligations.ResetState
  refine ⟨rfl, rfl, ?_, rget_reset R.SYS_ID.addr ▸ regReset_sysId, rget_reset, ?_, ?_, ?_, fun e => ⟨?_, rfl, rfl⟩, fun _ => ⟨rfl, rfl, rfl⟩, fun i => ptDflt_does i,
    fun _ _ => rfl, rfl, rfl, rfl, rfl, rfl, rfl, rfl, outputsFollow_off (by decide) (by decide) rfl rfl⟩
  · decide +kernel
  · decide +kernel
  · decide +kernel
  · decide +kernel
  · revert e
    decide +kernel

end Sys2Proof.Machine
end

section
/-!
PROOF. The source of an element a scan reads (O10).
-/
namespace Sys2Proof.Machine
open Sys2Proof

variable (c : Ctx) (m : Mach)

theorem read_point (i : Nat) : c.read spI i m = (if (c.point i).1 then 1 else 0, m) := if_pos rfl

theorem read_snapWord {i : Nat} (hi : 258048 ≤ i) : c.read spW i m = ((sget 0 c.sc.snap.wvals i).setWidth 128, m) := by
  rw [Ctx.read, if_neg (by decide), if_pos ⟨rfl, hi⟩]

theorem read_reservedQ {i : Nat} (hi : 2112 ≤ i) : c.read spQ i m = (0, m) := by
  rw [Ctx.read, if_neg (by decide), if_neg (fun h => absurd h.1 (by decide)), if_pos ⟨rfl, hi⟩]

/-- Beside the snapshot's elements and the reserved points, a scan reads its own writes first. -/
theorem read_own {sp i : Nat} {v : CellV} (hI : sp ≠ spI) (hW : ¬ (sp = spW ∧ 258048 ≤ i)) (hQ : ¬ (sp = spQ ∧ 2112 ≤ i))
    (h : c.own m (ikey sp i) = some v) : c.read sp i m = (v, m) := by
  rw [Ctx.read, if_neg hI, if_neg hW, if_neg hQ]
  simp only [h]

/-- What it has not written comes from the HELD scan, else from the application in progress, else from the image, and marks its block. -/
theorem read_shared {sp i : Nat} (hI : sp ≠ spI) (hW : ¬ (sp = spW ∧ 258048 ≤ i)) (hQ : ¬ (sp = spQ ∧ 2112 ≤ i)) (h : c.own m (ikey sp i) = none) :
    c.read sp i m = (((c.pred m (ikey sp i)).or (m.liveEntry (ikey sp i))).getD (m.cell sp i), m.mark c.k sp i) := by
  rw [Ctx.read, if_neg hI, if_neg hW, if_neg hQ]
  simp only [h]

/-- Settles O10, source by source. -/
theorem readsFollowTheirSources : Obligations.ReadsFollowTheirSources := by
  unfold Obligations.ReadsFollowTheirSources
  intro c m sp i
  refine ⟨?_, ?_, ?_, fun hI hW hQ => ⟨fun v hv => read_own c m hI hW hQ hv, fun hn => ?_⟩⟩
  · rintro rfl; exact read_point c m i
  · rintro rfl; exact read_snapWord c m
  · rintro rfl; exact read_reservedQ c m
  · rw [read_shared c m hI hW hQ hn]
    refine ⟨rfl, fun v hv => ?_, fun hp => ⟨fun v hv => ?_, fun hl => ?_⟩⟩
    · simp only [hv, Option.some_or, Option.getD_some]
    · simp only [hp, hv, Option.none_or, Option.getD_some]
    · simp only [hp, hl, Option.none_or, Option.getD_none]

end Sys2Proof.Machine
end

section
/-!
SUPPORT. What an instruction's loads read of the image, whatever the engine has counted before (R32, R73, R102), and how many entries its frame has then (R62).
-/
namespace Sys2Proof.Machine
open Sys2Proof

/-- An engine instruction answers with what it makes of the module. -/
theorem answers_runEng {c : Instr} {s : State} {f : Mach → Mach} {P : Mach → Prop} (h : exec c s = runEng f s) (hP : P (f s.m)) : Answers c s P := ⟨_, h, hP⟩

theorem addrD_eq (ga : Word) (off : BitVec 8) (n : Nat) : addrD ga off n = (ga.toNat + off.toNat * n) % 2 ^ 32 := by
  rw [addrD, BitVec.toNat_add, BitVec.toNat_ofNat, Nat.add_mod_mod]

theorem readBits_succ (c : Ctx) (sp i n : Nat) (m : Mach) : c.readBits sp i (n + 1) m =
    (((c.read sp i m).1 != 0) :: (c.readBits sp (i + 1) n (c.read sp i m).2).1, (c.readBits sp (i + 1) n (c.read sp i m).2).2) := rfl

/-! ### A module seen by a read -/

/-- For a read of the instruction `c`, `n` is `m`: they differ in the engine and its counters alone, and the engine has the same writes in flight. -/
structure SeesAs (c : Ctx) (m n : Mach) : Prop where
  only : OnlyEngine m n c.e
  flight : (n.eng c.e).flight = (m.eng c.e).flight

theorem segDep_unlisted {c : Ctx} (he : c.e < 16) (hk : c.k < 32) :
    (R.TSK_SEGDEP_DEP c.k).addr ∉ [(R.ENG_ISSUED c.e).addr, (R.ENG_EARLY c.e).addr, (R.IMG_SHD_MAX c.e).addr] := by
  simp only [R.TSK_SEGDEP_DEP, R.ENG_ISSUED, R.ENG_EARLY, R.IMG_SHD_MAX, List.mem_cons, List.not_mem_nil, or_false]
  omega

/-- The read-set is kept with the tasks, whatever the engines and registers are. -/
theorem mark_engRegs (m : Mach) (engs : SMap Eng) (regs : SMap Word) (k sp i : Nat) :
    ({ m with engs := engs, regs := regs } : Mach).mark k sp i = { m.mark k sp i with engs := engs, regs := regs } := by
  unfold Mach.mark
  split
  · rw [show ({ m with engs := engs, regs := regs } : Mach).task k = m.task k from rfl]
    cases (m.task k).run with
    | none => rfl
    | some sc => dsimp only; split <;> rfl
  · rfl

namespace SeesAs

variable {c : Ctx} {m n : Mach}

theorem own (h : SeesAs c m n) (he : c.e < 16) (hk : c.k < 32) (key : Nat) : c.own n key = c.own m key := by
  have ht : n.task c.k = m.task c.k := by rw [h.only.1]; rfl
  have hd : n.fld (R.TSK_SEGDEP_DEP c.k) = m.fld (R.TSK_SEGDEP_DEP c.k) := by simp only [Mach.fld, h.only.2.2 _ (segDep_unlisted he hk)]
  unfold Ctx.own
  rw [h.flight, ht, hd]

/-- Marking a block keeps the engines and the registers of both. -/
theorem mark (h : SeesAs c m n) (k sp i : Nat) : SeesAs c (m.mark k sp i) (n.mark k sp i) := by
  have hn := mark_engRegs m n.engs n.regs k sp i
  rw [← h.only.1] at hn
  have hm : ∀ x : Mach, ∀ e, (x.mark k sp i).eng e = x.eng e := fun x e => by simp only [Mach.eng, (tasksOnly_mark x k sp i).engs]
  have hr : ∀ x : Mach, ∀ a, (x.mark k sp i).rget a = x.rget a := fun x => Mach.rget_congr (tasksOnly_mark x k sp i).regs
  have he : (n.mark k sp i).engs = n.engs := (tasksOnly_mark n k sp i).engs
  have hg : (n.mark k sp i).regs = n.regs := (tasksOnly_mark n k sp i).regs
  refine ⟨⟨by rw [he, hg]; exact hn, fun j hj => ?_, fun a ha => ?_⟩, ?_⟩
  · rw [hm, hm, h.only.2.1 j hj]
  · rw [hr, hr, h.only.2.2 a ha]
  · rw [hm, hm, h.flight]

/-- A read gives the same value, and marks the same block, on both. -/
theorem read (h : SeesAs c m n) (he : c.e < 16) (hk : c.k < 32) (sp i : Nat) :
    (c.read sp i n).1 = (c.read sp i m).1 ∧ SeesAs c (c.read sp i m).2 (c.read sp i n).2 := by
  by_cases hI : sp = spI
  · subst hI; rw [read_point, read_point]; exact ⟨rfl, h⟩
  by_cases hW : sp = spW ∧ 258048 ≤ i
  · obtain ⟨rfl, hi⟩ := hW; rw [read_snapWord c n hi, read_snapWord c m hi]; exact ⟨rfl, h⟩
  by_cases hQ : sp = spQ ∧ 2112 ≤ i
  · obtain ⟨rfl, hi⟩ := hQ; rw [read_reservedQ c n hi, read_reservedQ c m hi]; exact ⟨rfl, h⟩
  cases ho : c.own m (ikey sp i) with
  | some v =>
    rw [read_own c m hI hW hQ ho, read_own c n hI hW hQ ((h.own he hk _).trans ho)]
    exact ⟨rfl, h⟩
  | none =>
    rw [read_shared c m hI hW hQ ho, read_shared c n hI hW hQ ((h.own he hk _).trans ho)]
    refine ⟨?_, h.mark _ _ _⟩
    dsimp only
    rw [h.only.1]
    rfl

theorem readBits (h : SeesAs c m n) (he : c.e < 16) (hk : c.k < 32) (sp i w : Nat) :
    (c.readBits sp i w n).1 = (c.readBits sp i w m).1 ∧ SeesAs c (c.readBits sp i w m).2 (c.readBits sp i w n).2 := by
  induction w generalizing i m n with
  | zero => exact ⟨rfl, h⟩
  | succ w ih =>
    obtain ⟨hv, hs⟩ := h.read he hk sp i
    obtain ⟨hvs, ht⟩ := ih hs (i + 1)
    rw [readBits_succ, readBits_succ]
    exact ⟨by rw [hv, hvs], ht⟩

/-- Counting an early access changes nothing a read sees. -/
theorem earlyImg (h : SeesAs c m n) (keys : List Nat) : SeesAs c m (c.earlyImg keys n) := by
  unfold Ctx.earlyImg
  split
  · refine ⟨⟨?_, fun i hi => (Mach.perf_eng _ _ _ _ _).trans (h.only.2.1 i hi), fun a ha => ?_⟩, by rw [Mach.perf_eng, h.flight]⟩
    · refine engRegs_trans h.only.1 ?_
      conv_lhs => rw [Mach.perf_same]
      rw [show (n.perf c.e (R.ENG_EARLY c.e) 1).engs = n.engs by rw [Mach.perf_same]]
    · simp only [List.mem_cons, List.not_mem_nil, or_false, not_or] at ha
      exact (Mach.perf_rget _ _ _ _ ha.2.1).trans (h.only.2.2 a (by simp [ha.1, ha.2.1, ha.2.2]))
  · exact h

end SeesAs

theorem earlyImg_eng (c : Ctx) (keys : List Nat) (m : Mach) (e : Nat) : (c.earlyImg keys m).eng e = m.eng e := by
  unfold Ctx.earlyImg
  split
  · exact Mach.perf_eng _ _ _ _ _
  · rfl

theorem earlyImg_tasks (c : Ctx) (keys : List Nat) (m : Mach) : (c.earlyImg keys m).tasks = m.tasks := by
  unfold Ctx.earlyImg
  split
  · rw [Mach.perf_same]
  · rfl

/-- The module an instruction's body works on is, for its reads, the one its slot begins with. -/
theorem Slot.seesAs {m : Mach} {e : Nat} {gd : Guard} {c : Ctx} (h : Slot m e gd c) (st : Nat) (gs ps keys : List Nat) :
    SeesAs c (atSlot m e) (c.earlyImg keys (issueBase m e gd c st gs ps)) := by
  have hce := h.ctxE
  refine SeesAs.earlyImg ⟨hce ▸ onlyEngine_base m e gd c st gs ps, ?_⟩ keys
  rw [hce, issueBase_eng, h.ctxEn]
  exact advance_flight _

/-! ### The entries of the frame after reads -/

/-- The segments that run are the same in `m` and `n`: reads mark blocks of their scans only. -/
def SameSegs (m n : Mach) : Prop := ∀ k, (n.task k).run.map (·.segs) = (m.task k).run.map (·.segs)

theorem SameSegs.refl (m : Mach) : SameSegs m m := fun _ => rfl
theorem SameSegs.trans {m n x : Mach} (h : SameSegs m n) (g : SameSegs n x) : SameSegs m x := fun k => (g k).trans (h k)
theorem SameSegs.of_tasks {m n : Mach} (h : n.tasks = m.tasks) : SameSegs m n := fun k => by simp only [Mach.task, h]

theorem sameSegs_mark (m : Mach) (k sp i : Nat) : SameSegs m (m.mark k sp i) := by
  intro j
  unfold Mach.mark
  split
  · split
    · rename_i sc hr
      dsimp only
      split
      · rfl
      · by_cases hj : j = k
        · subst hj; rw [Mach.task_setTask_same, hr]; rfl
        · rw [Mach.task_setTask_ne _ hj]
    · rfl
  · rfl

theorem sameSegs_read (c : Ctx) (sp i : Nat) (m : Mach) : SameSegs m (c.read sp i m).2 := by
  unfold Ctx.read
  split
  · exact SameSegs.refl m
  · split
    · exact SameSegs.refl m
    · split
      · exact SameSegs.refl m
      · dsimp only
        split
        · exact SameSegs.refl m
        · exact sameSegs_mark _ _ _ _

theorem sameSegs_readBits (c : Ctx) (sp i n : Nat) (m : Mach) : SameSegs m (c.readBits sp i n m).2 := by
  induction n generalizing i m with
  | zero => exact SameSegs.refl m
  | succ n ih => exact (sameSegs_read c sp i m).trans (ih _ _)

/-- The frame's count rests on the engine and the segments that run. -/
theorem entryCount_congr {m n : Mach} {e : Nat} (he : n.eng e = m.eng e) (hs : SameSegs m n) : n.entryCount e = m.entryCount e := by
  unfold Mach.entryCount
  rw [he]
  cases (m.eng e).act with
  | none => rfl
  | some x =>
    dsimp only
    have hr := hs x.1
    match hm : (m.task x.1).run, hn : (n.task x.1).run with
    | none, none => rfl
    | some a, some b =>
      rw [hm, hn, Option.map_some, Option.map_some, Option.some.injEq] at hr
      simp only [Scan.seg, hr]
    | none, some b => rw [hm, hn] at hr; exact absurd hr (Option.some_ne_none _)
    | some a, none => rw [hm, hn] at hr; exact absurd hr.symm (Option.some_ne_none _)

/-- An instruction whose body reads, and then puts writes in flight, on a module whose running segments are those of its slot. -/
theorem Slot.putsSeen {m b n : Mach} {e : Nat} {gd : Guard} {c : Ctx} (h : Slot m e gd c) {st : Nat} {ws : List Wr}
    (hn : n.eng e = issued c st) (hs : SameSegs (atSlot m e) n) (ho : OnlyEngine b n e) (hr : Room m c st ws) :
    Puts b (((c.putAll st ws n).checkShade e c.k).checkEnd e) c st ws := by
  have hce := h.ctxE
  subst hce
  obtain ⟨h1, h2, h3⟩ := putAll_eng c st ws n
  have h4 : (c.putAll st ws n).eng c.e = { issued c st with flight := inFlight c st ws } := by
    rw [h1, hn]; simp only [issued, inFlight, advance_flight]
  have hroom : (c.putAll st ws n).entryCount c.e ≤ 2048 := by
    rw [entryCount_congr (m := (atSlot m c.e).setEng c.e { issued c st with flight := inFlight c st ws }) (h4.trans (Mach.eng_setEng_same _ _ _).symm)
      ((hs.trans (SameSegs.of_tasks h2)))]
    exact entries_room rfl (Mach.eng_setEng_same _ _ _) hr
  obtain ⟨he, hob⟩ := h.finish (b := b) (n := c.putAll st ws n) (by rw [h4]; exact h.inCode) hroom (h3 b ho)
  exact ⟨he.trans h4, hob⟩

end Sys2Proof.Machine
end

section
/-!
PROOF. Image loads and stores (O8): a load puts what its source gives in flight, a store one shade entry for each element it writes.
-/
namespace Sys2Proof.Machine
open Sys2Proof

/-! ### Lanes -/

theorem lanesOf_append (bs : List Bool) (b : Bool) : lanesOf (bs ++ [b]) = if b then lanesOf bs ||| (1#32 <<< bs.length) else lanesOf bs := by
  simp [lanesOf, List.zipIdx_append]

theorem getD_append_singleton (bs : List Bool) (b : Bool) (k : Nat) : (bs ++ [b]).getD k false = (bs.getD k false || (decide (k = bs.length) && b)) := by
  rcases Nat.lt_trichotomy k bs.length with h | h | h
  · simp [List.getD, List.getElem?_append, h, Nat.ne_of_lt h]
  · simp [List.getD, h]
  · have hb : k - bs.length ≠ 0 := by omega
    simp [List.getD, List.getElem?_append, Nat.lt_asymm h, Nat.ne_of_gt h, hb]

/-- Lane k of a mask is bit k of the list it is made of. -/
theorem lanesOf_getLsbD (bs : List Bool) {k : Nat} (hk : k < 32) : (lanesOf bs).getLsbD k = bs.getD k false := by
  induction bs using List.reverseRecOn with
  | nil => simp [lanesOf]
  | append_singleton bs b ih =>
    have hone : (1#32 <<< bs.length).getLsbD k = decide (k = bs.length) := by
      rw [BitVec.getLsbD_shiftLeft, BitVec.getLsbD_one, Bool.eq_iff_iff]
      simp [hk]
      omega
    rw [lanesOf_append, getD_append_singleton, ← ih]
    cases b
    · simp
    · rw [if_pos rfl, BitVec.getLsbD_or, hone, Bool.and_true]

/-! ### Loads -/

theorem gWrite_apply (d : Nat) (v : Word) : ∀ w ∈ gWrite d v, ∀ s : Seg, s.apply w = s := by
  intro w hw s
  unfold gWrite at hw
  split at hw
  · exact absurd hw List.not_mem_nil
  · obtain rfl := List.mem_singleton.mp hw; rfl

theorem setG_eq_putAll (c : Ctx) (st : Nat) {d : Nat} (hd : d ≤ 63) (v : Word) (m : Mach) : c.setG st d v m = c.putAll st (gWrite d v) m := by
  unfold Ctx.setG gWrite
  by_cases h : d = 0
  · rw [if_pos (.inl h), if_pos h]; rfl
  · rw [if_neg (by omega), if_neg h]; rfl

variable {m : Mach} {e : Nat} {gd : Guard} {c : Ctx}

theorem Slot.engLt (h : Slot m e gd c) (he : e < 16) : c.e < 16 := h.ctxE ▸ he

/-- R138: a load within its space puts the value of its source in flight for g(r). -/
theorem Slot.imgLoad (h : Slot m e gd c) (he : e < 16) (f : FmtD) (sp : Nat) {i : Nat} (hi : ((c.g f.a).toNat + f.off.toNat) % 2 ^ 32 = i)
    (hle : i ≤ spaceTop sp) :
    Puts (c.read sp i (atSlot m e)).2 (m.imgLoad e gd f sp) c 8 (gWrite f.r ((c.read sp i (atSlot m e)).1.setWidth 32)) := by
  have ha : addrD (c.g f.a) f.off 1 = i := by rw [addrD_eq, Nat.mul_one, hi]
  obtain ⟨hv, hs⟩ := (h.seesAs stWB1 [f.a.val] [] [ikey sp i]).read (h.engLt he) h.task sp i
  unfold Mach.imgLoad
  rw [h.issue]
  dsimp only
  rw [ha, if_neg (Nat.not_lt.mpr hle), setG_eq_putAll c _ (by omega), hv]
  have ho := hs.only
  rw [h.ctxE] at ho
  refine h.putsSeen ?_ ?_ ho (h.roomFor _ (gWrite_apply _ _))
  · rw [Mach.eng, (tasksOnly_read _ _ _ _).engs]
    exact (earlyImg_eng _ _ _ _).trans (issueBase_eng _ _ _ _ _ _ _)
  · refine (SameSegs.of_tasks ?_).trans (sameSegs_read _ _ _ _)
    rw [earlyImg_tasks, issueBase_same]

/-- R138: a load of 32 bits within its space puts them in flight for the lanes of g(r). -/
theorem Slot.imgLoadLanes (h : Slot m e gd c) (he : e < 16) (f : FmtD) (sp : Nat) {i : Nat} (hi : ((c.g f.a).toNat + f.off.toNat) % 2 ^ 32 = i)
    (hle : i + 31 ≤ spaceTop sp) :
    Puts (c.readBits sp i 32 (atSlot m e)).2 (m.imgLoadLanes e gd f sp) c 8 (gWrite f.r (lanesOf (c.readBits sp i 32 (atSlot m e)).1)) := by
  have ha : addrD (c.g f.a) f.off 1 = i := by rw [addrD_eq, Nat.mul_one, hi]
  obtain ⟨hv, hs⟩ := (h.seesAs stWB1 [f.a.val] [] (ikeys sp i 32)).readBits (h.engLt he) h.task sp i 32
  unfold Mach.imgLoadLanes
  rw [h.issue]
  dsimp only
  rw [ha, if_neg (Nat.not_lt.mpr hle), setG_eq_putAll c _ (by omega), hv]
  have ho := hs.only
  rw [h.ctxE] at ho
  refine h.putsSeen ?_ ?_ ho (h.roomFor _ (gWrite_apply _ _))
  · rw [Mach.eng, (tasksOnly_readBits _ _ _ _ _).engs]
    exact (earlyImg_eng _ _ _ _).trans (issueBase_eng _ _ _ _ _ _ _)
  · refine (SameSegs.of_tasks ?_).trans (sameSegs_readBits _ _ _ _ _)
    rw [earlyImg_tasks, issueBase_same]

theorem putAll_append (c : Ctx) (st : Nat) (ws us : List Wr) (m : Mach) : c.putAll st (ws ++ us) m = c.putAll st us (c.putAll st ws m) := List.foldl_append

/-- R120: the three lane registers of a load with quality. -/
theorem setQuality_eq_putAll (c : Ctx) (st : Nat) {r : Nat} (hr : r ≤ 61) (pts : List (Bool × Nat)) (m : Mach) :
    c.setQuality st r pts m = c.putAll st (gWrite r (lanesOf (pts.map (·.1))) ++ [.g (r + 1) (lanesOf (pts.map (fun p => p.2 % 2 == 1))),
      .g (r + 2) (lanesOf (pts.map (fun p => p.2 / 2 % 2 == 1)))]) m := by
  unfold Ctx.setQuality
  dsimp only
  rw [setG_eq_putAll c st (by omega), setG_eq_putAll c st (by omega), setG_eq_putAll c st (by omega), putAll_append]
  rfl

/-- Lane k of the points a load names. -/
theorem pointLanes_getD (f : Nat → Bool) {k : Nat} (hk : k < 32) : (lanesOf ((List.range 32).map f)).getLsbD k = f k := by
  rw [lanesOf_getLsbD _ hk]
  simp [List.getD, hk]

/-- R120, R138: LDQ within I puts 32 values and their quality in flight for three registers. -/
theorem Slot.loadQuality (h : Slot m e gd c) (f : FmtD) {i : Nat} (hi : ((c.g f.a).toNat + f.off.toNat) % 2 ^ 32 = i) (hle : i + 31 ≤ 8191)
    (hr : f.r.val ≤ 61) :
    ∃ v q0 q1 : Word, Puts (atSlot m e) (m.loadQuality e gd f) c 8 (gWrite f.r v ++ [.g (f.r.val + 1) q0, .g (f.r.val + 2) q1]) ∧
      ∀ k, k < 32 → v.getLsbD k = (c.point (i + k)).1 ∧ q0.getLsbD k = (c.point (i + k)).2.testBit 0 ∧ q1.getLsbD k = (c.point (i + k)).2.testBit 1 := by
  have ha : addrD (c.g f.a) f.off 1 = i := by rw [addrD_eq, Nat.mul_one, hi]
  have hq (k j : Nat) : (c.point (i + k)).2.testBit j = ((c.point (i + k)).2 / 2 ^ j % 2 == 1) := by rw [Nat.testBit_eq_decide_div_mod_eq, beq_eq_decide]
  refine ⟨lanesOf ((List.range 32).map fun k => (c.point (i + k)).1), lanesOf ((List.range 32).map fun k => (c.point (i + k)).2 % 2 == 1),
    lanesOf ((List.range 32).map fun k => (c.point (i + k)).2 / 2 % 2 == 1), ?_, fun k hk => ⟨pointLanes_getD _ hk, ?_, ?_⟩⟩
  rotate_left
  · rw [pointLanes_getD _ hk, hq, pow_zero, Nat.div_one]
  · rw [pointLanes_getD _ hk, hq, pow_one]
  unfold Mach.loadQuality
  rw [if_neg (by omega)]
  refine h.puts _ _ _ _ (h.roomFor _ fun w hw s => ?_) _ ?_
  · rcases List.mem_append.mp hw with hw | hw
    · exact gWrite_apply _ _ w hw s
    · simp only [List.mem_cons, List.not_mem_nil, or_false] at hw
      rcases hw with rfl | rfl <;> rfl
  · dsimp only
    rw [ha, if_neg (show ¬ spaceTop spI < i + 31 from Nat.not_lt.mpr hle), setQuality_eq_putAll c _ hr]
    simp only [List.map_map, Function.comp_def]

/-! ### Stores -/

/-- The shade entry of a store of element i: none for a reserved address (R34, R140). -/
def Ctx.shades (sp i : Nat) (v : CellV) : List Wr :=
  if sp = spI ∨ (sp = spW ∧ 258048 ≤ i) ∨ (sp = spQ ∧ 2112 ≤ i) then [] else [.shade (ikey sp i) v]

theorem write_eq_putAll (c : Ctx) (st sp i : Nat) (v : CellV) (m : Mach) : c.write st sp i v m = c.putAll st (Ctx.shades sp i v) m := by
  unfold Ctx.write Ctx.shades
  split <;> rfl

theorem foldM_write_eq_putAll (c : Ctx) (st sp i : Nat) (v : Nat → CellV) (ks : List Nat) (m : Mach) :
    foldM ks (fun k m => c.write st sp (i + k) (v k) m) m = c.putAll st (ks.flatMap (fun k => Ctx.shades sp (i + k) (v k))) m := by
  induction ks generalizing m with
  | nil => rfl
  | cons k ks ih => rw [List.flatMap_cons, putAll_append, ← write_eq_putAll, ← ih]; rfl

theorem shades_M (i : Nat) (v : CellV) : Ctx.shades spM i v = [.shade (ikey spM i) v] := by simp [Ctx.shades, spI, spW, spQ, spM]

theorem shades_Q (i : Nat) (v : CellV) : Ctx.shades spQ i v = if i < 2112 then [.shade (ikey spQ i) v] else [] := by
  by_cases h : i < 2112 <;> simp [Ctx.shades, spI, spW, spQ, h, Nat.not_le.mpr, Nat.not_lt.mp]

theorem shades_W (i : Nat) (v : CellV) : Ctx.shades spW i v = if i < 258048 then [.shade (ikey spW i) v] else [] := by
  by_cases h : i < 258048 <;> simp [Ctx.shades, spI, spW, spQ, h, Nat.not_le.mpr, Nat.not_lt.mp]

theorem flatMap_ite_singleton {α β : Type} (p : α → Prop) [DecidablePred p] (f : α → β) (xs : List α) :
    xs.flatMap (fun x => if p x then [f x] else []) = (xs.filter (fun x => decide (p x))).map f := by
  induction xs with
  | nil => rfl
  | cons x xs ih => by_cases h : p x <;> simp [List.flatMap_cons, h, ih]

/-- R138: a store within its space puts its entry in flight. -/
theorem Slot.imgStore (h : Slot m e gd c) (f : FmtD) (sp : Nat) {i : Nat} (hi : ((c.g f.a).toNat + f.off.toNat) % 2 ^ 32 = i) (hle : i ≤ spaceTop sp)
    (hr : Room m c 6 (Ctx.shades sp i (if sp = spW then (c.g f.r).setWidth 128 else bitV ((c.g f.r).getLsbD 0)))) :
    Puts (atSlot m e) (m.imgStore e gd f sp) c 6 (Ctx.shades sp i (if sp = spW then (c.g f.r).setWidth 128 else bitV ((c.g f.r).getLsbD 0))) := by
  have ha : addrD (c.g f.a) f.off 1 = i := by rw [addrD_eq, Nat.mul_one, hi]
  refine h.puts _ _ _ _ hr _ ?_
  dsimp only
  rw [ha, if_neg (Nat.not_lt.mpr hle), write_eq_putAll]
  rfl

/-- The lanes a masked store writes (R138, R141). -/
def Ctx.masked (c : Ctx) (r : Nat) : List Nat := (List.range 32).filter (fun k => (c.g (r + 1)).getLsbD k)

/-- R138, R141: a masked store within its space puts an entry in flight for each lane of its mask. -/
theorem Slot.imgStoreLanes (h : Slot m e gd c) (f : FmtD) (sp : Nat) {i : Nat} (hi : ((c.g f.a).toNat + f.off.toNat) % 2 ^ 32 = i)
    (hle : i + 31 ≤ spaceTop sp) (hf : f.r.val ≠ 63)
    (hr : Room m c 6 ((c.masked f.r).flatMap (fun k => Ctx.shades sp (i + k) (bitV ((c.g f.r).getLsbD k))))) :
    Puts (atSlot m e) (m.imgStoreLanes e gd f sp) c 6 ((c.masked f.r).flatMap (fun k => Ctx.shades sp (i + k) (bitV ((c.g f.r).getLsbD k)))) := by
  have ha : addrD (c.g f.a) f.off 1 = i := by rw [addrD_eq, Nat.mul_one, hi]
  unfold Mach.imgStoreLanes
  rw [if_neg hf]
  refine h.puts _ _ _ _ hr _ ?_
  dsimp only
  rw [ha, if_neg (Nat.not_lt.mpr hle), foldM_write_eq_putAll c stMA sp i (fun k => bitV ((c.g f.r).getLsbD k))]
  rfl

/-- Settles O8, each load and store by what its kind puts in flight. -/
theorem imageLoadsAndStores : Obligations.ImageLoadsAndStores := by
  unfold Obligations.ImageLoadsAndStores
  intro s e gd c f h
  dsimp only
  refine ⟨fun hi => ?_, fun hi => ?_, fun hi => ?_, fun hi => ?_, fun hi => ?_, fun hi => ?_, fun hi => ?_, fun hi hr => ?_, fun hi hr => ?_, fun hi hr => ?_,
    fun hi hr => ?_, fun hi hf hr => ?_, fun hi hf hr => ?_⟩
  · exact answers_runEng (f := fun m => m.imgLoad e gd f spI) rfl (h.imgLoad e.isLt f spI rfl hi)
  · exact answers_runEng (f := fun m => m.imgLoad e gd f spQ) rfl (h.imgLoad e.isLt f spQ rfl hi)
  · exact answers_runEng (f := fun m => m.imgLoad e gd f spM) rfl (h.imgLoad e.isLt f spM rfl hi)
  · exact answers_runEng (f := fun m => m.imgLoad e gd f spW) rfl (h.imgLoad e.isLt f spW rfl hi)
  · exact answers_runEng (f := fun m => m.imgLoadLanes e gd f spI) rfl ⟨_, h.imgLoadLanes e.isLt f spI rfl hi, fun k hk => lanesOf_getLsbD _ hk⟩
  · exact answers_runEng (f := fun m => m.imgLoadLanes e gd f spQ) rfl ⟨_, h.imgLoadLanes e.isLt f spQ rfl hi, fun k hk => lanesOf_getLsbD _ hk⟩
  · exact answers_runEng (f := fun m => m.imgLoadLanes e gd f spM) rfl ⟨_, h.imgLoadLanes e.isLt f spM rfl hi, fun k hk => lanesOf_getLsbD _ hk⟩
  · exact answers_runEng (f := fun m => m.loadQuality e gd f) rfl (h.loadQuality f rfl hi hr)
  · rw [← shades_Q] at hr ⊢
    exact answers_runEng (f := fun m => m.imgStore e gd f spQ) rfl (h.imgStore f spQ rfl hi hr)
  · rw [← shades_M] at hr ⊢
    exact answers_runEng (f := fun m => m.imgStore e gd f spM) rfl (h.imgStore f spM rfl hi hr)
  · rw [← shades_W] at hr ⊢
    exact answers_runEng (f := fun m => m.imgStore e gd f spW) rfl (h.imgStore f spW rfl hi hr)
  · rw [← flatMap_ite_singleton] at hr ⊢
    simp only [← shades_Q] at hr ⊢
    exact answers_runEng (f := fun m => m.imgStoreLanes e gd f spQ) rfl (h.imgStoreLanes f spQ rfl hi hf hr)
  · rw [List.map_eq_flatMap] at hr ⊢
    simp only [← shades_M] at hr ⊢
    exact answers_runEng (f := fun m => m.imgStoreLanes e gd f spM) rfl (h.imgStoreLanes f spM rfl hi hf hr)

end Sys2Proof.Machine
end

section
/-!
SUPPORT. What the journal, squashes, triggers, changes of points and faults leave of the image, the commit unit and the tasks: entries of the journal touch no record but
the event unit's and the link's; no event starts a scan, moves the application in progress or writes an element.
-/
namespace Sys2Proof.Machine
open Sys2Proof

/-! ### The relations -/

/-- What a task keeps beside its scans through every event: whether it is in application, and its boundary record (R48). -/
def Task.marks (x : Task) : Bool × Bool × Nat × Bool := (x.inCommit, x.anyTaken, x.lastTaken, x.served)

/-- `n` has the image, the application in progress and the tasks' marks of `m`, and no task runs a scan in `n` that runs none in `m`. -/
structure Kept (m n : Mach) : Prop where
  img : n.img = m.img
  app : n.cu.app = m.cu.app
  next : n.cu.nextStart = m.cu.nextStart
  marks : ∀ k, (n.task k).marks = (m.task k).marks
  unrun : ∀ k, (m.task k).run = none → (n.task k).run = none

/-- `n` is `Kept` from `m`, and holds the same changes back and the same faults. -/
structure Calm (m n : Mach) : Prop extends Kept m n where
  held : n.ev.held = m.ev.held
  faults : n.faults = m.faults

/-- `n` differs from `m` in what is sent and logged only: frames sent, registers, the link and the event unit but the changes it holds back. -/
structure Logs (m n : Mach) : Prop where
  same : n = { m with out := n.out, regs := n.regs, pair := n.pair, ev := n.ev }
  held : n.ev.held = m.ev.held

namespace Kept

variable {m n x : Mach}

theorem refl (m : Mach) : Kept m m := ⟨rfl, rfl, rfl, fun _ => rfl, fun _ h => h⟩

theorem trans (h : Kept m n) (g : Kept n x) : Kept m x :=
  ⟨g.img.trans h.img, g.app.trans h.app, g.next.trans h.next, fun k => (g.marks k).trans (h.marks k), fun k hk => g.unrun k (h.unrun k hk)⟩

/-- A change of other records. -/
theorem recs (h : Kept m n) (hx : x.img = n.img ∧ x.cu = n.cu ∧ x.tasks = n.tasks) : Kept m x := by
  obtain ⟨hi, hc, ht⟩ := hx
  have hk : ∀ k, x.task k = n.task k := fun k => by simp only [Mach.task, ht]
  exact h.trans ⟨hi, by rw [hc], by rw [hc], fun k => by rw [hk], fun k hr => by rw [hk]; exact hr⟩

theorem foldM {α : Type} {f : α → Mach → Mach} {xs : List α} (h : Kept m n) (hf : ∀ y ∈ xs, ∀ z, Kept z (f y z)) : Kept m (foldM xs f n) :=
  foldM_inv (Kept m) f xs (fun y hy z hz => hz.trans (hf y hy z)) n h

theorem ite {p : Prop} [Decidable p] {y : Mach} (hx : Kept m x) (hy : Kept m y) : Kept m (if p then x else y) := by
  split
  · exact hx
  · exact hy

/-- A task's record replaced by one with the same marks that runs no scan anew. -/
theorem setTask (h : Kept m n) {k : Nat} {y : Task} (hm : (y.inCommit, y.anyTaken, y.lastTaken, y.served) = (n.task k).marks) (hr : (n.task k).run = none → y.run = none) : Kept m (n.setTask k y) := by
  refine h.trans ⟨rfl, rfl, rfl, fun j => ?_, fun j hj => ?_⟩
  · by_cases hjk : j = k
    · rw [hjk, Mach.task_setTask_same]; exact hm
    · rw [Mach.task_setTask_ne _ hjk]
  · by_cases hjk : j = k
    · rw [hjk] at hj ⊢; rw [Mach.task_setTask_same]; exact hr hj
    · rw [Mach.task_setTask_ne _ hjk]; exact hj

end Kept

namespace Calm

variable {m n x : Mach}

theorem refl (m : Mach) : Calm m m := ⟨Kept.refl m, rfl, rfl⟩

theorem trans (h : Calm m n) (g : Calm n x) : Calm m x := ⟨h.toKept.trans g.toKept, g.held.trans h.held, g.faults.trans h.faults⟩

/-- A change of other records. -/
theorem recs (h : Calm m n) (hx : x.img = n.img ∧ x.cu = n.cu ∧ x.tasks = n.tasks ∧ x.ev.held = n.ev.held ∧ x.faults = n.faults) : Calm m x := by
  obtain ⟨hi, hc, ht, he, hf⟩ := hx
  exact ⟨h.toKept.recs ⟨hi, hc, ht⟩, he.trans h.held, hf.trans h.faults⟩

theorem setFld (h : Calm m n) (f : Fld) (v : Nat) : Calm m (n.setFld f v) := h.recs ⟨rfl, rfl, rfl, rfl, rfl⟩
theorem addFld (h : Calm m n) (f : Fld) (v : Nat) : Calm m (n.addFld f v) := h.setFld f _
theorem setFld64 (h : Calm m n) (f : Fld) (v : Nat) : Calm m (n.setFld64 f v) := h.recs ⟨rfl, rfl, rfl, rfl, rfl⟩

theorem setTask (h : Calm m n) {k : Nat} {y : Task} (hm : (y.inCommit, y.anyTaken, y.lastTaken, y.served) = (n.task k).marks) (hr : (n.task k).run = none → y.run = none) : Calm m (n.setTask k y) :=
  ⟨h.toKept.setTask hm hr, h.held, h.faults⟩

theorem setSnap (h : Calm m n) (k : Nat) (y : Option Scan) : Calm m (n.setTask k { n.task k with snap := y }) := h.setTask rfl id
theorem setHeld (h : Calm m n) (k : Nat) (y : Option Scan) : Calm m (n.setTask k { n.task k with held := y }) := h.setTask rfl id
theorem setLastSnap (h : Calm m n) (k : Nat) (y : Option Nat) : Calm m (n.setTask k { n.task k with lastSnap := y }) := h.setTask rfl id
theorem endRun (h : Calm m n) (k : Nat) : Calm m (n.setTask k { n.task k with run := none }) := h.setTask rfl (fun _ => rfl)

theorem foldM {α : Type} {f : α → Mach → Mach} {xs : List α} (h : Calm m n) (hf : ∀ y ∈ xs, ∀ z, Calm z (f y z)) : Calm m (foldM xs f n) :=
  foldM_inv (Calm m) f xs (fun y hy z hz => hz.trans (hf y hy z)) n h

theorem ite {p : Prop} [Decidable p] {y : Mach} (hx : Calm m x) (hy : Calm m y) : Calm m (if p then x else y) := by
  split
  · exact hx
  · exact hy

theorem onlyIf {b : Bool} {f : Mach → Mach} (h : Calm m n) (hf : Calm n (f n)) : Calm m (onlyIf b f n) := by
  cases b
  · exact h
  · exact h.trans hf

end Calm

namespace Logs

variable {m n x : Mach}

theorem refl (m : Mach) : Logs m m := ⟨rfl, rfl⟩

theorem trans (h : Logs m n) (g : Logs n x) : Logs m x := by
  refine ⟨?_, g.held.trans h.held⟩
  have hx := g.same
  rw [h.same] at hx
  exact hx

theorem setFld (h : Logs m n) (f : Fld) (v : Nat) : Logs m (n.setFld f v) := h.trans ⟨rfl, rfl⟩

theorem foldM {α : Type} {f : α → Mach → Mach} {xs : List α} (h : Logs m n) (hf : ∀ y ∈ xs, ∀ z, Logs z (f y z)) : Logs m (foldM xs f n) :=
  foldM_inv (Logs m) f xs (fun y hy z hz => hz.trans (hf y hy z)) n h

theorem calm (h : Logs m n) : Calm m n :=
  (Calm.refl m).recs ⟨by rw [h.same], by rw [h.same], by rw [h.same], h.held, by rw [h.same]⟩

theorem task (h : Logs m n) (k : Nat) : n.task k = m.task k := by rw [h.same]; rfl
theorem tasks (h : Logs m n) : n.tasks = m.tasks := by rw [h.same]
theorem engs (h : Logs m n) : n.engs = m.engs := by rw [h.same]

end Logs

/-! ### The link's sending side and the journal -/

variable (m : Mach)

theorem logs_linkSend (ty : Nat) (p : List Byte) : Logs m (m.linkSend ty p) := by
  unfold Mach.linkSend
  split
  · exact ⟨rfl, rfl⟩
  · exact Logs.refl m

theorem logs_flushStream : Logs m m.flushStream := by
  unfold Mach.flushStream
  exact ((show Logs m { m with pair := { m.pair with stream := [] } } from ⟨rfl, rfl⟩).foldM (fun _ _ n => logs_linkSend n _ _)).setFld _ _

theorem logs_streamPut (r : List Byte) : Logs m (m.streamPut r) := by
  unfold Mach.streamPut
  split
  · exact ⟨rfl, rfl⟩
  · exact Logs.refl m

theorem logs_fifoPut (j : JEntry) : Logs m (m.fifoPut j) := by
  unfold Mach.fifoPut
  split
  · refine Logs.setFld (Logs.setFld ?_ _ _) _ _
    exact ⟨rfl, rfl⟩
  · refine Logs.setFld ?_ _ _
    exact ⟨rfl, rfl⟩

theorem logs_journalEntry (j : JEntry) : Logs m (m.journalEntry j) := (logs_streamPut m _).trans (logs_fifoPut _ _)

theorem logs_journal (t p k f : Nat) : Logs m (m.journal t p k f) := by
  unfold Mach.journal
  split
  · exact Logs.refl m
  · exact ((Logs.refl m).setFld R.EVU_SEQ _).trans (logs_journalEntry _ _)

theorem logs_sysEvent (c k : Nat) (b : Bool) : Logs m (m.sysEvent c k b) := by
  unfold Mach.sysEvent
  split
  · split
    · exact logs_linkSend _ _ _
    · exact Logs.refl m
  · exact logs_journal _ _ _ _ _

theorem logs_taskEvent (k e t : Nat) : Logs m (m.taskEvent k e t) := logs_journal _ _ _ _ _

/-! ### Squashes, light and triggers -/

theorem calm_putSnap (k : Nat) (sn : Snap) (a : Bool) (o : Nat) : Calm m (m.putSnap k sn a o) := by
  unfold Mach.putSnap
  dsimp only
  exact ((Calm.refl m).setSnap k _).trans ⟨⟨rfl, rfl, rfl, fun _ => rfl, fun _ => id⟩, rfl, rfl⟩

theorem calm_stopEngine (e : Nat) : Calm m (m.stopEngine e) := by
  unfold Mach.stopEngine
  extract_lets en n m1
  have h : Calm m m1 := (Calm.refl m).onlyIf ((Calm.refl m).addFld _ _)
  exact h.recs ⟨rfl, rfl, rfl, rfl, rfl⟩

theorem calm_stopScan (sc : Scan) : Calm m (m.stopScan sc) := (Calm.refl m).foldM (fun _ _ n => calm_stopEngine n _)

theorem calm_takeBudget (k : Nat) : Calm m (m.takeBudget k) := by
  unfold Mach.takeBudget
  extract_lets left m1
  have h1 : Calm m m1 := ((Calm.refl m).addFld _ _).setFld _ _
  clear_value m1
  refine Calm.ite ?_ h1
  have h2 := logs_taskEvent m1 k 0x47 m1.now
  exact (h1.trans h2.calm).setTask (by rw [h2.task]; rfl) (by rw [h2.task]; exact id)

theorem calm_countSquash (k c : Nat) : Calm m (m.countSquash k c) := by
  unfold Mach.countSquash
  exact (((Calm.refl m).addFld _ _).addFld _ _).onlyIf (calm_takeBudget _ k)

theorem calm_rerun (k c : Nat) (sc : Scan) : Calm m (m.rerun k c sc) := by
  unfold Mach.rerun
  have hf (y : Mach) (hy : Calm m y) : Calm m ((y.setTask k { y.task k with snap := none }).putSnap k sc.snap false 0) :=
    (hy.setSnap k none).trans (calm_putSnap _ _ _ _ _)
  split
  · exact Calm.refl m
  · split
    · refine hf _ ?_
      split
      · exact (Calm.refl m).recs ⟨rfl, rfl, rfl, rfl, rfl⟩
      · exact Calm.refl m
    · split
      · exact calm_putSnap _ _ _ _ _
      · exact calm_putSnap _ _ _ _ _

theorem calm_squashRun (k c : Nat) : Calm m (m.squashRun k c) := by
  unfold Mach.squashRun
  split
  · exact Calm.refl m
  · exact (((calm_stopScan m _).endRun k).trans (calm_countSquash _ k c)).trans (calm_rerun _ k c _)

theorem calm_squashHeld (k c : Nat) : Calm m (m.squashHeld k c) := by
  unfold Mach.squashHeld
  dsimp only
  split
  · exact Calm.refl m
  · refine Calm.ite (Calm.refl m) ?_
    exact (((calm_squashRun m k _).setHeld k none).trans (calm_countSquash _ k c)).trans (calm_rerun _ k c _)

theorem calm_squashSnap (k c : Nat) : Calm m (m.squashSnap k c) := by
  unfold Mach.squashSnap
  exact Calm.ite (((Calm.refl m).setSnap k none).trans (calm_countSquash _ k c)) (Calm.refl m)

theorem calm_light (e : Nat) : Calm m (m.light e) := by
  unfold Mach.light
  extract_lets en q
  split
  · refine Calm.onlyIf ?_ ((Calm.refl _).addFld _ _)
    exact (Calm.refl m).recs ⟨rfl, rfl, rfl, rfl, rfl⟩
  · exact (Calm.refl m).recs ⟨rfl, rfl, rfl, rfl, rfl⟩
  · exact Calm.refl m

theorem calm_lightTask (k : Nat) : Calm m (m.lightTask k) := (Calm.refl m).foldM (fun _ _ n => calm_light n _)

theorem calm_fixSnap (k t g i : Nat) : Calm m (m.fixSnap k t g i) := by
  unfold Mach.fixSnap
  extract_lets sn m1 x m2 p m3 m4 m5 q m6
  have h1 : Calm m m1 := calm_putSnap m _ _ _ _
  have h2 : Calm m m2 := h1.setLastSnap k _
  clear_value m2
  have h3 : Calm m m3 := h2.recs ⟨rfl, rfl, rfl, rfl, rfl⟩
  clear_value m3
  have h4 : Calm m m4 := h3.setFld64 _ _
  clear_value m4
  have h5 : Calm m m5 := h4.trans (logs_flushStream _).calm
  have h6 : Calm m m6 := h5.recs ⟨rfl, rfl, rfl, rfl, rfl⟩
  exact Calm.ite (h6.trans (logs_linkSend _ _ _).calm) h4

theorem calm_trigger (k t g i : Nat) : Calm m (m.trigger k t g i) := by
  unfold Mach.trigger
  have h := (calm_fixSnap m k t g i).trans (calm_lightTask _ k)
  refine Calm.ite ?_ (Calm.refl m)
  dsimp only
  split
  · exact Calm.ite h (h.trans (calm_squashRun _ k _))
  · exact h

/-! ### Changes of points -/

theorem calm_preserve (w : Bool) (i : Nat) : Calm m (m.preserve w i) := by
  unfold Mach.preserve
  exact Calm.ite ((Calm.refl m).recs ⟨rfl, rfl, rfl, rfl, rfl⟩) (Calm.refl m)

theorem calm_setPt (i : Nat) (x : Pt) : Calm m (m.setPt i x) := (Calm.refl m).recs ⟨rfl, rfl, rfl, rfl, rfl⟩

theorem calm_writePoint (p : PtChange) : Calm m (m.writePoint p) := by
  unfold Mach.writePoint
  extract_lets o fl m1 m2 m3
  have h2 : Calm m m2 := (Calm.ite (calm_preserve m _ _) (Calm.refl m)).trans (calm_setPt _ _ _)
  have h3 : Calm m m3 := Calm.ite (h2.trans (logs_journal _ _ _ _ _).calm) h2
  exact Calm.ite (Calm.ite (h2.trans (logs_journal _ _ _ _ _).calm)
    (Calm.ite (Calm.ite (h3.trans (logs_journal _ _ _ _ _).calm) h3) (h2.trans (logs_journal _ _ _ _ _).calm))) (Calm.refl m)

theorem calm_wake (ps : List PtChange) (t : Nat) : Calm m (m.wake ps t) := by
  unfold Mach.wake
  refine (Calm.refl m).foldM (fun k _ n => ?_)
  split
  · exact Calm.refl n
  · exact ((Calm.refl n).addFld _ _).trans (calm_trigger _ _ _ _ _)

theorem writeWord_held (t : Nat) (w : Nat × Word) : (m.writeWord t w).ev.held = m.ev.held := by
  unfold Mach.writeWord
  split
  · rfl
  · exact (logs_streamPut _ _).held.trans (calm_preserve m true w.1).held

/-- A change written holds back what was held back. -/
theorem writeChange_held (c : Change) : (m.writeChange c).ev.held = m.ev.held := by
  unfold Mach.writeChange
  extract_lets ch src m1 m2 m3
  have h2 : m2.ev.held = m.ev.held := foldM_keeps (·.ev.held) _ (fun w n => writeWord_held n _ w) _ m1
  have h3 : Calm m2 m3 := (Calm.refl m2).foldM (fun p _ n => calm_writePoint n p)
  exact ((h3.trans (calm_wake m3 _ _)).held).trans h2

/-- A change of points alone is calm. -/
theorem calm_writeChange {c : Change} (hw : c.words = []) : Calm m (m.writeChange c) := by
  unfold Mach.writeChange
  extract_lets ch src m1 m2 m3
  have h2 : Calm m m2 := by
    simp only [m2, hw]
    exact (Calm.refl m).recs ⟨rfl, rfl, rfl, rfl, rfl⟩
  have h3 : Calm m2 m3 := (Calm.refl m2).foldM (fun p _ n => calm_writePoint n p)
  exact (h2.trans h3).trans (calm_wake m3 _ _)

theorem calm_faultSum : Calm m m.faultSum :=
  (((((Calm.refl m).setFld _ _).setFld _ _).setFld _ _).setFld _ _ : Calm m m.faultSum)

/-! ### Changes held back, status bits and faults -/

/-- A change held back: the image, the tasks and the application stay, and something is held back. -/
theorem holdChange_does (c : Change) : Kept m (m.holdChange c) ∧ (m.holdChange c).ev.held ≠ [] := by
  unfold Mach.holdChange
  extract_lets q m1 src m2 m3 m4
  have h1 : Calm m m1 := (Calm.refl m).setFld _ _
  clear_value m1
  have h2 : Kept m m2 := h1.toKept.recs ⟨rfl, rfl, rfl⟩
  have h2h : m2.ev.held ≠ [] := by simp only [m2]; exact List.append_ne_nil_of_right_ne_nil _ (List.cons_ne_nil _ _)
  clear_value m2
  have h3 : Kept m m3 := h2.trans (logs_sysEvent m2 _ _ _).calm.toKept
  clear_value m3
  have h4 : Kept m m4 := (h3.recs (x := { m3 with faults := m3.faults ++ [(0x3013, 0, 1)] }) ⟨rfl, rfl, rfl⟩).trans (calm_faultSum _).toKept
  clear_value m4
  split
  · exact ⟨h4.recs ⟨rfl, rfl, rfl⟩, List.append_ne_nil_of_right_ne_nil _ (List.cons_ne_nil _ _)⟩
  · exact ⟨h2, h2h⟩

/-- What a change of status points can do: it is written, and calm; or it is held back. -/
structure Stirs (m n : Mach) : Prop extends Kept m n where
  held : n.ev.held = [] → m.ev.held = [] ∧ n.faults = m.faults

theorem Calm.stirs {m n : Mach} (h : Calm m n) : Stirs m n := ⟨h.toKept, fun hn => ⟨h.held ▸ hn, h.faults⟩⟩

theorem Stirs.trans {m n x : Mach} (h : Stirs m n) (g : Stirs n x) : Stirs m x := by
  refine ⟨h.toKept.trans g.toKept, fun hx => ?_⟩
  obtain ⟨hn, hf⟩ := g.held hx
  obtain ⟨hm, hf'⟩ := h.held hn
  exact ⟨hm, hf.trans hf'⟩

theorem stirs_change {c : Change} (hw : c.words = []) : Stirs m (m.change c) := by
  unfold Mach.change
  split
  · exact (Calm.refl m).stirs
  · split
    · exact (calm_writeChange m hw).stirs
    · obtain ⟨hk, hh⟩ := holdChange_does m c
      exact ⟨hk, fun h => absurd h hh⟩

theorem stirs_setStat (i w v : Nat) : Stirs m (m.setStat i w v) := by
  unfold Mach.setStat
  extract_lets pts n
  have h : Calm m n := (Calm.refl m).foldM (fun p _ x => calm_setPt x _ _)
  split
  · exact h.stirs.trans (stirs_change n rfl)
  · exact h.stirs

theorem stirs_stat (i : Nat) (b : Bool) : Stirs m (m.stat i b) := stirs_setStat m _ _ _

theorem stirs_showFaults : Stirs m m.showFaults :=
  ((calm_faultSum m).stirs.trans (stirs_stat _ _ _)).trans (stirs_stat _ _ _)

theorem kept_stat (i : Nat) (b : Bool) : Kept m (m.stat i b) := (stirs_stat m i b).toKept

theorem kept_startYield (r : Nat) : Kept m (m.startYield r) := by
  unfold Mach.startYield
  refine Kept.ite ?_ (Kept.refl m)
  refine ((Kept.refl m).recs (by exact ⟨rfl, rfl, rfl⟩)).foldM (fun k _ n => ?_)
  exact ((calm_squashSnap n k 3).toKept.trans (calm_squashRun _ k 3).toKept).setTask rfl id

theorem calm_lastFault (c k : Nat) : Calm m (m.lastFault c k) := ((((Calm.refl m).setFld _ _).setFld _ _).setFld _ _).setFld64 _ _

theorem kept_raise (c s k : Nat) : Kept m (m.raise c s k) := by
  unfold Mach.raise
  extract_lets m1 m2 m3 m4 m5
  have h1 : Kept m m1 := (logs_sysEvent m _ _ _).calm.toKept
  clear_value m1
  have h2 : Kept m m2 := Kept.ite h1 (h1.recs ⟨rfl, rfl, rfl⟩)
  clear_value m2
  have h3 : Kept m m3 := h2.trans (stirs_showFaults m2).toKept
  clear_value m3
  have h4 : Kept m m4 := h3.trans (calm_lastFault m3 _ _).toKept
  clear_value m4
  have hfatal (y : Mach) (hy : Kept m y) : Kept m { y with fatal := some c } := hy.recs ⟨rfl, rfl, rfl⟩
  refine Kept.ite (Kept.ite ?_ (h4.trans (kept_startYield _ _))) (Kept.ite (hfatal _ (h3.trans (calm_lastFault m3 _ _).toKept)) h3)
  exact (h4.trans ((Calm.refl m4).setFld R.DIAG_FSUM_DEGRADED _).toKept).trans (kept_stat (m4.setFlag R.DIAG_FSUM_DEGRADED true) _ _)

theorem kept_clear (c s k : Nat) : Kept m (m.clear c s k) := by
  unfold Mach.clear
  refine Kept.ite ?_ (Kept.refl m)
  extract_lets m1
  have h1 : Kept m m1 := (logs_sysEvent m _ _ _).calm.toKept
  exact (h1.recs (by exact ⟨rfl, rfl, rfl⟩)).trans (stirs_showFaults _).toKept

end Sys2Proof.Machine
end

section
/-!
PROOF. Timer expiries, changes released, the hold's quiet end, and the clearing commands (O22).
-/
namespace Sys2Proof.Machine
open Sys2Proof

variable (m : Mach)

/-! ### Registers set to zero -/

/-- Registers of a list written one after another. -/
def Mach.zeroRegs (m : Mach) (as : List Nat) : Mach := foldM as (fun a n => n.rset a 0) m

theorem zeroRegs_regs (as : List Nat) : Regs m (m.zeroRegs as) as := by
  have h : ∀ bs : List Nat, (∀ a ∈ bs, a ∈ as) → Regs m (m.zeroRegs bs) as := by
    intro bs hbs
    refine foldM_inv (fun n => Regs m n as) _ bs (fun a ha n hn => ⟨?_, fun x hx => ?_⟩) m ⟨rfl, fun _ _ => rfl⟩
    · have := hn.same
      rw [this]
      rfl
    · exact (n.rget_rset_ne (by rintro rfl; exact hx (hbs _ ha)) 0).trans (hn.regs x hx)
  exact h as (fun _ => id)

theorem zeroRegs_zero {as : List Nat} {a : Nat} (ha : a ∈ as) : (m.zeroRegs as).rget a = 0 := by
  induction as using List.reverseRecOn with
  | nil => exact absurd ha List.not_mem_nil
  | append_singleton as b ih =>
    have hb : m.zeroRegs (as ++ [b]) = (m.zeroRegs as).rset b 0 := by simp [Mach.zeroRegs, foldM]
    rw [hb]
    by_cases h : a = b
    · rw [h, Mach.rget_rset_same]
    · rw [Mach.rget_rset_ne _ h]
      exact ih ((List.mem_append.mp ha).resolve_right (by simpa using h))

theorem perfClear_eq (e : Nat) : m.perfClear e = m.zeroRegs ((List.range 10).map (fun i => (R.ENG_LITCYC e).addr + 4 * i)) := by
  unfold Mach.perfClear Mach.zeroRegs foldM
  rw [List.foldl_map]

theorem fltClear_eq (e : Nat) : m.fltClear e = m.zeroRegs [(R.ENG_FLT e).addr, (R.ENG_FLTT_LO e).addr, (R.ENG_FLTT_LO e).addr + 4] := rfl

theorem fld64_zero {f : Fld} (h : m.rget f.addr = 0) (h' : m.rget (f.addr + 4) = 0) : m.fld64 f = 0 := by
  rw [Mach.fld64, h, h']
  rfl

/-! ### Reading a count after it -/

theorem fld_addFld_same {f : Fld} (n : Nat) (h : f.lsb + f.width ≤ 32) : (m.addFld f n).fld f = (m.fld f + n) % 2 ^ f.width := m.fld_setFld_same f _ h

theorem fld_maxFld_same {f : Fld} (v : Nat) (h : f.lsb + f.width ≤ 32) : (m.maxFld f v).fld f = max (m.fld f) (min v (2 ^ f.width - 1)) := by
  have h1 := fld_lt m f
  have h2 : 0 < 2 ^ f.width := Nat.two_pow_pos _
  rw [Mach.maxFld, Mach.fld_setFld_same _ f _ h, Nat.mod_eq_of_lt (by omega)]

/-! ### Timer expiries (R199) -/

/-- A registration whose instant has come. -/
def expired (now : Nat) (e : Nat × Option Nat) : Bool := e.2.any (fun x => decide (x ≤ now))

/-- The registrations that are still to come. -/
def Mach.expLeft (m : Mach) : SMap (Option Nat) := m.exp.filter (fun e => e.2.any (fun x => decide (m.now < x)))

/-- The registrations due are dropped and counted. -/
def Mach.expDrop (m : Mach) : Mach := { m with exp := m.expLeft }.addFld R.IMG_EXPCNT (m.exp.filter (expired m.now)).length

theorem mem_expLeft {i x : Nat} : (i, some x) ∈ m.expLeft ↔ (i, some x) ∈ m.exp ∧ m.now < x := by
  simp [Mach.expLeft]

/-- Beside the registrations and their count an expiry only triggers tasks. -/
theorem rest_fireTimers (hst : m.st = .run) (happ : m.cu.app = none) : Rest m.expDrop m.fireTimers := by
  unfold Mach.fireTimers
  rw [if_pos (by simp [hst, happ])]
  extract_lets due n
  have hdue : due = m.exp.filter (expired m.now) := List.filter_congr (by rintro ⟨i, x⟩ -; cases x <;> rfl)
  have hn : n = m.expDrop := by
    simp only [n, hdue, Mach.expDrop]
    exact congrArg (fun x => ({ m with exp := x } : Mach).addFld R.IMG_EXPCNT (m.exp.filter (expired m.now)).length)
      (List.filter_congr (by rintro ⟨i, x⟩ -; cases x <;> rfl))
  rw [hn]
  refine Rest.foldM _ _ (fun k hk x => ?_) _
  have hk : k < 32 := mem_allTasks.mp (List.mem_of_mem_filter hk)
  dsimp only
  split
  · exact Rest.refl x
  · split
    · exact rest_trigger x hk _ _ _
    · exact Rest.refl x

theorem fireTimers_does (hst : m.st = .run) (happ : m.cu.app = none) :
    let n := m.fireTimers
    (∀ i x, (i, some x) ∈ n.exp ↔ (i, some x) ∈ m.exp ∧ m.now < x) ∧ Events { m with exp := n.exp } n (· = R.IMG_EXPCNT.addr) ∧
      n.fld R.IMG_EXPCNT = (m.fld R.IMG_EXPCNT + (m.exp.filter (expired m.now)).length) % 2 ^ 32 := by
  have h := rest_fireTimers m hst happ
  have hexp : m.fireTimers.exp = m.expLeft := by rw [h.same]; rfl
  refine ⟨fun i x => by rw [hexp]; exact mem_expLeft m, ?_, ?_⟩
  · rw [hexp]
    exact (Events.rset (as := (· = R.IMG_EXPCNT.addr)) { m with exp := m.expLeft } _ rfl).trans (h.events _)
  · rw [h.fld (by decide)]
    exact fld_addFld_same _ _ (by decide)

/-! ### A change released (R31) -/

/-- The module with its first held change taken off and its wait kept as a maximum. -/
def Mach.heldOff (m : Mach) (c : Change) (cs : List Change) : Mach := { m with ev := { m.ev with held := cs } }.maxFld R.IMG_SNPWAIT ((m.now - c.heldAt) / 10)

theorem releaseHeld_eq {c : Change} {cs : List Change} (h : m.ev.held = c :: cs) (hr : m.shareBits + m.changeBits c ≤ 2 ^ 21) :
    m.releaseHeld = (m.heldOff c cs).writeChange c := by
  unfold Mach.releaseHeld
  rw [h]
  exact if_pos hr

theorem releaseHeld_does {c : Change} {cs : List Change} (h : m.ev.held = c :: cs) (hr : m.shareBits + m.changeBits c ≤ 2 ^ 21) :
    let n := m.releaseHeld
    n.ev.held = cs ∧ Events m n (· = R.IMG_SNPWAIT.addr) ∧
      n.fld R.IMG_SNPWAIT = max (m.fld R.IMG_SNPWAIT) (min ((m.now - c.heldAt) / 10) (2 ^ 32 - 1)) := by
  have hw := rest_writeChange (m.heldOff c cs) c
  rw [releaseHeld_eq m h hr]
  refine ⟨writeChange_held _ c, ?_, ?_⟩
  · exact (((Rest.evRec m { m.ev with held := cs }).events _).trans (Events.rset (as := (· = R.IMG_SNPWAIT.addr)) _ _ rfl)).trans (hw.events _)
  · rw [hw.fld (by decide)]
    exact fld_maxFld_same _ _ (by decide)

/-! ### Ten seconds without a hold (R31) -/

/-- A fault present is cleared. -/
def Mach.faultGone (m : Mach) (code sub cls : Nat) : Mach :=
  let n := m.sysEvent code (0x30 + cls) false
  { n with faults := n.faults.filter (fun f => !(f == (code, sub, cls))) }

theorem clear_eq {code sub cls : Nat} (h : (code, sub, cls) ∈ m.faults) : m.clear code sub cls = (m.faultGone code sub cls).showFaults := by
  unfold Mach.clear
  exact if_pos (List.contains_iff_mem.mpr h)

theorem clear_absent {code sub cls : Nat} (h : (code, sub, cls) ∉ m.faults) : m.clear code sub cls = m := by
  unfold Mach.clear
  exact if_neg (by simpa using h)

/-- Clearing a fault touches, beside the faults, what events write. -/
theorem events_clear (code sub cls : Nat) : Events { m with faults := (m.clear code sub cls).faults } (m.clear code sub cls) (fun _ => False) := by
  have hb := but_clear m code sub cls
  refine ⟨?_, fun a ha _ => hb.regs a ha, fun _ => id, ?_⟩
  · exact hb.same
  · by_cases h : (code, sub, cls) ∈ m.faults
    · rw [clear_eq m h]
      exact (rest_sysEvent m code (0x30 + cls) false).out.trans (rest_showFaults (m.faultGone code sub cls)).out
    · rw [clear_absent m h]

/-- A fault cleared is gone, unless showing it has held a change back. -/
theorem clear_gone {code sub cls : Nat} (h : (code, sub, cls) ∈ m.faults) (hh : (m.clear code sub cls).ev.held = []) :
    (code, sub, cls) ∉ (m.clear code sub cls).faults := by
  rw [clear_eq m h] at hh ⊢
  rw [((stirs_showFaults (m.faultGone code sub cls)).held hh).2]
  simp [Mach.faultGone]

/-- Settles O22, each command by what its operation does to the module. -/
theorem expiriesHeldChangesAndClears : Obligations.ExpiriesHeldChangesAndClears := by
  unfold Obligations.ExpiriesHeldChangesAndClears
  intro s t
  refine ⟨fun hst _ happ => ?_, fun c cs hh hr => ?_, fun a ha hq hh => ?_, fun e => ?_, ?_, fun e => ?_⟩
  · exact answers_runAt (f := Mach.fireTimers) rfl (fireTimers_does _ hst happ)
  · exact answers_runAt (f := Mach.releaseHeld) rfl (releaseHeld_does _ hh hr)
  · refine answers_runAt (f := fun m => match m.ev.lastHold with
      | some a => if decide (a + 10000000000 ≤ m.now) && m.ev.held.isEmpty then m.clear 0x3013 0 1 else m
      | none => m) rfl ?_
    simp only [ha]
    rw [if_pos (by simp [hq, hh])]
    exact ⟨events_clear _ _ _ _, clear_gone _⟩
  · refine answers_runAt (f := fun m => m.perfClear e) rfl ?_
    rw [perfClear_eq]
    exact ⟨zeroRegs_regs _ _, fun i hi => zeroRegs_zero _ (List.mem_map_of_mem (f := fun i => (R.ENG_LITCYC e).addr + 4 * i) (List.mem_range.mpr hi))⟩
  · exact answers_runAt (f := fun m => m.fstatClear) rfl ⟨zeroRegs_regs _ [R.IMG_FSTAT.addr], zeroRegs_zero _ (List.mem_singleton.mpr rfl)⟩
  · refine answers_runAt (f := fun m => m.fltClear e) rfl ?_
    rw [fltClear_eq]
    exact ⟨zeroRegs_regs _ _, zeroRegs_zero _ (by simp), fld64_zero _ (zeroRegs_zero _ (by simp)) (zeroRegs_zero _ (by simp))⟩

end Sys2Proof.Machine
end

section
/-!
SUPPORT. Segments of a scan by number, what letting writes complete makes of an engine and its scan (R60, R96), and registers that events leave alone.
-/
namespace Sys2Proof.Machine
open Sys2Proof

/-! ### Segments of a scan -/

theorem Scan.seg_setSeg_same (sc : Scan) {j : Nat} (x : Seg) (h : j < sc.segs.length) : (sc.setSeg j x).seg j = x := by
  simp [Scan.seg, Scan.setSeg, List.getD, h]

theorem Scan.seg_setSeg_ne (sc : Scan) {i j : Nat} (x : Seg) (h : i ≠ j) : (sc.setSeg j x).seg i = sc.seg i := by
  simp [Scan.seg, Scan.setSeg, List.getD, List.getElem?_set_ne h.symm]

@[simp] theorem Scan.setSeg_length (sc : Scan) (j : Nat) (x : Seg) : (sc.setSeg j x).segs.length = sc.segs.length := List.length_set

/-! ### Registers that events leave alone -/

/-- Of an engine's registers events write the counts of discarded instructions and of wakes alone. -/
theorem evAddr_eng {a : Nat} (h : 0x60000 ≤ a) (h' : a < 0x70000) (h1 : a % 0x1000 ≠ 0x114) (h2 : a % 0x1000 ≠ 0x124) : evAddr a = false := by
  simp [evAddr, h1, h2, R.EVU_SEQ, R.EVU_STAT_FIFOLOST, R.EVU_LOSTFIFO, R.EVU_LASTSNAP_LO, R.EVU_FIFOMAX_MAX, R.EVU_WAKES, R.DIAG_FSUM_MINOR, R.DIAG_LFLT_CODE,
    R.DIAG_LFLTT_LO, R.IMG_SNPSTAT_HOLDS, R.PRT_STREAM_LEVEL, R.EVU_CHBLK_POINTS]
  omega

/-- Of a task's registers events write the budget and the counts of squashes and restarts alone. -/
theorem evAddr_tsk {a : Nat} (h : a / 0x10000 = 7) (h1 : a % 0x80 ≠ 0xC) (h2 : a % 0x80 ≠ 0x40) (h3 : a % 0x80 ≠ 0x44) : evAddr a = false := by
  simp [evAddr, h1, h2, h3, R.EVU_SEQ, R.EVU_STAT_FIFOLOST, R.EVU_LOSTFIFO, R.EVU_LASTSNAP_LO, R.EVU_FIFOMAX_MAX, R.EVU_WAKES, R.DIAG_FSUM_MINOR, R.DIAG_LFLT_CODE,
    R.DIAG_LFLTT_LO, R.IMG_SNPSTAT_HOLDS, R.PRT_STREAM_LEVEL, R.EVU_CHBLK_POINTS]
  omega

/-! ### Writes that complete -/

theorem regs_trans {a b c : Mach} (h : b = { a with regs := b.regs }) (k : c = { b with regs := c.regs }) : c = { a with regs := c.regs } := by
  rw [h] at k
  exact k

theorem Mach.applyPerf_same (m : Mach) (e : Nat) (w : Wr) : m.applyPerf e w = { m with regs := (m.applyPerf e w).regs } := by
  cases w with
  | perf en clr =>
    simp only [Mach.applyPerf]
    split
    · have h := (zeroRegs_regs (m.setFlag (R.ENG_PERFCTL_EN e) en) ((List.range 10).map (fun i => (R.ENG_LITCYC e).addr + 4 * i))).same
      rw [← perfClear_eq] at h
      exact h
    · rfl
  | tmax resp k => rfl
  | _ => rfl

theorem Mach.applyPerfs_same (ws : List Wr) (m : Mach) (e : Nat) :
    ws.foldl (fun m w => m.applyPerf e w) m = { m with regs := (ws.foldl (fun m w => m.applyPerf e w) m).regs } := by
  induction ws generalizing m with
  | nil => rfl
  | cons w ws ih => exact regs_trans (Mach.applyPerf_same m e w) (ih (m.applyPerf e w))

/-- Writes that are none of the frame's leave a segment as it is. -/
theorem Seg.foldl_apply_filter (p : Wr → Bool) (hp : ∀ w, p w = false → w.isShade = false) (ws : List Wr) (s : Seg) :
    (ws.filter p).foldl Seg.apply s = ws.foldl Seg.apply s := by
  have hid : ∀ (w : Wr) (s : Seg), w.isShade = false → s.apply w = s := by
    intro w s hw
    cases w with
    | shade key v => exact Bool.noConfusion hw
    | act d => exact Bool.noConfusion hw
    | _ => rfl
  induction ws generalizing s with
  | nil => rfl
  | cons w ws ih =>
    cases h : p w with
    | true => rw [List.filter_cons_of_pos h]; exact ih _
    | false => rw [List.filter_cons_of_neg (by simp [h]), ih, List.foldl_cons, hid w s (hp w h)]

theorem Seg.foldl_apply_plain {ws : List Wr} (h : ws.any Wr.isShade = false) (s : Seg) : ws.foldl Seg.apply s = s := by
  rw [← Seg.foldl_apply_filter Wr.isShade (fun _ => id), List.filter_eq_nil_iff.mpr (by simpa using h)]
  rfl

/-- `n` differs from `m` in registers, engines and tasks only. -/
def RunsOnly (m n : Mach) : Prop := n = { m with regs := n.regs, engs := n.engs, tasks := n.tasks }

namespace RunsOnly

variable {m n x : Mach}

theorem refl (m : Mach) : RunsOnly m m := rfl
theorem trans (h : RunsOnly m n) (g : RunsOnly n x) : RunsOnly m x := by
  unfold RunsOnly at *
  rw [h] at g
  exact g
theorem setTask (h : RunsOnly m n) (k : Nat) (y : Task) : RunsOnly m (n.setTask k y) := h.trans rfl
theorem setEng (h : RunsOnly m n) (e : Nat) (y : Eng) : RunsOnly m (n.setEng e y) := h.trans rfl
theorem setFld (h : RunsOnly m n) (f : Fld) (v : Nat) : RunsOnly m (n.setFld f v) := h.trans rfl
theorem img (h : RunsOnly m n) : n.img = m.img := by rw [h]

end RunsOnly

/-- What the completion of writes on engine `e`, which runs segment `j` of task `k`'s scan `sc`, leaves: the engine's writes are done, the segment's frame
holds its entries, and beside them only registers have changed. -/
structure Completed (m n : Mach) (e k j : Nat) (sc : Scan) (ws : List Wr) : Prop where
  same : RunsOnly m n
  eng : n.eng e = ws.foldl Eng.apply (m.eng e)
  engs : ∀ i, i ≠ e → n.eng i = m.eng i
  run : (n.task k).run = some (sc.setSeg j (ws.foldl Seg.apply (sc.seg j)))

theorem Scan.setSeg_seg (sc : Scan) {j : Nat} (h : j < sc.segs.length) : sc.setSeg j (sc.seg j) = sc := by
  unfold Scan.setSeg Scan.seg
  rw [show sc.segs.set j (sc.segs.getD j ⟨.halted, 0, none, [], []⟩) = sc.segs by simp [List.getD, h]]

theorem complete_does {m : Mach} {e k j : Nat} {sc : Scan} (ws : List Wr) (ha : (m.eng e).act = some (k, j)) (hr : (m.task k).run = some sc)
    (hj : j < sc.segs.length) : Completed m (m.complete e ws) e k j sc ws := by
  unfold Mach.complete
  extract_lets m1 m2
  have h2 : m2 = { m1 with regs := m2.regs } := Mach.applyPerfs_same ws m1 e
  clear_value m2
  have heng : ∀ i, m2.eng i = m1.eng i := fun i => by rw [h2]; rfl
  have htask : m2.task k = m.task k := by rw [h2]; rfl
  have hact : (m2.eng e).act = some (k, j) := by rw [heng, Mach.eng_setEng_same, Eng.applyAll_act, ha]
  have hsame : RunsOnly m m2 := ((RunsOnly.refl m).setEng e _).trans (by rw [h2]; rfl)
  have h3 (n : Mach) (hn : n.engs = m2.engs) : n.eng e = ws.foldl Eng.apply (m.eng e) ∧ ∀ i, i ≠ e → n.eng i = m.eng i := by
    have hni : ∀ i, n.eng i = m1.eng i := fun i => by rw [Mach.eng, hn]; exact heng i
    exact ⟨(hni e).trans (Mach.eng_setEng_same _ _ _), fun i hi => (hni i).trans (Mach.eng_setEng_ne _ hi _)⟩
  cases hs : ws.any Wr.isShade with
  | false =>
    rw [if_neg (by decide)]
    obtain ⟨he, hes⟩ := h3 m2 rfl
    exact ⟨hsame, he, hes, by rw [htask, hr, Seg.foldl_apply_plain hs, Scan.setSeg_seg sc hj]⟩
  | true =>
    rw [if_pos rfl, hact]
    dsimp only
    rw [htask, hr]
    dsimp only
    obtain ⟨he, hes⟩ := h3 (m2.setTask k { m.task k with run := some (sc.setSeg j (ws.foldl Seg.apply (sc.seg j))) }) rfl
    exact ⟨hsame.setTask k _, he, hes, by rw [Mach.task_setTask_same]⟩

end Sys2Proof.Machine
end

section
/-!
PROOF. Segments start, halt and fault (O20).
-/
namespace Sys2Proof.Machine
open Sys2Proof

variable (m : Mach)

/-! ### The start of a segment (R21, R58, R87, R91) -/

/-- The scan a task's next segment belongs to: the one in RUN, or with none there the one in SNAP. -/
def Mach.startScan (m : Mach) (k : Nat) (sc : Scan) : Prop := (m.task k).run = some sc ∨ ((m.task k).run = none ∧ (m.task k).snap = some sc)

/-- What a scan's entry to RUN leaves: the scan, in RUN, with its segments; the engines and their registers. -/
structure Entered (m n : Mach) (k : Nat) (sc : Scan) : Prop where
  run : ∃ r, (n.task k).run = some r ∧ r.id = sc.id ∧ r.snap = sc.snap ∧ r.segs = sc.segs
  engs : n.engs = m.engs
  entry : ∀ a, 0x60000 ≤ a → a < 0x70000 → a % 0x1000 < 0x114 → n.rget a = m.rget a

theorem enterScan_does {k : Nat} {sc : Scan} (hk : k < 32) (hs : m.startScan k sc) : Entered m (m.enterScan k) k sc := by
  unfold Mach.enterScan
  rcases hs with hr | ⟨hr, hs⟩
  · rw [hr]
    exact ⟨⟨sc, hr, rfl, rfl, rfl⟩, rfl, fun _ _ _ _ => rfl⟩
  · rw [hr, hs]
    dsimp only
    generalize (!m.following && (sc.anchored || m.fld (R.TSK_BUDGET_RSTLEFT k) == 0)) = anch
    generalize hr' : ({ sc with anchored := anch, anchOrd := if (anch && !sc.anchored) = true then m.cu.orders else sc.anchOrd, started := m.now } : Scan) = r
    have hrun : ∀ x : Mach, x.tasks = (m.setTask k { m.task k with snap := none, run := some r }).tasks → (x.task k).run = some r := by
      intro x hx
      rw [Mach.task, hx]
      exact congrArg Task.run (Mach.task_setTask_same _ _ _)
    have hscan : r.id = sc.id ∧ r.snap = sc.snap ∧ r.segs = sc.segs := by subst hr'; exact ⟨rfl, rfl, rfl⟩
    generalize hn : (if (anch && !sc.anchored) = true then _ else _ : Mach) = n
    have hn' : n.tasks = (m.setTask k { m.task k with snap := none, run := some r }).tasks ∧ n.engs = m.engs ∧
        ∀ a, 0x60000 ≤ a → a < 0x70000 → a % 0x1000 < 0x114 → n.rget a = m.rget a := by
      subst hn
      split
      · have hl := logs_taskEvent { (m.setTask k { m.task k with snap := none, run := some r }) with cu := { m.cu with orders := m.cu.orders + 1 } } k 0x48 m.now
        have he := rest_taskEvent { (m.setTask k { m.task k with snap := none, run := some r }) with cu := { m.cu with orders := m.cu.orders + 1 } } k 0x48 m.now
        exact ⟨hl.tasks, hl.engs, fun a h1 h2 h3 => he.regs a (evAddr_eng h1 h2 (by omega) (by omega))⟩
      · exact ⟨rfl, rfl, fun _ _ _ _ => rfl⟩
    obtain ⟨ht, he, hg⟩ := hn'
    split
    · refine ⟨⟨r, hrun _ ht, hscan⟩, he, fun a h1 h2 h3 => (n.rget_setFld_ne _ _ ?_).trans (hg a h1 h2 h3)⟩
      simp only [R.TSK_ANCHORS]
      omega
    · exact ⟨⟨r, hrun _ ht, hscan⟩, he, hg⟩

theorem startSegment_does {e k j : Nat} {sc : Scan} (he : e < 16) (hst : m.st = .run) (hp : (m.eng e).power = .lit) (ha : (m.eng e).act = none)
    (hf : (m.eng e).freeAt ≤ m.now) (hu : m.framesUsed e < 3) (hn : m.nextSeg e = some (k, j)) (hk : k < 32) (hs : m.startScan k sc) (hj : j < sc.segs.length) :
    let n := m.startSegment e
    n.eng e = (m.eng e).fresh k j (m.fld (R.ENG_SEG_ENTRY e k)) ∧ (∀ i, i ≠ e → n.eng i = m.eng i) ∧
      ∃ r, (n.task k).run = some r ∧ r.id = sc.id ∧ r.snap = sc.snap ∧ (r.seg j).st = .running ∧ (r.seg j).eng = e ∧ ∀ i, i ≠ j → r.seg i = sc.seg i := by
  obtain ⟨⟨r, hr, hid, hsnap, hsegs⟩, hengs, hentry⟩ := enterScan_does m hk hs
  have heng : ∀ i, (m.enterScan k).eng i = m.eng i := fun i => by simp only [Mach.eng, hengs]
  have hpc : (m.enterScan k).fld (R.ENG_SEG_ENTRY e k) = m.fld (R.ENG_SEG_ENTRY e k) := by
    simp only [Mach.fld]
    rw [hentry _ (by simp only [R.ENG_SEG_ENTRY]; omega) (by simp only [R.ENG_SEG_ENTRY]; omega) (by simp only [R.ENG_SEG_ENTRY]; omega)]
  have hseg : r.seg = sc.seg := by funext i; simp only [Scan.seg, hsegs]
  have hjr : j < r.segs.length := hsegs ▸ hj
  unfold Mach.startSegment
  dsimp only
  rw [if_pos (by simp [hst, hp, ha, hf, hu]), hn]
  dsimp only
  rw [hr]
  dsimp only
  simp only [Mach.perf_eng, Mach.perf_task, Mach.eng_setEng_same]
  refine ⟨?_, fun i hi => ?_, r.setSeg j { r.seg j with st := .running, eng := e }, ?_, hid, hsnap, ?_, ?_, fun i hi => ?_⟩
  · show ((m.enterScan k).eng e).fresh k j ((m.enterScan k).fld (R.ENG_SEG_ENTRY e k)) = _
    rw [heng, hpc]
  · rw [Mach.eng_setEng_ne _ hi]
    exact heng i
  · exact congrArg Task.run (Mach.task_setTask_same _ _ _)
  · rw [Scan.seg_setSeg_same _ _ hjr]
  · rw [Scan.seg_setSeg_same _ _ hjr]
  · rw [Scan.seg_setSeg_ne _ _ hi, hseg]

/-! ### The halt instant (R104) -/

/-- The scan with a segment halted is complete when it was, or when every segment has halted (R58). -/
theorem scanHalted_does {k : Nat} {sc : Scan} (hr : (m.task k).run = some sc) :
    RunsOnly m (m.scanHalted k) ∧ (m.scanHalted k).engs = m.engs ∧ ∃ r, ((m.scanHalted k).task k).run = some r ∧ r.id = sc.id ∧ r.segs = sc.segs ∧
      (r.complete = true ↔ sc.complete = true ∨ ∀ x ∈ sc.segs, x.st = .halted) := by
  have hall : (sc.segs.all (fun x => x.st == .halted)) = true ↔ ∀ x ∈ sc.segs, x.st = .halted := by simp
  unfold Mach.scanHalted
  rw [hr]
  dsimp only
  split
  · rename_i h
    exact ⟨((RunsOnly.refl m).setTask _ _).setFld _ _, rfl, { sc with complete := true }, congrArg Task.run (Mach.task_setTask_same _ _ _), rfl, rfl,
      iff_of_true rfl (.inr (hall.mp h))⟩
  · rename_i h
    exact ⟨RunsOnly.refl m, rfl, sc, hr, rfl, rfl, ⟨.inl, fun hc => hc.resolve_right (fun hx => h (hall.mpr hx))⟩⟩

/-- The writes that are in place at the halt instant: the frame's and those of SWR. -/
def Eng.haltWrites (x : Eng) : List Wr := (x.flight.map (·.w)).filter (fun w => w.isShade || w.isSwr)

/-- The halt counted, and the engine free. -/
def Mach.engFreed (m : Mach) (e steps : Nat) : Mach :=
  let n := (m.perf e (R.ENG_SEGHALT e) 1).maxFld (R.ENG_STEPMAX e) steps
  n.setEng e { n.eng e with act := none, drain := false, flight := [], ends := [] }

/-- What freeing engine `e` leaves: it is free, with nothing in flight, and beside it only registers have changed. -/
structure Freed (m n : Mach) (e : Nat) : Prop where
  same : n = { m with regs := n.regs, engs := n.engs }
  act : (n.eng e).act = none
  drain : (n.eng e).drain = false
  flight : (n.eng e).flight = []
  engs : ∀ i, i ≠ e → n.eng i = m.eng i

theorem freed_of_regs {n : Mach} (h : n = { m with regs := n.regs }) (e : Nat) :
    Freed m (n.setEng e { n.eng e with act := none, drain := false, flight := [], ends := [] }) e := by
  have hsame : ∀ x : Mach, x = { n with engs := x.engs } → x = { m with regs := x.regs, engs := x.engs } := by
    intro x hx
    rw [hx, h]
  have heng : ∀ i, n.eng i = m.eng i := fun i => by rw [h]; rfl
  refine ⟨hsame _ rfl, ?_, ?_, ?_, fun i hi => (Mach.eng_setEng_ne _ hi _).trans (heng i)⟩ <;> rw [Mach.eng_setEng_same]

theorem engFreed_does (e steps : Nat) : Freed m (m.engFreed e steps) e := by
  unfold Mach.engFreed
  extract_lets n
  have hn : n = { m with regs := n.regs } := regs_trans (m.perf_same e (R.ENG_SEGHALT e) 1) rfl
  clear_value n
  exact freed_of_regs m hn e

theorem Freed.runsOnly {n : Mach} {e : Nat} (h : Freed m n e) : RunsOnly m n := by
  have hn := h.same
  unfold RunsOnly
  rw [hn]

theorem Freed.task {n : Mach} {e : Nat} (h : Freed m n e) (k : Nat) : n.task k = m.task k := by
  rw [h.same]
  rfl

/-- The halt of a segment (R104): its writes are in place, its engine is free, the segment has halted. -/
theorem halt_eq {e k j : Nat} {sc : Scan} {n : Mach} (ha : (m.eng e).act = some (k, j)) (hd : (m.eng e).drain = true) (hf : (m.eng e).flt = none)
    (hn : (m.complete e (m.eng e).haltWrites).engFreed e (m.eng e).steps = n) (hr : (n.task k).run = some sc) :
    m.halt e = (n.setTask k { n.task k with run := some (sc.setSeg j { sc.seg j with st := .halted }) }).scanHalted k := by
  subst hn
  unfold Mach.halt
  simp only [ha, hd, hf]
  rw [if_neg (by decide)]
  split
  · rename_i sc' h
    obtain rfl : sc' = sc := Option.some.inj (h.symm.trans hr)
    rfl
  · rename_i h
    exact absurd (hr.symm.trans h) (by simp)

theorem halt_does {e k j : Nat} {sc : Scan} (ha : (m.eng e).act = some (k, j)) (hd : (m.eng e).drain = true) (hf : (m.eng e).flt = none)
    (hr : (m.task k).run = some sc) (hj : j < sc.segs.length) :
    let n := m.halt e
    let g := ((m.eng e).flight.map (·.w)).foldl Seg.apply (sc.seg j)
    (n.eng e).act = none ∧ (n.eng e).drain = false ∧ (n.eng e).flight = [] ∧ (∀ i, i ≠ e → n.eng i = m.eng i) ∧ n.img = m.img ∧
      ∃ r, (n.task k).run = some r ∧ r.id = sc.id ∧ (r.seg j).st = .halted ∧ (r.seg j).frame = g.frame ∧ (r.seg j).deferred = g.deferred ∧
        (r.complete = true ↔ sc.complete = true ∨ ∀ x ∈ r.segs, x.st = .halted) := by
  intro n g
  obtain ⟨hsame, -, hengs, hrun⟩ := complete_does (m.eng e).haltWrites ha hr hj
  have hg : (m.eng e).haltWrites.foldl Seg.apply (sc.seg j) = g := Seg.foldl_apply_filter _ (fun w hw => (Bool.or_eq_false_iff.mp hw).1) _ _
  rw [hg] at hrun
  have hq := engFreed_does (m.complete e (m.eng e).haltWrites) e (m.eng e).steps
  generalize hqn : (m.complete e (m.eng e).haltWrites).engFreed e (m.eng e).steps = q at hq
  generalize m.complete e (m.eng e).haltWrites = c at hsame hengs hrun hq
  have hqr : (q.task k).run = some (sc.setSeg j g) := by rw [hq.task, hrun]
  have hn : n = _ := halt_eq m (j := j) ha hd hf hqn hqr
  rw [Scan.seg_setSeg_same _ _ hj] at hn
  have hset : ((q.setTask k { q.task k with run := some ((sc.setSeg j g).setSeg j { g with st := .halted }) }).task k).run =
      some ((sc.setSeg j g).setSeg j { g with st := .halted }) := congrArg Task.run (Mach.task_setTask_same _ _ _)
  obtain ⟨ho, hoe, r, hrr, hrid, hrs, hrc⟩ := scanHalted_does _ hset
  rw [← hn] at ho hoe hrr
  have hne : ∀ i, n.eng i = q.eng i := fun i => by rw [Mach.eng, hoe]; rfl
  have hseg : r.seg j = { g with st := .halted } := by
    rw [← Scan.seg_setSeg_same (sc.setSeg j g) { g with st := .halted } (by simpa using hj)]
    simp only [Scan.seg, hrs]
  refine ⟨by rw [hne, hq.act], by rw [hne, hq.drain], by rw [hne, hq.flight], fun i hi => ?_, ?_, r, hrr, hrid, by rw [hseg], by rw [hseg], by rw [hseg], ?_⟩
  · rw [hne, hq.engs i hi, hengs i hi]
  · exact (((hsame.trans hq.runsOnly).setTask k _).trans ho).img
  · rw [hrs]
    exact hrc

/-! ### Engine faults (R123, R124) -/

/-- A 64-bit register written leaves every word but its two. -/
theorem Mach.rget_setFld64_ne {a v : Nat} {f : Fld} (h0 : a ≠ f.addr) (h1 : a ≠ f.addr + 4) : (m.setFld64 f v).rget a = m.rget a :=
  (Mach.rget_rset_ne _ h1 _).trans (Mach.rget_rset_ne _ h0 _)

/-- The word ENGe.FLT holds (R123). -/
def faultWord (code hw rep pc k j : Nat) : Nat := code + hw * 2 ^ 6 + rep * 2 ^ 7 + pc * 2 ^ 8 + k * 2 ^ 22 + j * 2 ^ 27 + 2 ^ 31

theorem faultWord_fields {m : Mach} {e code hw rep pc k j : Nat} (h : m.rget (R.ENG_FLT e).addr = BitVec.ofNat 32 (faultWord code hw rep pc k j))
    (hc : code < 64) (hhw : hw < 2) (hrep : rep < 2) (hpc : pc < 2 ^ 14) (hk : k < 32) (hj : j < 8) :
    m.fld (R.ENG_FLT_CODE e) = code ∧ m.flag (R.ENG_FLT_VALID e) = true ∧ m.fld (R.ENG_FLT_PC e) = pc ∧ m.fld (R.ENG_FLT_TASK e) = k ∧
      m.fld (R.ENG_FLT_SEG e) = j := by
  have hword : (m.rget (R.ENG_FLT e).addr).toNat = faultWord code hw rep pc k j := by
    rw [h, BitVec.toNat_ofNat, Nat.mod_eq_of_lt]
    unfold faultWord
    omega
  have hfld (f : Fld) (hf : f.addr = (R.ENG_FLT e).addr) : m.fld f = faultWord code hw rep pc k j / 2 ^ f.lsb % 2 ^ f.width := by
    rw [Mach.fld, hf, bitsOf, hword, Nat.shiftRight_eq_div_pow]
  have hv : m.fld (R.ENG_FLT_VALID e) = 1 := by
    rw [hfld (R.ENG_FLT_VALID e) rfl]
    simp only [R.ENG_FLT_VALID, faultWord]
    omega
  refine ⟨(hfld (R.ENG_FLT_CODE e) rfl).trans ?_, by rw [Mach.flag, hv]; rfl, (hfld (R.ENG_FLT_PC e) rfl).trans ?_,
    (hfld (R.ENG_FLT_TASK e) rfl).trans ?_, (hfld (R.ENG_FLT_SEG e) rfl).trans ?_⟩ <;>
  · simp only [R.ENG_FLT_CODE, R.ENG_FLT_PC, R.ENG_FLT_TASK, R.ENG_FLT_SEG, faultWord]
    omega

/-- The module with a fault's word, count and time in its engine's registers. -/
def Mach.faultLogged (m : Mach) (e : Nat) (w : Word) : Mach :=
  let n := (m.rset (R.ENG_FLT e).addr w).addFld (R.ENG_FLTCNT e) 1
  n.setFld64 (R.ENG_FLTT_LO e) n.now

/-- The module with the fault recorded in its engine's registers, and in its task for the repeat of R124. -/
def Mach.faultShown (m : Mach) (e code pc k j : Nat) : Mach :=
  let rep := !engHw code && (m.task k).lastFault == some (code, pc)
  let n := m.faultLogged e (BitVec.ofNat 32 (faultWord code (engHw code).toNat rep.toNat pc k j))
  if engHw code then n else n.setTask k { n.task k with lastFault := some (code, pc) }

theorem engineFault_eq {e code pc k j : Nat} (ha : (m.eng e).act = some (k, j)) :
    m.engineFault e code pc =
      let n := (m.faultShown e code pc k j).squashRun k 4
      if engHw code then (n.setEng e { n.eng e with power := .heldOut }).raise 0x31E0 e 2
      else if !engHw code && (m.task k).lastFault == some (code, pc) then n.raise 0x31DF e 3 else n.raise 0x31DE e 1 := by
  simp only [Mach.engineFault, ha, Mach.faultShown, Mach.faultLogged, faultWord]

/-- The fault's word stays behind its count and its time. -/
theorem faultLogged_word (e : Nat) (w : Word) : (m.faultLogged e w).rget (R.ENG_FLT e).addr = w := by
  have h1 : (R.ENG_FLT e).addr ≠ (R.ENG_FLTT_LO e).addr := by simp only [R.ENG_FLT, R.ENG_FLTT_LO]; omega
  have h2 : (R.ENG_FLT e).addr ≠ (R.ENG_FLTT_LO e).addr + 4 := by simp only [R.ENG_FLT, R.ENG_FLTT_LO]; omega
  have h3 : (R.ENG_FLT e).addr ≠ (R.ENG_FLTCNT e).addr := by simp only [R.ENG_FLT, R.ENG_FLTCNT]; omega
  unfold Mach.faultLogged
  rw [Mach.rget_setFld64_ne _ h1 h2, Mach.addFld, Mach.rget_setFld_ne _ _ _ h3, Mach.rget_rset_same]

theorem faultShown_word (e code pc k j : Nat) : (m.faultShown e code pc k j).rget (R.ENG_FLT e).addr =
    BitVec.ofNat 32 (faultWord code (engHw code).toNat (!engHw code && (m.task k).lastFault == some (code, pc)).toNat pc k j) := by
  have hset : ∀ (n : Mach) (x : Task) (a : Nat), (n.setTask k x).rget a = n.rget a := fun _ _ _ => rfl
  simp only [Mach.faultShown]
  split
  · rw [faultLogged_word]
  · rw [hset, faultLogged_word]

theorem engineFault_does {e code pc k j : Nat} (he : e < 16) (hk : k < 32) (hj : j < 8) (hc : code < 64) (hpc : pc < 2 ^ 14) (ha : (m.eng e).act = some (k, j)) :
    let n := m.engineFault e code pc
    (n.fld (R.ENG_FLT_CODE e) = code ∧ n.flag (R.ENG_FLT_VALID e) = true ∧ n.fld (R.ENG_FLT_PC e) = pc ∧ n.fld (R.ENG_FLT_TASK e) = k ∧
      n.fld (R.ENG_FLT_SEG e) = j) ∧
    (0x10 ≤ code → (0x31E0, e, 2) ∈ n.faults) ∧
    (code < 0x10 → if (m.task k).lastFault = some (code, pc) then (0x31DF, e, 3) ∈ n.faults else (0x31DE, e, 1) ∈ n.faults) := by
  have hsq := rest_squashRun (m.faultShown e code pc k j) (c := 4) hk (by omega)
  have hflt : evAddr (R.ENG_FLT e).addr = false := by
    refine evAddr_eng ?_ ?_ ?_ ?_ <;> simp only [R.ENG_FLT] <;> omega
  have hword : ∀ n, Rest (m.faultShown e code pc k j) n → n.fld (R.ENG_FLT_CODE e) = code ∧ n.flag (R.ENG_FLT_VALID e) = true ∧
      n.fld (R.ENG_FLT_PC e) = pc ∧ n.fld (R.ENG_FLT_TASK e) = k ∧ n.fld (R.ENG_FLT_SEG e) = j := fun n hn =>
    faultWord_fields ((hn.regs _ hflt).trans (faultShown_word m e code pc k j)) hc (Bool.toNat_lt _) (Bool.toNat_lt _) hpc hk hj
  rw [engineFault_eq m ha]
  dsimp only
  by_cases hhw : 0x10 ≤ code
  · have h : engHw code = true := decide_eq_true hhw
    rw [if_pos h]
    exact ⟨hword _ ((hsq.trans (rest_setEng _ _ _)).trans (rest_raise _ _ _ _)), fun _ => raise_mem _ _ _ _, fun hlt => absurd hhw (by omega)⟩
  · have h : engHw code = false := decide_eq_false hhw
    have hrep : (!engHw code && (m.task k).lastFault == some (code, pc)) = true ↔ (m.task k).lastFault = some (code, pc) := by simp [h]
    rw [if_neg (by simp [h]), if_congr hrep rfl rfl]
    refine ⟨?_, fun hge => absurd hge hhw, fun _ => ?_⟩
    · split
      · exact hword _ (hsq.trans (rest_raise _ _ _ _))
      · exact hword _ (hsq.trans (rest_raise _ _ _ _))
    · split
      · exact raise_mem _ _ _ _
      · exact raise_mem _ _ _ _

/-- The codes of R123 are those a fault may carry. -/
theorem engFaultCode_of_mem : ∀ c ∈ [1, 2, 3, 4, 5, 6, 7, 8, 9, 0x10, 0x11, 0x12, 0x13], engFaultCode c = true := by decide

/-- Settles O20, each command by what its operation does to the module. -/
theorem segmentsStartAndHalt : Obligations.SegmentsStartAndHalt := by
  unfold Obligations.SegmentsStartAndHalt
  intro s t e
  refine ⟨fun k j sc hst hp ha hf hu hn hk hs hj => ?_, fun k j sc hk ha hd hf hr hj => ?_, fun k j code pc hk hj ha hc => ?_⟩
  · exact answers_runAt (f := fun m => m.startSegment e) rfl (startSegment_does _ e.isLt hst hp ha hf hu hn hk hs hj)
  · exact answers_runAt (f := fun m => m.halt e) rfl (halt_does _ ha hd hf hr hj)
  · refine answers_runAt (f := fun m => if engFaultCode code && (m.eng e).act.isSome then m.engineFault e code pc.toNat else m) rfl ?_
    rw [if_pos (by simp [engFaultCode_of_mem _ hc, ha])]
    obtain ⟨⟨h1, h2, h3, h4, h5⟩, h6, h7⟩ := engineFault_does (arrive t s) e.isLt hk hj code.isLt pc.isLt ha
    exact ⟨h1, h2, h3, h4, h5, h6, h7⟩

end Sys2Proof.Machine
end

section
/-!
SUPPORT. What the display, the retained store, the transmit buffers and the acceptance of inputs leave: the image, the commit unit and the tasks.
-/
namespace Sys2Proof.Machine
open Sys2Proof

namespace Kept

variable {m n : Mach}

theorem rset (h : Kept m n) (a : Nat) (w : Word) : Kept m (n.rset a w) := h.recs ⟨rfl, rfl, rfl⟩
theorem setFld (h : Kept m n) (f : Fld) (v : Nat) : Kept m (n.setFld f v) := h.rset _ _
theorem setFlag (h : Kept m n) (f : Fld) (b : Bool) : Kept m (n.setFlag f b) := h.rset _ _
theorem satFld (h : Kept m n) (f : Fld) (v : Nat) : Kept m (n.satFld f v) := h.rset _ _
theorem setFld64 (h : Kept m n) (f : Fld) (v : Nat) : Kept m (n.setFld64 f v) := (h.rset _ _).rset _ _

end Kept

variable (m : Mach)

/-! ### The display -/

theorem kept_setNew (x y l : Nat) : Kept m (m.setNew x y l) := by
  unfold Mach.setNew
  exact Kept.ite ((Kept.refl m).recs (by exact ⟨rfl, rfl, rfl⟩)) (Kept.refl m)

theorem kept_blit (x y w : Nat) (ls : List Nat) : Kept m (m.blit x y w ls) := (Kept.refl m).foldM (fun _ _ n => kept_setNew n _ _ _)

theorem kept_glyphs (x y : Nat) (gs : List Nat) : Kept m (m.glyphs x y gs) := by
  induction gs generalizing m x with
  | nil => exact Kept.refl m
  | cons g gs ih => exact (kept_blit m _ _ _ _).trans (ih _ _)

theorem kept_drawElem (p a : Nat) : Kept m (m.drawElem p a) := by
  unfold Mach.drawElem
  dsimp only
  refine Kept.ite ?_ (Kept.trans ?_ (kept_glyphs _ _ _ _))
  · exact ((Kept.refl m).recs (by exact ⟨rfl, rfl, rfl⟩)).foldM (fun _ _ n => kept_setNew n _ _ _)
  · exact (Kept.refl m).foldM (fun _ _ n => kept_setNew n _ _ _)

theorem kept_composePage (p : Nat) : Kept m (m.composePage p) := by
  unfold Mach.composePage
  extract_lets base m1 es m2
  have h2 : Kept m m2 := (kept_blit m _ _ _ _).foldM (fun _ _ n => kept_drawElem n p _)
  clear_value m2
  exact h2.recs ⟨rfl, rfl, rfl⟩

theorem kept_setQueue (q : List DspReq) : Kept m (m.setQueue q) := ((Kept.refl m).recs (by exact ⟨rfl, rfl, rfl⟩)).setFld _ _

theorem kept_dspRequest (r : DspReq) : Kept m (m.dspRequest r) := by
  unfold Mach.dspRequest
  refine Kept.ite (Kept.refl m) (Kept.ite (kept_setQueue m _) ?_)
  split
  · exact Kept.refl m
  · exact (((Kept.refl m).recs (by exact ⟨rfl, rfl, rfl⟩)).trans (kept_setQueue _ _)).satFld _ _

theorem kept_showPage (p mode : Nat) : Kept m (m.showPage p mode) :=
  (((Kept.refl m).setFld _ _).trans (kept_composePage _ p)).trans (kept_dspRequest _ _)

/-! ### The retained store -/

theorem kept_ret (r : RetStore) : Kept m { m with ret := r } := (Kept.refl m).recs ⟨rfl, rfl, rfl⟩

theorem kept_placeIn (b n : Nat) : Kept m (m.placeIn b n).2.2 := by
  unfold Mach.placeIn
  extract_lets s x m1
  have h1 : Kept m m1 := (kept_ret m _).setFld64 _ _
  clear_value m1
  split
  · exact kept_ret m _
  · split
    · exact (h1.trans (kept_ret m1 _)).trans (kept_ret _ _)
    · exact h1

theorem kept_putRec (ty arg key : Nat) (p : List Byte) : Kept m (m.putRec ty arg key p) := by
  have h := kept_placeIn m m.chooseBank (recLines p.length)
  unfold Mach.putRec
  split
  rename_i s l n hn
  rw [hn] at h
  exact h.recs ⟨rfl, rfl, rfl⟩

theorem kept_putJournal (n : Nat) (es : List JEntry) : Kept m (m.putJournal n es) := by
  induction n generalizing m es with
  | zero => exact Kept.refl m
  | succ n ih =>
    cases es with
    | nil => exact Kept.refl m
    | cons e es => exact (kept_putRec m _ _ _ _).trans (ih _ _)

theorem kept_rjWrite (es : List JEntry) : Kept m (m.rjWrite es) := by
  unfold Mach.rjWrite
  split
  · exact Kept.refl m
  · extract_lets all ev ret n
    have h1 : Kept m n := (Kept.refl m).recs ⟨rfl, rfl, rfl⟩
    clear_value n
    exact (h1.trans (kept_putJournal n _ _)).setFld _ _

theorem kept_evRet (ev : EvUnit) (ret : RetStore) : Kept m { m with ev := ev, ret := ret } := (Kept.refl m).recs ⟨rfl, rfl, rfl⟩

theorem kept_finalFlush : Kept m m.finalFlush := by
  unfold Mach.finalFlush
  extract_lets pend drop es m1 ev ret m2
  have h1 : Kept m m1 := kept_rjWrite m _
  have h2 : Kept m m2 := h1.trans (kept_evRet m1 _ _)
  clear_value m2
  split
  · exact h2
  · exact (h2.satFld _ _).setFlag _ _

theorem kept_saveStep : Kept m m.saveStep := by
  unfold Mach.saveStep
  split
  · exact Kept.refl m
  · split
    · extract_lets n m1
      have h1 : Kept m m1 := kept_putRec m _ _ _ _
      clear_value m1
      exact h1.trans (kept_ret m1 _)
    · exact Kept.refl m

theorem kept_saveChunks (k n : Nat) : Kept m (m.saveChunks k n) := by
  unfold Mach.saveChunks
  extract_lets s ret
  exact (kept_ret m _).trans (kept_saveStep _)

theorem kept_showRet : Kept m m.showRet := by
  unfold Mach.showRet
  extract_lets reclaim n
  have h : Kept m n := (((Kept.refl m).setFlag _ _).setFlag _ _).setFlag _ _
  exact h.trans (kept_stat n _ _)

theorem kept_beginSave (k : Nat) : Kept m (m.beginSave k) := by
  unfold Mach.beginSave
  extract_lets ran ret m1 gen n0 m2 m3
  have h1 : Kept m m1 := kept_ret m _
  clear_value m1
  have h2 : Kept m1 m2 := Kept.ite ((Kept.refl m1).foldM (fun c _ n => kept_putRec n _ _ _ _)) (Kept.refl m1)
  clear_value m2
  have h3 : Kept m2 m3 := Kept.ite (((kept_finalFlush m2).trans (kept_putRec _ _ _ _ _)).trans (kept_putRec _ _ _ _ _)) (Kept.refl m2)
  clear_value m3
  exact (((h1.trans h2).trans h3).trans (Kept.ite (kept_saveChunks m3 _ _) (Kept.refl m3))).trans (kept_showRet _)

theorem kept_resumeSave : Kept m m.resumeSave := by
  unfold Mach.resumeSave
  split
  · exact Kept.ite (Kept.refl m) (kept_beginSave m _)
  · exact Kept.refl m

/-! ### The transmit buffers -/

theorem kept_setBay (c : Nat) (x : Bay) : Kept m (m.setBay c x) := (Kept.refl m).recs ⟨rfl, rfl, rfl⟩

theorem kept_txFill (c n id : Nat) (d : List Byte) : Kept m (m.txFill c n id d) := by
  unfold Mach.txFill
  extract_lets x
  have h : Kept m x := (Kept.refl m).foldM (fun _ _ k => (Kept.refl k).rset _ _)
  clear_value x
  exact ((h.setFld _ _).setFld _ _).setFlag _ _

theorem kept_txCancel (c n : Nat) : Kept m (m.txCancel c n) := by
  unfold Mach.txCancel
  exact Kept.ite (Kept.ite (kept_setBay m _ _) (((Kept.refl m).setFlag _ _).setFlag _ _)) (Kept.refl m)

theorem kept_txRefill (c : Nat) : Kept m (m.txRefill c) := by
  unfold Mach.txRefill
  split
  · exact (kept_setBay m _ _).trans (kept_txFill _ _ _ _ _)
  · exact Kept.refl m

theorem kept_txDrop (c : Nat) (ids : List Nat) : Kept m (m.txDrop c ids) := by
  unfold Mach.txDrop
  extract_lets m1 _ m2
  have h1 : Kept m m1 := (Kept.refl m).foldM (fun _ _ k => kept_txCancel k _ _)
  have h2 : Kept m m2 := h1.trans (kept_setBay m1 _ _)
  exact h2.foldM (fun _ _ k => kept_txRefill k _)

/-! ### The acceptance of inputs -/

theorem kept_setPt (i : Nat) (x : Pt) : Kept m (m.setPt i x) := (calm_setPt m i x).toKept

theorem kept_showBlocked (i : Nat) : Kept m (m.showBlocked i) := by
  unfold Mach.showBlocked
  exact Kept.ite (((Kept.refl m).setFld _ _).setFlag _ _) ((Kept.refl m).setFld _ _)

theorem kept_accept (p : PtChange) : Kept m (m.accept p).2 := by
  have hsat : Kept m (if ((m.pt p.idx).sv != p.v) = true then m.satFld R.EVU_CHBLK_TRANS 1 else m) := Kept.ite ((Kept.refl m).satFld _ _) (Kept.refl m)
  unfold Mach.accept
  extract_lets o isTrans o' kept
  split
  · exact kept_setPt m _ _
  · split
    · split
      · exact hsat.trans (kept_setPt _ _ _)
      · exact hsat.trans (kept_setPt _ _ _)
    · split
      · dsimp only
        split
        · exact (kept_setPt m _ _).trans (kept_showBlocked _ _)
        · exact kept_setPt m _ _
      · exact kept_setPt m _ _

theorem kept_acceptAll (ps : List PtChange) : Kept m (m.acceptAll ps).2 := by
  induction ps generalizing m with
  | nil => exact Kept.refl m
  | cons p ps ih => exact (kept_accept m p).trans (ih _)

theorem kept_source (ps : List PtChange) : Kept m (m.source ps) := by
  have h := kept_acceptAll m (ps.foldr insPt [])
  unfold Mach.source Mach.sourceAt
  dsimp only
  exact Kept.ite (h.trans (stirs_change _ rfl).toKept) h

theorem kept_ownSource (ps : List PtChange) : Kept m (m.ownSource ps) := by
  unfold Mach.ownSource
  exact Kept.ite (kept_acceptAll m _) (kept_source m ps)

end Sys2Proof.Machine
end

section
/-!
SUPPORT. What the completion of an application runs beside its own writes (R45): audit, mover, journal, watchdog, display, outputs, publishers, forwarding and saves leave
the image, the commit unit, the tasks' marks, and the registers of tasks and CSN.
-/
namespace Sys2Proof.Machine
open Sys2Proof

/-! ### The relation -/

/-- A register a commit is recorded in: a task's, or the CSN's two words. -/
def commitReg (a : Nat) : Prop := a / 0x10000 = 7 ∨ a = 0x80000 ∨ a = 0x80004

/-- The register blocks but those of the tasks and the image. -/
abbrev sideBlocks : List Nat := [0, 1, 2, 3, 4, 5, 6, 9, 0xA, 0xB, 0xC, 0xD, 0xE, 0xF, 0x10, 0x11, 0x12]

/-- `n` is `Kept` from `m`, in the same state, with the registers a commit is recorded in but those that count events. -/
structure Past (m n : Mach) : Prop extends Kept m n where
  st : n.st = m.st
  regs : ∀ a, evAddr a = false → commitReg a → n.rget a = m.rget a

namespace Past

variable {m n x : Mach}

theorem refl (m : Mach) : Past m m := ⟨Kept.refl m, rfl, fun _ _ _ => rfl⟩

theorem trans (h : Past m n) (g : Past n x) : Past m x :=
  ⟨h.toKept.trans g.toKept, g.st.trans h.st, fun a he ha => (g.regs a he ha).trans (h.regs a he ha)⟩

theorem of_within (hk : Kept m n) (hw : Within sideBlocks m n) : Past m n := by
  refine ⟨hk, hw.st, fun a he ha => hw.regs a he ?_⟩
  have hb : a / 0x10000 = 7 ∨ a / 0x10000 = 8 := by
    rcases ha with ha | ha | ha <;> omega
  rcases hb with hb | hb <;> rw [hb] <;> decide

theorem of_but (hk : Kept m n) (hr : RestBut m n) : Past m n := of_within hk ((Within.refl m).but hr)

theorem of_rest (hk : Kept m n) (hr : Rest m n) : Past m n := of_within hk ((Within.refl m).rest hr)

/-- A change of other records. -/
theorem recs (h : Past m n) (hx : x.img = n.img ∧ x.cu = n.cu ∧ x.tasks = n.tasks ∧ x.st = n.st ∧ x.regs = n.regs) : Past m x := by
  obtain ⟨hi, hc, ht, hs, hr⟩ := hx
  exact ⟨h.toKept.recs ⟨hi, hc, ht⟩, hs.trans h.st, fun a he ha => (Mach.rget_congr hr a).trans (h.regs a he ha)⟩

theorem rset (h : Past m n) {a : Nat} (w : Word) (ha : ¬ commitReg a) : Past m (n.rset a w) :=
  ⟨h.toKept.rset a w, h.st, fun b he hb => (n.rget_rset_ne (by rintro rfl; exact ha hb) w).trans (h.regs b he hb)⟩

theorem setFld (h : Past m n) {f : Fld} (v : Nat) (ha : ¬ commitReg f.addr) : Past m (n.setFld f v) := h.rset _ ha
theorem setFlag (h : Past m n) {f : Fld} (v : Bool) (ha : ¬ commitReg f.addr) : Past m (n.setFlag f v) := h.rset _ ha
theorem addFld (h : Past m n) {f : Fld} (v : Nat) (ha : ¬ commitReg f.addr) : Past m (n.addFld f v) := h.rset _ ha
theorem satFld (h : Past m n) {f : Fld} (v : Nat) (ha : ¬ commitReg f.addr) : Past m (n.satFld f v) := h.rset _ ha
theorem maxFld (h : Past m n) {f : Fld} (v : Nat) (ha : ¬ commitReg f.addr) : Past m (n.maxFld f v) := h.rset _ ha
theorem setFld64 (h : Past m n) {f : Fld} (v : Nat) (ha : ¬ commitReg f.addr) (ha' : ¬ commitReg (f.addr + 4)) : Past m (n.setFld64 f v) :=
  (h.rset _ ha).rset _ ha'

theorem foldM {α : Type} {f : α → Mach → Mach} {xs : List α} (h : Past m n) (hf : ∀ y ∈ xs, ∀ z, Past z (f y z)) : Past m (foldM xs f n) :=
  foldM_inv (Past m) f xs (fun y hy z hz => hz.trans (hf y hy z)) n h

theorem ite {p : Prop} [Decidable p] {y : Mach} (hx : Past m x) (hy : Past m y) : Past m (if p then x else y) := by
  split
  · exact hx
  · exact hy

end Past

variable (m : Mach)

theorem past_sup (x : Sup) : Past m { m with sup := x } := (Past.refl m).recs ⟨rfl, rfl, rfl, rfl, rfl⟩
theorem past_ret (x : RetStore) : Past m { m with ret := x } := (Past.refl m).recs ⟨rfl, rfl, rfl, rfl, rfl⟩
theorem past_mov (x : Mov) : Past m { m with mov := x } := (Past.refl m).recs ⟨rfl, rfl, rfl, rfl, rfl⟩
theorem past_dsp (x : Dsp) : Past m { m with dsp := x } := (Past.refl m).recs ⟨rfl, rfl, rfl, rfl, rfl⟩
theorem past_sp (x : Ports) : Past m { m with sp := x } := (Past.refl m).recs ⟨rfl, rfl, rfl, rfl, rfl⟩

/-! ### Journal, faults and qualities -/

theorem past_journal (t p k f : Nat) : Past m (m.journal t p k f) := .of_rest (logs_journal m _ _ _ _).calm.toKept (rest_journal m _ _ _ _)
theorem past_note (c : Nat) : Past m (m.note c) := .of_rest (logs_sysEvent m _ _ _).calm.toKept (rest_note m c)
theorem past_info (c : Nat) : Past m (m.info c) := .of_rest (logs_sysEvent m _ _ _).calm.toKept (rest_info m c)
theorem past_linkSend (ty : Nat) (p : List Byte) : Past m (m.linkSend ty p) := .of_rest (logs_linkSend m ty p).calm.toKept (rest_linkSend m ty p)
theorem past_flushStream : Past m m.flushStream := .of_rest (logs_flushStream m).calm.toKept (rest_flushStream m)
theorem past_startYield (r : Nat) : Past m (m.startYield r) := .of_rest (kept_startYield m r) (rest_startYield m r)
theorem past_clear (c s k : Nat) : Past m (m.clear c s k) := .of_but (kept_clear m _ _ _) (but_clear m _ _ _)
theorem past_ownSource (ps : List PtChange) : Past m (m.ownSource ps) := by
  refine .of_rest (kept_ownSource m ps) ?_
  unfold Mach.ownSource
  split
  · exact rest_acceptAll m _
  · exact rest_source m ps

/-! ### Audit, mover and retained chunks (R148, R431, R452) -/

theorem past_auditAbandon : Past m m.auditAbandon := by
  have h1 : ¬ commitReg R.DIAG_AUD_BUSY.addr := by unfold commitReg; decide
  have h2 : ¬ commitReg R.DIAG_AUDSKIP.addr := by unfold commitReg; decide
  unfold Mach.auditAbandon Mach.auditDrop
  exact Past.ite ((((past_sup m _).setFlag _ h1).satFld _ h2).trans (past_note _ _)) (Past.refl m)

theorem past_auditKeep (keys : List Nat) (size : Nat → Nat) (trk : Nat → Nat → Bool) : Past m (m.auditKeep keys size trk) := by
  unfold Mach.auditKeep
  split
  · exact Past.refl m
  · exact Past.ite (past_auditAbandon m) (past_sup m _)

theorem past_movPreserve (keys : List Nat) : Past m (m.movPreserve keys) := by
  have h1 : ¬ commitReg R.MOV_PRESV_CUR.addr := by unfold commitReg; decide
  have h2 : ¬ commitReg R.MOV_PRESV_MAX.addr := by unfold commitReg; decide
  unfold Mach.movPreserve Mach.showPresv
  exact ((past_mov m _).setFld _ h1).maxFld _ h2

theorem past_markDirty (keys : List Nat) : Past m (m.markDirty keys) := by
  unfold Mach.markDirty
  exact past_ret m _

theorem past_movQueue {c : Nat} (i : Nat) (hc : c < 16) : Past m (m.movQueue c i) := by
  have h1 : ¬ commitReg (R.MOV_CH_STAT_QOVF c).addr := by simp only [commitReg, R.MOV_CH_STAT_QOVF]; omega
  have h2 : ¬ commitReg (R.MOV_CH_DROP_QFULL c).addr := by simp only [commitReg, R.MOV_CH_DROP_QFULL]; omega
  have h3 : ¬ commitReg (R.MOV_CH_STAT_QLEN c).addr := by simp only [commitReg, R.MOV_CH_STAT_QLEN]; omega
  unfold Mach.movQueue
  exact Past.ite (Past.ite (((Past.refl m).setFlag _ h1).satFld _ h2) ((past_mov m _).setFld _ h3)) (Past.refl m)

theorem past_movCommit {ds : List Deferred} (hd : ∀ c i, .mvrq c i ∈ ds → c < 16) : Past m (m.movCommit ds) := by
  refine (Past.refl m).foldM (fun d hm n => ?_)
  cases d with
  | mvrq c i => exact past_movQueue n i (hd c i hm)
  | wdck s => exact Past.refl n

/-! ### Check-ins (R157, R431) -/

theorem past_checkIn {n : Nat} (hn : n < 32) : Past m (m.checkIn n) := by
  have h1 : ¬ commitReg (R.WDG_SLOT_LAST_LO n).addr := by simp only [commitReg, R.WDG_SLOT_LAST_LO]; omega
  have h2 : ¬ commitReg ((R.WDG_SLOT_LAST_LO n).addr + 4) := by simp only [commitReg, R.WDG_SLOT_LAST_LO]; omega
  have h3 : ¬ commitReg (R.WDG_SLOT_CNT_CHECKS n).addr := by simp only [commitReg, R.WDG_SLOT_CNT_CHECKS]; omega
  have h4 : ¬ commitReg (diBit R.WDG_AMBER_LO n).addr := by simp only [commitReg, diBit, R.WDG_AMBER_LO]; omega
  unfold Mach.checkIn
  refine Past.ite ?_ (Past.refl m)
  extract_lets m1
  have hs : Past m m1 := ((past_sup m _).setFld64 _ h1 h2).addFld _ h3
  clear_value m1
  unfold Mach.amberEnd
  exact Past.ite ((hs.setFlag _ h4).trans (past_clear _ _ _ _)) hs

theorem past_commitCheckIns (ds : List Deferred) : Past m (m.commitCheckIns ds) := by
  unfold Mach.commitCheckIns
  extract_lets slots
  have hslots : ∀ n ∈ slots.eraseDups, n < 32 := fun n hn => by
    obtain ⟨d, -, hd⟩ := List.mem_filterMap.mp (List.mem_eraseDups.mp hn)
    cases d with
    | wdck s =>
      dsimp only at hd
      split at hd
      · rename_i h
        exact (Option.some.inj hd) ▸ h
      · cases hd
    | mvrq c i => cases hd
  refine (Past.refl m).foldM (fun n hn x => ?_)
  have hn := hslots n hn
  have h1 : ¬ commitReg (diBit R.WDG_DBL_LO n).addr := by simp only [commitReg, diBit, R.WDG_DBL_LO]; omega
  have h : Past x (x.checkIn n) := past_checkIn x hn
  exact Past.ite ((h.setFlag _ h1).trans (past_note _ _)) h

/-! ### Display, control bits and outputs (R185) -/

theorem past_showPage (p mode : Nat) : Past m (m.showPage p mode) := .of_within (kept_showPage m p mode) (within_showPage m p mode (by decide))

theorem past_dspCommit (old : Nat → Bool) : Past m (m.dspCommit old) := by
  unfold Mach.dspCommit
  split
  · extract_lets rose page changed m1 m2 d m3 m4
    have h1 : Past m m1 := Past.ite (past_dsp m _) (Past.refl m)
    clear_value m1
    have h2 : Past m1 m2 := Past.ite (past_dsp m1 _) (Past.refl m1)
    clear_value m2
    have h3 : Past m2 m3 := past_dsp m2 _
    clear_value m3
    have h4 : Past m3 m4 := Past.ite (Past.ite (past_showPage m3 _ _) (past_note m3 _)) (Past.refl m3)
    clear_value m4
    exact ((h1.trans h2).trans (h3.trans h4)).trans (Past.ite (past_showPage m4 _ _) (Past.refl m4))
  · exact Past.ite (past_note m _) (Past.refl m)

theorem past_controlBits (old : Nat → Bool) : Past m (m.controlBits old) := by
  unfold Mach.controlBits
  extract_lets rose m1
  have h1 : Past m m1 := Past.ite (past_info m _) (Past.refl m)
  exact Past.ite (h1.trans (past_startYield m1 _)) h1

theorem past_doClear (n : Nat) {f : Fld} (code sub : Nat) (hf : ¬ commitReg f.addr) : Past m (m.doClear n f code sub) := by
  unfold Mach.doClear Mach.doQuality
  exact Past.ite ((((Past.refl m).setFlag _ hf).trans (past_clear _ _ _ _)).trans (past_ownSource _ _)) (Past.refl m)

theorem past_rearmGroup {h : Nat} (hh : h < 2) : Past m (m.rearmGroup h) := by
  have h1 : ¬ commitReg (R.FIO_DOG_STAT_GTRIP h).addr := by simp only [commitReg, R.FIO_DOG_STAT_GTRIP]; omega
  unfold Mach.rearmGroup Mach.doQuality
  exact Past.ite ((((Past.refl m).setFlag _ h1).trans (past_clear _ _ _ _)).trans (past_ownSource _ _)) (Past.refl m)

theorem past_imageRearm : Past m m.imageRearm := by
  unfold Mach.imageRearm
  extract_lets m1
  have h1 : Past m m1 := (Past.refl m).foldM (fun n hn x => by
    have hn := List.mem_range.mp hn
    have ha : ¬ commitReg (R.FIO_DO_STAT_OVL n).addr := by simp only [commitReg, R.FIO_DO_STAT_OVL]; omega
    have hb : ¬ commitReg (R.FIO_DO_STAT_OTMP n).addr := by simp only [commitReg, R.FIO_DO_STAT_OTMP]; omega
    exact Past.ite (Past.refl x) ((past_doClear x n _ _ ha).trans (past_doClear _ n _ _ hb)))
  exact h1.foldM (fun h hh x => Past.ite (Past.refl x) (past_rearmGroup x (mem_channels.mp hh)))

/-! ### Stations, publishers and the partner (R225, R279, R283, R289) -/

theorem past_setBay (c : Nat) (x : Bay) : Past m (m.setBay c x) := .of_within (kept_setBay m c x) (within_setBay m c x)

/-- The buffer offered to the bus is one of the 32. -/
theorem txNext_lt {c n : Nat} (h : m.txNext c = some n) : n < 32 := by
  unfold Mach.txNext at h
  refine List.foldlRecOn (motive := fun b : Option Nat => ∀ k, b = some k → k < 32) _ _ (fun k hk => by cases hk) (fun b hb x hx k hk => ?_) n h
  have hx : x < 32 := List.mem_range.mp (List.mem_of_mem_filter hx)
  cases b with
  | none => exact (Option.some.inj hk) ▸ hx
  | some j =>
    dsimp only at hk
    split at hk
    · exact (Option.some.inj hk) ▸ hx
    · exact (Option.some.inj hk) ▸ hb j rfl

theorem past_txKick {c : Nat} (hc : c < 2) : Past m (m.txKick c) := by
  unfold Mach.txKick
  refine Past.ite ?_ (Past.refl m)
  split
  · rename_i n hn
    have hn : n < 32 := txNext_lt m hn
    have h1 : ¬ commitReg (R.BB_TXBUF_CTRL_BUSY c n).addr := by simp only [commitReg, R.BB_TXBUF_CTRL_BUSY]; omega
    exact ((Past.refl m).setFlag _ h1).trans (past_setBay _ _ _)
  · exact Past.refl m

theorem past_canSend {c : Nat} (id : Nat) (d : List Byte) (hc : c < 2) : Past m (m.canSend c id d) := by
  unfold Mach.canSend
  split
  · rename_i n hn
    have hn : n < 32 := List.mem_range.mp (List.mem_of_find?_eq_some hn)
    exact (Past.of_within (kept_txFill m _ _ _ _) (within_txFill m _ _ hc hn (by decide))).trans (past_txKick _ hc)
  · exact past_setBay m _ _

theorem past_sendOutu {c : Nat} (s csn t : Nat) (hc : c < 2) : Past m (m.sendOutu c s csn t) := by
  unfold Mach.sendOutu
  exact (Past.of_within (kept_txDrop m _ _) (within_txDrop m _ hc (by decide))).trans (past_canSend _ _ _ hc)

theorem past_sendChanged (qs : List Nat) (csn t : Nat) : Past m (m.sendChanged qs csn t) := by
  unfold Mach.sendChanged
  exact Past.ite ((Past.refl m).foldM (fun c hc n => (Past.refl n).foldM (fun s _ x =>
    Past.ite (past_sendOutu x s csn t (mem_channels.mp hc)) (Past.refl x)))) (Past.refl m)

theorem past_portSend1 {p : Nat} (r : Option Rct) (f : PortOut) (hp : p < 2) : Past m (m.portSend1 p r f) := by
  have h1 : ¬ commitReg (R.STA_SP_TXFRM p).addr := by simp only [commitReg, R.STA_SP_TXFRM]; omega
  unfold Mach.portSend1
  exact Past.ite (((Past.refl m).recs (by exact ⟨rfl, rfl, rfl, rfl, rfl⟩)).addFld _ h1) (Past.refl m)

theorem past_portSend (f : PortOut) : Past m (m.portSend f) := by
  unfold Mach.portSend
  extract_lets s sp n
  have h : Past m n := past_sp m _
  clear_value n
  have h0 : Past n (n.portSend1 0 (some (n.rctOf s 0)) f) := past_portSend1 n _ f (by decide)
  exact Past.ite ((h.trans h0).trans (past_portSend1 _ _ f (by decide))) (past_portSend1 m _ f (by decide))

theorem past_pubSend {b : Nat} (p : GPub) (r : GRun) (hb : b < 32) : Past m (m.pubSend b p r) := by
  have h1 : ¬ commitReg (R.STA_GPUB_STNUM b).addr := by simp only [commitReg, R.STA_GPUB_STNUM]; omega
  have h2 : ¬ commitReg (R.STA_GPUB_SQNUM b).addr := by simp only [commitReg, R.STA_GPUB_SQNUM]; omega
  have h3 : ¬ commitReg (R.STA_GPUB_TXCNT b).addr := by simp only [commitReg, R.STA_GPUB_TXCNT]; omega
  unfold Mach.pubSend
  extract_lets go sp n
  have h : Past m n := past_sp m _
  clear_value n
  exact Past.ite ((((h.trans (past_portSend n _)).setFld _ h1).setFld _ h2).addFld _ h3) h

theorem past_pubCommit (old : Mach) (t : Nat) : Past m (m.pubCommit old t) := by
  unfold Mach.pubCommit
  refine Past.ite ((Past.refl m).foldM (fun b hb n => ?_)) (Past.refl m)
  have hb := List.mem_range.mp hb
  have h1 : ¬ commitReg (R.STA_GPUB_CFG_ACTIVE b).addr := by simp only [commitReg, R.STA_GPUB_CFG_ACTIVE]; omega
  split
  · refine Past.ite ?_ (Past.refl n)
    unfold Mach.pubState
    exact (((Past.refl n).setFlag _ h1).trans (past_pubSend _ _ _ hb)).trans (past_linkSend _ _ _)
  · exact Past.refl n

theorem past_forwardCommit (a : App) (swap : Bool) : Past m (m.forwardCommit a swap) := by
  unfold Mach.forwardCommit
  refine Past.ite ?_ (Past.refl m)
  extract_lets m1 pair m2
  have h1 : Past m m1 := (past_flushStream m).trans (past_linkSend _ _ _)
  clear_value m1
  have h2 : Past m1 m2 := (Past.refl m1).recs ⟨rfl, rfl, rfl, rfl, rfl⟩
  clear_value m2
  refine (h1.trans h2).trans (Past.ite ?_ (Past.refl m2))
  exact (Past.refl m2).foldM (fun _ _ x => past_linkSend x _ _)

/-! ### The start-up's end and a save that waits (R451, R563) -/

theorem past_firstCommit : Past m m.firstCommit := by
  have h1 : ¬ commitReg R.PWR_STARTDUR_TIME.addr := by unfold commitReg; decide
  unfold Mach.firstCommit
  split
  · exact Past.setFld ((Past.refl m).recs (by exact ⟨rfl, rfl, rfl, rfl, rfl⟩)) _ h1
  · exact Past.refl m

theorem past_setQuad (q : Nat) (x : Quad) : Past m (m.setQuad q x) := (Past.refl m).recs ⟨rfl, rfl, rfl, rfl, rfl⟩
theorem past_setEng (e : Nat) (x : Eng) : Past m (m.setEng e x) := (Past.refl m).recs ⟨rfl, rfl, rfl, rfl, rfl⟩

theorem past_quadOff (q : Nat) : Past m (m.quadOff q) := by
  have h1 : ¬ commitReg R.PWR_DOM_ON.addr := by unfold commitReg; decide
  unfold Mach.quadOff Mach.domain
  extract_lets m1
  have hm : Past m m1 := (past_setQuad m q _).setFlag _ h1
  refine hm.foldM (fun i _ n => ?_)
  dsimp only
  split
  · exact past_setEng n _ _
  · exact past_setEng n _ _
  · exact Past.refl n

theorem past_savePending : Past m m.savePending := by
  unfold Mach.savePending Mach.saveQuads
  extract_lets m1
  have h1 : Past m m1 := Past.ite ((Past.refl m).foldM (fun q _ n => Past.ite (past_quadOff n q) (Past.refl n))) (Past.refl m)
  exact h1.trans (.of_within (kept_resumeSave m1) (within_resumeSave m1 (by decide) (by decide)))

end Sys2Proof.Machine
end

section
/-!
PROOF. Applications start and complete (O21).
-/
namespace Sys2Proof.Machine
open Sys2Proof

variable (m : Mach)

/-! ### 64-bit registers -/

theorem fld64_setFld64_same (f : Fld) (v : Nat) : (m.setFld64 f v).fld64 f = v % 2 ^ 64 := by
  have h0 : (m.setFld64 f v).rget f.addr = BitVec.ofNat 32 v := (Mach.rget_rset_ne _ (by omega) _).trans (Mach.rget_rset_same _ _ _)
  have h1 : (m.setFld64 f v).rget (f.addr + 4) = BitVec.ofNat 32 (v / 2 ^ 32) := Mach.rget_rset_same _ _ _
  rw [Mach.fld64, h0, h1, BitVec.toNat_ofNat, BitVec.toNat_ofNat]
  omega

theorem fld64_congr {n : Mach} {f : Fld} (h : n.rget f.addr = m.rget f.addr) (h' : n.rget (f.addr + 4) = m.rget (f.addr + 4)) : n.fld64 f = m.fld64 f := by
  rw [Mach.fld64, h, h', Mach.fld64]

theorem fld64_setFld_ne {f g : Fld} (v : Nat) (h : f.addr ≠ g.addr) (h' : f.addr + 4 ≠ g.addr) : (m.setFld g v).fld64 f = m.fld64 f :=
  fld64_congr m (m.rget_setFld_ne _ _ h) (m.rget_setFld_ne _ _ h')

theorem fld64_setFld64_ne {f g : Fld} (v : Nat) (h : f.addr + 8 ≤ g.addr ∨ g.addr + 8 ≤ f.addr) : (m.setFld64 g v).fld64 f = m.fld64 f :=
  fld64_congr m (m.rget_setFld64_ne (by omega) (by omega)) (m.rget_setFld64_ne (by omega) (by omega))

theorem csn_eq_of_past {n : Mach} (h : Past m n) : n.csn = m.csn :=
  fld64_congr m (h.regs _ (by decide) (.inr (.inl rfl))) (h.regs _ (by decide) (.inr (.inr rfl)))

/-! ### The start (R36, R38, R41) -/

theorem csnNext_lt (c : Nat) : csnNext c < 2 ^ 48 := by
  unfold csnNext
  split
  · decide
  · omega

/-- The audit's choice of a commit is noted in its own record (R431). -/
theorem auditSelect_sup (k : Nat) (sc : Scan) : ∃ x, m.auditSelect k sc = { m with sup := x } := by
  unfold Mach.auditSelect
  extract_lets ks
  split
  · exact ⟨_, rfl⟩
  · exact ⟨_, rfl⟩

/-- What the start of an application leaves beside its own record. -/
structure Started (m n : Mach) (k csn : Nat) : Prop where
  img : n.img = m.img
  engs : n.engs = m.engs
  pts : n.pts = m.pts
  commit : (n.task k).inCommit = true
  csn : n.csn = csn

theorem Started.maxFld {n : Mach} {k csn : Nat} (h : Started m n k csn) {f : Fld} (v : Nat) (h0 : R.IMG_CSN_LO.addr ≠ f.addr) (h1 : R.IMG_CSN_LO.addr + 4 ≠ f.addr) :
    Started m (n.maxFld f v) k csn :=
  ⟨h.img, h.engs, h.pts, h.commit, (fld64_setFld_ne n _ h0 h1).trans h.csn⟩

theorem Started.unit {n : Mach} {k csn : Nat} (h : Started m n k csn) (x : CmtUnit) : Started m { n with cu := x } k csn :=
  ⟨h.img, h.engs, h.pts, h.commit, h.csn⟩

theorem started_csnSet {n : Mach} {k csn : Nat} (hc : csn < 2 ^ 48) (hi : n.img = m.img ∧ n.engs = m.engs ∧ n.pts = m.pts) :
    Started m ((n.setFld64 R.IMG_CSN_LO csn).setTask k { n.task k with inCommit := true }) k csn := by
  obtain ⟨hi, he, hp⟩ := hi
  refine ⟨hi, he, hp, congrArg Task.inCommit (Mach.task_setTask_same _ _ _), ?_⟩
  exact (fld64_setFld64_same n R.IMG_CSN_LO csn).trans (Nat.mod_eq_of_lt (by omega))

theorem appStart_does (k : Nat) (sc : Scan) :
    Started m (m.appStart k sc) k (csnNext m.csn) ∧ (m.appStart k sc).cu.app = some (m.appOf k sc (csnNext m.csn)) := by
  obtain ⟨x, hs⟩ := auditSelect_sup m k sc
  unfold Mach.appStart
  extract_lets csn a m1 tk m2 m3
  have h1 : m1.img = m.img ∧ m1.engs = m.engs ∧ m1.pts = m.pts := by
    simp only [m1, hs, and_self]
  have h2 : Started m m2 k csn := started_csnSet m (csnNext_lt _) h1
  clear_value m2
  have h3 : Started m m3 k csn := h2.maxFld m _ (by decide) (by decide)
  clear_value m3
  exact ⟨h3.unit m _, rfl⟩

/-- A free unit with a scan to apply starts its application (R39). -/
theorem commitNext_eq {k : Nat} {sc : Scan} (hst : m.st = .run) (ht : m.hasToken = true) (ha : m.cu.app = none) (hn : m.cu.nextStart ≤ m.now)
    (ho : m.olc.mapped = false) (hh : m.nextHeld = some (k, sc)) : m.commitNext = m.appStart k sc := by
  have hswap : m.swapReady = false := by simp [Mach.swapReady, ho]
  unfold Mach.commitNext
  rw [if_pos (by simp [hst, ht, ha, hn, hswap]), hh]

/-! ### The entries in the image (R36, R206) -/

theorem keySp_ikey_of_keyIdx (sp key : Nat) : keySp (ikey sp (keyIdx key)) = sp := by
  simp only [keySp, keyIdx, ikey]
  omega

/-- One entry written: its cell, and the PRIMED mark of an edge cell. -/
def Mach.writeEntry (m : Mach) (e : Nat × CellV) : Mach :=
  let n := { m with img := sset 0 m.img e.1 e.2 }
  if keySp e.1 = spE then n.setCell spPrimed (keyIdx e.1) 0 else n

theorem writeEntry_img (e : Nat × CellV) {key : Nat} (hk : keySp key ≠ spPrimed) :
    sget 0 (m.writeEntry e).img key = if key = e.1 then e.2 else sget 0 m.img key := by
  have hne : key ≠ ikey spPrimed (keyIdx e.1) := fun h => hk (by rw [h, keySp_ikey_of_keyIdx])
  have hset : sget 0 (sset 0 m.img e.1 e.2) key = if key = e.1 then e.2 else sget 0 m.img key := by
    split
    · rename_i h
      rw [h, sget_sset_same]
    · rename_i h
      rw [sget_sset_ne _ _ _ _ h]
  unfold Mach.writeEntry
  extract_lets n
  split
  · rw [show (n.setCell spPrimed (keyIdx e.1) 0).img = sset 0 n.img (ikey spPrimed (keyIdx e.1)) 0 from rfl, sget_sset_ne _ _ _ _ hne]
    exact hset
  · exact hset

theorem writeEntry_recs (e : Nat × CellV) : m.writeEntry e = { m with img := (m.writeEntry e).img } := by
  unfold Mach.writeEntry
  extract_lets n
  split <;> rfl

theorem writeEntries_cons (e : Nat × CellV) (es : List (Nat × CellV)) : m.writeEntries (e :: es) = (m.writeEntry e).writeEntries es := rfl

theorem writeEntries_recs (es : List (Nat × CellV)) : m.writeEntries es = { m with img := (m.writeEntries es).img } := by
  induction es generalizing m with
  | nil => rfl
  | cons e es ih =>
    have h := ih (m.writeEntry e)
    rw [writeEntries_cons]
    generalize (m.writeEntry e).writeEntries es = n at h
    rw [writeEntry_recs m e] at h
    exact h

/-- An element no entry names stays as it was. -/
theorem writeEntries_ne (es : List (Nat × CellV)) {key : Nat} (hk : keySp key ≠ spPrimed) (hn : key ∉ es.map (·.1)) :
    sget 0 (m.writeEntries es).img key = sget 0 m.img key := by
  induction es generalizing m with
  | nil => rfl
  | cons e es ih =>
    rw [List.map_cons, List.mem_cons, not_or] at hn
    rw [writeEntries_cons, ih _ hn.2, writeEntry_img m e hk, if_neg hn.1]

/-- Each element an entry names holds that entry. -/
theorem writeEntries_mem (es : List (Nat × CellV)) (hd : (es.map (·.1)).Nodup) (hp : ∀ x ∈ es, keySp x.1 ≠ spPrimed) :
    ∀ x ∈ es, sget 0 (m.writeEntries es).img x.1 = x.2 := by
  induction es generalizing m with
  | nil => exact fun x hx => absurd hx (List.not_mem_nil)
  | cons e es ih =>
    obtain ⟨hne, hd⟩ := List.nodup_cons.mp hd
    intro x hx
    rw [writeEntries_cons]
    rcases List.mem_cons.mp hx with rfl | hx
    · rw [writeEntries_ne _ _ (hp x (List.mem_cons_self ..)) hne, writeEntry_img m x (hp x (List.mem_cons_self ..)), if_pos rfl]
    · exact ih _ hd (fun y hy => hp y (List.mem_cons_of_mem _ hy)) x hx

/-! ### The commit record (R43, R225) -/

/-- The registers of a task a commit is recorded in. -/
structure Recorded (m n : Mach) (a : App) : Prop where
  csn : n.fld64 (R.TSK_LCSN_LO a.task) = a.csn % 2 ^ 64
  snap : n.fld64 (R.TSK_LSNAP_LO a.task) = a.snapTime % 2 ^ 64
  digest : n.fld64 (R.TSK_LDIG_LO a.task) = a.digest.toNat
  commits : n.fld (R.TSK_COMMITS a.task) = (m.fld (R.TSK_COMMITS a.task) + 1) % 2 ^ 32

/-- The record as the registers take it. -/
def Mach.commitRegs (m : Mach) (a : App) : Mach :=
  let n := (((m.setFld64 (R.TSK_LCSN_LO a.task) a.csn).setFld64 (R.TSK_LSNAP_LO a.task) a.snapTime).setFld64 (R.TSK_LCMT_LO a.task) m.now).setFld64
    (R.TSK_LDIG_LO a.task) a.digest.toNat
  (n.addFld (R.TSK_COMMITS a.task) 1).maxFld (R.TSK_RESPMAX a.task) ((n.now - a.snapTime) / 10)

theorem commitRegs_recorded (a : App) : Recorded m (m.commitRegs a) a := by
  have hdig : a.digest.toNat % 2 ^ 64 = a.digest.toNat := Nat.mod_eq_of_lt a.digest.isLt
  unfold Mach.commitRegs
  extract_lets n
  have hc : n.fld64 (R.TSK_LCSN_LO a.task) = a.csn % 2 ^ 64 := by
    simp only [n]
    rw [fld64_setFld64_ne _ _ (by simp only [R.TSK_LCSN_LO, R.TSK_LDIG_LO]; omega), fld64_setFld64_ne _ _ (by simp only [R.TSK_LCSN_LO, R.TSK_LCMT_LO]; omega),
      fld64_setFld64_ne _ _ (by simp only [R.TSK_LCSN_LO, R.TSK_LSNAP_LO]; omega), fld64_setFld64_same]
  have hs : n.fld64 (R.TSK_LSNAP_LO a.task) = a.snapTime % 2 ^ 64 := by
    simp only [n]
    rw [fld64_setFld64_ne _ _ (by simp only [R.TSK_LSNAP_LO, R.TSK_LDIG_LO]; omega), fld64_setFld64_ne _ _ (by simp only [R.TSK_LSNAP_LO, R.TSK_LCMT_LO]; omega),
      fld64_setFld64_same]
  have hd : n.fld64 (R.TSK_LDIG_LO a.task) = a.digest.toNat := (fld64_setFld64_same _ _ _).trans hdig
  have hw : n.rget (R.TSK_COMMITS a.task).addr = m.rget (R.TSK_COMMITS a.task).addr := by
    simp only [n]
    rw [Mach.rget_setFld64_ne, Mach.rget_setFld64_ne, Mach.rget_setFld64_ne, Mach.rget_setFld64_ne] <;>
      simp only [R.TSK_COMMITS, R.TSK_LDIG_LO, R.TSK_LCMT_LO, R.TSK_LSNAP_LO, R.TSK_LCSN_LO] <;> omega
  clear_value n
  have h64 {f : Fld} (v : Nat) (h0 : f.addr ≠ (R.TSK_RESPMAX a.task).addr) (h1 : f.addr + 4 ≠ (R.TSK_RESPMAX a.task).addr)
      (h2 : f.addr ≠ (R.TSK_COMMITS a.task).addr) (h3 : f.addr + 4 ≠ (R.TSK_COMMITS a.task).addr) :
      ((n.addFld (R.TSK_COMMITS a.task) 1).maxFld (R.TSK_RESPMAX a.task) v).fld64 f = n.fld64 f :=
    (fld64_setFld_ne _ _ h0 h1).trans (fld64_setFld_ne _ _ h2 h3)
  refine ⟨(h64 _ ?_ ?_ ?_ ?_).trans hc, (h64 _ ?_ ?_ ?_ ?_).trans hs, (h64 _ ?_ ?_ ?_ ?_).trans hd, ?_⟩
  case refine_13 =>
    have hr : (R.TSK_COMMITS a.task).addr ≠ (R.TSK_RESPMAX a.task).addr := by simp only [R.TSK_COMMITS, R.TSK_RESPMAX]; omega
    have hm : n.fld (R.TSK_COMMITS a.task) = m.fld (R.TSK_COMMITS a.task) := by rw [Mach.fld, hw, Mach.fld]
    rw [Mach.maxFld, Mach.fld, Mach.rget_setFld_ne _ _ _ hr, ← Mach.fld, fld_addFld_same _ _ (show 0 + 32 ≤ 32 by decide), hm]
    rfl
  all_goals
    simp only [R.TSK_COMMITS, R.TSK_RESPMAX, R.TSK_LDIG_LO, R.TSK_LSNAP_LO, R.TSK_LCSN_LO]
    omega

/-- A recorded commit stays recorded through what leaves its registers. -/
theorem Recorded.past {n x : Mach} {a : App} (h : Recorded m n a) (hp : Past n x) (hk : a.task < 32) : Recorded m x a := by
  have hreg {o : Nat} (ho : o < 0x80) (h1 : o ≠ 0xC) (h2 : o ≠ 0x40) (h3 : o ≠ 0x44) :
      x.rget (0x70000 + o + 0x80 * a.task) = n.rget (0x70000 + o + 0x80 * a.task) := by
    have hb : (0x70000 + o + 0x80 * a.task) / 0x10000 = 7 := by omega
    exact hp.regs _ (evAddr_tsk hb (by omega) (by omega) (by omega)) (.inl hb)
  have h64 {o : Nat} {f : Fld} (hf : f.addr = 0x70000 + o + 0x80 * a.task) (ho : 0x4C ≤ o) (ho' : o < 0x70) : x.fld64 f = n.fld64 f := by
    have h4 : f.addr + 4 = 0x70000 + (o + 4) + 0x80 * a.task := by omega
    refine fld64_congr n ?_ ?_
    · rw [hf]
      exact hreg (by omega) (by omega) (by omega) (by omega)
    · rw [h4]
      exact hreg (by omega) (by omega) (by omega) (by omega)
  refine ⟨(h64 (o := 0x4C) rfl (by decide) (by decide)).trans h.csn, (h64 (o := 0x54) rfl (by decide) (by decide)).trans h.snap,
    (h64 (o := 0x64) rfl (by decide) (by decide)).trans h.digest, ?_⟩
  have hc : x.rget (R.TSK_COMMITS a.task).addr = n.rget (R.TSK_COMMITS a.task).addr := hreg (o := 0x3C) (by decide) (by decide) (by decide) (by decide)
  rw [Mach.fld, hc, ← Mach.fld, h.commits]

theorem recordCommit_past (a : App) : Past (m.commitRegs a) (m.recordCommit a) := by
  have hentry (n : Mach) (k kind t : Nat) : Past n (n.commitEntry k kind t) := past_journal n _ _ _ _
  unfold Mach.recordCommit
  extract_lets k m1 m2 sel m3
  have h1 : Past (m.commitRegs a) m2 := Past.refl m2
  clear_value m2
  have h3 : Past (m.commitRegs a) m3 :=
    Past.ite ((((h1.trans (hentry m2 _ _ _)).trans (hentry _ _ _ _)).trans (hentry _ _ _ _)).trans (hentry _ _ _ _)) h1
  exact h3.foldM (fun q _ n => past_journal n _ _ _ _)

/-! ### The completion (R36, R45) -/

theorem past_squashVictim (w csn : Nat) {v : Nat × Nat × Nat × Nat} (hk : v.1 < 32) : Past m (m.squashVictim w csn v) := by
  obtain ⟨k, id, sp, b⟩ := v
  have ha : ¬ commitReg R.IMG_LCONF.addr := by unfold commitReg; decide
  have hb : ¬ commitReg R.IMG_LCONFCSN.addr := by unfold commitReg; decide
  unfold Mach.squashVictim
  dsimp -zeta only
  extract_lets isRun isHeld m1 m2
  refine Past.ite ?_ (Past.refl m)
  have h1 : Past m m1 := (Past.refl m).rset _ ha
  clear_value m1
  have h2 : Past m m2 := h1.setFld _ hb
  clear_value m2
  exact Past.ite (h2.trans (.of_rest (calm_squashHeld m2 k 1).toKept (rest_squashHeld m2 hk (by decide))))
    (h2.trans (.of_rest (calm_squashRun m2 k 1).toKept (rest_squashRun m2 hk (by decide))))

/-- What the completion of an application does. -/
structure Applied (m n : Mach) (a : App) : Prop where
  next : n.cu.nextStart = m.cu.nextStart
  app : n.cu.app = m.cu.app
  st : n.st = m.st
  csn : n.csn = m.csn
  written : (a.entries.map (·.1)).Nodup → (∀ x ∈ a.entries, keySp x.1 ≠ spPrimed) → ∀ x ∈ a.entries, sget 0 n.img x.1 = x.2
  others : ∀ k, keySp k ≠ spPrimed → k ∉ a.entries.map (·.1) → sget 0 n.img k = sget 0 m.img k
  commit : (n.task a.task).inCommit = false
  recorded : Recorded m n a

theorem Applied.past {n x : Mach} {a : App} (h : Applied m n a) (hp : Past n x) (hk : a.task < 32) : Applied m x a := by
  have hm : (x.task a.task).inCommit = (n.task a.task).inCommit := congrArg Prod.fst (hp.marks a.task)
  refine ⟨hp.next.trans h.next, hp.app.trans h.app, hp.st.trans h.st, (csn_eq_of_past n hp).trans h.csn, ?_, ?_, hm.trans h.commit, h.recorded.past m hp hk⟩
  · rw [hp.img]
    exact h.written
  · rw [hp.img]
    exact h.others

/-- What comes before the completion's own writes changes nothing it does. -/
theorem Applied.after_past {l n : Mach} {a : App} (hp : Past l m) (h : Applied m n a) (hk : a.task < 32) : Applied l n a := by
  have hc : m.fld (R.TSK_COMMITS a.task) = l.fld (R.TSK_COMMITS a.task) := by
    have hb : (R.TSK_COMMITS a.task).addr / 0x10000 = 7 := by simp only [R.TSK_COMMITS]; omega
    have ho : (R.TSK_COMMITS a.task).addr % 0x80 = 0x3C := by simp only [R.TSK_COMMITS]; omega
    rw [Mach.fld, hp.regs _ (evAddr_tsk hb (by omega) (by omega) (by omega)) (.inl hb), ← Mach.fld]
  obtain ⟨r1, r2, r3, r4⟩ := h.recorded
  refine ⟨h.next.trans hp.next, h.app.trans hp.app, h.st.trans hp.st, h.csn.trans (csn_eq_of_past l hp), h.written, ?_, h.commit, r1, r2, r3, hc ▸ r4⟩
  rw [← hp.img]
  exact h.others

/-- The registers of a task lie below the CSN's. -/
theorem csn_setFld {f : Fld} (v : Nat) (h : f.addr < 0x80000) : (m.setFld f v).csn = m.csn :=
  fld64_setFld_ne m v (show 0x80000 ≠ f.addr by omega) (show 0x80000 + 4 ≠ f.addr by omega)

theorem csn_setFld64 {f : Fld} (v : Nat) (h : f.addr + 8 ≤ 0x80000) : (m.setFld64 f v).csn = m.csn := fld64_setFld64_ne m v (.inr h)

theorem csn_commitRegs {a : App} (hk : a.task < 32) : (m.commitRegs a).csn = m.csn := by
  unfold Mach.commitRegs
  extract_lets n
  have hn : n.csn = m.csn := by
    simp only [n]
    rw [csn_setFld64, csn_setFld64, csn_setFld64, csn_setFld64] <;> simp only [R.TSK_LCSN_LO, R.TSK_LSNAP_LO, R.TSK_LCMT_LO, R.TSK_LDIG_LO] <;> omega
  clear_value n
  have h1 : (R.TSK_COMMITS a.task).addr < 0x80000 := by simp only [R.TSK_COMMITS]; omega
  have h2 : (R.TSK_RESPMAX a.task).addr < 0x80000 := by simp only [R.TSK_RESPMAX]; omega
  exact ((csn_setFld _ _ h2).trans (csn_setFld _ _ h1)).trans hn

/-- What the record in the registers leaves. -/
theorem commitRegs_recs (a : App) : m.commitRegs a = { m with regs := (m.commitRegs a).regs } := by
  have hf (n : Mach) (f : Fld) (v : Nat) : n.setFld f v = { n with regs := (n.setFld f v).regs } := rfl
  have hf64 (n : Mach) (f : Fld) (v : Nat) : n.setFld64 f v = { n with regs := (n.setFld64 f v).regs } := rfl
  unfold Mach.commitRegs
  extract_lets n
  have hn : n = { m with regs := n.regs } := regs_trans (regs_trans (regs_trans (hf64 _ _ _) (hf64 _ _ _)) (hf64 _ _ _)) (hf64 _ _ _)
  clear_value n
  exact regs_trans (regs_trans hn (hf _ _ _)) (hf _ _ _)

/-- The module with the entries in the image and the task served, before the record. -/
def Mach.entriesServed (m : Mach) (a : App) : Mach := ((m.writeEntries a.entries).register a.entries).serve a.task a.snapTime

theorem entriesServed_does (a : App) : (m.entriesServed a).cu = m.cu ∧ (m.entriesServed a).st = m.st ∧ (m.entriesServed a).regs = m.regs ∧
    (m.entriesServed a).img = (m.writeEntries a.entries).img ∧ ((m.entriesServed a).task a.task).inCommit = false := by
  have hw := writeEntries_recs m a.entries
  generalize hx : m.writeEntries a.entries = x at hw
  have hs : ∀ y : Mach, y = (x.register a.entries).serve a.task a.snapTime → y.cu = x.cu ∧ y.st = x.st ∧ y.regs = x.regs ∧ y.img = x.img ∧
      (y.task a.task).inCommit = false := by
    rintro _ rfl
    exact ⟨rfl, rfl, rfl, rfl, congrArg Task.inCommit (Mach.task_setTask_same _ _ _)⟩
  obtain ⟨h1, h2, h3, h4, h5⟩ := hs (m.entriesServed a) (by rw [Mach.entriesServed, hx])
  exact ⟨h1.trans (by rw [hw]), h2.trans (by rw [hw]), h3.trans (by rw [hw]), h4, h5⟩

/-- The entries, the task's marks and its record: the completion's own writes. -/
theorem ownWrites_does {a : App} (hk : a.task < 32) : Applied m ((m.entriesServed a).commitRegs a) a := by
  obtain ⟨hcu, hst, hregs, himg, hcommit⟩ := entriesServed_does m a
  have hrec := commitRegs_recorded (m.entriesServed a) a
  have hcsn := csn_commitRegs (m.entriesServed a) hk
  have hsame := commitRegs_recs (m.entriesServed a) a
  generalize m.entriesServed a = n at *
  generalize n.commitRegs a = x at *
  have hc : n.fld (R.TSK_COMMITS a.task) = m.fld (R.TSK_COMMITS a.task) := by rw [Mach.fld, Mach.rget_congr hregs, Mach.fld]
  have hn : n.csn = m.csn := fld64_congr m (Mach.rget_congr hregs _) (Mach.rget_congr hregs _)
  have hi : x.img = (m.writeEntries a.entries).img := by rw [hsame]; exact himg
  obtain ⟨r1, r2, r3, r4⟩ := hrec
  refine ⟨?_, ?_, ?_, hcsn.trans hn, ?_, ?_, ?_, r1, r2, r3, hc ▸ r4⟩
  · rw [hsame, ← hcu]
  · rw [hsame, ← hcu]
  · rw [hsame, ← hst]
  · rw [hi]
    exact writeEntries_mem m a.entries
  · rw [hi]
    exact fun k => writeEntries_ne m a.entries
  · rw [hsame]
    exact hcommit

theorem applyApp_does {a : App} (hk : a.task < 32) (hv : ∀ v ∈ a.victims, v.1 < 32) (hc : ∀ c i, .mvrq c i ∈ a.deferred → c < 16) : Applied m (m.applyApp a) a := by
  unfold Mach.applyApp
  extract_lets keys before bits old m1 m2 m3 m4 m5 m6 m7
  have h1 : Past m m1 := ((past_auditKeep m _ _ _).trans (past_movPreserve _ _)).trans (past_markDirty _ _)
  clear_value m1
  have h3 : Applied m m3 a := .after_past m1 h1 ((ownWrites_does m1 hk).past m1 (recordCommit_past _ a) hk) hk
  clear_value m3
  have h4 : Past m3 m4 := (Past.refl m3).foldM (fun v hm n => past_squashVictim n _ _ (hv v hm))
  clear_value m4
  have h5 : Past m4 m5 := (past_commitCheckIns m4 _).trans (past_movCommit _ hc)
  clear_value m5
  have h6 : Past m5 m6 := (past_dspCommit m5 _).trans (past_controlBits _ _)
  clear_value m6
  have h7 : Past m6 m7 := (past_imageRearm m6).trans (past_sendChanged _ _ _ _)
  clear_value m7
  exact h3.past m ((((h4.trans h5).trans h6).trans h7).trans (past_pubCommit m7 _ _)) hk

/-- The commit unit freed, before the application is applied. -/
def Mach.unitFreed (m : Mach) (a : App) : Mach :=
  let n := { m with cu := { m.cu with app := none, nextStart := a.startAt + 250 } }
  n.maxFld R.IMG_CMTMAX_APPMAX ((n.now - a.startAt) / 10)

theorem appComplete_eq {a : App} (ha : m.cu.app = some a) (hd : a.doneAt ≤ m.now) :
    m.appComplete = (((m.unitFreed a).applyApp a).forwardCommit a false).firstCommit.savePending := by
  unfold Mach.appComplete
  rw [ha]
  exact if_neg (by omega)

/-- The module as the completion leaves it. -/
theorem appComplete_does {a : App} (ha : m.cu.app = some a) (hd : a.doneAt ≤ m.now) (hk : a.task < 32) (hv : ∀ v ∈ a.victims, v.1 < 32)
    (hc : ∀ c i, .mvrq c i ∈ a.deferred → c < 16) : Applied (m.unitFreed a) m.appComplete a := by
  rw [appComplete_eq m ha hd]
  exact (applyApp_does (m.unitFreed a) hk hv hc).past _ (((past_forwardCommit _ a false).trans (past_firstCommit _)).trans (past_savePending _)) hk

theorem unitFreed_csn (a : App) : (m.unitFreed a).csn = m.csn :=
  fld64_setFld_ne { m with cu := { m.cu with app := none, nextStart := a.startAt + 250 } } _ (by decide) (by decide)

theorem unitFreed_commits (a : App) : (m.unitFreed a).fld (R.TSK_COMMITS a.task) = m.fld (R.TSK_COMMITS a.task) := by
  have h : (R.TSK_COMMITS a.task).addr ≠ R.IMG_CMTMAX_APPMAX.addr := by simp only [R.TSK_COMMITS, R.IMG_CMTMAX_APPMAX]; omega
  rw [Mach.fld, Mach.unitFreed, Mach.maxFld, Mach.rget_setFld_ne _ _ _ h]
  rfl

/-- Settles O21, the start by its own equation and the completion by what everything beside its writes leaves. -/
theorem applicationsStartAndComplete : Obligations.ApplicationsStartAndComplete := by
  unfold Obligations.ApplicationsStartAndComplete
  intro s t
  refine ⟨fun k sc hst ht ha hn ho hh => ?_, fun a ha hd hk hv hc => ?_⟩
  · refine answers_runAt (f := Mach.commitNext) rfl ?_
    rw [commitNext_eq _ hst ht ha hn ho hh]
    obtain ⟨h, happ⟩ := appStart_does (arrive t s) k sc
    exact ⟨h.img, h.engs, h.pts, h.commit, h.csn, _, happ, rfl, rfl, h.csn.symm, rfl, rfl, rfl, rfl⟩
  · refine answers_runAt (f := Mach.appComplete) rfl ?_
    have h := appComplete_does (arrive t s) ha hd hk hv hc
    obtain ⟨r1, r2, r3, r4⟩ := h.recorded
    exact ⟨h.next, h.app, h.st, h.csn.trans (unitFreed_csn _ a), h.written, h.others, h.commit, r1, r2, r3, unitFreed_commits (arrive t s) a ▸ r4⟩

end Sys2Proof.Machine
end

section
/-!
SUPPORT. What follows at once from a command (`Mach.settle`) starts no scan: a task that runs none before it runs none after it.
-/
namespace Sys2Proof.Machine
open Sys2Proof

/-! ### The relation -/

/-- No task runs a scan in `n` that runs none in `m`. -/
def Unrun (m n : Mach) : Prop := ∀ k, (m.task k).run = none → (n.task k).run = none

namespace Unrun

variable {m n x y : Mach}

theorem refl (m : Mach) : Unrun m m := fun _ h => h

theorem trans (h : Unrun m n) (g : Unrun n x) : Unrun m x := fun k hk => g k (h k hk)

theorem kept (h : Unrun m n) (g : Kept n x) : Unrun m x := h.trans g.unrun

/-- A change of other records. -/
theorem same (h : Unrun m n) (hx : x.tasks = n.tasks) : Unrun m x :=
  fun k hk => by simp only [Mach.task, hx]; exact h k hk

theorem rset (h : Unrun m n) (a : Nat) (w : Word) : Unrun m (n.rset a w) := h
theorem setFld (h : Unrun m n) (f : Fld) (v : Nat) : Unrun m (n.setFld f v) := h
theorem setFlag (h : Unrun m n) (f : Fld) (b : Bool) : Unrun m (n.setFlag f b) := h
theorem addFld (h : Unrun m n) (f : Fld) (v : Nat) : Unrun m (n.addFld f v) := h
theorem satFld (h : Unrun m n) (f : Fld) (v : Nat) : Unrun m (n.satFld f v) := h
theorem maxFld (h : Unrun m n) (f : Fld) (v : Nat) : Unrun m (n.maxFld f v) := h
theorem setFld64 (h : Unrun m n) (f : Fld) (v : Nat) : Unrun m (n.setFld64 f v) := h
theorem setEng (h : Unrun m n) (e : Nat) (v : Eng) : Unrun m (n.setEng e v) := h
theorem setCell (h : Unrun m n) (sp i : Nat) (v : CellV) : Unrun m (n.setCell sp i v) := h
theorem setPt (h : Unrun m n) (i : Nat) (v : Pt) : Unrun m (n.setPt i v) := h

theorem foldM {α : Type} {f : α → Mach → Mach} {xs : List α} (h : Unrun m n) (hf : ∀ y ∈ xs, ∀ z, Unrun z (f y z)) : Unrun m (foldM xs f n) :=
  foldM_inv (Unrun m) f xs (fun y hy z hz => hz.trans (hf y hy z)) n h

theorem ite {p : Prop} [Decidable p] (hx : Unrun m x) (hy : Unrun m y) : Unrun m (if p then x else y) := by
  split
  · exact hx
  · exact hy

/-- A task's record replaced by one that runs no scan anew. -/
theorem setTask (h : Unrun m n) {k : Nat} {t : Task} (ht : (n.task k).run = none → t.run = none) : Unrun m (n.setTask k t) := by
  refine h.trans (fun j hj => ?_)
  by_cases hjk : j = k
  · rw [hjk] at hj ⊢
    rw [Mach.task_setTask_same]
    exact ht hj
  · rw [Mach.task_setTask_ne _ hjk]
    exact hj

end Unrun

theorem Kept.runs {m n : Mach} (h : Kept m n) : Unrun m n := h.unrun

variable (m : Mach)

theorem unrun_info (c : Nat) : Unrun m (m.info c) := (past_info m c).runs
theorem unrun_note (c : Nat) : Unrun m (m.note c) := (past_note m c).runs
theorem unrun_stat (i : Nat) (b : Bool) : Unrun m (m.stat i b) := (kept_stat m i b).runs
theorem unrun_setStat (i w v : Nat) : Unrun m (m.setStat i w v) := (stirs_setStat m i w v).runs
theorem unrun_clear (c s k : Nat) : Unrun m (m.clear c s k) := (kept_clear m c s k).runs
theorem unrun_raise (c s k : Nat) : Unrun m (m.raise c s k) := (kept_raise m c s k).runs
theorem unrun_linkSend (ty : Nat) (p : List Byte) : Unrun m (m.linkSend ty p) := (past_linkSend m ty p).runs
theorem unrun_flushStream : Unrun m m.flushStream := (past_flushStream m).runs

/-! ### The time base (R389–R402) -/

theorem unrun_setTk (x : TimeK) : Unrun m { m with tk := x } := (Unrun.refl m).same rfl

theorem unrun_setTq (q : Nat) : Unrun m (m.setTq q) := by
  unfold Mach.setTq
  extract_lets old _ m1 _ m2 _ m3 m4
  have h1 : Unrun m m1 := Unrun.ite (unrun_setTk m _) (Unrun.refl m)
  clear_value m1
  have h2 : Unrun m m2 := Unrun.ite h1 (h1.trans (unrun_setTk m1 _))
  clear_value m2
  have h3 : Unrun m m3 := Unrun.ite h2 (h2.trans (unrun_setTk m2 _))
  clear_value m3
  have h4 : Unrun m m4 := (h3.setFld _ _).trans (unrun_setStat _ _ _ _)
  exact Unrun.ite (h4.trans (unrun_clear m4 _ _ _)) h4

theorem unrun_stepTo (t : Nat) : Unrun m (m.stepTo t) := by
  unfold Mach.stepTo
  extract_lets x m1 m2
  have h1 : Unrun m m1 := (Unrun.refl m).same rfl
  clear_value m1
  have h2 : Unrun m1 m2 := by
    simp only [m2]
    split
    · exact (Unrun.refl m1).setFld64 _ _
    · exact Unrun.refl m1
  exact ((h1.trans h2).trans (unrun_info m2 _)).satFld _ _

theorem unrun_takeStep (s : Nat) : Unrun m (m.takeStep s) := by
  unfold Mach.takeStep
  refine Unrun.ite ?_ (Unrun.refl m)
  split
  · extract_lets m1 _ m2
    have h1 : Unrun m m1 := unrun_stepTo m _
    clear_value m1
    have h2 : Unrun m m2 := h1.trans (unrun_setTk m1 _)
    clear_value m2
    exact Unrun.ite (h2.trans (unrun_setTq m2 _)) h2
  · exact Unrun.refl m

theorem unrun_changeSrc (s : Nat) (lost : Bool) : Unrun m (m.changeSrc s lost) := by
  unfold Mach.changeSrc
  extract_lets m1 m2 _ m3 m4 _ m5
  have h1 : Unrun m m1 := ((Unrun.refl m).setFld _ _).trans (unrun_setStat _ _ _ _)
  clear_value m1
  have h2 : Unrun m m2 := (h1.satFld _ _).trans (unrun_info _ _)
  clear_value m2
  have h3 : Unrun m m3 := h2.trans (unrun_setTk m2 _)
  clear_value m3
  have h4 : Unrun m m4 := Unrun.ite ((h3.setFld _ _).setFlag _ _) h3
  clear_value m4
  have h5 : Unrun m m5 := Unrun.ite (Unrun.ite (h4.trans (unrun_setTq m4 _)) (h4.trans (unrun_setTk m4 _))) h4
  exact h5.trans (unrun_takeStep m5 s)

theorem unrun_reselect : Unrun m m.reselect := by
  unfold Mach.reselect
  extract_lets cur b
  exact Unrun.ite (Unrun.ite (Unrun.ite (Unrun.refl m) (unrun_changeSrc m _ _)) (Unrun.ite (unrun_takeStep m _) (unrun_changeSrc m _ _))) (Unrun.refl m)

theorem unrun_ownTime : Unrun m m.ownTime := by
  unfold Mach.ownTime
  extract_lets m1
  have h1 : Unrun m m1 := ((Unrun.refl m).setFld _ _).trans (unrun_clear _ _ _ _)
  exact (h1.trans (unrun_stat m1 _ _)).trans (unrun_reselect _)

theorem unrun_showAvail : Unrun m m.showAvail := (Unrun.refl m).setFld _ _

theorem unrun_setAvail (s : Nat) (b : Bool) : Unrun m (m.setAvail s b) := by
  unfold Mach.setAvail
  exact Unrun.ite (Unrun.refl m) (((unrun_setTk m _).trans (unrun_showAvail _)).trans (unrun_reselect _))

theorem unrun_ppsSilent : Unrun m m.ppsSilent := by
  unfold Mach.ppsSilent
  split
  · exact Unrun.ite ((unrun_setTk m _).trans (unrun_setAvail _ _ _)) (Unrun.refl m)
  · exact Unrun.refl m

theorem unrun_grossEnd : Unrun m m.grossEnd := by
  unfold Mach.grossEnd
  extract_lets _ m1
  have h1 : Unrun m m1 := (unrun_setTk m _).trans (unrun_showAvail _)
  clear_value m1
  exact Unrun.ite ((h1.setFlag _ _).trans (unrun_clear _ _ _ _)) h1

theorem unrun_leaveSrc (b : Bool) : Unrun m (m.leaveSrc b) := by
  unfold Mach.leaveSrc
  extract_lets s m1 _ m2
  have h1 : Unrun m m1 := by
    simp only [m1]
    split
    · exact Unrun.ite (unrun_stepTo m _) (Unrun.refl m)
    · exact Unrun.refl m
  clear_value m1
  have h2 : Unrun m m2 := h1.trans (unrun_setTk m1 _)
  exact Unrun.ite (h2.trans (unrun_setTq m2 _)) h2

theorem unrun_timeLeaveRun : Unrun m m.timeLeaveRun := by
  unfold Mach.timeLeaveRun
  refine Unrun.ite ?_ (Unrun.refl m)
  extract_lets n s
  have hn : Unrun m n := unrun_grossEnd m
  clear_value n
  exact (Unrun.ite hn (hn.trans (unrun_changeSrc n _ _))).trans (unrun_leaveSrc _ _)

/-! ### The pair (R265–R289) -/

theorem unrun_setPair (x : Pair) : Unrun m { m with pair := x } := (Unrun.refl m).same rfl

theorem unrun_hello : Unrun m m.hello := by
  unfold Mach.hello
  extract_lets _ m1
  have h1 : Unrun m m1 := Unrun.ite (unrun_setPair m _) (Unrun.refl m)
  exact h1.trans (unrun_linkSend m1 _ _)

theorem unrun_showRole (r : Nat) : Unrun m (m.showRole r) := ((Unrun.refl m).setFld _ _).trans (unrun_setStat _ _ _ _)

theorem unrun_takeToken (r : Nat) : Unrun m (m.takeToken r) := by
  unfold Mach.takeToken
  extract_lets m1 m2 _ m3
  have h1 : Unrun m m1 := ((Unrun.refl m).addFld _ _).setFlag _ _ |>.setFld64 _ _
  clear_value m1
  have h2 : Unrun m1 m2 := by
    simp only [m2]
    split
    · exact (Unrun.refl m1).setFld _ _
    · exact Unrun.refl m1
  clear_value m2
  have h3 : Unrun m2 m3 := unrun_setPair m2 _
  clear_value m3
  exact (((h1.trans h2).trans h3).setFlag _ _ |>.setFld _ _).trans (unrun_showRole _ r)

theorem unrun_clearFwd (k : Nat) (x : Pair) : Unrun m (({ m with pair := x }).setTask k { m.task k with snap := none }) :=
  (unrun_setPair m x).setTask id

theorem unrun_dropForwarded (k : Nat) : Unrun m (m.dropForwarded k) := by
  unfold Mach.dropForwarded
  extract_lets clr
  have hclr (n : Mach) : Unrun n (clr n) := unrun_clearFwd n k _
  exact (((calm_squashRun m k 3).runs.trans (hclr _)).trans (calm_squashHeld _ k 3).runs).trans (hclr _)

theorem unrun_dropForwardeds : Unrun m (foldM allTasks (fun k n => n.dropForwarded k) m) := (Unrun.refl m).foldM (fun k _ n => unrun_dropForwarded n k)

theorem unrun_dropLead : Unrun m m.dropLead := (unrun_setPair m _).setFlag _ _

theorem unrun_yieldLeave (r : Nat) : Unrun m (m.yieldLeave r) := by
  unfold Mach.yieldLeave
  extract_lets m1 _ m2
  have h1 : Unrun m m1 := (unrun_dropForwardeds m).trans (unrun_dropLead _)
  clear_value m1
  have h2 : Unrun m m2 := h1.same rfl
  clear_value m2
  exact ((h2.setFld _ _).setFld _ _).trans (unrun_ownTime _)

theorem unrun_yieldToken (r : Nat) : Unrun m (m.yieldToken r) := by
  unfold Mach.yieldToken
  extract_lets m1 m2
  have h1 : Unrun m m1 := (unrun_takeToken m r).satFld _ _
  clear_value m1
  have h2 : Unrun m m2 := h1.trans (unrun_linkSend m1 _ _)
  clear_value m2
  exact Unrun.ite (h2.trans (unrun_hello m2)) (h2.trans ((unrun_hello m2).trans (unrun_setPair _ _)))

theorem unrun_unblock (ps : List PtChange) : Unrun m (m.unblock ps) := by
  refine (Unrun.refl m).foldM (fun p _ n => ?_)
  exact ((Unrun.refl n).setPt _ _).kept (kept_showBlocked _ _)

theorem unrun_takeShadow : Unrun m m.takeShadow := by
  unfold Mach.takeShadow
  extract_lets ps _ m1 _
  refine Unrun.ite (Unrun.refl m) ?_
  have h1 : Unrun m m1 := ((unrun_setPair m _).trans (unrun_unblock _ ps)).trans (stirs_change _ rfl).runs
  clear_value m1
  exact h1.trans (unrun_setPair m1 _)

theorem kept_pubState {b : Nat} (p : GPub) (st t : Nat) (hb : b < 32) : Kept m (m.pubState b p st t) :=
  (((Kept.refl m).setFlag _ _).trans (past_pubSend _ _ _ hb).toKept).trans (past_linkSend _ _ _).toKept

theorem unrun_pubTakeover : Unrun m m.pubTakeover := by
  refine (Unrun.refl m).foldM (fun b hb n => ?_)
  split
  · exact (kept_pubState n _ _ _ (List.mem_range.mp hb)).runs
  · exact Unrun.refl n

theorem unrun_resumeScan (k t : Nat) : Unrun m (m.resumeScan k t) := by
  unfold Mach.resumeScan
  extract_lets m1
  have h1 : Unrun m m1 := (calm_fixSnap m k t 0 0).runs.setFld64 _ _
  exact h1.setTask id

theorem unrun_finishYield : Unrun m m.finishYield := by
  unfold Mach.finishYield
  split
  · exact Unrun.refl m
  · refine Unrun.ite ?_ (Unrun.refl m)
    extract_lets r
    exact ((((unrun_yieldLeave m r).trans (unrun_yieldToken _ r)).trans (unrun_takeShadow _)).trans (unrun_pubTakeover _)).foldM
      (fun k _ n => unrun_resumeScan n k _)

theorem unrun_feedFwd : Unrun m m.feedFwd := by
  unfold Mach.feedFwd
  refine Unrun.ite ((Unrun.refl m).foldM (fun k _ n => ?_)) (Unrun.refl m)
  split
  · exact (unrun_setPair n _).trans (calm_putSnap _ _ _ _ _).runs
  · exact Unrun.refl n

theorem unrun_sendYield : Unrun m m.sendYield := by
  unfold Mach.sendYield
  split
  · exact Unrun.refl m
  · refine Unrun.ite ?_ (Unrun.refl m)
    extract_lets m1 m2
    have h2 : Unrun m m2 := (unrun_flushStream m).trans (unrun_linkSend m1 _ _)
    clear_value m2
    exact (h2.trans (unrun_setPair m2 _)).satFld _ _

theorem unrun_olcUnpaired : Unrun m m.olcUnpaired := Unrun.ite ((Unrun.refl m).same rfl) (Unrun.refl m)

theorem unrun_stopForward : Unrun m m.stopForward := (unrun_setPair m _).setFld _ _

theorem unrun_partnerUnsync (r : Nat) : Unrun m (m.partnerUnsync r) := by
  unfold Mach.partnerUnsync
  extract_lets m1
  have h0 : Unrun m m.agreeRecord := (Unrun.refl m).foldM (fun _ _ n => (Unrun.refl n).maxFld _ _)
  have h1 : Unrun m m1 := (h0.trans (unrun_olcUnpaired _)).trans (unrun_stopForward _)
  clear_value m1
  exact (h1.trans (unrun_setPair m1 _)).trans (unrun_hello _)

theorem unrun_streamOver : Unrun m m.streamOver := Unrun.ite ((unrun_partnerUnsync m _).trans (unrun_raise _ _ _ _)) (Unrun.refl m)

theorem unrun_setRole (r : Nat) : Unrun m (m.setRole r) := Unrun.ite (unrun_showRole m r) ((unrun_showRole m r).trans (unrun_hello _))

theorem unrun_olcReport : Unrun m m.olcReport := Unrun.ite (unrun_linkSend m _ _) (Unrun.refl m)

theorem unrun_syncDone : Unrun m m.syncDone := by
  unfold Mach.syncDone Mach.becomeFollow
  refine Unrun.ite ?_ (Unrun.refl m)
  extract_lets pair m1
  have h1 : Unrun m m1 := unrun_setPair m _
  clear_value m1
  exact ((((h1.setFlag _ _).setFld _ _).setFld _ _).trans (unrun_setRole _ 2)).trans (unrun_olcReport _)

theorem unrun_showHolder : Unrun m m.showHolder := by
  unfold Mach.showHolder
  refine Unrun.ite ?_ (Unrun.refl m)
  extract_lets r
  exact Unrun.ite (Unrun.refl m) (Unrun.ite (((unrun_partnerUnsync m _).trans (unrun_setRole _ _)).trans (unrun_raise _ _ _ _)) (unrun_setRole m _))

theorem unrun_pairSettle : Unrun m m.pairSettle :=
  ((((((unrun_feedFwd m).trans (unrun_finishYield _)).trans (unrun_sendYield _)).trans (unrun_streamOver _)).trans (unrun_syncDone _)).trans
    (unrun_showHolder _)).trans (unrun_flushStream _)

end Sys2Proof.Machine
end

section
/-!
SUPPORT. What settles after a command starts no scan: the leaving of RUN, the entry to it, an online change given up, the dispatcher and the displays.
-/
namespace Sys2Proof.Machine
open Sys2Proof

variable (m : Mach)

/-! ### The leaving of RUN (R418, R419) -/

theorem unrun_parAbandon : Unrun m m.parAbandon := by
  unfold Mach.parAbandon
  refine Unrun.ite ?_ (Unrun.refl m)
  exact ((((Unrun.refl m).kept (kept_ret m _)).setFld _ _).kept (kept_showRet _)).trans (unrun_note _ _)

theorem unrun_dropScans (k : Nat) : Unrun m (m.dropScans k) :=
  (((calm_squashHeld m k 7).toKept.trans (calm_squashRun _ k 7).toKept).trans (calm_squashSnap _ k 7).toKept).runs

theorem unrun_setOlcEnd (x : Option Nat) : Unrun m { m with olcEnd := x } := (Unrun.refl m).same rfl

theorem unrun_ownJournal : Unrun m m.ownJournal := ((Unrun.refl m).setFld _ _).trans (unrun_info _ _)

theorem unrun_unfollow (r : Nat) : Unrun m (m.unfollow r) := by
  unfold Mach.unfollow
  refine Unrun.ite ?_ (Unrun.refl m)
  extract_lets m1 m2
  have h1 : Unrun m m1 := (unrun_dropForwardeds m).trans (unrun_dropLead _)
  clear_value m1
  have h2 : Unrun m m2 := h1.trans (unrun_setOlcEnd m1 _)
  clear_value m2
  exact (((h2.setFld _ _).trans (unrun_ownJournal _)).trans (unrun_setStat _ _ _ _)).trans (unrun_ownTime _)

theorem unrun_stopFrames (b : Bool) : Unrun m (m.stopFrames b) :=
  (Unrun.refl m).foldM (fun _ _ n => ((kept_setBay n _ _).trans (kept_txDrop _ _ _)).runs)

theorem unrun_setStaState (c s v : Nat) : Unrun m (m.setStaState c s v) := by
  have hset (n : Mach) (x : Station) : Unrun n (n.setSta c s x) := (Unrun.refl n).same rfl
  unfold Mach.setStaState Mach.showSta
  exact (((Unrun.refl m).setFld _ _).trans (hset _ _)).trans (unrun_stat _ _ _)

theorem unrun_bayLeaveRun : Unrun m m.bayLeaveRun := by
  unfold Mach.bayLeaveRun
  refine (unrun_stopFrames m false).foldM (fun c _ n => (Unrun.refl n).foldM (fun s _ x => ?_))
  exact Unrun.ite (unrun_setStaState x _ _ _) (Unrun.refl x)

theorem unrun_pubStop : Unrun m m.pubStop :=
  ((Unrun.refl m).kept (past_sp m _).toKept).foldM (fun _ _ n => (Unrun.refl n).setFlag _ _)

theorem unrun_giveToken : Unrun m m.giveToken := by
  unfold Mach.giveToken
  refine Unrun.ite ?_ (Unrun.refl m)
  extract_lets m1 m2 _
  have h1 : Unrun m m1 := (((Unrun.refl m).setFlag _ _).trans (unrun_pubStop _)).trans (unrun_bayLeaveRun _)
  clear_value m1
  have h2 : Unrun m m2 := h1.trans (((unrun_olcUnpaired m1).trans (unrun_stopForward _)).trans (unrun_dropForwardeds _))
  clear_value m2
  exact (h2.trans (unrun_setPair m2 _)).setFld64 _ _

theorem unrun_amberEnd (n : Nat) : Unrun m (m.amberEnd n) :=
  Unrun.ite (((Unrun.refl m).setFlag _ _).trans (unrun_clear _ _ _ _)) (Unrun.refl m)

theorem unrun_slotOff (n : Nat) : Unrun m (m.slotOff n) := Unrun.ite (((Unrun.refl m).setFlag _ _).trans (unrun_amberEnd _ n)) (Unrun.refl m)

theorem unrun_setState (s : MState) : Unrun m (m.setState s) := by
  have h : Unrun m { m with st := s } := (Unrun.refl m).same rfl
  exact h.setFld _ _

theorem unrun_cancelRun : Unrun m m.cancelRun := (Unrun.refl m).same rfl

theorem unrun_leaveRun (s : MState) : Unrun m (m.leaveRun s) := by
  unfold Mach.leaveRun
  extract_lets m1 fio m2 m3 ret m4 m5 m6 m7 pair m8 m9
  have h1 : Unrun m m1 := unrun_parAbandon m
  clear_value m1
  refine Unrun.ite ?_ (h1.trans ((unrun_cancelRun m1).trans (unrun_setState _ _)))
  have h2 : Unrun m m2 := h1.same rfl
  clear_value m2
  have h3 : Unrun m m3 := (h2.foldM (fun k _ n => unrun_dropScans n k)).trans (unrun_unfollow _ _)
  clear_value m3
  have h4 : Unrun m m4 := h3.same rfl
  clear_value m4
  have h5 : Unrun m m5 :=
    ((((h4.trans (unrun_giveToken m4)).trans (unrun_pubStop _)).trans (unrun_bayLeaveRun _)).trans (unrun_stopFrames _ _)).trans (unrun_stopForward _)
  clear_value m5
  have h6 : Unrun m m6 := h5.foldM (fun n _ x => unrun_slotOff x n)
  clear_value m6
  have h7 : Unrun m m7 := h6.trans (unrun_info m6 _)
  clear_value m7
  have h8 : Unrun m m8 := h7.trans (unrun_setPair m7 _)
  clear_value m8
  have h9 : Unrun m m9 :=
    (((((h8.setFlag _ _).setFld _ _).setFld64 _ _).trans (unrun_setState _ s)).trans (unrun_showRole _ _)).trans (unrun_hello _)
  clear_value m9
  exact h9.trans (unrun_timeLeaveRun m9)

theorem unrun_startSave (k : Nat) : Unrun m (m.startSave k) := Unrun.ite (kept_ret m _).runs (kept_beginSave m k).runs

theorem unrun_enterFault : Unrun m m.enterFault := by
  unfold Mach.enterFault
  split
  · exact Unrun.refl m
  · refine Unrun.ite ?_ (Unrun.refl m)
    extract_lets m1 sup m2
    have h1 : Unrun m m1 := unrun_leaveRun m _
    clear_value m1
    have h2 : Unrun m m2 := h1.kept (past_sup m1 _).toKept
    clear_value m2
    exact Unrun.ite h2 (h2.trans (unrun_startSave m2 _))

/-! ### An online change given up (R254) -/

theorem unrun_olcDiscard (c : Nat) : Unrun m (m.olcDiscard c) := by
  have h : Unrun m { m with olc := {}, olcOpen := false } := (Unrun.refl m).same rfl
  exact (((h.setFld _ _).setFld _ _).setFld _ _).trans (unrun_stat _ _ _)

theorem unrun_unmap : Unrun m m.unmap := by
  unfold Mach.unmap
  split
  · exact Unrun.refl m
  · extract_lets olc m1
    have h1 : Unrun m m1 := (Unrun.refl m).same rfl
    exact h1.foldM (fun x _ n => ((Unrun.refl n).setEng _ _).setFld _ _)

theorem unrun_setLeft (n v : Nat) : Unrun m (m.setLeft n v) := (past_sup m _).toKept.runs

theorem unrun_slotOn (n p : Nat) : Unrun m (m.slotOn n p) := (((Unrun.refl m).setFld _ _).setFlag _ _).trans (unrun_setLeft _ _ _)

theorem unrun_closeWindow : Unrun m m.closeWindow := by
  have h : Unrun m { m with olcOpen := false } := (Unrun.refl m).same rfl
  exact (h.setFld _ _).trans (unrun_stat _ _ _)

theorem unrun_windowAbandon (c : Nat) : Unrun m (m.windowAbandon c) := by
  unfold Mach.windowAbandon
  extract_lets m1 m2 m3
  have h1 : Unrun m m1 := unrun_unmap m
  clear_value m1
  have h2 : Unrun m m2 := (h1.setFld _ _).setFlag _ _
  clear_value m2
  have h3 : Unrun m m3 := (((h2.satFld _ _).trans (unrun_closeWindow _)).setFld _ _).trans (unrun_note _ _)
  clear_value m3
  have h4 : Unrun m m3.restartSlots := h3.trans (Unrun.ite ((Unrun.refl m3).foldM (fun k _ n => unrun_slotOn n _ _)) (Unrun.refl m3))
  exact h4.trans (Unrun.ite ((Unrun.refl _).foldM (fun k _ n => unrun_resumeScan n k _)) (Unrun.refl _))

theorem unrun_olcAbandon (c : Nat) : Unrun m (m.olcAbandon c) := by
  unfold Mach.olcAbandon
  extract_lets s m1
  have h1 : Unrun m m1 := unrun_windowAbandon m c
  clear_value m1
  refine Unrun.ite (Unrun.refl m) (Unrun.ite (Unrun.ite (h1.trans (unrun_olcDiscard m1 c)) h1) ?_)
  refine Unrun.ite ((unrun_olcDiscard m c).trans (unrun_note _ _)) (Unrun.ite ?_ (Unrun.refl m))
  exact (((Unrun.refl m).setFld _ _).setFld _ _).trans (unrun_stat _ _ _)

theorem unrun_olcTell (c : Nat) : Unrun m (m.olcTell c) := by
  unfold Mach.olcTell
  extract_lets m1
  have h1 : Unrun m m1 := Unrun.ite (unrun_linkSend m _ _) (Unrun.refl m)
  exact Unrun.ite (h1.trans (unrun_setPair m1 _)) h1

theorem unrun_olcSettle : Unrun m m.olcSettle := by
  unfold Mach.olcSettle Mach.olcStop
  split
  · exact Unrun.refl m
  · extract_lets m1
    have h1 : Unrun m m1 := unrun_setOlcEnd m _
    clear_value m1
    exact Unrun.ite (h1.trans (unrun_olcAbandon m1 _)) (h1.trans (((unrun_olcTell m1 _).trans (unrun_olcAbandon _ _)).trans (unrun_olcReport _)))

/-! ### The entry to RUN (R23, R191, R286) -/

theorem unrun_setBayState (c s : Nat) : Unrun m (m.setBayState c s) := ((Unrun.refl m).setFld _ _).trans (unrun_stat _ _ _)

theorem unrun_bayEnable (c : Nat) : Unrun m (m.bayEnable c) := by
  unfold Mach.bayEnable
  extract_lets m1 m2
  have h2 : Unrun m m2 := ((Unrun.refl m).setFlag _ _).foldM (fun _ _ n => (Unrun.refl n).rset _ _)
  clear_value m2
  exact Unrun.ite h2 (h2.trans (unrun_setBayState m2 _ _))

theorem unrun_bayBegin (c : Nat) : Unrun m (m.bayBegin c) :=
  (Unrun.refl m).foldM (fun _ _ n => Unrun.ite ((Unrun.refl n).same rfl) (Unrun.refl n))

theorem unrun_enableBays : Unrun m m.enableBays :=
  Unrun.ite ((Unrun.refl m).foldM (fun c _ n => Unrun.ite ((unrun_bayEnable n c).trans (unrun_bayBegin _ c)) (Unrun.refl n))) (Unrun.refl m)

theorem unrun_setRetByte (a : Nat) (b : Byte) : Unrun m (m.setRetByte a b) := by
  unfold Mach.setRetByte
  refine Unrun.ite ((Unrun.refl m).foldM (fun _ _ n => (Unrun.refl n).setCell _ _ _)) (Unrun.ite ((Unrun.refl m).setCell _ _ _) (Unrun.ite ?_ ?_))
  · exact (Unrun.refl m).setCell _ _ _
  · exact (Unrun.refl m).setCell _ _ _

theorem unrun_restoreChunk (g c : Nat) : Unrun m (m.restoreChunk g c) := by
  unfold Mach.restoreChunk
  split
  · exact Unrun.refl m
  · exact (Unrun.refl m).foldM (fun _ _ n => unrun_setRetByte n _ _)

theorem unrun_restoreRet : Unrun m m.restoreRet := by
  unfold Mach.restoreRet
  extract_lets ret m1
  have h1 : Unrun m m1 := (kept_ret m _).runs
  clear_value m1
  split
  · extract_lets m2 ret2 m3
    have h2 : Unrun m m2 := h1.foldM (fun c _ n => unrun_restoreChunk n _ _)
    clear_value m2
    have h3 : Unrun m m3 := h2.kept (kept_ret m2 _)
    clear_value m3
    exact (h3.setFlag _ _).setFlag _ _
  · exact Unrun.ite h1 (h1.trans (unrun_raise m1 _ _ _))

theorem unrun_freshImage : Unrun m m.freshImage := (Unrun.refl m).same rfl

theorem unrun_formImage : Unrun m m.formImage := Unrun.ite (Unrun.refl m) ((unrun_freshImage m).trans (unrun_restoreRet _))

theorem unrun_setExp (x : SMap (Option Nat)) : Unrun m { m with exp := x } := (Unrun.refl m).same rfl

theorem unrun_restartCells (t : Nat) : Unrun m (m.restartCells t) := by
  refine (Unrun.refl m).foldM (fun key _ n => ?_)
  extract_lets c n1
  have h1 : Unrun n n1 := (Unrun.refl n).setCell _ _ _
  clear_value n1
  exact h1.trans (unrun_setExp n1 _)

theorem unrun_enterImage : Unrun m m.enterImage := (Unrun.ite (unrun_freshImage m) (unrun_formImage m)).trans (unrun_restartCells _ _)

/-- The tasks start empty (R23). -/
theorem unrun_startTasks : Unrun m m.startTasks := by
  refine (Unrun.refl m).foldM (fun k _ n => ?_)
  have h : Unrun n (n.setTask k {}) := (Unrun.refl n).setTask (fun _ => rfl)
  exact Unrun.ite (((h.setFld64 _ _).setFld _ _).setFld _ _) h

theorem unrun_runBegun : Unrun m m.runBegun := by
  unfold Mach.runBegun
  extract_lets m1 tk pair m2 m3 m4
  have h1 : Unrun m m1 := ((unrun_enableBays m).trans (unrun_parAbandon _)).trans (unrun_setState _ _)
  clear_value m1
  have h2 : Unrun m m2 := h1.same rfl
  clear_value m2
  have h3 : Unrun m m3 := h2.trans ((unrun_takeShadow m2).trans (unrun_enterImage _))
  clear_value m3
  have h4 : Unrun m m4 := ((h3.same (x := { m3 with ran := true }) rfl).trans (unrun_startTasks _)).trans (unrun_clear _ _ _ _)
  clear_value m4
  exact h4.trans (unrun_info m4 _)

theorem unrun_becomeUnsync (r : Nat) : Unrun m (m.becomeUnsync r) := by
  unfold Mach.becomeUnsync
  extract_lets m1
  have h1 : Unrun m m1 := ((unrun_unfollow m 3).trans (unrun_giveToken _)).trans (unrun_stopFrames _ _)
  clear_value m1
  exact (((h1.setFld _ _).setFld _ _).trans (unrun_setStat _ _ _ _)).trans (unrun_hello _)

theorem unrun_runJoined : Unrun m m.runJoined := by
  unfold Mach.runJoined
  extract_lets a pair
  exact ((unrun_setPair m _).setFld64 _ _).trans (unrun_becomeUnsync _ _)

theorem unrun_bayEnterRun : Unrun m m.bayEnterRun :=
  (Unrun.refl m).foldM (fun _ _ n => (Unrun.refl n).foldM (fun _ _ x => Unrun.ite (unrun_setStaState x _ _ _) (Unrun.refl x)))

theorem unrun_stayOut : Unrun m m.stayOut :=
  Unrun.ite ((((unrun_cancelRun m).trans (unrun_formImage _)).trans (unrun_enableBays _)).trans (unrun_setState _ _)) (unrun_cancelRun m)

theorem unrun_enterRun (r : Nat) : Unrun m (m.enterRun r) := by
  rw [enterRun_eq]
  refine Unrun.ite (unrun_stayOut m) (Unrun.ite ((unrun_runBegun m).trans (unrun_runJoined _)) ?_)
  exact ((((unrun_runBegun m).trans (unrun_takeToken _ r)).trans (unrun_hello _)).trans (unrun_bayEnterRun _)).trans (unrun_pubStop _)

theorem unrun_decideRole : Unrun m m.decideRole := by
  unfold Mach.decideRole
  refine Unrun.ite (unrun_enterRun m 0) ?_
  extract_lets pair m1
  have h1 : Unrun m m1 := unrun_setPair m _
  clear_value m1
  exact (h1.trans (unrun_hello m1)).trans (Unrun.ite (unrun_enterRun _ 3) (Unrun.refl _))

theorem unrun_tryRun : Unrun m m.tryRun := by
  have h (b : Bool) : Unrun m { m with runPend := b } := (Unrun.refl m).same rfl
  exact Unrun.ite ((h false).trans (unrun_decideRole _)) (h true)

theorem unrun_runDue : Unrun m m.runDue := Unrun.ite ((unrun_setTk m _).trans (unrun_tryRun _)) (Unrun.ite (unrun_tryRun m) (Unrun.refl m))

/-! ### The dispatcher and the scans that wait (R58, R77, R80) -/

theorem unrun_promote : Unrun m m.promote := by
  refine (Unrun.refl m).foldM (fun k _ n => ?_)
  split
  · exact Unrun.ite ((Unrun.refl n).setTask (fun _ => rfl)) (Unrun.refl n)
  · exact Unrun.refl n

theorem unrun_readyTask (k : Nat) : Unrun m (m.readyTask k) := by
  unfold Mach.readyTask
  extract_lets tk dep
  split
  · rename_i r _ hr
    exact (Unrun.refl m).setTask (fun h => absurd (h.symm.trans hr) (by simp))
  · exact (Unrun.refl m).setTask id
  · exact Unrun.refl m

theorem unrun_preempt (r : Nat × Nat × Nat × Nat × Nat) : Unrun m (m.preempt r) := by
  unfold Mach.preempt
  split
  · exact Unrun.ite (calm_squashRun m _ 2).toKept.runs (Unrun.refl m)
  · exact Unrun.refl m

theorem unrun_dimIdle (e : Nat) : Unrun m (m.dimIdle e) := Unrun.ite ((Unrun.refl m).setEng _ _) (Unrun.refl m)

theorem unrun_dimAll : Unrun m (foldM (List.range 16) (fun e n => n.dimIdle e) m) := (Unrun.refl m).foldM (fun e _ n => unrun_dimIdle n e)

theorem unrun_prunePreserved : Unrun m m.prunePreserved := (Unrun.refl m).same rfl

theorem unrun_dispatch : Unrun m m.dispatch := by
  have hready (n : Mach) : Unrun n (foldM n.tasksOn (fun k n => n.readyTask k) n) := (Unrun.refl n).foldM (fun k _ x => unrun_readyTask x k)
  unfold Mach.dispatch
  extract_lets m1 m2 m3 m4 m5
  refine Unrun.ite ?_ ((unrun_dimAll m).trans (unrun_prunePreserved _))
  have h2 : Unrun m m2 := (hready m).foldM (fun r _ x => unrun_preempt x r)
  have h4 : Unrun m m4 := (h2.trans (hready m2)).foldM (fun r _ x => (calm_light x _).toKept.runs)
  exact (h4.trans (unrun_dimAll m4)).trans (unrun_prunePreserved _)

theorem unrun_markHeld : Unrun m m.markHeld := by
  refine (Unrun.refl m).foldM (fun x _ n => ?_)
  obtain ⟨k, sc⟩ := x
  dsimp -zeta only
  extract_lets d n1 sc'
  have h1 : Unrun n n1 := by
    simp only [n1]
    split
    · exact Unrun.ite (Unrun.refl n) ((Unrun.refl n).maxFld _ _)
    · exact Unrun.refl n
  exact Unrun.ite h1 (h1.setTask id)

/-! ### The handles, the alarms, the display and the drivers (R311, R531) -/

theorem unrun_setHandle (x : Handle) : Unrun m (m.setHandle x) := (Unrun.refl m).same rfl

theorem unrun_handleDone (h : Handle) (s d : Nat) : Unrun m (m.handleDone h s d) := by
  unfold Mach.handleDone
  extract_lets m1
  have h1 : Unrun m m1 := unrun_setHandle m _
  clear_value m1
  exact Unrun.ite h1 (Unrun.ite (h1.trans (unrun_info m1 _)) (h1.trans (unrun_note m1 _)))

theorem unrun_olcHandle : Unrun m m.olcHandle := by
  unfold Mach.olcHandle
  split
  · exact Unrun.refl m
  · extract_lets h
    exact Unrun.ite (unrun_handleDone m _ _ _) (Unrun.ite (unrun_setHandle m _) (unrun_setHandle m _))

theorem unrun_parHandle : Unrun m m.parHandle := by
  unfold Mach.parHandle
  split
  · exact Unrun.refl m
  · split
    · exact unrun_setHandle m _
    · split
      · exact unrun_handleDone m _ _ _
      · exact unrun_handleDone m _ _ _
      · exact unrun_handleDone m _ _ _

theorem unrun_setDsp (x : Dsp) : Unrun m { m with dsp := x } := (past_dsp m x).toKept.runs

theorem unrun_alarmRoom : Unrun m m.alarmRoom := Unrun.ite (Unrun.refl m) ((unrun_setDsp m _).satFld _ _)

theorem unrun_alarmCheck (d : Nat) : Unrun m (m.alarmCheck d) := by
  unfold Mach.alarmCheck
  extract_lets hot was w stamp m1
  have h1 : Unrun m m1 := unrun_alarmRoom m
  clear_value m1
  exact Unrun.ite (Unrun.refl m) (Unrun.ite (h1.trans (unrun_setDsp m1 _)) (unrun_setDsp m _))

theorem unrun_alarmsNow (b : Bool) : Unrun m (m.alarmsNow b) :=
  Unrun.ite ((Unrun.refl m).foldM (fun d _ n => Unrun.ite (unrun_alarmCheck n d) (Unrun.refl n))) (Unrun.refl m)

theorem unrun_showRegion (n : Nat) : Unrun m (m.showRegion n) := by
  unfold Mach.showRegion
  extract_lets m1
  have h1 : Unrun m m1 := (Unrun.refl m).setFld _ _
  clear_value m1
  split
  · exact h1.setFld _ _
  · extract_lets m2 m3 m4 m5
    have h2 : Unrun m m2 := ((h1.setFld _ _).setFld _ _).setFld _ _
    clear_value m2
    have h3 : Unrun m m3 := (h2.setFld _ _).setFld _ _
    clear_value m3
    have h4 : Unrun m m4 := (h3.setFld _ _).setFld _ _
    clear_value m4
    have h5 : Unrun m m5 := (h4.setFld _ _).setFld _ _
    exact h5.setFld _ _

theorem unrun_dspStop : Unrun m m.dspStop := by
  unfold Mach.dspStop Mach.setRun
  extract_lets rs fr m1 d2 m2 m3 m4 d5 m5
  have h1 : Unrun m m1 := Unrun.ite (unrun_setDsp m _) (Unrun.refl m)
  clear_value m1
  have h2 : Unrun m m2 := h1.trans (unrun_setDsp m1 _)
  clear_value m2
  have h3 : Unrun m m3 := Unrun.ite (Unrun.ite h2 ((h2.satFld _ _).trans (unrun_info _ _))) h1
  clear_value m3
  have h4 : Unrun m m4 := h3.foldM (fun _ _ n => (unrun_setDsp n _).trans (unrun_showRegion _ _))
  clear_value m4
  have h5 : Unrun m m5 := h4.trans (unrun_setDsp m4 _)
  clear_value m5
  exact (h5.setFld _ _).trans (unrun_stat _ _ _)

theorem unrun_dspWake : Unrun m m.dspWake :=
  Unrun.ite ((Unrun.refl m).setFlag _ _) (Unrun.ite ((unrun_setDsp m _).setFld _ _) (Unrun.refl m))

theorem unrun_dspFollow : Unrun m m.dspFollow :=
  Unrun.ite (Unrun.ite (unrun_dspWake m) (Unrun.refl m)) (Unrun.ite (unrun_setDsp m _) (Unrun.ite (unrun_dspStop m) (Unrun.refl m)))

theorem unrun_drive : Unrun m m.drive := by
  have hfio (n : Mach) (x : FieldIo) : Unrun n { n with fio := x } := (Unrun.refl n).same rfl
  have hfresh (n : Mach) : Unrun n n.fresh.2 := (Unrun.refl n).same rfl
  have hset (n : Mach) (b : Bool) : Unrun n (n.setHc b) := Unrun.ite (Unrun.refl n) ((hfresh n).trans (hfio _ _))
  exact (hfio m _).trans (hset _ _)

/-- What settles after a command starts no scan. -/
theorem unrun_settle : Unrun m m.settle := by
  unfold Mach.settle
  extract_lets m1 m2
  have h1 : Unrun m m1 := ((((unrun_ppsSilent m).trans (unrun_enterFault _)).trans (unrun_olcSettle _)).trans (unrun_runDue _)).trans (unrun_promote _)
  clear_value m1
  have h2 : Unrun m m2 := h1.trans ((((unrun_pairSettle m1).trans (unrun_olcSettle _)).trans (unrun_dispatch _)).trans (unrun_markHeld _))
  clear_value m2
  have h3 : Unrun m m2.svcSettle.showRet := (h2.trans ((unrun_olcHandle m2).trans (unrun_parHandle _))).kept (kept_showRet _)
  exact (((h3.trans (unrun_alarmsNow _ false)).trans (unrun_dspFollow _)).trans (unrun_flushStream _)).trans (unrun_drive _)

end Sys2Proof.Machine
end

section
/-!
PROOF. A boundary in the middle of a takeover (O18): the statement's conditions leave out that the module takes over the partner's points (`Pair.taking`), while no
snapshot is fixed (`Mach.mayFix`), so the scan in RUN stays.
-/
namespace Sys2Proof.Machine
open Sys2Proof

/-- A scan in RUN, not anchored, without segments. -/
def takingScan : Scan :=
  { id := 0, snap := { time := 0, trig := 0, tidx := 0, scsn := 0, bndn := 0, utcoff := 0, period := 0, phase := 0, ord := 0, ivals := [], wvals := [] }, segs := [],
    rset := [], anchored := false, anchOrd := 0, started := 0, complete := false, heldAt := 0, deferredAt := none, waitFrom := 0 }

/-- A module in RUN with the token that takes over the partner's points, its task 0 enabled, at a boundary, with a scan in RUN. -/
def takingState : State :=
  { m := { ((({} : Mach).setFlag (R.TSK_CFG_EN 0) true).setFlag R.PRT_STAT_TOKEN true) with
             st := .run, tasks := [(0, { run := some takingScan })], pair := { taking := true } } }

/-- The state meets every condition of a boundary that is taken, its scan in RUN is not anchored. -/
theorem takingState_due :
    let m := arrive 0 takingState
    (m.st = .run ∧ m.taskOn 0 = true ∧ m.fld64 (R.TSK_NBND_LO 0) ≤ m.now) ∧
      (m.hasToken = true ∧ m.following = false ∧ m.pair.yielding = none ∧ m.olcOpen = false) ∧ (m.task 0).anyTaken = false ∧
      (m.task 0).run = some takingScan := by
  decide +kernel

/-- The scan is still in RUN behind the boundary. -/
theorem takingState_runs : (((arrive 0 takingState).boundary 0).settle.task 0).run = some takingScan := by
  decide +kernel

theorem next_m_inj {s : State} {m n : Mach} (h : (Host.Outcome.next { s with m := m } : Host.Outcome State Fault Refusal) = .next { s with m := n }) : m = n := by
  have hm := congrArg State.m (Host.Outcome.next.inj h)
  exact hm

theorem settle_of_runAt {s : State} {t : Nat} {f : Mach → Mach} {m' : Mach} (h : runAt t f s = .next { s with m := m'.settle }) : (f (arrive t s)).settle = m'.settle :=
  next_m_inj (s := s) h

/-- What an answer to a command says of the module before it settles. -/
theorem settle_of_answers {c : Instr} {s : State} {t : Nat} {f : Mach → Mach} {P : Mach → Prop} (hc : exec c s = runAt t f s) (h : Answers c s P) :
    ∃ m', (f (arrive t s)).settle = m'.settle ∧ P m' := by
  obtain ⟨m', hexec, hP⟩ := h
  exact ⟨m', settle_of_runAt (hc.symm.trans hexec), hP⟩

/-- A state whose task runs a scan is settled from none whose task runs no scan. -/
theorem run_ne_none_of_settle {m n : Mach} {k : Nat} {sc : Scan} (h : n = m.settle) (hn : (n.task k).run = some sc) : (m.task k).run ≠ none := by
  intro hm
  have hs := unrun_settle m k hm
  rw [← h, hn] at hs
  cases hs

/-- Refutes O18: while the module takes over the partner's points it fixes no snapshot (`Mach.mayFix`), which the statement's `own` does not ask; at task 0's boundary
the scan in RUN, not anchored, is not squashed, and what settles behind the command starts no scan. -/
theorem not_boundariesOfTasks : ¬ Obligations.BoundariesOfTasks := by
  unfold Obligations.BoundariesOfTasks
  intro h
  obtain ⟨hdue, hown, hfirst, hrun⟩ := takingState_due
  obtain ⟨-, htaken, -⟩ := h takingState 0 0
  obtain ⟨m', hsettle, -, -, -, -, -, -, hsquash⟩ := settle_of_answers (f := fun m => m.boundary 0) rfl (htaken hdue hown (.inl hfirst))
  obtain ⟨hnone, -⟩ := hsquash (fun r hr => by rw [Option.some.inj (hr.symm.trans hrun)]; rfl)
  exact run_ne_none_of_settle hsettle takingState_runs hnone

end Sys2Proof.Machine
end

section
/-!
PROOF. A squash of the scan in RUN (O26): the engines stopped (R66), the counts (R69) with the restart budget (R78), and the rerun (R68), one after another.
-/
namespace Sys2Proof.Machine
open Sys2Proof

variable (m : Mach)

/-! ### The engines of the scan (R66, R105) -/

/-- An engine stopped by a squash: nothing issues, nothing is in flight, and it is free 60 ns later. -/
def Eng.stopped (now : Nat) (x : Eng) : Eng :=
  { x with act := none, drain := false, freeAt := now + 60, flight := [], ends := [], flt := none, ds := 0, tgt := none }

theorem Eng.stopped_stopped (now : Nat) (x : Eng) : (x.stopped now).stopped now = x.stopped now := rfl

theorem engStep_stopEngine (e : Nat) : EngStep e (Eng.stopped m.now) m (m.stopEngine e) := by
  unfold Mach.stopEngine
  extract_lets en n m1
  have h1 : EngStep e id m m1 ∧ m1.now = m.now := by
    simp only [m1, onlyIf]
    split
    · rename_i h
      have he : e < 16 := of_decide_eq_true (Bool.and_eq_true_iff.mp h).1
      have ha : (R.ENG_DISCARD e).addr / 0x10000 = 6 := by simp only [R.ENG_DISCARD]; omega
      exact ⟨⟨(PowerOnly.refl m).setFld _ (.inr ha), (EngStep.refl m e rfl).eng⟩, rfl⟩
    · exact ⟨EngStep.refl m e rfl, rfl⟩
  exact h1.1.setEng (by rw [h1.2]; rfl)

theorem stopScan_engs (sc : Scan) : PowerOnly m (m.stopScan sc) ∧
    ∀ i, (m.stopScan sc).eng i = if i ∈ (sc.segs.filter (·.st == .running)).map Seg.eng then (m.eng i).stopped m.now else m.eng i :=
  EngStep.foldM (Eng.stopped_stopped m.now) (fun g _ n hn => hn.now ▸ engStep_stopEngine n g.eng) (PowerOnly.refl m)

theorem stopScan_eng_running {sc : Scan} {g : Seg} (hg : g ∈ sc.segs) (hr : g.st = .running) :
    (m.stopScan sc).eng g.eng = (m.eng g.eng).stopped m.now := by
  rw [(stopScan_engs m sc).2, if_pos (List.mem_map_of_mem (List.mem_filter.mpr ⟨hg, by rw [hr]; rfl⟩))]

/-! ### What a journal entry leaves (R218, R279) -/

/-- A register of a task or of the image. -/
def taskImgReg (a : Nat) : Prop := a / 0x10000 = 7 ∨ a / 0x10000 = 8

/-- `n` is `Logs` from `m`, with the registers of the tasks and the image, and is in a transfer just when `m` is. -/
structure Filed (m n : Mach) : Prop extends Logs m n where
  syncing : n.pair.syncing = m.pair.syncing
  regs : ∀ a, taskImgReg a → n.rget a = m.rget a

namespace Filed

variable {m n x : Mach}

theorem refl (m : Mach) : Filed m m := ⟨Logs.refl m, rfl, fun _ _ => rfl⟩

theorem trans (h : Filed m n) (g : Filed n x) : Filed m x :=
  ⟨h.toLogs.trans g.toLogs, g.syncing.trans h.syncing, fun a ha => (g.regs a ha).trans (h.regs a ha)⟩

theorem setFld (h : Filed m n) {f : Fld} (v : Nat) (hf : ¬ taskImgReg f.addr) : Filed m (n.setFld f v) :=
  h.trans ⟨⟨rfl, rfl⟩, rfl, fun _ ha => n.rget_setFld_ne f v (by rintro rfl; exact hf ha)⟩

end Filed

theorem filed_streamPut (r : List Byte) : Filed m (m.streamPut r) := by
  unfold Mach.streamPut
  split
  · refine Filed.setFld ?_ _ (by unfold taskImgReg; decide)
    exact ⟨⟨rfl, rfl⟩, rfl, fun _ _ => rfl⟩
  · exact Filed.refl m

theorem filed_fifoPut (j : JEntry) : Filed m (m.fifoPut j) := by
  unfold Mach.fifoPut
  split
  · refine Filed.setFld (Filed.setFld ?_ _ (by unfold taskImgReg; decide)) _ (by unfold taskImgReg; decide)
    exact ⟨⟨rfl, rfl⟩, rfl, fun _ _ => rfl⟩
  · refine Filed.setFld ?_ _ (by unfold taskImgReg; decide)
    exact ⟨⟨rfl, rfl⟩, rfl, fun _ _ => rfl⟩

theorem filed_journal (t p k f : Nat) : Filed m (m.journal t p k f) := by
  unfold Mach.journal
  split
  · exact Filed.refl m
  · exact (((Filed.refl m).setFld (f := R.EVU_SEQ) _ (by unfold taskImgReg; decide)).trans (filed_streamPut _ _)).trans (filed_fifoPut _ _)

/-! ### The counts and the budget (R69, R78) -/

/-- `n` has the engines of `m`, the scans task `k` holds in SNAP and RUN, the registers of the tasks and the image, and is in a transfer just when `m` is. -/
structure Steady (k : Nat) (m n : Mach) : Prop where
  engs : n.engs = m.engs
  snap : (n.task k).snap = (m.task k).snap
  run : (n.task k).run = (m.task k).run
  syncing : n.pair.syncing = m.pair.syncing
  regs : ∀ a, taskImgReg a → n.rget a = m.rget a

theorem Steady.refl (k : Nat) : Steady k m m := ⟨rfl, rfl, rfl, rfl, fun _ _ => rfl⟩

/-- The module with a squash counted, in its task and by its code. -/
def Mach.squashCounted (m : Mach) (k code : Nat) : Mach := (m.addFld (R.TSK_SQUASHES k) 1).addFld (R.IMG_SQCNT code) 1

/-- The module with a restart counted and taken from the budget. -/
def Mach.restartCounted (m : Mach) (k : Nat) : Mach :=
  (m.addFld (R.TSK_RESTARTS k) 1).setFld (R.TSK_BUDGET_RSTLEFT k) (m.fld (R.TSK_BUDGET_RSTLEFT k) - 1)

/-- The module with all a squash counts where the journal is the module's own: codes 0 to 2 take from the budget. -/
def Mach.squashTallied (m : Mach) (k code : Nat) : Mach :=
  if code ≤ 2 then (m.squashCounted k code).restartCounted k else m.squashCounted k code

/-- Beside the restart and the budget, the journal tells once that the budget is used up. -/
theorem steady_takeBudget (k : Nat) : Steady k (m.restartCounted k) (m.takeBudget k) := by
  unfold Mach.takeBudget
  extract_lets left n
  have hn : m.restartCounted k = n := rfl
  clear_value n
  rw [hn]
  split
  · have h := filed_journal n n.now (0x4000 + k) 0x47 (1 + n.degradedAt n.now)
    exact ⟨h.engs, by rw [Mach.task_setTask_same], by rw [Mach.task_setTask_same], h.syncing, h.regs⟩
  · exact Steady.refl n k

theorem fld_setFld_of_addr_ne {f g : Fld} (v : Nat) (h : g.addr ≠ f.addr) : (m.setFld f v).fld g = m.fld g := by
  simp only [Mach.fld, Mach.rget_setFld_ne _ _ _ h]

theorem fld_addFld_of_addr_ne {f g : Fld} (v : Nat) (h : g.addr ≠ f.addr) : (m.addFld f v).fld g = m.fld g := fld_setFld_of_addr_ne m _ h

theorem restartCounted_fld {k : Nat} {f : Fld} (h1 : f.addr ≠ (R.TSK_RESTARTS k).addr) (h2 : f.addr ≠ (R.TSK_BUDGET_RSTLEFT k).addr) :
    (m.restartCounted k).fld f = m.fld f := by
  rw [Mach.restartCounted, fld_setFld_of_addr_ne _ _ h2, fld_addFld_of_addr_ne _ _ h1]

theorem restartCounted_restarts (k : Nat) : (m.restartCounted k).fld (R.TSK_RESTARTS k) = (m.fld (R.TSK_RESTARTS k) + 1) % 2 ^ 32 := by
  have h : (R.TSK_RESTARTS k).addr ≠ (R.TSK_BUDGET_RSTLEFT k).addr := by simp only [R.TSK_RESTARTS, R.TSK_BUDGET_RSTLEFT]; omega
  rw [Mach.restartCounted, fld_setFld_of_addr_ne _ _ h]
  exact fld_addFld_same m 1 (by simp only [R.TSK_RESTARTS]; omega)

theorem restartCounted_left (k : Nat) : (m.restartCounted k).fld (R.TSK_BUDGET_RSTLEFT k) = m.fld (R.TSK_BUDGET_RSTLEFT k) - 1 := by
  have hlt := fld_lt m (R.TSK_BUDGET_RSTLEFT k)
  rw [Mach.restartCounted, Mach.fld_setFld_same _ _ _ (by simp only [R.TSK_BUDGET_RSTLEFT]; omega), Nat.mod_eq_of_lt (by omega)]

theorem squashCounted_fld {k code : Nat} {f : Fld} (h1 : f.addr ≠ (R.TSK_SQUASHES k).addr) (h2 : f.addr ≠ (R.IMG_SQCNT code).addr) :
    (m.squashCounted k code).fld f = m.fld f := by
  rw [Mach.squashCounted, fld_addFld_of_addr_ne _ _ h2, fld_addFld_of_addr_ne _ _ h1]

theorem squashCounted_squashes {k code : Nat} (hk : k < 32) :
    (m.squashCounted k code).fld (R.TSK_SQUASHES k) = (m.fld (R.TSK_SQUASHES k) + 1) % 2 ^ 32 := by
  have h : (R.TSK_SQUASHES k).addr ≠ (R.IMG_SQCNT code).addr := by simp only [R.TSK_SQUASHES, R.IMG_SQCNT]; omega
  rw [Mach.squashCounted, fld_addFld_of_addr_ne _ _ h]
  exact fld_addFld_same m 1 (by simp only [R.TSK_SQUASHES]; omega)

theorem squashCounted_code {k code : Nat} (hk : k < 32) :
    (m.squashCounted k code).fld (R.IMG_SQCNT code) = (m.fld (R.IMG_SQCNT code) + 1) % 2 ^ 32 := by
  have h : (R.IMG_SQCNT code).addr ≠ (R.TSK_SQUASHES k).addr := by simp only [R.TSK_SQUASHES, R.IMG_SQCNT]; omega
  rw [Mach.squashCounted, ← fld_addFld_of_addr_ne m 1 h]
  exact fld_addFld_same _ 1 (by simp only [R.IMG_SQCNT]; omega)

/-- Whose the journal is rests on the role and on a transfer. -/
theorem following_congr {m n : Mach} (hr : n.fld R.PRT_STAT_ROLE = m.fld R.PRT_STAT_ROLE) (hs : n.pair.syncing = m.pair.syncing) :
    n.following = m.following := by
  simp only [Mach.following, Mach.isFollow, Mach.role, hr, hs]

theorem squashCounted_following {k code : Nat} (hk : k < 32) (hc : code < 8) : (m.squashCounted k code).following = m.following := by
  refine following_congr (squashCounted_fld m ?_ ?_) rfl
  · simp only [R.PRT_STAT_ROLE, R.TSK_SQUASHES]; omega
  · simp only [R.PRT_STAT_ROLE, R.IMG_SQCNT]; omega

theorem countSquash_eq (k code : Nat) : m.countSquash k code =
    onlyIf (squashBudget code && !(m.squashCounted k code).following) (fun n => n.takeBudget k) (m.squashCounted k code) := by
  unfold Mach.countSquash Mach.squashCounted
  rfl

theorem steady_countSquash {k code : Nat} (hk : k < 32) (hc : code < 8) (h : m.following = false) :
    Steady k (m.squashTallied k code) (m.countSquash k code) := by
  rw [countSquash_eq, squashCounted_following m hk hc, h, Mach.squashTallied]
  by_cases hb : code ≤ 2
  · rw [if_pos hb, show squashBudget code = true from decide_eq_true hb]
    exact steady_takeBudget _ k
  · rw [if_neg hb, show squashBudget code = false from decide_eq_false hb]
    exact Steady.refl _ k

/-- Counting a squash writes registers alone. -/
theorem squashTallied_recs (k code : Nat) :
    (m.squashTallied k code).engs = m.engs ∧ (m.squashTallied k code).tasks = m.tasks ∧ (m.squashTallied k code).pair = m.pair := by
  unfold Mach.squashTallied Mach.restartCounted Mach.squashCounted
  split
  · simp only [Mach.setFld_engs, Mach.addFld_engs, Mach.setFld_tasks, Mach.addFld_tasks, Mach.setFld_pair, Mach.addFld_pair, and_self]
  · simp only [Mach.addFld_engs, Mach.addFld_tasks, Mach.addFld_pair, and_self]

/-- What a squash counts, from the state `m` to the state `n`. -/
structure SquashCounts (k code : Nat) (m n : Mach) : Prop where
  squashes : n.fld (R.TSK_SQUASHES k) = (m.fld (R.TSK_SQUASHES k) + 1) % 2 ^ 32
  codes : n.fld (R.IMG_SQCNT code) = (m.fld (R.IMG_SQCNT code) + 1) % 2 ^ 32
  restarts : code ≤ 2 → n.fld (R.TSK_RESTARTS k) = (m.fld (R.TSK_RESTARTS k) + 1) % 2 ^ 32
  left : code ≤ 2 → n.fld (R.TSK_BUDGET_RSTLEFT k) = m.fld (R.TSK_BUDGET_RSTLEFT k) - 1

/-- The registers of a squash's counts are registers of the tasks and the image. -/
theorem countRegs {k code : Nat} (hk : k < 32) (hc : code < 8) :
    taskImgReg (R.TSK_SQUASHES k).addr ∧ taskImgReg (R.IMG_SQCNT code).addr ∧ taskImgReg (R.TSK_RESTARTS k).addr ∧ taskImgReg (R.TSK_BUDGET_RSTLEFT k).addr := by
  simp only [taskImgReg, R.TSK_SQUASHES, R.IMG_SQCNT, R.TSK_RESTARTS, R.TSK_BUDGET_RSTLEFT]
  omega

theorem SquashCounts.congr {k code : Nat} {m n m' n' : Mach} (h : SquashCounts k code m n) (hk : k < 32) (hc : code < 8)
    (hm : ∀ a, taskImgReg a → m.rget a = m'.rget a) (hn : ∀ a, taskImgReg a → n'.rget a = n.rget a) : SquashCounts k code m' n' := by
  obtain ⟨h1, h2, h3, h4⟩ := countRegs hk hc
  obtain ⟨c1, c2, c3, c4⟩ := h
  have hmf (f : Fld) (hf : taskImgReg f.addr) : m'.fld f = m.fld f := by simp only [Mach.fld, hm _ hf]
  have hnf (f : Fld) (hf : taskImgReg f.addr) : n'.fld f = n.fld f := by simp only [Mach.fld, hn _ hf]
  exact ⟨by rw [hnf _ h1, hmf _ h1, c1], by rw [hnf _ h2, hmf _ h2, c2], fun h => by rw [hnf _ h3, hmf _ h3, c3 h],
    fun h => by rw [hnf _ h4, hmf _ h4, c4 h]⟩

theorem counts_squashTallied {k code : Nat} (hk : k < 32) : SquashCounts k code m (m.squashTallied k code) := by
  unfold Mach.squashTallied
  split
  · have hs (f : Fld) (hf : f.addr = (R.TSK_SQUASHES k).addr ∨ f.addr = (R.IMG_SQCNT code).addr) :
        ((m.squashCounted k code).restartCounted k).fld f = (m.squashCounted k code).fld f := by
      simp only [R.TSK_SQUASHES, R.IMG_SQCNT] at hf
      exact restartCounted_fld _ (by simp only [R.TSK_RESTARTS]; omega) (by simp only [R.TSK_BUDGET_RSTLEFT]; omega)
    have hr (f : Fld) (hf : f.addr = (R.TSK_RESTARTS k).addr ∨ f.addr = (R.TSK_BUDGET_RSTLEFT k).addr) :
        (m.squashCounted k code).fld f = m.fld f := by
      simp only [R.TSK_RESTARTS, R.TSK_BUDGET_RSTLEFT] at hf
      exact squashCounted_fld _ (by simp only [R.TSK_SQUASHES]; omega) (by simp only [R.IMG_SQCNT]; omega)
    refine ⟨(hs _ (.inl rfl)).trans (squashCounted_squashes m hk), (hs _ (.inr rfl)).trans (squashCounted_code m hk), fun _ => ?_, fun _ => ?_⟩
    · rw [restartCounted_restarts, hr _ (.inl rfl)]
    · rw [restartCounted_left, hr _ (.inr rfl)]
  · rename_i h
    exact ⟨squashCounted_squashes m hk, squashCounted_code m hk, fun hc => absurd hc h, fun hc => absurd hc h⟩

/-! ### The rerun (R68) -/

/-- A scan that has not begun: its segments wait without shade frames and deferred actions, and it has read nothing. -/
def Scan.unbegun (r : Scan) : Prop := (∀ g ∈ r.segs, g.st = .waiting ∧ g.frame = [] ∧ g.deferred = []) ∧ r.rset = []

theorem newScan_unbegun (k : Nat) (sn : Snap) (a : Bool) (o : Nat) : (m.newScan k sn a o).unbegun := by
  refine ⟨fun g hg => ?_, rfl⟩
  obtain ⟨j, -, rfl⟩ := List.mem_map.mp hg
  exact ⟨rfl, rfl, rfl⟩

theorem putSnap_task (k : Nat) (sn : Snap) (a : Bool) (o : Nat) :
    ∃ b p, (m.putSnap k sn a o).task k = { m.task k with snap := some (m.newScan k sn b p) } := by
  unfold Mach.putSnap
  extract_lets tk
  split
  rename_i b p _
  exact ⟨b, p, Mach.task_setTask_same m k { m.task k with snap := some (m.newScan k sn b p) }⟩

/-- `n` has the engines and registers of `m`, and task `k` runs the scan it ran. -/
structure RerunOnly (k : Nat) (m n : Mach) : Prop where
  engs : n.engs = m.engs
  regs : n.regs = m.regs
  run : (n.task k).run = (m.task k).run

theorem rerunOnly_putSnap (k : Nat) (sn : Snap) (a : Bool) (o : Nat) : RerunOnly k m (m.putSnap k sn a o) := by
  obtain ⟨b, p, h⟩ := putSnap_task m k sn a o
  exact ⟨rfl, rfl, by rw [h]⟩

theorem rerun_seven (k : Nat) (sc : Scan) : m.rerun k 7 sc = m := rfl

/-- The rerun of a module whose journal is its own: on the snapshot in SNAP, else on the squashed scan's own. -/
theorem rerun_eq {k code : Nat} (sc : Scan) (hf : m.following = false) (hc : code ≠ 7) :
    m.rerun k code sc = m.putSnap k (((m.task k).snap.getD sc).snap) sc.anchored sc.anchOrd := by
  unfold Mach.rerun
  rw [if_neg hc, hf, if_neg (by decide)]
  cases (m.task k).snap <;> rfl

theorem rerunOnly_rerun {k code : Nat} (sc : Scan) (hf : m.following = false) : RerunOnly k m (m.rerun k code sc) := by
  by_cases hc : code = 7
  · subst hc
    exact ⟨rfl, rfl, rfl⟩
  · rw [rerun_eq m sc hf hc]
    exact rerunOnly_putSnap m _ _ _ _

theorem rerun_snap {k code : Nat} (sc : Scan) (hf : m.following = false) (hc : code ≠ 7) :
    ∃ r, ((m.rerun k code sc).task k).snap = some r ∧ r.snap = ((m.task k).snap.getD sc).snap ∧ r.unbegun := by
  rw [rerun_eq m sc hf hc]
  obtain ⟨b, p, h⟩ := putSnap_task m k (((m.task k).snap.getD sc).snap) sc.anchored sc.anchOrd
  exact ⟨m.newScan k _ b p, by rw [h], rfl, newScan_unbegun m _ _ _ _⟩

/-! ### The squash (R66, R71) -/

/-- The module with a scan of task `k` stopped and out of RUN. -/
def Mach.scanStopped (m : Mach) (k : Nat) (sc : Scan) : Mach := (m.stopScan sc).setTask k { (m.stopScan sc).task k with run := none }

theorem squashRun_eq {k code : Nat} {sc : Scan} (h : (m.task k).run = some sc) :
    m.squashRun k code = ((m.scanStopped k sc).countSquash k code).rerun k code sc := by
  unfold Mach.squashRun
  rw [h]
  rfl

/-- Stopping a scan takes it out of RUN and leaves what its task holds in SNAP, and the registers of the tasks and the image. -/
theorem scanStopped_does (k : Nat) (sc : Scan) :
    let n := m.scanStopped k sc
    (n.task k).run = none ∧ (n.task k).snap = (m.task k).snap ∧ n.following = m.following ∧ ∀ a, taskImgReg a → n.rget a = m.rget a := by
  obtain ⟨hp, -⟩ := stopScan_engs m sc
  have hpair : (m.scanStopped k sc).pair = m.pair := by
    show (m.stopScan sc).pair = m.pair
    rw [hp.same]
  have hrole : (m.scanStopped k sc).fld R.PRT_STAT_ROLE = m.fld R.PRT_STAT_ROLE := (rest_stopScan m sc).fld (by decide)
  refine ⟨?_, ?_, following_congr hrole (by rw [hpair]), fun a ha => hp.regs a ?_ ?_⟩
  · rw [Mach.scanStopped, Mach.task_setTask_same]
  · rw [Mach.scanStopped, Mach.task_setTask_same, hp.same]; rfl
  · rcases ha with ha | ha <;> omega
  · rcases ha with ha | ha <;> omega

/-- A scan out of RUN and counted: its engines and what its task holds in SNAP are as the stop left them. -/
theorem scanCounted_does {k code : Nat} (sc : Scan) (hk : k < 32) (hc : code < 8) (hf : m.following = false) :
    let n := (m.scanStopped k sc).countSquash k code
    (n.task k).run = none ∧ (n.task k).snap = (m.task k).snap ∧ n.following = false ∧ n.engs = (m.stopScan sc).engs ∧ SquashCounts k code m n := by
  obtain ⟨hrun, hsnap, hfol, hregs⟩ := scanStopped_does m k sc
  rw [hf] at hfol
  have hq := steady_countSquash (m.scanStopped k sc) hk hc hfol
  obtain ⟨hengs, htasks, hpairs⟩ := squashTallied_recs (m.scanStopped k sc) k code
  have htask : ((m.scanStopped k sc).squashTallied k code).task k = (m.scanStopped k sc).task k := by rw [Mach.task, htasks]; rfl
  have hrole := (rest_countSquash (m.scanStopped k sc) hk hc).fld (f := R.PRT_STAT_ROLE) (by decide)
  refine ⟨?_, ?_, (following_congr hrole ?_).trans hfol, hq.engs.trans hengs, (counts_squashTallied _ hk).congr hk hc hregs hq.regs⟩
  · rw [hq.run, htask, hrun]
  · rw [hq.snap, htask, hsnap]
  · rw [hq.syncing, hpairs]

/-- Settles O26: the scan's engines stop, the squash is counted, and the rerun replaces the scan in SNAP. -/
theorem squashesRerun : Obligations.SquashesRerun := by
  unfold Obligations.SquashesRerun
  intro m k code sc hk hc hr hf m'
  obtain ⟨hrun, hsnap, hfol, hengs, hcount⟩ := scanCounted_does m (k := k) (code := code) sc hk hc hf
  have hm' : m' = _ := squashRun_eq m hr
  obtain ⟨hrengs, hrregs, hrrun⟩ := rerunOnly_rerun _ (k := k) (code := code) sc hfol
  obtain ⟨c1, c2, c3, c4⟩ := hcount.congr hk hc (fun _ _ => rfl) (fun a _ => Mach.rget_congr hrregs a)
  have hstop : ∀ i, m'.eng i = (m.stopScan sc).eng i := fun i => by simp only [Mach.eng, hm', hrengs, hengs]
  refine ⟨(rest_squashRun m hk hc).events _, ?_, fun g hg hst => ?_, hm' ▸ c1, hm' ▸ c2, fun h => hm' ▸ ⟨c3 h, c4 h⟩, fun h => ?_, fun h => ?_⟩
  · rw [hm', hrrun, hrun]
  · rw [hstop, stopScan_eng_running m hg hst]
    exact ⟨rfl, rfl, rfl⟩
  · subst h
    rw [hm', rerun_seven, hsnap]
  · obtain ⟨r, hrs, hsn, hwait, hrset⟩ := rerun_snap _ (k := k) sc hfol h
    refine ⟨r, by rw [hm', hrs], ?_, hwait, hrset⟩
    rw [hsn, hsnap]
    cases (m.task k).snap <;> rfl

end Sys2Proof.Machine
end

section
/-!
SUPPORT. The fields of an instruction word (R106, R114): what `wordBits` reads of a word that `wordOf` puts together, for the guard, the opcode and each format, and
that the fields put together give the word again.
-/
namespace Sys2Proof

/-! ### A word read by its fields -/

theorem toNat_wordOf (g : Guard) (op low : Nat) :
    (wordOf g op low).toNat = low % 2 ^ 20 + op % 2 ^ 7 * 2 ^ 20 + g.p.val * 2 ^ 27 + g.neg.toNat * 2 ^ 31 := by
  have hn : g.neg.toNat ≤ 1 := Bool.toNat_le _
  rw [wordOf, BitVec.toNat_ofNat]
  omega

theorem wordBits_eq (w : BitVec 32) (lsb n : Nat) : wordBits w lsb n = w.toNat / 2 ^ lsb % 2 ^ n := by rw [wordBits, Nat.shiftRight_eq_div_pow]

/-- Fields within bits [19:0] are those of the operands. -/
theorem wordBits_wordOf_low (g : Guard) (op low : Nat) {lsb n : Nat} (h : lsb + n ≤ 20) : wordBits (wordOf g op low) lsb n = low / 2 ^ lsb % 2 ^ n := by
  have hw : (wordOf g op low).toNat % 2 ^ 20 = low % 2 ^ 20 := by rw [toNat_wordOf]; omega
  have hb : ∀ x : Nat, x / 2 ^ lsb % 2 ^ n = x % 2 ^ 20 / 2 ^ lsb % 2 ^ n := fun x => by
    obtain ⟨k, hk⟩ := Nat.exists_eq_add_of_le h
    rw [hk, pow_add, pow_add, Nat.mul_assoc, Nat.mod_mul_right_div_self, Nat.mod_mul_right_mod]
  rw [wordBits_eq, hb, hw, ← hb]

theorem wordBits_wordOf_row (g : Guard) (op low : Nat) : wordBits (wordOf g op low) 24 3 = op / 16 % 8 := by
  rw [wordBits_eq, toNat_wordOf]; omega

theorem wordBits_wordOf_column (g : Guard) (op low : Nat) : wordBits (wordOf g op low) 20 4 = op % 16 := by
  rw [wordBits_eq, toNat_wordOf]; omega

theorem wordBits_wordOf_unguarded (g : Guard) (op low : Nat) : wordBits (wordOf g op low) 0 27 = low % 2 ^ 20 + op % 2 ^ 7 * 2 ^ 20 := by
  rw [wordBits_eq, toNat_wordOf]; omega

theorem wordGuard_wordOf (g : Guard) (op low : Nat) : wordGuard (wordOf g op low) = g := by
  obtain ⟨neg, p⟩ := g
  have hn : (wordOf ⟨neg, p⟩ op low).getLsbD 31 = neg := by
    rw [BitVec.getLsbD, Nat.testBit_eq_decide_div_mod_eq, toNat_wordOf]
    cases neg <;> simp <;> omega
  have hp : wordFin (wordOf ⟨neg, p⟩ op low) 27 4 = p := by
    have hb : neg.toNat ≤ 1 := Bool.toNat_le _
    refine Fin.ext ?_
    show wordBits _ 27 4 = p.val
    rw [wordBits_eq, toNat_wordOf]
    dsimp only
    omega
  rw [wordGuard, hn, hp]

theorem wordFin_wordOf_low (g : Guard) (op low : Nat) {lsb n : Nat} (h : lsb + n ≤ 20) (x : Fin (2 ^ n)) (hx : low / 2 ^ lsb % 2 ^ n = x.val) :
    wordFin (wordOf g op low) lsb n = x :=
  Fin.ext ((wordBits_wordOf_low g op low h).trans hx)

theorem ofNat_wordBits_wordOf_low (g : Guard) (op low : Nat) {n : Nat} (h : n ≤ 20) (x : BitVec n) (hx : low % 2 ^ n = x.toNat) :
    BitVec.ofNat n (wordBits (wordOf g op low) 0 n) = x := by
  rw [wordBits_wordOf_low g op low (by omega), pow_zero, Nat.div_one, hx, BitVec.ofNat_toNat, BitVec.setWidth_eq]

/-! ### Each format from its own word -/

theorem wordA_wordOf (g : Guard) (op : Nat) (f : FmtA) : wordA (wordOf g op f.low) = f := by
  obtain ⟨d, a, b, x⟩ := f
  rw [wordA, wordFin_wordOf_low g op _ (by decide) d, wordFin_wordOf_low g op _ (by decide) a, wordFin_wordOf_low g op _ (by decide) b,
    wordFin_wordOf_low g op _ (by decide) x] <;> dsimp only [FmtA.low] <;> omega

theorem wordB_wordOf (g : Guard) (op : Nat) (f : FmtB) : wordB (wordOf g op f.low) = f := by
  obtain ⟨d, a, imm⟩ := f
  rw [wordB, wordFin_wordOf_low g op _ (by decide) d, wordFin_wordOf_low g op _ (by decide) a, ofNat_wordBits_wordOf_low g op _ (by decide) imm] <;>
    dsimp only [FmtB.low] <;> omega

theorem wordC_wordOf (g : Guard) (op : Nat) (f : FmtC) : wordC (wordOf g op f.low) = f := by
  obtain ⟨s, target⟩ := f
  rw [wordC, wordFin_wordOf_low g op _ (by decide) s, ofNat_wordBits_wordOf_low g op _ (by decide) target] <;> dsimp only [FmtC.low] <;> omega

theorem wordD_wordOf (g : Guard) (op : Nat) (f : FmtD) : wordD (wordOf g op f.low) = f := by
  obtain ⟨r, a, off⟩ := f
  rw [wordD, wordFin_wordOf_low g op _ (by decide) r, wordFin_wordOf_low g op _ (by decide) a, ofNat_wordBits_wordOf_low g op _ (by decide) off] <;>
    dsimp only [FmtD.low] <;> omega

theorem wordE_wordOf (g : Guard) (op : Nat) (f : FmtE) : wordE (wordOf g op f.low) = f := by
  obtain ⟨pd, a, b, c⟩ := f
  rw [wordE, wordFin_wordOf_low g op _ (by decide) pd, wordFin_wordOf_low g op _ (by decide) a, wordFin_wordOf_low g op _ (by decide) b,
    wordFin_wordOf_low g op _ (by decide) c] <;> dsimp only [FmtE.low] <;> omega

theorem wordF_wordOf (g : Guard) (op : Nat) (f : FmtF) : wordF (wordOf g op f.low) = f := by
  obtain ⟨d, imm⟩ := f
  rw [wordF, wordFin_wordOf_low g op _ (by decide) d, ofNat_wordBits_wordOf_low g op _ (by decide) imm] <;> dsimp only [FmtF.low] <;> omega

/-! ### The word from its fields -/

theorem wordA_low (w : BitVec 32) : (wordA w).low = wordBits w 0 20 := by
  simp only [FmtA.low, wordA, wordFin, wordBits_eq]; omega

theorem wordB_low (w : BitVec 32) : (wordB w).low = wordBits w 0 20 := by
  simp only [FmtB.low, wordB, wordFin, wordBits_eq, BitVec.toNat_ofNat]; omega

theorem wordC_low (w : BitVec 32) : (wordC w).low = wordBits w 0 20 := by
  simp only [FmtC.low, wordC, wordFin, wordBits_eq, BitVec.toNat_ofNat]; omega

theorem wordD_low (w : BitVec 32) : (wordD w).low = wordBits w 0 20 := by
  simp only [FmtD.low, wordD, wordFin, wordBits_eq, BitVec.toNat_ofNat]; omega

theorem wordE_low (w : BitVec 32) : (wordE w).low = wordBits w 0 20 := by
  simp only [FmtE.low, wordE, wordFin, wordBits_eq]; omega

theorem wordF_low (w : BitVec 32) : (wordF w).low = wordBits w 0 20 := by
  simp only [FmtF.low, wordF, wordFin, wordBits_eq, BitVec.toNat_ofNat]; omega

/-- R106, R114: guard, opcode and operands are all of a word. -/
theorem wordOf_fields (w : BitVec 32) : wordOf (wordGuard w) (16 * wordBits w 24 3 + wordBits w 20 4) (wordBits w 0 20) = w := by
  have hn : (w.getLsbD 31).toNat = w.toNat / 2 ^ 31 := by
    rw [BitVec.getLsbD, Nat.toNat_testBit]; omega
  refine BitVec.eq_of_toNat_eq ?_
  simp only [toNat_wordOf, wordGuard, wordFin, wordBits_eq, hn]
  omega

end Sys2Proof
end

section
/-!
PROOF. Decoding and encoding (O57).
-/
namespace Sys2Proof

/-! ### Every word is that of its instruction -/

variable (e : Fin 16) (g : Guard) (w : BitVec 32)

theorem encodeWord_decodeOp0 {n : Nat} (h : n < 16) : encodeWord (decodeOp0 e g w n) = some (e, wordOf g n (wordBits w 0 20)) := by
  interval_cases n <;> simp only [decodeOp0, encodeWord, wordA_low, wordB_low, wordF_low]

theorem encodeWord_decodeOp1 {n : Nat} (h : n < 16) : encodeWord (decodeOp1 e g w n) = some (e, wordOf g (16 + n) (wordBits w 0 20)) := by
  interval_cases n <;> simp only [decodeOp1, encodeWord, wordA_low, wordB_low, wordE_low]

theorem encodeWord_decodeOp2 {n : Nat} (h : n < 16) : encodeWord (decodeOp2 e g w n) = some (e, wordOf g (32 + n) (wordBits w 0 20)) := by
  interval_cases n <;> simp only [decodeOp2, encodeWord, wordD_low, wordE_low]

theorem encodeWord_decodeOp3 {n : Nat} (h : n < 16) : encodeWord (decodeOp3 e g w n) = some (e, wordOf g (48 + n) (wordBits w 0 20)) := by
  interval_cases n <;> simp only [decodeOp3, encodeWord, wordD_low]

theorem encodeWord_decodeOp4 {n : Nat} (h : n < 16) : encodeWord (decodeOp4 e g w n) = some (e, wordOf g (64 + n) (wordBits w 0 20)) := by
  interval_cases n <;> simp only [decodeOp4, encodeWord, wordD_low]

/-- R158: an SWR keeps its selector, whether or not it is of a row. -/
theorem encodeWord_decodeSwr (f : FmtF) : encodeWord (decodeSwr e g f) = some (e, wordOf g 0x5F f.low) := by
  unfold decodeSwr
  split
  · next h => rw [FmtF.low, h]; rfl
  · split
    · next h => rw [FmtF.low, h]; rfl
    · rfl

theorem encodeWord_decodeOp5 {n : Nat} (h : n < 16) : encodeWord (decodeOp5 e g w n) = some (e, wordOf g (80 + n) (wordBits w 0 20)) := by
  rcases Nat.lt_or_eq_of_le (Nat.le_of_lt_succ h) with h | rfl
  · interval_cases n <;> simp only [decodeOp5, encodeWord, wordA_low, wordC_low, wordD_low, wordF_low]
  · exact (encodeWord_decodeSwr e g _).trans (by rw [wordF_low])

/-- R160: a custom or a reserved word keeps its operands whole. -/
theorem wordOf_custom : wordOf g (0x60 + (wordFin w 20 4).val) (BitVec.ofNat 20 (wordBits w 0 20)).toNat = wordOf g (96 + wordBits w 20 4) (wordBits w 0 20) := by
  rw [BitVec.toNat_ofNat, Nat.mod_eq_of_lt (show wordBits w 0 20 < 2 ^ 20 from (wordFin w 0 20).isLt)]
  rfl

theorem wordOf_reserved (h : wordBits w 24 3 = 7) :
    wordOf g ((BitVec.ofNat 27 (wordBits w 0 27)).toNat / 2 ^ 20) (BitVec.ofNat 27 (wordBits w 0 27)).toNat = wordOf g (112 + wordBits w 20 4) (wordBits w 0 20) := by
  refine BitVec.eq_of_toNat_eq ?_
  simp only [toNat_wordOf, BitVec.toNat_ofNat, wordBits_eq] at h ⊢
  omega

theorem encodeWord_decodeWord : encodeWord (decodeWord e w) = some (e, w) := by
  have hcol : wordBits w 20 4 < 16 := Nat.mod_lt _ (by decide)
  have hrow : wordBits w 24 3 < 8 := Nat.mod_lt _ (by decide)
  have hw := wordOf_fields w
  unfold decodeWord
  dsimp only
  generalize hr : wordBits w 24 3 = r at hrow hw ⊢
  conv_rhs => rw [← hw]
  interval_cases r
  · exact (encodeWord_decodeOp0 e _ w hcol).trans (by rw [Nat.mul_zero, Nat.zero_add])
  · exact encodeWord_decodeOp1 e _ w hcol
  · exact encodeWord_decodeOp2 e _ w hcol
  · exact encodeWord_decodeOp3 e _ w hcol
  · exact encodeWord_decodeOp4 e _ w hcol
  · exact encodeWord_decodeOp5 e _ w hcol
  · exact congrArg (fun x => some (e, x)) (wordOf_custom _ w)
  · exact congrArg (fun x => some (e, x)) (wordOf_reserved _ w hr)

/-! ### Every instruction from its word -/

theorem decodeSwr_other (f : FmtF) (h1 : f.imm ≠ 0x1001) (h2 : f.imm ≠ 0x1002) : decodeSwr e g f = .swrPerfctl e g f := by
  rw [decodeSwr, if_neg h1, if_neg h2]

theorem decodeWord_swr (f : FmtF) : decodeWord e (wordOf g 0x5F f.low) = decodeSwr e g f := by
  simp only [decodeWord, wordGuard_wordOf, wordBits_wordOf_row, wordBits_wordOf_column, decodeOp5, wordF_wordOf]

theorem decodeWord_custom (n : Fin 16) (x : BitVec 20) : decodeWord e (wordOf g (0x60 + n.val) x.toNat) = .customInstruction e g n x := by
  have hr : (0x60 + n.val) / 16 % 8 = 6 := by omega
  have hn : wordFin (wordOf g (0x60 + n.val) x.toNat) 20 4 = n := Fin.ext ((wordBits_wordOf_column _ _ _).trans (by omega))
  simp only [decodeWord, wordGuard_wordOf, wordBits_wordOf_row, hr, hn]
  rw [ofNat_wordBits_wordOf_low g _ _ (by decide) x (Nat.mod_eq_of_lt x.isLt)]

/-- A reserved opcode carries bits [26:0] of its word, and with them 0x70–0x7F. -/
theorem decodeWord_reserved (x : BitVec 27) (h : x >>> 24 = 7) : decodeWord e (wordOf g (x.toNat / 2 ^ 20) x.toNat) = .reservedOpcode e g x := by
  have h7 : x.toNat / 2 ^ 24 = 7 := by
    have := congrArg BitVec.toNat h
    rwa [BitVec.toNat_ushiftRight, Nat.shiftRight_eq_div_pow] at this
  have hr : x.toNat / 2 ^ 20 / 16 % 8 = 7 := by omega
  have hx : BitVec.ofNat 27 (wordBits (wordOf g (x.toNat / 2 ^ 20) x.toNat) 0 27) = x := by
    refine BitVec.eq_of_toNat_eq ?_
    rw [wordBits_wordOf_unguarded, BitVec.toNat_ofNat]
    omega
  simp only [decodeWord, wordGuard_wordOf, wordBits_wordOf_row, hr, hx]

/-- Each format's instructions in turn; SWR by its selector, the custom and the reserved opcodes by their own words. -/
theorem decodeWord_of_encodeWord {i : Instr} {e : Fin 16} {w : BitVec 32} (hwf : i.wf = true) (h : encodeWord i = some (e, w)) : decodeWord e w = i := by
  cases i with
  | nop _ g f | add _ g f | sub _ g f | mul _ g f | mulh _ g f | div _ g f | rem _ g f | shl _ g f | shr _ g f | sra _ g f | popc _ g f | ext _ g f
  | and _ g f | or _ g f | xor _ g f | andn _ g f | nor _ g f | xnor _ g f | lmux _ g f | pspr _ g f | mfs _ g f | halt _ g f | wdck _ g f =>
    obtain ⟨rfl, rfl⟩ := Prod.mk.inj (Option.some.inj h)
    simp only [decodeWord, wordGuard_wordOf, wordBits_wordOf_row, wordBits_wordOf_column, decodeOp0, decodeOp1, decodeOp5, wordA_wordOf]
  | addi _ g f | ori _ g f | shli _ g f | shri _ g f | srai _ g f =>
    obtain ⟨rfl, rfl⟩ := Prod.mk.inj (Option.some.inj h)
    simp only [decodeWord, wordGuard_wordOf, wordBits_wordOf_row, wordBits_wordOf_column, decodeOp0, decodeOp1, wordB_wordOf]
  | br _ g f | call _ g f | ret _ g f | lpb _ g f | mtlk _ g f | mtlp _ g f =>
    obtain ⟨rfl, rfl⟩ := Prod.mk.inj (Option.some.inj h)
    simp only [decodeWord, wordGuard_wordOf, wordBits_wordOf_row, wordBits_wordOf_column, decodeOp5, wordC_wordOf]
  | ldb _ g f | ldbs _ g f | ldh _ g f | ldhs _ g f | ldw _ g f | stb _ g f | sth _ g f | stw _ g f | lib _ g f | lqb _ g f | lmb _ g f | liw _ g f
  | lqw _ g f | lmw _ g f | ldq _ g f | lww _ g f | sqb _ g f | smb _ g f | sqw _ g f | smw _ g f | sww _ g f | bgth _ g f | bgthq _ g f | bsct _ g f
  | ton _ g f | tof _ g f | tp _ g f | tpx _ g f | tonr _ g f | trst _ g f | tpre _ g f | trd _ g f | ctu _ g f | ctd _ g f | ctud _ g f | cchn _ g f
  | cldc _ g f | edr _ g f | edf _ g f | edb _ g f =>
    obtain ⟨rfl, rfl⟩ := Prod.mk.inj (Option.some.inj h)
    simp only [decodeWord, wordGuard_wordOf, wordBits_wordOf_row, wordBits_wordOf_column, decodeOp2, decodeOp3, decodeOp4, decodeOp5, wordD_wordOf]
  | cmpeq _ g f | cmpne _ g f | cmplt _ g f | cmpltu _ g f | cmple _ g f | cmpleu _ g f | cmpeqi _ g f | cmplti _ g f | tstb _ g f | any _ g f
  | all _ g f | pand _ g f | por _ g f | pxor _ g f | pandn _ g f | pnor _ g f =>
    obtain ⟨rfl, rfl⟩ := Prod.mk.inj (Option.some.inj h)
    simp only [decodeWord, wordGuard_wordOf, wordBits_wordOf_row, wordBits_wordOf_column, decodeOp1, decodeOp2, wordE_wordOf]
  | movi _ g f | movhi _ g f | insm _ g f | mvrq _ g f | srd _ g f =>
    obtain ⟨rfl, rfl⟩ := Prod.mk.inj (Option.some.inj h)
    simp only [decodeWord, wordGuard_wordOf, wordBits_wordOf_row, wordBits_wordOf_column, decodeOp0, decodeOp5, wordF_wordOf]
  | swrPerfctl _ g f =>
    obtain ⟨rfl, rfl⟩ := Prod.mk.inj (Option.some.inj h)
    obtain ⟨h1, h2⟩ : f.imm ≠ 0x1001 ∧ f.imm ≠ 0x1002 := by simpa [Instr.wf] using hwf
    rw [decodeWord_swr, decodeSwr_other _ _ _ h1 h2]
  | swrScanmax _ g d =>
    obtain ⟨rfl, rfl⟩ := Prod.mk.inj (Option.some.inj h)
    exact (decodeWord_swr _ g ⟨d, 0x1001⟩).trans (if_pos rfl)
  | swrRespmax _ g d =>
    obtain ⟨rfl, rfl⟩ := Prod.mk.inj (Option.some.inj h)
    exact (decodeWord_swr _ g ⟨d, 0x1002⟩).trans ((if_neg (show (0x1002 : BitVec 14) ≠ 0x1001 by decide)).trans (if_pos rfl))
  | customInstruction _ g n x =>
    obtain ⟨rfl, rfl⟩ := Prod.mk.inj (Option.some.inj h)
    exact decodeWord_custom _ g n x
  | reservedOpcode _ g x =>
    obtain ⟨rfl, rfl⟩ := Prod.mk.inj (Option.some.inj h)
    exact decodeWord_reserved _ g x (by simpa [Instr.wf] using hwf)
  | _ => exact nomatch h

end Sys2Proof

namespace Sys2Proof.Machine
open Sys2Proof

/-- Settles O57: words and instructions each from the other; the fill of a bank is a reserved opcode. -/
theorem engineWordsDecodeAsEncoded : Obligations.EngineWordsDecodeAsEncoded := by
  unfold Obligations.EngineWordsDecodeAsEncoded
  refine ⟨fun i e w hwf h => decodeWord_of_encodeWord hwf h, encodeWord_decodeWord, fun e => ⟨rfl, rfl, rfl⟩, fun m e h => ?_⟩
  rw [Mach.fetched, h]
  exact ⟨_, _, rfl⟩

end Sys2Proof.Machine
end

section
/-!
SUPPORT. The issue of an instruction in a slot, whatever its guard, its control flow and its fault (R106–R113): which of the slot's ends it takes.
-/
namespace Sys2Proof.Machine
open Sys2Proof

/-! ### The engine moved on -/

/-- The next PC and the delay-slot state after an instruction that does `ctl` to the order of fetch (R108). -/
def Ctl.next (ctl : Ctl) (en : Eng) : Eng :=
  match ctl with
  | .branch => { en with pc := en.pc + 1, ds := 2, tgt := Option.none }
  | .halt => en.advance
  | .none => en.advance

/-- The engine after it has issued such an instruction that completes at stage `st`; `issued` where it does nothing to the order of fetch. -/
def issuedBy (c : Ctx) (ctl : Ctl) (st : Nat) : Eng :=
  { ctl.next c.en with slot := c.i + 1, steps := c.en.steps + 1, de := c.pc, ends := c.en.ends.filter (fun x => decide (c.i ≤ x)) ++ [c.i + max 7 st - 1] }

theorem issuedBy_none (c : Ctx) (st : Nat) : issuedBy c .none st = issued c st := rfl

theorem Ctl.next_act (ctl : Ctl) (en : Eng) : (ctl.next en).act = en.act := by
  cases ctl with
  | branch => rfl
  | halt | none => exact advance_act en

/-- Outside a delay slot a branch goes on in sequence as every instruction does. -/
theorem Ctl.next_pc (ctl : Ctl) {en : Eng} (h : ctl = .none ∨ en.ds = 0) : (ctl.next en).pc = en.advance.pc := by
  cases ctl with
  | branch =>
    have hd : en.ds = 0 := h.resolve_left Ctl.noConfusion
    simp [Ctl.next, Eng.advance, hd]
  | halt | none => rfl

/-- The module once the engine has taken its slot: ENGe.ISSUED counts it. -/
def slotTaken (m : Mach) (e : Nat) (c : Ctx) (ctl : Ctl) (st : Nat) : Mach := ((atSlot m e).setEng e (issuedBy c ctl st)).perf e (R.ENG_ISSUED e) 1

/-- The module the effect of an instruction works on, as `issueBase`, whatever it does to the order of fetch. -/
def slotBase (m : Mach) (e : Nat) (gd : Guard) (c : Ctx) (ctl : Ctl) (st : Nat) (gs ps : List Nat) : Mach :=
  ((slotTaken m e c ctl st).perf e (R.ENG_EARLY e) (c.early [] [gd.p.val])).perf e (R.ENG_EARLY e) (c.early gs ps)

theorem slotTaken_eng (m : Mach) (e : Nat) (c : Ctx) (ctl : Ctl) (st : Nat) : (slotTaken m e c ctl st).eng e = issuedBy c ctl st := by
  rw [slotTaken, Mach.perf_eng, Mach.eng_setEng_same]

theorem slotBase_eng (m : Mach) (e : Nat) (gd : Guard) (c : Ctx) (ctl : Ctl) (st : Nat) (gs ps : List Nat) :
    (slotBase m e gd c ctl st gs ps).eng e = issuedBy c ctl st := by
  rw [slotBase, Mach.perf_eng, Mach.perf_eng, slotTaken_eng]

theorem slotTaken_tasks (m : Mach) (e : Nat) (c : Ctx) (ctl : Ctl) (st : Nat) : (slotTaken m e c ctl st).tasks = (atSlot m e).tasks := by
  rw [slotTaken, Mach.perf_same]; rfl

theorem perf_tasks (m : Mach) (e : Nat) (f : Fld) (n : Nat) : (m.perf e f n).tasks = m.tasks := by rw [Mach.perf_same]

theorem slotBase_tasks (m : Mach) (e : Nat) (gd : Guard) (c : Ctx) (ctl : Ctl) (st : Nat) (gs ps : List Nat) :
    (slotBase m e gd c ctl st gs ps).tasks = (atSlot m e).tasks := by
  rw [slotBase, perf_tasks, perf_tasks, slotTaken_tasks]

/-- A count in ENGe.EARLY is within what an instruction may change. -/
theorem OnlyEngine.perfEarly {b n : Mach} {e : Nat} (h : OnlyEngine b n e) (k : Nat) : OnlyEngine b (n.perf e (R.ENG_EARLY e) k) e := by
  obtain ⟨hs, he, hr⟩ := h
  refine ⟨?_, fun i hi => (Mach.perf_eng _ _ _ _ _).trans (he i hi), fun a ha => ?_⟩
  · refine engRegs_trans hs ?_
    conv_lhs => rw [Mach.perf_same]
    rw [show (n.perf e (R.ENG_EARLY e) k).engs = n.engs by rw [Mach.perf_same]]
  · refine (Mach.perf_rget _ _ _ _ ?_).trans (hr a ha)
    rintro rfl
    simp at ha

theorem onlyEngine_slotBase (m : Mach) (e : Nat) (gd : Guard) (c : Ctx) (ctl : Ctl) (st : Nat) (gs ps : List Nat) :
    OnlyEngine (atSlot m e) (slotBase m e gd c ctl st gs ps) e := by
  have hset : OnlyEngine (atSlot m e) ((atSlot m e).setEng e (issuedBy c ctl st)) e := OnlyEngine.setEng ⟨rfl, fun _ _ => rfl, fun _ _ => rfl⟩ _
  have htaken : OnlyEngine (atSlot m e) (slotTaken m e c ctl st) e := by
    obtain ⟨hs, he, hr⟩ := hset
    refine ⟨?_, fun i hi => (Mach.perf_eng _ _ _ _ _).trans (he i hi), fun a ha => ?_⟩
    · refine engRegs_trans hs ?_
      rw [slotTaken]
      conv_lhs => rw [Mach.perf_same]
      rw [show (((atSlot m e).setEng e (issuedBy c ctl st)).perf e (R.ENG_ISSUED e) 1).engs = ((atSlot m e).setEng e (issuedBy c ctl st)).engs by rw [Mach.perf_same]]
    · refine (Mach.perf_rget _ _ _ _ ?_).trans (hr a ha)
      rintro rfl
      simp at ha
  exact (htaken.perfEarly _).perfEarly _

/-! ### The ends of a slot -/

variable {m : Mach} {e : Nat} {gd : Guard} {c : Ctx}

/-- What an instruction that raises no fault of its kind does in a slot: under a true guard its body, under a false one nothing. -/
def guardedBody (m : Mach) (e : Nat) (gd : Guard) (c : Ctx) (ctl : Ctl) (st : Nat) (gs ps : List Nat) (body : Ctx → Mach → Mach) : Mach :=
  if c.p gd.p.val == gd.neg then ((((slotTaken m e c ctl st).perf e (R.ENG_EARLY e) (c.early [] [gd.p.val])).perf e (R.ENG_GFALSE e) 1).checkEnd e)
  else ((body c (slotBase m e gd c ctl st gs ps)).checkShade e c.k).checkEnd e

/-- R107, R109: a delay slot's fault comes first, then the opcode's, then the guard. -/
theorem Slot.issue_eq (h : Slot m e gd c) (gd' : Guard) (ctl : Ctl) (always : Option Nat) (st : Nat) (gs ps : List Nat) (body : Ctx → Mach → Mach) :
    m.issue e gd' ctl always st gs ps body =
      if c.en.ds ≠ 0 ∧ ctl ≠ .none then (slotTaken m e c ctl st).engineFault e 0x06 c.pc
      else always.elim (guardedBody m e gd' c ctl st gs ps body) (fun code => (slotTaken m e c ctl st).engineFault e code c.pc) := by
  have hl : ¬ 64 * (slotTaken m e c ctl st).fld (R.ENG_SEG_STEPLIM e c.k) < c.en.steps + 1 := by
    have hne : (R.ENG_SEG_STEPLIM e c.k).addr ≠ (R.ENG_ISSUED e).addr := by
      have := h.task
      simp only [R.ENG_SEG_STEPLIM, R.ENG_ISSUED]; omega
    have : (slotTaken m e c ctl st).fld (R.ENG_SEG_STEPLIM e c.k) = (atSlot m e).fld (R.ENG_SEG_STEPLIM e c.k) := by
      simp only [Mach.fld, slotTaken]
      rw [Mach.perf_rget _ _ _ _ hne]
      rfl
    rw [this]
    exact Nat.not_lt.mpr h.steps
  have ha := h.act
  have hr := h.run
  have hf := h.calm
  have hc := h.ctx
  obtain ⟨ce, k, j, i, pc, en, sc⟩ := c
  simp only [Ctx.mk.injEq] at hc
  obtain ⟨rfl, -, -, rfl, rfl, rfl, -⟩ := hc
  unfold atSlot at hr hf
  unfold Mach.issue
  rw [ha]
  dsimp only
  rw [if_neg (by simp [h.drain]), hf, hr]
  cases ctl <;> cases always <;> exact if_neg hl

/-! ### System register reads -/

/-- The body of SRD (R157). -/
def scanRead (f : FmtF) (c : Ctx) (m : Mach) : Mach := (c.scanConst f.imm.toNat).elim (m.engineFault c.e 0x09 c.pc) (fun v => c.setG stWB f.d v m)

theorem execSrd_eq (e : Fin 16) (gd : Guard) (f : FmtF) (s : State) : exec (.srd e gd f) s = runEng (fun m => m.issue e gd .none none stWB [] [] (scanRead f)) s := by
  show execSrd e gd f s = _
  unfold execSrd scanRead
  congr 2
  funext m
  congr 1
  funext c n
  cases c.scanConst f.imm.toNat <;> rfl

end Sys2Proof.Machine
end

section
/-!
PROOF. A guard-false instruction (O6): it takes its slot, and is counted.
-/
namespace Sys2Proof.Machine
open Sys2Proof

variable {m : Mach} {e : Nat} {gd : Guard} {c : Ctx}

theorem checkEnd_calm {n : Mach} (h : (n.eng e).pc ≤ 16383) : n.checkEnd e = n := by
  unfold Mach.checkEnd
  simp [h]

theorem Slot.guardFalse (h : Slot m e { gd with neg := !gd.neg } c) (st : Nat) (gs ps : List Nat) (body : Ctx → Mach → Mach) :
    m.issue e gd .none none st gs ps body =
      ((slotTaken m e c .none st).perf e (R.ENG_EARLY e) (c.early [] [gd.p.val])).perf e (R.ENG_GFALSE e) 1 := by
  have hg : (c.p gd.p.val == gd.neg) = true := by simpa using h.guard
  rw [h.issue_eq, if_neg (by simp), Option.elim_none, guardedBody, if_pos hg]
  refine checkEnd_calm ?_
  rw [Mach.perf_eng, Mach.perf_eng, slotTaken_eng]
  exact h.inCode

/-- A count in a register of the engine changes registers alone. -/
theorem perf_engRegs {b n : Mach} (h : n = { b with engs := n.engs, regs := n.regs }) (f : Fld) (k : Nat) :
    n.perf e f k = { b with engs := (n.perf e f k).engs, regs := (n.perf e f k).regs } := by
  refine engRegs_trans h ?_
  conv_lhs => rw [Mach.perf_same]
  rw [show (n.perf e f k).engs = n.engs by rw [Mach.perf_same]]

/-- From `m` engine `e` takes its slot for an instruction that completes at stage `st`, and no effect but the counts of R107 follows. -/
def Idles (m m' : Mach) (e : Nat) (c : Ctx) (st : Nat) : Prop :=
  m'.eng c.e = issued c st ∧ m' = { atSlot m e with engs := m'.engs, regs := m'.regs } ∧ (∀ x, x ≠ c.e → m'.eng x = (atSlot m e).eng x) ∧
    ∀ a, a ∉ [(R.ENG_ISSUED e).addr, (R.ENG_EARLY e).addr, (R.ENG_GFALSE e).addr] → m'.rget a = (atSlot m e).rget a

theorem Slot.idles (h : Slot m e { gd with neg := !gd.neg } c) (st : Nat) (gs ps : List Nat) (body : Ctx → Mach → Mach) :
    Idles m (m.issue e gd .none none st gs ps body) e c st := by
  rw [h.guardFalse, Idles, h.ctxE]
  refine ⟨?_, perf_engRegs (perf_engRegs (perf_engRegs rfl _ _) _ _) _ _, fun x hx => ?_, fun a ha => ?_⟩
  · rw [Mach.perf_eng, Mach.perf_eng, slotTaken_eng, issuedBy_none]
  · rw [Mach.perf_eng, Mach.perf_eng, slotTaken, Mach.perf_eng, Mach.eng_setEng_ne _ hx]
  · simp only [List.mem_cons, List.not_mem_nil, or_false, not_or] at ha
    obtain ⟨h1, h2, h3⟩ := ha
    rw [Mach.perf_rget _ _ _ _ h3, Mach.perf_rget _ _ _ _ h2, slotTaken, Mach.perf_rget _ _ _ _ h1]
    rfl

/-- The same of a command that issues it. -/
theorem Slot.answersIdle {s : State} {i : Instr} {f : Mach → Mach} {st : Nat} {gs ps : List Nat} {body : Ctx → Mach → Mach}
    (h : Slot s.m e { gd with neg := !gd.neg } c) (hi : exec i s = runEng f s) (hf : f s.m = s.m.issue e gd .none none st gs ps body) :
    Answers i s (fun m' => Idles s.m m' e c st) :=
  answers_runEng hi (hf ▸ h.idles st gs ps body)

/-- Settles O6, each instruction by the end its slot comes to. -/
theorem guardFalseTakesItsSlotOnly : Obligations.GuardFalseTakesItsSlotOnly := by
  unfold Obligations.GuardFalseTakesItsSlotOnly
  intro s e gd c h idle
  refine ⟨fun f => ?_, fun f => ?_, fun f => ?_, fun f => ?_, fun f => ?_, fun f => ?_, fun f => ?_, fun f => ?_, fun f => ?_, fun f => ?_, fun f => ?_,
    fun f => ?_, fun f => ?_⟩
  · exact h.answersIdle (f := fun m => m.compute e gd stX2 [f.a, f.b] [] f.d (fun c => c.g f.a + c.g f.b)) rfl (by unfold Mach.compute; rfl)
  · exact h.answersIdle (f := fun m => m.compute e gd stWB14 [f.a, f.b] [] f.d (fun c => divide f.x (c.g f.a) (c.g f.b))) rfl (by unfold Mach.compute; rfl)
  · exact h.answersIdle (f := fun m => m.predicate e gd f [f.a, f.b] [] (fun c => cmpEq (c.g f.a) (c.g f.b))) rfl (by unfold Mach.predicate; rfl)
  · exact h.answersIdle (f := fun m => m.localStore e gd f 4) rfl (by unfold Mach.localStore; rfl)
  · exact h.answersIdle (f := fun m => m.localLoad e gd f 4 (fun v => BitVec.ofNat 32 v)) rfl (by unfold Mach.localLoad; rfl)
  · exact h.answersIdle (f := fun m => m.imgLoad e gd f spM) rfl (by unfold Mach.imgLoad; rfl)
  · exact h.answersIdle (f := fun m => m.imgStore e gd f spM) rfl (by unfold Mach.imgStore; rfl)
  · exact h.answersIdle (f := fun m => m.gather e gd f false) rfl (by unfold Mach.gather; rfl)
  · exact h.answersIdle (f := fun m => m.timer e gd f 1) rfl (by unfold Mach.timer Mach.cellInstr; rfl)
  · exact h.answersIdle (f := fun m => m.counter e gd f (fun w r => if r.getLsbD 0 then countUp w else w)) rfl (by unfold Mach.counter Mach.cellInstr; rfl)
  · exact h.answersIdle (f := fun m => m.issue e gd .none none stMA [] [] (fun c m => c.put stMA (.act (.wdck (m.fld (R.TSK_CFG_WDSLOT c.k)))) m)) rfl rfl
  · exact h.answersIdle (f := fun m => m.issue e gd .none none stMA [] [] (fun c m => c.put stMA (.act (.mvrq (f.d.val % 16) f.imm.toNat)) m)) rfl rfl
  · exact h.answersIdle (f := fun m => m.issue e gd .none none stWB [] [] (scanRead f)) (execSrd_eq e gd f s) rfl

end Sys2Proof.Machine
end

section
/-!
PROOF. The distance of a result (O4) and the hard-wired registers (O5): where a write stands among those in flight, what a general register reads through them, and what
the engine holds at its next slot.
-/
namespace Sys2Proof.Machine
open Sys2Proof

/-! ### Writes among others -/

theorem mem_insFlight {x f : Flight} {fs : List Flight} (h : x ∈ insFlight f fs) : x = f ∨ x ∈ fs := by
  induction fs with
  | nil => exact .inl (List.mem_singleton.mp h)
  | cons g gs ih =>
    unfold insFlight at h
    split at h
    · rcases List.mem_cons.mp h with rfl | h
      · exact .inr (by simp)
      · exact (ih h).imp_right (List.mem_cons_of_mem _)
    · exact List.mem_cons.mp h

/-- Of a list in which nothing else is picked, only the write put in flight is. -/
theorem filterMap_insFlight {α : Type} (p : Flight → Option α) (f : Flight) {fs : List Flight} (h : ∀ x ∈ fs, p x = none) :
    (insFlight f fs).filterMap p = (p f).toList := by
  have hnil : fs.filterMap p = [] := List.filterMap_eq_nil_iff.mpr h
  induction fs with
  | nil => cases hp : p f <;> simp [insFlight, hp]
  | cons g gs ih =>
    have hg : p g = none := h g (by simp)
    have hgs := fun x hx => h x (List.mem_cons_of_mem _ hx)
    unfold insFlight
    split
    · rw [List.filterMap_cons_none hg, ih hgs (List.filterMap_eq_nil_iff.mpr hgs)]
    · cases hp : p f <;> simp [hp, hnil]

/-- Of two writes put in flight, the one that completes later stands last, and of two that complete in one cycle the one put later (R101). -/
theorem filterMap_insFlight_two {α : Type} (p : Flight → Option α) {f1 f2 : Flight} {v1 v2 : α} (h1 : p f1 = some v1) (h2 : p f2 = some v2) {fs : List Flight}
    (h : ∀ x ∈ fs, p x = none) : (insFlight f2 (insFlight f1 fs)).filterMap p = if f1.done ≤ f2.done then [v1, v2] else [v2, v1] := by
  induction fs with
  | nil => by_cases hd : f1.done ≤ f2.done <;> simp [insFlight, hd, h1, h2]
  | cons g gs ih =>
    have hg : p g = none := h g (by simp)
    have hgs := fun x hx => h x (List.mem_cons_of_mem _ hx)
    have hone1 : (insFlight f1 gs).filterMap p = [v1] := by rw [filterMap_insFlight p f1 hgs, h1]; rfl
    have hone2 : (insFlight f2 (g :: gs)).filterMap p = [v2] := by rw [filterMap_insFlight p f2 h, h2]; rfl
    have hnil : (g :: gs).filterMap p = [] := List.filterMap_eq_nil_iff.mpr h
    by_cases hg1 : g.done ≤ f1.done
    · rw [show insFlight f1 (g :: gs) = g :: insFlight f1 gs from if_pos hg1]
      by_cases hg2 : g.done ≤ f2.done
      · rw [show insFlight f2 (g :: insFlight f1 gs) = g :: insFlight f2 (insFlight f1 gs) from if_pos hg2, List.filterMap_cons_none hg, ih hgs]
      · rw [show insFlight f2 (g :: insFlight f1 gs) = f2 :: g :: insFlight f1 gs from if_neg hg2, List.filterMap_cons_some h2, List.filterMap_cons_none hg, hone1,
          if_neg (by omega)]
    · rw [show insFlight f1 (g :: gs) = f1 :: g :: gs from if_neg hg1]
      by_cases h12 : f1.done ≤ f2.done
      · rw [show insFlight f2 (f1 :: g :: gs) = f1 :: insFlight f2 (g :: gs) from if_pos h12, List.filterMap_cons_some h1, hone2, if_pos h12]
      · rw [show insFlight f2 (f1 :: g :: gs) = f2 :: f1 :: g :: gs from if_neg h12, List.filterMap_cons_some h2, List.filterMap_cons_some h1, hnil, if_neg h12]

/-! ### General registers at X1 -/

/-- A write in flight as a read before cycle `c` takes it. -/
def Flight.seen {α : Type} (c : Nat) (f : Wr → Option α) (x : Flight) : Option α := if x.done < c then f x.w else none

theorem lastWr_eq {α : Type} (fs : List Flight) (c : Nat) (f : Wr → Option α) : lastWr fs c f = (fs.filterMap (Flight.seen c f)).getLast? := by
  induction fs using List.reverseRecOn with
  | nil => rfl
  | append_singleton fs x ih =>
    have hstep : lastWr (fs ++ [x]) c f = if x.done < c then (f x.w).or (lastWr fs c f) else lastWr fs c f := by simp [lastWr]
    rw [hstep, ih, List.filterMap_append]
    by_cases hx : x.done < c
    · cases hf : f x.w <;> simp [Flight.seen, hx, hf]
    · simp [Flight.seen, hx]

/-- The writes of general register `n`. -/
def Wr.gOf (n : Nat) : Wr → Option Word
  | .g n' v => if n' = n then some v else none
  | _ => none

theorem Wr.gOf_same (n : Nat) (v : Word) : Wr.gOf n (.g n v) = some v := if_pos rfl

theorem Wr.gOf_other {n : Nat} {w : Wr} (h : ∀ u, w ≠ .g n u) : Wr.gOf n w = none := by
  cases w with
  | g n' v => exact if_neg (by rintro rfl; exact h v rfl)
  | _ => rfl

theorem Ctx.g_eq (c : Ctx) {n : Nat} (h0 : 0 < n) (h63 : n ≤ 63) : c.g n = (lastWr c.en.flight (c.i + 3) (Wr.gOf n)).getD (sget 0 c.en.g n) :=
  if_neg (by omega)

theorem seen_gOf_other {n c : Nat} {fs : List Flight} (h : ∀ x ∈ fs, ∀ u, x.w ≠ .g n u) : ∀ x ∈ fs, Flight.seen c (Wr.gOf n) x = none := by
  intro x hx
  unfold Flight.seen
  rw [Wr.gOf_other (h x hx), ite_self]

theorem g_through_one (c : Ctx) {n d : Nat} {v : Word} {fs : List Flight} (h0 : 0 < n) (h63 : n ≤ 63) (hfs : ∀ x ∈ fs, ∀ u, x.w ≠ .g n u)
    (hf : c.en.flight = insFlight ⟨d, .g n v⟩ fs) : c.g n = if d < c.i + 3 then v else sget 0 c.en.g n := by
  rw [c.g_eq h0 h63, lastWr_eq, hf, filterMap_insFlight _ _ (seen_gOf_other hfs), Flight.seen, Wr.gOf_same]
  split <;> rfl

theorem g_through_two (c : Ctx) {n d1 d2 : Nat} {v1 v2 : Word} {fs : List Flight} (h0 : 0 < n) (h63 : n ≤ 63) (hfs : ∀ x ∈ fs, ∀ u, x.w ≠ .g n u)
    (hf : c.en.flight = insFlight ⟨d2, .g n v2⟩ (insFlight ⟨d1, .g n v1⟩ fs)) (h1 : d1 < c.i + 3) (h2 : d2 < c.i + 3) : c.g n = if d1 ≤ d2 then v2 else v1 := by
  have hs (d : Nat) (v : Word) (hd : d < c.i + 3) : Flight.seen (c.i + 3) (Wr.gOf n) ⟨d, .g n v⟩ = some v := (if_pos hd).trans (Wr.gOf_same n v)
  rw [c.g_eq h0 h63, lastWr_eq, hf, filterMap_insFlight_two _ (hs d1 v1 h1) (hs d2 v2 h2) (seen_gOf_other hfs)]
  dsimp only
  split <;> rfl

/-! ### The engine at its next slot -/

theorem complete_eng (m : Mach) (e : Nat) (ws : List Wr) : (m.complete e ws).eng e = ws.foldl Eng.apply (m.eng e) := by
  have h (n : Mach) (hn : n.engs = (ws.foldl (fun m w => m.applyPerf e w) (m.setEng e (ws.foldl Eng.apply (m.eng e)))).engs) :
      n.eng e = ws.foldl Eng.apply (m.eng e) := by
    rw [Mach.eng, hn, Mach.applyPerfs_engs]
    exact m.eng_setEng_same e _
  unfold Mach.complete
  dsimp only
  split
  · split
    · split <;> exact h _ rfl
    · exact h _ rfl
  · exact h _ rfl

/-- The writes visible at the next slot take effect in order, and leave those still in flight. -/
theorem atSlot_eng (m : Mach) (e : Nat) :
    (atSlot m e).eng e = (((m.eng e).flight.filter (fun f => decide (f.done < (m.eng e).slot + 2))).map (·.w)).foldl Eng.apply
      { m.eng e with flight := (m.eng e).flight.filter (fun f => !decide (f.done < (m.eng e).slot + 2)) } := by
  unfold atSlot Mach.retire
  dsimp only
  split
  · rename_i h
    have hnil := List.isEmpty_iff.mp h
    have hall : (m.eng e).flight.filter (fun f => !decide (f.done < (m.eng e).slot + 2)) = (m.eng e).flight :=
      List.filter_eq_self.mpr fun x hx => by simpa using List.filter_eq_nil_iff.mp hnil x hx
    rw [hnil, hall]
    rfl
  · rw [complete_eng, Mach.eng_setEng_same]

section
variable {β : Type} (φ : Eng → β)

/-- Writes that leave a part of the engine alone leave it so one after the other. -/
theorem foldl_apply_keeps {ws : List Wr} (h : ∀ w ∈ ws, ∀ en : Eng, φ (en.apply w) = φ en) (en : Eng) : φ (ws.foldl Eng.apply en) = φ en := by
  induction ws generalizing en with
  | nil => rfl
  | cons w ws ih => rw [List.foldl_cons, ih (fun x hx => h x (List.mem_cons_of_mem _ hx)), h w (by simp)]

/-- Among writes that leave a part of the engine alone, one that sets it sets it. -/
theorem foldl_apply_insFlight {f : Flight} {v : β} (hv : ∀ en : Eng, φ (en.apply f.w) = v) {fs : List Flight} (h : ∀ x ∈ fs, ∀ en : Eng, φ (en.apply x.w) = φ en)
    {p : Flight → Bool} (hp : p f = true) (en : Eng) : φ ((((insFlight f fs).filter p).map (·.w)).foldl Eng.apply en) = v := by
  have hk (gs : List Flight) (hgs : ∀ x ∈ gs, ∀ en : Eng, φ (en.apply x.w) = φ en) (en : Eng) :
      φ (((gs.filter p).map (·.w)).foldl Eng.apply en) = φ en := by
    refine foldl_apply_keeps φ (fun w hw => ?_) en
    obtain ⟨x, hx, rfl⟩ := List.mem_map.mp hw
    exact hgs x (List.mem_of_mem_filter hx)
  induction fs generalizing en with
  | nil => simp [insFlight, hp, hv]
  | cons g gs ih =>
    unfold insFlight
    split
    · have hgs := ih (fun x hx => h x (List.mem_cons_of_mem _ hx))
      cases hg : p g
      · rw [List.filter_cons_of_neg (by simp [hg])]; exact hgs en
      · rw [List.filter_cons_of_pos hg]; exact hgs _
    · rw [List.filter_cons_of_pos hp, List.map_cons, List.foldl_cons, hk _ h, hv]

/-- A part of the engine that one write in flight sets, at the next slot: what it sets, once it is visible at DE (R96). -/
theorem atSlot_visible (hφ : ∀ (en : Eng) fl, φ { en with flight := fl } = φ en) {m : Mach} {e : Nat} {f : Flight} {v : β}
    (hv : ∀ en : Eng, φ (en.apply f.w) = v) {fs : List Flight} (h : ∀ x ∈ fs, ∀ en : Eng, φ (en.apply x.w) = φ en)
    (hf : (m.eng e).flight = insFlight f fs) : φ ((atSlot m e).eng e) = if f.done < (m.eng e).slot + 2 then v else φ (m.eng e) := by
  rw [atSlot_eng, hf]
  by_cases hd : f.done < (m.eng e).slot + 2
  · rw [if_pos hd]
    exact foldl_apply_insFlight φ hv h (decide_eq_true hd) _
  · rw [if_neg hd, ← hφ (m.eng e) ((insFlight f fs).filter (fun f => !decide (f.done < (m.eng e).slot + 2)))]
    refine foldl_apply_keeps φ (fun w hw => ?_) _
    obtain ⟨x, hx, rfl⟩ := List.mem_map.mp hw
    obtain ⟨hx, hxd⟩ := List.mem_filter.mp hx
    rcases mem_insFlight hx with rfl | hx
    · exact absurd (of_decide_eq_true hxd) hd
    · exact h x hx

end

/-- A write that is none of a predicate, of LINK or of LOOP leaves it. -/
theorem apply_p_other {n : Nat} {w : Wr} (h : ∀ u, w ≠ .p n u) (en : Eng) : sget false (en.apply w).p n = sget false en.p n := by
  cases w with
  | p n' v => exact sget_sset_ne _ _ _ _ (by rintro rfl; exact h v rfl)
  | _ => rfl

theorem apply_link_other {w : Wr} (h : ∀ u, w ≠ .link u) (en : Eng) : (en.apply w).link = en.link := by
  cases w with
  | link v => exact absurd rfl (h v)
  | _ => rfl

theorem apply_loop_other {w : Wr} (h : ∀ u, w ≠ .loop u) (en : Eng) : (en.apply w).loop = en.loop := by
  cases w with
  | loop v => exact absurd rfl (h v)
  | _ => rfl

/-! ### The statements -/

/-- R96: the cycle of completion against the distance. -/
theorem visible_iff_distance {i C R n : Nat} (h : R ≤ C) (hR : 1 ≤ R) : i + C - 1 < n + (R - 1) ↔ i + (C - R + 1) ≤ n := by omega

/-- Settles O4: general registers through the writes in flight, the others in the engine at its slot. -/
theorem resultsBecomeVisibleAtTheirDistance : Obligations.ResultsBecomeVisibleAtTheirDistance := by
  unfold Obligations.ResultsBecomeVisibleAtTheirDistance
  refine ⟨fun c i C n v fs hC h0 h63 hfs hf => ?_, fun m e i C n v fs hC hfs hf => ?_, fun m e i C v fs hC hfs hf => ?_, fun m e i C v fs hC hfs hf => ?_,
    fun c n d1 d2 v1 v2 fs h0 h63 hfs hf h1 h2 => g_through_two c h0 h63 hfs hf h1 h2⟩
  · rw [g_through_one c h0 h63 hfs hf]
    exact if_congr (visible_iff_distance hC (by decide)) rfl rfl
  · refine (atSlot_visible (fun en => sget false en.p n) (fun _ _ => rfl) (fun _ => sget_sset_same _ _ _ _) (fun x hx => apply_p_other (hfs x hx)) hf).trans ?_
    exact if_congr (visible_iff_distance hC (by decide)) rfl rfl
  · refine (atSlot_visible Eng.link (fun _ _ => rfl) (fun _ => rfl) (fun x hx => apply_link_other (hfs x hx)) hf).trans ?_
    exact if_congr (visible_iff_distance hC (by decide)) rfl rfl
  · refine (atSlot_visible Eng.loop (fun _ _ => rfl) (fun _ => rfl) (fun x hx => apply_loop_other (hfs x hx)) hf).trans ?_
    exact if_congr (visible_iff_distance hC (by decide)) rfl rfl

/-- Settles O5, each register by the test for it. -/
theorem hardWiredRegisters : Obligations.HardWiredRegisters := by
  unfold Obligations.HardWiredRegisters
  exact fun c => ⟨if_pos (.inl rfl), if_pos rfl, fun _ _ _ => if_pos (.inl rfl), fun _ _ _ => if_pos rfl, fun _ => if_pos rfl, fun _ => if_pos rfl⟩

end Sys2Proof.Machine
end

section
/-!
PROOF. Branches (O14).
-/
namespace Sys2Proof.Machine
open Sys2Proof

variable {m : Mach} {e : Nat} {gd : Guard} {c : Ctx}

/-! ### An instruction that may change the order of fetch -/

/-- Outside a delay slot and under a true guard the body runs, whatever the instruction does to the order of fetch. -/
theorem Slot.issueCtl (h : Slot m e gd c) (ctl : Ctl) (hd : c.en.ds = 0) (st : Nat) (gs ps : List Nat) (body : Ctx → Mach → Mach) :
    m.issue e gd ctl none st gs ps body = ((body c (slotBase m e gd c ctl st gs ps)).checkShade e c.k).checkEnd e := by
  have hg : ¬ (c.p gd.p.val == gd.neg) = true := by simpa using h.guard
  rw [h.issue_eq, if_neg (by simp [hd]), Option.elim_none, guardedBody, if_neg hg]

/-- The engine and the rest as an instruction's body leaves them, where none of its writes is the frame's. -/
theorem Slot.ends (h : Slot m e gd c) {n b : Mach} {x : Eng} {st : Nat} {ws : List Wr} (hx : n.eng e = x) (hact : x.act = c.en.act) (hpc : x.pc ≤ 16383)
    (hfl : x.flight = inFlight c st ws) (hws : ∀ w ∈ ws, ∀ s : Seg, s.apply w = s) (ht : n.tasks = (atSlot m e).tasks) (ho : OnlyEngine b n e) :
    ((n.checkShade e c.k).checkEnd e).eng c.e = x ∧ OnlyEngine b ((n.checkShade e c.k).checkEnd e) c.e := by
  have hroom : n.entryCount e ≤ 2048 := by
    rw [h.entries ht (by rw [hx, hact]) (fun s => by rw [hx, hfl]; exact inFlight_apply c st hws _ s)]
    exact h.room
  obtain ⟨he, hob⟩ := h.finish (by rw [hx]; exact hpc) hroom ho
  rw [h.ctxE]
  exact ⟨he.trans hx, hob⟩

theorem Slot.pcEn (h : Slot m e gd c) : c.en.pc = c.pc := by rw [h.ctx]

/-- From `n` a body leaves `n'` with engine `x`; beside the engine and the early count it changes nothing. -/
structure Leaves (c : Ctx) (n n' : Mach) (x : Eng) : Prop where
  eng : n'.eng c.e = x
  tasks : n'.tasks = n.tasks
  only : ∀ b, OnlyEngine b n c.e → OnlyEngine b n' c.e

theorem Leaves.trans {n n' n'' : Mach} {x y : Eng} (h : Leaves c n n' x) (g : Leaves c n' n'' y) : Leaves c n n'' y :=
  ⟨g.eng, g.tasks.trans h.tasks, fun b hb => g.only b (h.only b hb)⟩

theorem leaves_readLk (c : Ctx) (loop : Bool) (n : Mach) : Leaves c n (c.readLk loop n) (n.eng c.e) :=
  ⟨Mach.perf_eng _ _ _ _ _, perf_tasks _ _ _ _, fun _ hb => hb.perfEarly _⟩

/-! ### Branches (R108–R111) -/

/-- The engine after a branch with the target `tgt` that puts `ws` in flight. -/
def branched (c : Ctx) (tgt : Option Nat) (ws : List Wr) : Eng :=
  { c.en with pc := c.pc + 1, ds := 2, tgt := tgt, slot := c.i + 1, steps := c.en.steps + 1, de := c.pc, flight := inFlight c 3 ws,
              ends := c.en.ends.filter (fun x => decide (c.i ≤ x)) ++ [c.i + 6] }

theorem Slot.issuedBy_branch (h : Slot m e gd c) : issuedBy c .branch 3 = branched c none [] := by
  unfold issuedBy branched
  rw [← h.pcEn]
  rfl

/-- A branch whose body leaves its target and its writes in flight on the module it is given. -/
theorem Slot.branches (h : Slot m e gd c) (hd : c.en.ds = 0) (body : Ctx → Mach → Mach) {tgt : Option Nat} {ws : List Wr}
    (hws : ∀ w ∈ ws, ∀ s : Seg, s.apply w = s)
    (hb : ∀ n : Mach, n.eng c.e = branched c none [] → Leaves c n (body c n) (branched c tgt ws)) :
    let m' := m.issue e gd .branch none stDE [] [] body
    m'.eng c.e = branched c tgt ws ∧ OnlyEngine (atSlot m e) m' c.e := by
  intro m'
  have hce := h.ctxE
  obtain ⟨hx, ht, ho⟩ := hb (slotBase m e gd c .branch stDE [] []) (by rw [hce, slotBase_eng]; exact h.issuedBy_branch)
  rw [show m' = _ from h.issueCtl .branch hd stDE [] [] body]
  rw [hce] at hx ho
  refine h.ends hx rfl ?_ rfl hws (ht.trans (slotBase_tasks _ _ _ _ _ _ _ _)) (ho _ (onlyEngine_slotBase _ _ _ _ _ _ _ _))
  have hpc := h.inCode
  rwa [← Ctl.next_pc .branch (.inr hd), show (Ctl.branch.next c.en).pc = c.pc + 1 by rw [← h.pcEn]; rfl] at hpc

theorem leaves_branchTo {n : Mach} {ws : List Wr} {t0 : Option Nat} (hn : n.eng c.e = branched c t0 ws) (t : Nat) :
    Leaves c n (c.branchTo t n) (branched c (some t) ws) := by
  unfold Ctx.branchTo
  exact ⟨by rw [Mach.eng_setEng_same, hn]; rfl, rfl, fun b hb => hb.setEng _⟩

theorem leaves_putDE {n : Mach} (hn : n.eng c.e = branched c none []) (w : Wr) : Leaves c n (c.put stDE w n) (branched c none [w]) := by
  unfold Ctx.put
  exact ⟨by rw [Mach.eng_setEng_same, hn]; rfl, rfl, fun b hb => hb.setEng _⟩

theorem Slot.answersBranch {s : State} {i : Instr} (h : Slot s.m e gd c) (hd : c.en.ds = 0) (body : Ctx → Mach → Mach)
    (hi : exec i s = runEng (fun m => m.issue e gd .branch none stDE [] [] body) s) {tgt : Option Nat} {ws : List Wr}
    (hws : ∀ w ∈ ws, ∀ s : Seg, s.apply w = s)
    (hb : ∀ n : Mach, n.eng c.e = branched c none [] → Leaves c n (body c n) (branched c tgt ws)) :
    Answers i s (fun m' => m'.eng c.e = branched c tgt ws ∧ OnlyEngine (atSlot s.m e) m' c.e) :=
  answers_runEng hi (h.branches hd body hws hb)

/-- R108: the two delay slots issue in sequence, then the target when there is one. -/
theorem advance_delaySlots (en : Eng) (t : Option Nat) :
    let b := { en with ds := 2, tgt := t }
    b.advance.pc = en.pc + 1 ∧ b.advance.ds = 1 ∧ b.advance.advance.pc = t.getD (en.pc + 2) ∧ b.advance.advance.ds = 0 ∧ b.advance.advance.tgt = none ∧
      (en.ds = 0 → en.advance.pc = en.pc + 1) := by
  intro b
  exact ⟨rfl, rfl, rfl, rfl, rfl, fun h => by simp [Eng.advance, h]⟩

/-- Settles O14, each branch by its target and what it writes at DE. -/
theorem branches : Obligations.Branches := by
  unfold Obligations.Branches
  refine ⟨advance_delaySlots, fun s e gd c f h hd hpc => ?_⟩
  intro taken
  refine ⟨?_, ?_, ?_, ?_⟩
  · exact h.answersBranch hd (fun c m => c.branchTo f.target.toNat m) rfl (by simp) (fun n hn => leaves_branchTo hn _)
  · refine h.answersBranch hd (fun c m => if 16381 ≤ c.pc then m.engineFault c.e 0x07 c.pc
      else c.branchTo f.target.toNat (c.put stDE (.link (c.pc + 3)) m)) rfl (by simp [Seg.apply]) (fun n hn => ?_)
    rw [if_neg (by omega)]
    have hput := leaves_putDE hn (.link (c.pc + 3))
    exact hput.trans (leaves_branchTo hput.eng _)
  · refine h.answersBranch hd (fun c m => c.branchTo c.link (c.readLk false m)) rfl (by simp) (fun n hn => ?_)
    have hread := leaves_readLk c false n
    exact hread.trans (leaves_branchTo (hread.eng.trans hn) _)
  · refine h.answersBranch hd (fun c m =>
      let m := c.readLk true m
      if c.loop = 0 then m else c.branchTo f.target.toNat (c.put stDE (.loop (c.loop - 1)) m)) rfl (by split <;> simp [Seg.apply]) (fun n hn => ?_)
    have hread := leaves_readLk c true n
    rw [hn] at hread
    by_cases hz : c.loop = 0
    · simp only [if_pos hz]
      exact hread
    · simp only [if_neg hz]
      have hput := leaves_putDE hread.eng (.loop (c.loop - 1))
      exact (hread.trans hput).trans (leaves_branchTo hput.eng _)

end Sys2Proof.Machine
end

section
/-!
PROOF. Moves, HALT, deferred actions and system registers (O15).
-/
namespace Sys2Proof.Machine
open Sys2Proof

variable {m : Mach} {e : Nat} {gd : Guard} {c : Ctx}

/-- An instruction whose body puts one write in flight that is none of the frame's, and does nothing else. -/
theorem Slot.putsOne (h : Slot m e gd c) (st : Nat) (gs ps : List Nat) {w : Wr} (hw : ∀ s : Seg, s.apply w = s) (body : Ctx → Mach → Mach)
    (hb : ∀ n, body c n = c.put st w n) : Puts (atSlot m e) (m.issue e gd .none none st gs ps body) c st [w] :=
  h.puts st gs ps [w] (h.roomFor st (by simpa using hw)) body (hb _)

/-! ### Moves (R153, R154) -/

/-- What MFS reads by its selector. -/
def Ctx.special (c : Ctx) (sel : Nat) : Word :=
  if sel = 0 then BitVec.ofNat 32 c.link else if sel = 1 then c.loop else if sel = 2 then BitVec.ofNat 32 c.now else BitVec.ofNat 32 (c.now / 2 ^ 32)

/-- The body of MFS. -/
def moveFrom (f : FmtA) (c : Ctx) (m : Mach) : Mach := c.setG stX2 f.d (c.special f.b.val) (if f.b.val < 2 then c.readLk (f.b.val == 1) m else m)

theorem execMfs_eq (e : Fin 16) (gd : Guard) (f : FmtA) (s : State) :
    exec (.mfs e gd f) s = runEng (fun m => m.issue e gd .none (if 3 < f.b.val then some 0x01 else none) stX2 [] [] (moveFrom f)) s := by
  show execMfs e gd f s = _
  unfold execMfs moveFrom Ctx.special
  generalize f.b.val = b
  rcases b with _ | _ | _ | b <;> rfl

theorem Slot.moveFrom (h : Slot m e gd c) (f : FmtA) : Puts (atSlot m e) (m.issue e gd .none none stX2 [] [] (moveFrom f)) c 5 (gWrite f.d (c.special f.b.val)) := by
  have hce := h.ctxE
  have hbase := issueBase_eng m e gd c stX2 [] []
  have htasks : (issueBase m e gd c stX2 [] []).tasks = (atSlot m e).tasks := by rw [issueBase_same]
  have honly := onlyEngine_base m e gd c stX2 [] []
  rw [h.issue, Machine.moveFrom, setG_eq_putAll c stX2 (by omega)]
  split
  · have hread := leaves_readLk c (f.b.val == 1) (issueBase m e gd c stX2 [] [])
    have hreadOnly := hread.only (atSlot m e)
    rw [hce] at hreadOnly
    exact h.putsOn ((hce ▸ hread.eng).trans hbase) (hread.tasks.trans htasks) (hreadOnly honly) (h.roomFor _ (gWrite_apply _ _))
  · exact h.putsOn hbase htasks honly (h.roomFor _ (gWrite_apply _ _))

/-! ### HALT (R104) -/

/-- The body of HALT. -/
def drained (c : Ctx) (m : Mach) : Mach := m.setEng c.e { m.eng c.e with drain := true }

theorem Slot.halts (h : Slot m e gd c) (hd : c.en.ds = 0) :
    let m' := m.issue e gd .halt none stDE [] [] drained
    m'.eng c.e = { issued c 3 with drain := true } ∧ OnlyEngine (atSlot m e) m' c.e := by
  intro m'
  have hm : m' = ((drained c (slotBase m e gd c .halt stDE [] [])).checkShade e c.k).checkEnd e := h.issueCtl .halt hd stDE [] [] drained
  have hbase := slotBase_eng m e gd c .halt stDE [] []
  have heng : (drained c (slotBase m e gd c .halt stDE [] [])).eng e = { issued c 3 with drain := true } := by
    rw [drained, h.ctxE, Mach.eng_setEng_same, hbase]
    rfl
  have honly : OnlyEngine (atSlot m e) (drained c (slotBase m e gd c .halt stDE [] [])) e := by
    rw [drained, h.ctxE]
    exact (onlyEngine_slotBase _ _ _ _ _ _ _ _).setEng _
  have htasks : (drained c (slotBase m e gd c .halt stDE [] [])).tasks = (atSlot m e).tasks := by
    rw [drained, Mach.setEng_tasks, slotBase_tasks]
  rw [hm]
  exact h.ends (st := 3) (ws := []) heng (advance_act c.en) h.inCode (advance_flight c.en) (by simp) htasks honly

/-! ### Deferred actions (R155, R156) -/

/-- R155: the check-in names the watchdog slot of the scan's task. -/
theorem Slot.putsWdck (h : Slot m e gd c) (hr : Room m c 6 [.act (.wdck ((atSlot m e).fld (R.TSK_CFG_WDSLOT c.k)))]) :
    Puts (atSlot m e) (m.issue e gd .none none stMA [] [] (fun c m => c.put stMA (.act (.wdck (m.fld (R.TSK_CFG_WDSLOT c.k)))) m)) c 6
      [.act (.wdck ((atSlot m e).fld (R.TSK_CFG_WDSLOT c.k)))] := by
  have hk := h.task
  have hslot : (issueBase m e gd c stMA [] []).fld (R.TSK_CFG_WDSLOT c.k) = (atSlot m e).fld (R.TSK_CFG_WDSLOT c.k) := by
    simp only [Mach.fld]
    rw [issueBase_rget] <;> simp only [R.TSK_CFG_WDSLOT, R.ENG_ISSUED, R.ENG_EARLY] <;> omega
  exact h.puts stMA [] [] _ hr _ (by rw [hslot]; rfl)

/-! ### System registers (R157, R158) -/

/-- The scan constants in the order of their selectors. -/
def Ctx.scanConsts (c : Ctx) : List Nat :=
  let s := c.sc.snap
  [c.k + c.j * 256, s.trig + s.tidx * 65536, s.scsn, s.scsn / 2 ^ 32 % 2 ^ 16, s.bndn, s.bndn / 2 ^ 32, s.period, s.phase, s.utcoff]

theorem scanConst_eq (c : Ctx) (sel : Nat) : c.scanConst sel = c.scanConsts[sel]?.map (BitVec.ofNat 32) := by
  by_cases h : sel < 9
  · interval_cases sel <;> rfl
  · obtain ⟨n, rfl⟩ : ∃ n, sel = n + 9 := ⟨sel - 9, by omega⟩
    rfl

theorem Slot.scanRead (h : Slot m e gd c) (f : FmtF) {v : Nat} (hv : c.scanConsts[f.imm.toNat]? = some v) :
    Puts (atSlot m e) (m.issue e gd .none none stWB [] [] (scanRead f)) c 7 (gWrite f.d (BitVec.ofNat 32 v)) := by
  refine h.setsG stWB [] [] f.d _ _ fun n => ?_
  rw [Machine.scanRead, scanConst_eq, hv]
  rfl

/-- R158: a selector of a row puts its write in flight to WB. -/
theorem Slot.swr (h : Slot m e gd c) (d : Fin 64) {sel : Nat} {w : Wr} (hw : c.swrWrite sel (c.g d) = some w) (hs : ∀ s : Seg, s.apply w = s) :
    Puts (atSlot m e) (m.swr e gd d sel) c 7 [w] := by
  refine h.putsOne stWB [d.val] [] hs _ fun n => ?_
  simp only [hw]

theorem applyPerf_perf (m : Mach) (e : Nat) (en clr : Bool) :
    m.applyPerf e (.perf en clr) = if clr then (m.setFlag (R.ENG_PERFCTL_EN e) en).perfClear e else m.setFlag (R.ENG_PERFCTL_EN e) en := rfl

/-- R126, R158: PERFCTL takes EN, and CLR clears the ten counters beside it. -/
theorem applyPerf_does (m : Mach) (e : Nat) (en clr : Bool) :
    (m.applyPerf e (.perf en clr)).flag (R.ENG_PERFCTL_EN e) = en ∧
      (clr = true → ∀ i, i < 10 → (m.applyPerf e (.perf en clr)).rget ((R.ENG_LITCYC e).addr + 4 * i) = 0) := by
  have hset := m.flag_setFlag_same (R.ENG_PERFCTL_EN e) en (by simp [R.ENG_PERFCTL_EN]) rfl
  rw [applyPerf_perf]
  cases clr with
  | false => exact ⟨hset, fun h => absurd h (by decide)⟩
  | true =>
    rw [if_pos rfl, perfClear_eq]
    refine ⟨Eq.trans ?_ hset, fun _ i hi => zeroRegs_zero _ (List.mem_map.mpr ⟨i, List.mem_range.mpr hi, rfl⟩)⟩
    simp only [Mach.flag, Mach.fld]
    rw [(zeroRegs_regs _ _).regs]
    simp only [List.mem_map, R.ENG_LITCYC, R.ENG_PERFCTL_EN]
    rintro ⟨i, -, hi⟩
    omega

/-- Settles O15, each instruction by what it puts in flight. -/
theorem movesAndSystemAccess : Obligations.MovesAndSystemAccess := by
  unfold Obligations.MovesAndSystemAccess
  intro s e gd c h
  dsimp only
  refine ⟨fun f => ?_, fun f => ?_, fun f hf => ?_, fun hd f => ?_, fun f hr => ?_, fun f hr => ?_, fun f v hv => ?_, fun f hf => ?_, fun d => ?_, fun d => ?_,
    fun m k => ⟨rfl, rfl⟩, fun m en clr => applyPerf_does m e en clr⟩
  · exact answers_runEng (f := fun m => m.issue e gd .none none stX2 [f.s] [] (fun c m => c.put stX2 (.link ((c.g f.s).toNat % 2 ^ 14)) m)) rfl
      (h.putsOne stX2 _ _ (fun _ => rfl) _ fun _ => rfl)
  · exact answers_runEng (f := fun m => m.issue e gd .none none stX2 [f.s] [] (fun c m => c.put stX2 (.loop (c.g f.s)) m)) rfl
      (h.putsOne stX2 _ _ (fun _ => rfl) _ fun _ => rfl)
  · have hx := execMfs_eq e gd f s
    rw [if_neg (by omega)] at hx
    exact answers_runEng hx (h.moveFrom f)
  · exact answers_runEng (f := fun m => m.issue e gd .halt none stDE [] [] drained) rfl (h.halts hd)
  · exact answers_runEng (f := fun m => m.issue e gd .none none stMA [] [] (fun c m => c.put stMA (.act (.wdck (m.fld (R.TSK_CFG_WDSLOT c.k)))) m)) rfl
      (h.putsWdck hr)
  · exact answers_runEng (f := fun m => m.issue e gd .none none stMA [] [] (fun c m => c.put stMA (.act (.mvrq (f.d.val % 16) f.imm.toNat)) m)) rfl
      (h.puts stMA [] [] _ hr _ rfl)
  · exact answers_runEng (execSrd_eq e gd f s) (h.scanRead f hv)
  · exact answers_runEng (f := fun m => m.swr e gd f.d f.imm.toNat) rfl (h.swr f.d (by rw [hf]; rfl) fun _ => rfl)
  · exact answers_runEng (f := fun m => m.swr e gd d 0x1001) rfl (h.swr d rfl fun _ => rfl)
  · exact answers_runEng (f := fun m => m.swr e gd d 0x1002) rfl (h.swr d rfl fun _ => rfl)

end Sys2Proof.Machine
end

section
/-!
SUPPORT. Scan-local data as an instruction's body reads it (R91, R92), and bytes as numbers.
-/
namespace Sys2Proof.Machine
open Sys2Proof

/-! ### Bytes -/

theorem leNat_map_range (n : Nat) (b : Nat → Byte) : leNat ((List.range n).map b) = ((List.range n).map (fun i => (b i).toNat * 256 ^ i)).sum := by
  induction n generalizing b with
  | zero => rfl
  | succ n ih =>
    rw [List.range_succ_eq_map, List.map_cons, List.map_map, leNat, ih, ← List.sum_map_mul_left]
    simp only [List.map_cons, List.map_map, List.sum_cons, pow_zero, Nat.mul_one, Function.comp_def, pow_succ]
    congr 3
    funext i
    ring

theorem leBytes_eq_map (n v : Nat) : leBytes n v = (List.range n).map (fun j => BitVec.ofNat 8 (v / 256 ^ j)) := by
  induction n generalizing v with
  | zero => rfl
  | succ n ih =>
    rw [leBytes, ih, List.range_succ_eq_map, List.map_cons, List.map_map]
    simp [Function.comp_def, pow_succ', Nat.div_div_eq_div_mul]

theorem zipIdx_map_range {α : Type} (n : Nat) (f : Nat → α) : ((List.range n).map f).zipIdx = (List.range n).map (fun j => (f j, j)) :=
  List.ext_getElem (by simp) (by simp)

theorem foldM_put_eq_putAll {α : Type} (c : Ctx) (st : Nat) (w : α → Wr) (xs : List α) (m : Mach) :
    foldM xs (fun x m => c.put st (w x) m) m = c.putAll st (xs.map w) m := by
  unfold foldM Ctx.putAll
  rw [List.foldl_map]

/-! ### What the body reads -/

variable {m : Mach} {e : Nat} {gd : Guard} {c : Ctx}

theorem advance_ldata (en : Eng) : en.advance.ldata = en.ldata ∧ en.advance.preset = en.preset := by
  unfold Eng.advance
  split
  · exact ⟨rfl, rfl⟩
  · split <;> exact ⟨rfl, rfl⟩

theorem presetBase_issueBase (m : Mach) (e : Nat) (gd : Guard) (c : Ctx) (st : Nat) (gs ps : List Nat) :
    (issueBase m e gd c st gs ps).presetBase e = (atSlot m e).presetBase e := by
  simp only [Mach.presetBase, Mach.fld]
  rw [issueBase_rget] <;> simp only [R.ENG_CFG_PRESET, R.ENG_ISSUED, R.ENG_EARLY] <;> omega

/-- The engine moved on has the scan-local data, and the stores on their way, that it had at its slot. -/
theorem Slot.localByte_base (h : Slot m e gd c) (st : Nat) (gs ps : List Nat) (a : Nat) :
    c.localByte (issueBase m e gd c st gs ps) a = c.localByte (atSlot m e) a := by
  obtain ⟨hl, hp⟩ := advance_ldata c.en
  have hpreset : (issued c st).preset = c.en.preset := hp
  have hflight : (issued c st).flight = c.en.flight := advance_flight c.en
  have hldata : (issued c st).ldata = c.en.ldata := hl
  unfold Ctx.localByte
  rw [h.ctxE, presetBase_issueBase, issueBase_eng, h.ctxEn, hpreset, hflight, hldata]

theorem Slot.localNat_base (h : Slot m e gd c) (st : Nat) (gs ps : List Nat) (a n : Nat) :
    c.localNat (issueBase m e gd c st gs ps) a n = c.localNat (atSlot m e) a n := by
  simp only [Ctx.localNat, h.localByte_base]

end Sys2Proof.Machine
end

section
/-!
PROOF. Scan-local loads and stores (O7).
-/
namespace Sys2Proof.Machine
open Sys2Proof

variable {m : Mach} {e : Nat} {gd : Guard} {c : Ctx}

theorem localOk_of_dvd {a n : Nat} (h : n ∣ a ∧ a + n ≤ 0x8000) : localOk a n = true := by
  simp [localOk, Nat.mod_eq_zero_of_dvd h.1, h.2]

/-- The number an aligned load reads. -/
def Ctx.localSum (c : Ctx) (m : Mach) (a n : Nat) : Nat := ((List.range n).map (fun i => (c.localByte m (a + i)).toNat * 256 ^ i)).sum

theorem Slot.localLoad (h : Slot m e gd c) (f : FmtD) {n a : Nat} (ha : ((c.g f.a).toNat + f.off.toNat * n) % 2 ^ 32 = a) (hok : n ∣ a ∧ a + n ≤ 0x8000)
    (ext : Nat → Word) : Puts (atSlot m e) (m.localLoad e gd f n ext) c 6 (gWrite f.r (ext (c.localSum (atSlot m e) a n))) := by
  have haddr : addrD (c.g f.a) f.off n = a := (addrD_eq _ _ _).trans ha
  refine h.puts stMA [f.a] [] _ (h.roomFor _ (gWrite_apply _ _)) _ ?_
  dsimp only
  rw [haddr, if_pos (localOk_of_dvd hok), setG_eq_putAll c _ (by omega), h.localNat_base, Ctx.localNat, leNat_map_range]
  rfl

/-- The bytes a store puts in flight. -/
def storeBytes (a n v : Nat) : List Wr := (List.range n).map (fun j => .ldata (a + j) (BitVec.ofNat 8 (v / 256 ^ j)))

theorem Slot.localStore (h : Slot m e gd c) (f : FmtD) {n a : Nat} (ha : ((c.g f.a).toNat + f.off.toNat * n) % 2 ^ 32 = a) (hok : n ∣ a ∧ a + n ≤ 0x8000)
    (hbase : a + n ≤ (atSlot m e).presetBase e) : Puts (atSlot m e) (m.localStore e gd f n) c 6 (storeBytes a n (c.g f.r).toNat) := by
  have haddr : addrD (c.g f.a) f.off n = a := (addrD_eq _ _ _).trans ha
  have hws : ∀ w ∈ storeBytes a n (c.g f.r).toNat, ∀ s : Seg, s.apply w = s := by
    intro w hw s
    obtain ⟨j, -, rfl⟩ := List.mem_map.mp hw
    rfl
  refine h.puts stMA [f.a, f.r] [] _ (h.roomFor _ hws) _ ?_
  dsimp only
  rw [haddr, h.ctxE, presetBase_issueBase, localOk_of_dvd hok, decide_eq_true hbase, if_pos (by rfl), leBytes_eq_map, zipIdx_map_range,
    foldM_put_eq_putAll c stMA (fun b : Byte × Nat => .ldata (a + b.2) b.1), List.map_map]
  rfl

/-- A low part sign-extended, as a number. -/
theorem signExtend_ofNat (n v : Nat) : (BitVec.ofNat n v).signExtend 32 = BitVec.ofInt 32 (Int.bmod v (2 ^ n)) := by
  rw [BitVec.signExtend, BitVec.toInt_ofNat']

/-- Settles O7, each load by its extension and each store by its width. -/
theorem localLoadsAndStores : Obligations.LocalLoadsAndStores := by
  unfold Obligations.LocalLoadsAndStores
  intro s e gd c f h
  dsimp only
  refine ⟨fun hok => ⟨?_, ?_⟩, fun hok => ⟨?_, ?_⟩, fun hok => ?_, fun hok hb => ?_, fun hok hb => ?_, fun hok hb => ?_⟩
  · exact answers_runEng (f := fun m => m.localLoad e gd f 1 (fun v => BitVec.ofNat 32 v)) rfl (h.localLoad f rfl hok _)
  · rw [← signExtend_ofNat]
    exact answers_runEng (f := fun m => m.localLoad e gd f 1 (fun v => (BitVec.ofNat 8 v).signExtend 32)) rfl (h.localLoad f rfl hok _)
  · exact answers_runEng (f := fun m => m.localLoad e gd f 2 (fun v => BitVec.ofNat 32 v)) rfl (h.localLoad f rfl hok _)
  · rw [← signExtend_ofNat]
    exact answers_runEng (f := fun m => m.localLoad e gd f 2 (fun v => (BitVec.ofNat 16 v).signExtend 32)) rfl (h.localLoad f rfl hok _)
  · exact answers_runEng (f := fun m => m.localLoad e gd f 4 (fun v => BitVec.ofNat 32 v)) rfl (h.localLoad f rfl hok _)
  · exact answers_runEng (f := fun m => m.localStore e gd f 1) rfl (h.localStore f rfl hok hb)
  · exact answers_runEng (f := fun m => m.localStore e gd f 2) rfl (h.localStore f rfl hok hb)
  · exact answers_runEng (f := fun m => m.localStore e gd f 4) rfl (h.localStore f rfl hok hb)

end Sys2Proof.Machine
end

section
/-!
PROOF. Gathers and scatters (O9): the lanes of a descriptor, read one after the other, and the entries of a scatter in the order of its lanes.
-/
namespace Sys2Proof.Machine
open Sys2Proof

variable {m : Mach} {e : Nat} {gd : Guard} {c : Ctx}

/-! ### Descriptors (R118, R122) -/

theorem Slot.descriptor_base (h : Slot m e gd c) (st : Nat) (gs ps : List Nat) (a : Nat) :
    c.descriptor (issueBase m e gd c st gs ps) a = c.descriptor (atSlot m e) a := by
  simp only [Ctx.descriptor, h.localNat_base]

/-- R122: the enabled lanes of a good descriptor name elements of I, Q, M or E. -/
theorem descriptor_lane {M : Mach} {a : Nat} {ls : List (Option (Nat × Nat))} (h : c.descriptor M a = some ls) {sp i : Nat} (hl : some (sp, i) ∈ ls) : sp ≠ spW := by
  unfold Ctx.descriptor at h
  split at h
  · exact absurd h.symm (Option.some_ne_none _)
  · dsimp only at h
    split at h
    · exact absurd h.symm (Option.some_ne_none _)
    · rename_i hbad
      obtain rfl := Option.some.inj h
      rintro rfl
      exact hbad (List.any_eq_true.mpr ⟨_, hl, rfl⟩)

/-! ### Lanes (R119, R120) -/

theorem lanes_cons (c : Ctx) (l : Option (Nat × Nat)) (ls : List (Option (Nat × Nat))) (m : Mach) :
    c.lanes (l :: ls) m = ((c.lane l m).1 :: (c.lanes ls (c.lane l m).2).1, (c.lanes ls (c.lane l m).2).2) := rfl

theorem SeesAs.lane {n : Mach} (h : SeesAs c m n) (he : c.e < 16) (hk : c.k < 32) (l : Option (Nat × Nat)) :
    (c.lane l n).1 = (c.lane l m).1 ∧ SeesAs c (c.lane l m).2 (c.lane l n).2 := by
  cases l with
  | none => exact ⟨rfl, h⟩
  | some x =>
    obtain ⟨sp, i⟩ := x
    obtain ⟨hv, hs⟩ := h.read he hk sp i
    unfold Ctx.lane
    dsimp only
    split
    · exact ⟨rfl, h⟩
    · exact ⟨by rw [hv], hs⟩

theorem SeesAs.lanes {n : Mach} (h : SeesAs c m n) (he : c.e < 16) (hk : c.k < 32) (ls : List (Option (Nat × Nat))) :
    (c.lanes ls n).1 = (c.lanes ls m).1 ∧ SeesAs c (c.lanes ls m).2 (c.lanes ls n).2 := by
  induction ls generalizing m n with
  | nil => exact ⟨rfl, h⟩
  | cons l ls ih =>
    obtain ⟨hv, hs⟩ := h.lane he hk l
    obtain ⟨hvs, ht⟩ := ih hs
    rw [lanes_cons, lanes_cons]
    exact ⟨by rw [hv, hvs], ht⟩

theorem sameSegs_lane (c : Ctx) (l : Option (Nat × Nat)) (m : Mach) : SameSegs m (c.lane l m).2 := by
  unfold Ctx.lane
  split
  · exact SameSegs.refl m
  · split
    · exact SameSegs.refl m
    · exact sameSegs_read _ _ _ _

theorem sameSegs_lanes (c : Ctx) (ls : List (Option (Nat × Nat))) (m : Mach) : SameSegs m (c.lanes ls m).2 := by
  induction ls generalizing m with
  | nil => exact SameSegs.refl m
  | cons l ls ih => exact (sameSegs_lane c l m).trans (ih _)

/-- Lane k of a mask made of what `f` takes from each lane. -/
theorem lanesOf_map_getLsbD (f : Bool × Nat → Bool) (hf : f (false, 0) = false) (xs : List (Bool × Nat)) {k : Nat} (hk : k < 32) :
    (lanesOf (xs.map f)).getLsbD k = f (xs.getD k (false, 0)) := by
  calc (lanesOf (xs.map f)).getLsbD k = (xs.map f).getD k (f (false, 0)) := by rw [lanesOf_getLsbD _ hk, hf]
    _ = f (xs.getD k (false, 0)) := List.getD_map ..

/-! ### Gathers -/

/-- The module once the lanes are read, after the early count of an instruction at its slot. -/
def gathered (m : Mach) (e : Nat) (gd : Guard) (c : Ctx) (f : FmtD) (ls : List (Option (Nat × Nat))) : Mach :=
  (c.lanes ls (c.earlyImg (laneKeys ls) (issueBase m e gd c stWB5 [f.a.val] []))).2

/-- The lanes are read as at the slot, and the writes of the result are put in flight behind the read-set marks. -/
theorem Slot.gathers (h : Slot m e gd c) (he : e < 16) (f : FmtD) (ls : List (Option (Nat × Nat))) {ws : List Wr} (hws : ∀ w ∈ ws, ∀ s : Seg, s.apply w = s) :
    Puts (c.lanes ls (atSlot m e)).2 (((c.putAll 12 ws (gathered m e gd c f ls)).checkShade e c.k).checkEnd e) c 12 ws := by
  obtain ⟨-, hs⟩ := (h.seesAs stWB5 [f.a.val] [] (laneKeys ls)).lanes (h.engLt he) h.task ls
  have ho := hs.only
  rw [h.ctxE] at ho
  refine h.putsSeen ?_ ?_ ho (h.roomFor _ hws)
  · rw [gathered, Mach.eng, (tasksOnly_lanes _ _ _).engs]
    exact (earlyImg_eng _ _ _ _).trans (issueBase_eng _ _ _ _ _ _ _)
  · refine (SameSegs.of_tasks ?_).trans (sameSegs_lanes _ _ _)
    rw [earlyImg_tasks, issueBase_same]

/-- A gather with a good descriptor: the lanes' values, and with them their quality. -/
theorem Slot.gather_eq (h : Slot m e gd c) (he : e < 16) (f : FmtD) (quality : Bool) (hq : quality = true → f.r.val ≤ 61) {ls : List (Option (Nat × Nat))}
    (hd : c.descriptor (atSlot m e) (((c.g f.a).toNat + f.off.toNat * 128) % 2 ^ 32) = some ls) :
    m.gather e gd f quality = (((if quality then c.setQuality stWB5 f.r (c.lanes ls (atSlot m e)).1 (gathered m e gd c f ls)
      else c.setG stWB5 f.r (lanesOf ((c.lanes ls (atSlot m e)).1.map (·.1))) (gathered m e gd c f ls)).checkShade e c.k).checkEnd e) := by
  obtain ⟨hv, -⟩ := (h.seesAs stWB5 [f.a.val] [] (laneKeys ls)).lanes (h.engLt he) h.task ls
  have hres : ¬ (quality && decide (61 < f.r.val)) = true := by
    intro hb
    obtain ⟨h1, h2⟩ := Bool.and_eq_true_iff.mp hb
    exact absurd (hq h1) (Nat.not_le.mpr (of_decide_eq_true h2))
  unfold Mach.gather
  rw [if_neg hres, h.issue]
  dsimp only
  rw [addrD_eq, h.descriptor_base, hd]
  dsimp only
  rw [hv]
  rfl

/-! ### Scatters (R121) -/

/-- The entry of one lane of a scatter: none where the lane is disabled or masked, or the address takes no write. -/
def laneWrites (vals mask : Word) (x : Option (Nat × Nat) × Nat) : List Wr :=
  x.1.elim [] (fun y => if mask.getLsbD x.2 then Ctx.shades y.1 y.2 (bitV (vals.getLsbD x.2)) else [])

theorem foldM_putAll {α : Type} (c : Ctx) (st : Nat) (w : α → List Wr) (f : α → Mach → Mach) (hf : ∀ x n, f x n = c.putAll st (w x) n) (xs : List α) (m : Mach) :
    foldM xs f m = c.putAll st (xs.flatMap w) m := by
  induction xs generalizing m with
  | nil => rfl
  | cons x xs ih => rw [List.flatMap_cons, putAll_append, ← hf, ← ih]; rfl

theorem scatter_eq_putAll (c : Ctx) (st : Nat) (ls : List (Option (Nat × Nat))) (vals mask : Word) (m : Mach) :
    c.scatter st ls vals mask m = c.putAll st (ls.zipIdx.flatMap (laneWrites vals mask)) m := by
  unfold Ctx.scatter
  refine foldM_putAll c st _ _ (fun x n => ?_) _ m
  obtain ⟨l, k⟩ := x
  cases l with
  | none => rfl
  | some y =>
    show (if mask.getLsbD k then c.write st y.1 y.2 (bitV (vals.getLsbD k)) n else n) =
      c.putAll st (if mask.getLsbD k then Ctx.shades y.1 y.2 (bitV (vals.getLsbD k)) else []) n
    split
    · exact write_eq_putAll _ _ _ _ _ _
    · rfl

theorem Slot.scatters (h : Slot m e gd c) (f : FmtD) (hr : f.r.val ≠ 63) {ls : List (Option (Nat × Nat))}
    (hd : c.descriptor (atSlot m e) (((c.g f.a).toNat + f.off.toNat * 128) % 2 ^ 32) = some ls)
    (hroom : Room m c 6 (ls.zipIdx.flatMap (laneWrites (c.g f.r) (c.g (f.r.val + 1))))) :
    Puts (atSlot m e) (m.scatterInstr e gd f) c 6 (ls.zipIdx.flatMap (laneWrites (c.g f.r) (c.g (f.r.val + 1)))) := by
  unfold Mach.scatterInstr
  rw [if_neg hr]
  refine h.puts _ _ _ _ hroom _ ?_
  rw [addrD_eq, h.descriptor_base, hd]
  exact scatter_eq_putAll _ _ _ _ _ _

/-- Settles O9, each instruction by what its lanes give or take. -/
theorem gathersAndScatters : Obligations.GathersAndScatters := by
  unfold Obligations.GathersAndScatters
  intro s e gd c f ls h M hd xs
  refine ⟨?_, fun hr => ?_, fun hr => ?_⟩
  · refine answers_runEng (f := fun m => m.gather e gd f false) rfl ⟨lanesOf (xs.map (·.1)), ?_, fun k hk => lanesOf_map_getLsbD _ rfl _ hk⟩
    rw [h.gather_eq e.isLt f false (fun hq => absurd hq (by decide)) hd, if_neg (by decide), setG_eq_putAll c _ (by omega)]
    exact h.gathers e.isLt f ls (gWrite_apply _ _)
  · have hbit (n j : Nat) : n.testBit j = (n / 2 ^ j % 2 == 1) := by rw [Nat.testBit_eq_decide_div_mod_eq, beq_eq_decide]
    refine answers_runEng (f := fun m => m.gather e gd f true) rfl ⟨lanesOf (xs.map (·.1)), lanesOf (xs.map (fun p => p.2 % 2 == 1)),
      lanesOf (xs.map (fun p => p.2 / 2 % 2 == 1)), ?_, fun k hk => ⟨lanesOf_map_getLsbD _ rfl _ hk, ?_, ?_⟩⟩
    · rw [h.gather_eq e.isLt f true (fun _ => hr) hd, if_pos rfl, setQuality_eq_putAll c _ hr]
      refine h.gathers e.isLt f ls fun w hw s => ?_
      rcases List.mem_append.mp hw with hw | hw
      · exact gWrite_apply _ _ w hw s
      · simp only [List.mem_cons, List.not_mem_nil, or_false] at hw
        rcases hw with rfl | rfl <;> rfl
    · rw [lanesOf_map_getLsbD _ rfl _ hk, hbit, pow_zero, Nat.div_one]
    · rw [lanesOf_map_getLsbD _ rfl _ hk, hbit, pow_one]
  · intro ws hroom
    have hws : ws = ls.zipIdx.flatMap (laneWrites (c.g f.r) (c.g (f.r.val + 1))) := by
      refine List.flatMap_congr fun x hx => ?_
      obtain ⟨l, k⟩ := x
      cases l with
      | none => rfl
      | some y =>
        obtain ⟨sp, i⟩ := y
        have hsp : sp ≠ spW := descriptor_lane hd (List.fst_mem_of_mem_zipIdx hx)
        simp only [laneWrites, Option.elim_some, Ctx.shades, hsp, false_and, false_or]
        by_cases hk : (c.g (f.r.val + 1)).getLsbD k = true <;> by_cases h1 : sp = spI <;> by_cases h2 : sp = spQ ∧ 2112 ≤ i <;> simp [hk, h1, h2]
    rw [hws] at hroom ⊢
    exact answers_runEng (f := fun m => m.scatterInstr e gd f) rfl (h.scatters f hr hd hroom)

end Sys2Proof.Machine
end

section
/-!
SUPPORT. What squashes, light, changes and faults leave of the engines' PCs: each of them may stop an engine or light it, and none moves a PC (R11, R66).
-/
namespace Sys2Proof.Machine
open Sys2Proof

/-- Every engine of `n` has the PC it has in `m`. -/
def SamePc (m n : Mach) : Prop := ∀ i, (n.eng i).pc = (m.eng i).pc

namespace SamePc

variable {m n x : Mach}

theorem refl (m : Mach) : SamePc m m := fun _ => rfl
theorem trans (h : SamePc m n) (g : SamePc n x) : SamePc m x := fun i => (g i).trans (h i)
theorem of_engs (h : n.engs = m.engs) : SamePc m n := fun i => by simp only [Mach.eng, h]
theorem engs (h : SamePc m n) (hx : x.engs = n.engs) : SamePc m x := h.trans (of_engs hx)

theorem foldM {α : Type} {f : α → Mach → Mach} {xs : List α} (h : SamePc m n) (hf : ∀ y z, SamePc z (f y z)) : SamePc m (foldM xs f n) :=
  foldM_inv (SamePc m) f xs (fun y _ z hz => hz.trans (hf y z)) n h

theorem ite {p : Prop} [Decidable p] {y : Mach} (hx : SamePc m x) (hy : SamePc m y) : SamePc m (if p then x else y) := by
  split
  · exact hx
  · exact hy

/-- An engine's record replaced by one with the same PC. -/
theorem setEng (h : SamePc m n) {e : Nat} {y : Eng} (hy : y.pc = (n.eng e).pc) : SamePc m (n.setEng e y) := by
  refine h.trans fun i => ?_
  by_cases hi : i = e
  · rw [hi, Mach.eng_setEng_same, hy]
  · rw [Mach.eng_setEng_ne _ hi]

end SamePc

theorem Logs.samePc {m n : Mach} (h : Logs m n) : SamePc m n := SamePc.of_engs h.engs

variable (m : Mach)

theorem samePc_stopEngine (e : Nat) : SamePc m (m.stopEngine e) := by
  unfold Mach.stopEngine
  extract_lets en k n
  have hn : n.engs = m.engs := by
    simp only [n, onlyIf]
    split <;> rfl
  refine (SamePc.of_engs hn).setEng ?_
  simp only [Mach.eng, hn]
  rfl

theorem takeBudget_engs (k : Nat) : (m.takeBudget k).engs = m.engs :=
  (steady_takeBudget m k).engs.trans (by simp only [Mach.restartCounted, Mach.setFld_engs, Mach.addFld_engs])

theorem countSquash_engs (k c : Nat) : (m.countSquash k c).engs = m.engs := by
  rw [countSquash_eq]
  unfold onlyIf
  split
  · rw [takeBudget_engs]; rfl
  · rfl

theorem rerun_engs (k c : Nat) (sc : Scan) : (m.rerun k c sc).engs = m.engs := by
  unfold Mach.rerun
  split
  · rfl
  · split
    · dsimp only
      split <;> rfl
    · split <;> rfl

theorem samePc_squashRun (k c : Nat) : SamePc m (m.squashRun k c) := by
  cases hr : (m.task k).run with
  | none =>
    rw [show m.squashRun k c = m by unfold Mach.squashRun; rw [hr]]
    exact SamePc.refl m
  | some sc =>
    rw [squashRun_eq m hr]
    refine (SamePc.foldM (SamePc.refl m) fun g n => samePc_stopEngine n g.eng : SamePc m (m.stopScan sc)).engs ?_
    rw [rerun_engs, countSquash_engs]
    rfl

theorem samePc_squashSnap (k c : Nat) : SamePc m (m.squashSnap k c) := by
  unfold Mach.squashSnap
  exact SamePc.ite (SamePc.of_engs (countSquash_engs _ k c)) (SamePc.refl m)

theorem samePc_light (e : Nat) : SamePc m (m.light e) := by
  unfold Mach.light
  extract_lets en q
  split
  · refine SamePc.engs ((SamePc.refl m).setEng (e := e) (y := { en with power := .lit, litSince := m.now }) rfl) ?_
    unfold onlyIf
    split <;> rfl
  · exact SamePc.engs ((SamePc.refl m).setEng (e := e) (y := { en with wake := true }) rfl) rfl
  · exact SamePc.refl m

theorem fixSnap_engs (k t g i : Nat) : (m.fixSnap k t g i).engs = m.engs := by
  unfold Mach.fixSnap
  extract_lets sn m1 x m2 p m3 m4 m5 q m6
  have h1 : m1.engs = m.engs := by
    simp only [m1, Mach.putSnap]
    rfl
  clear_value m1
  have h2 : m2.engs = m.engs := h1
  clear_value m2
  have h3 : m3.engs = m.engs := h2
  clear_value m3
  have h4 : m4.engs = m.engs := h3
  clear_value m4
  split
  · have h5 : m5.engs = m.engs := (logs_flushStream m4).engs.trans h4
    clear_value m5
    exact (logs_linkSend m6 _ _).engs.trans h5
  · exact h4

theorem samePc_trigger (k t g i : Nat) : SamePc m (m.trigger k t g i) := by
  unfold Mach.trigger
  refine SamePc.ite ?_ (SamePc.refl m)
  have h : SamePc m ((m.fixSnap k t g i).lightTask k) := SamePc.foldM (SamePc.of_engs (fixSnap_engs m k t g i)) fun e n => samePc_light n e
  dsimp only
  split
  · exact SamePc.ite h (h.trans (samePc_squashRun _ k _))
  · exact h

theorem writeWord_engs (t : Nat) (w : Nat × Word) : (m.writeWord t w).engs = m.engs := by
  unfold Mach.writeWord
  split
  · rfl
  · rw [(logs_streamPut _ _).engs]
    show (m.preserve true w.1).engs = m.engs
    unfold Mach.preserve
    split <;> rfl

theorem writePoint_engs (p : PtChange) : (m.writePoint p).engs = m.engs := by
  unfold Mach.writePoint
  extract_lets o fl m1 m2 m3
  have h1 : m1.engs = m.engs := by
    simp only [m1, Mach.preserve]
    split
    · split <;> rfl
    · rfl
  have h2 : m2.engs = m.engs := h1
  have h3 : m3.engs = m.engs := by
    simp only [m3]
    split
    · exact (logs_journal _ _ _ _ _).engs.trans h2
    · exact h2
  split
  · split
    · exact (logs_journal _ _ _ _ _).engs.trans h2
    · split
      · split
        · exact (logs_journal _ _ _ _ _).engs.trans h3
        · exact h3
      · exact (logs_journal _ _ _ _ _).engs.trans h2
  · rfl

theorem samePc_wake (ps : List PtChange) (t : Nat) : SamePc m (m.wake ps t) := by
  unfold Mach.wake
  refine SamePc.foldM (SamePc.refl m) fun k n => ?_
  split
  · exact SamePc.refl n
  · exact (SamePc.of_engs rfl).trans (samePc_trigger _ _ _ _ _)

theorem samePc_writeChange (c : Change) : SamePc m (m.writeChange c) := by
  unfold Mach.writeChange
  extract_lets ch src m1 m2 m3
  have h2 : SamePc m m2 := SamePc.foldM (SamePc.of_engs rfl) fun w n => SamePc.of_engs (writeWord_engs n _ w)
  have h3 : SamePc m2 m3 := SamePc.foldM (SamePc.refl m2) fun p n => SamePc.of_engs (writePoint_engs n p)
  exact (h2.trans h3).trans (samePc_wake m3 _ _)

theorem faultSum_engs : m.faultSum.engs = m.engs := by
  unfold Mach.faultSum
  extract_lets n1 n2
  rw [Mach.setFld_engs, Mach.setFld_engs, Mach.setFlag_engs, Mach.setFlag_engs]

theorem lastFault_engs (c k : Nat) : (m.lastFault c k).engs = m.engs := by
  unfold Mach.lastFault
  rw [Mach.setFld64_engs, Mach.setFlag_engs, Mach.setFld_engs, Mach.setFld_engs]

theorem samePc_holdChange (c : Change) : SamePc m (m.holdChange c) := by
  unfold Mach.holdChange
  extract_lets q m1 src m2 m3 m4
  have h1 : SamePc m m1 := SamePc.of_engs (Mach.satFld_engs _ _ _)
  clear_value m1
  have h2 : SamePc m m2 := h1.engs rfl
  clear_value m2
  have h3 : SamePc m m3 := h2.trans (logs_sysEvent m2 _ _ _).samePc
  clear_value m3
  have h4 : SamePc m m4 := h3.engs (faultSum_engs _)
  clear_value m4
  have hevent (v : EvUnit) : SamePc m { m4 with ev := v } := h4.engs rfl
  exact SamePc.ite (hevent _) h2

theorem samePc_change (c : Change) : SamePc m (m.change c) := by
  unfold Mach.change
  exact SamePc.ite (SamePc.refl m) (SamePc.ite (samePc_writeChange m c) (samePc_holdChange m c))

theorem samePc_stat (i : Nat) (b : Bool) : SamePc m (m.stat i b) := by
  unfold Mach.stat Mach.setStat
  extract_lets pts n
  have h : SamePc m n := SamePc.foldM (SamePc.refl m) fun p x => SamePc.of_engs rfl
  exact SamePc.ite (h.trans (samePc_change n _)) h

theorem samePc_startYield (r : Nat) : SamePc m (m.startYield r) := by
  unfold Mach.startYield
  refine SamePc.ite (SamePc.foldM (SamePc.of_engs rfl) fun k n => ?_) (SamePc.refl m)
  exact ((samePc_squashSnap n k 3).trans (samePc_squashRun _ k 3)).engs rfl

/-- R417: a fault raised moves no PC. -/
theorem samePc_raise (c s k : Nat) : SamePc m (m.raise c s k) := by
  unfold Mach.raise
  extract_lets m1 m2 m3 m4 m5
  have h1 : SamePc m m1 := (logs_sysEvent m _ _ _).samePc
  clear_value m1
  have h2 : SamePc m m2 := SamePc.ite h1 (h1.engs rfl)
  clear_value m2
  have h3 : SamePc m m3 := ((h2.engs (faultSum_engs m2)).trans (samePc_stat m2.faultSum _ _)).trans (samePc_stat _ _ _)
  clear_value m3
  have h4 : SamePc m m4 := h3.engs (lastFault_engs m3 _ _)
  clear_value m4
  have hfatal (y : Mach) (hy : SamePc m y) : SamePc m { y with fatal := some c } := hy.engs rfl
  have hdegraded : SamePc m (m4.setFlag R.DIAG_FSUM_DEGRADED true) := h4.engs (Mach.setFlag_engs _ _ _)
  refine SamePc.ite (SamePc.ite ?_ ?_) (SamePc.ite (hfatal _ (h3.engs (lastFault_engs m3 _ _))) h3)
  · exact hdegraded.trans (samePc_stat _ _ _)
  · exact h4.trans (samePc_startYield m4 _)

theorem faultLogged_engs (e : Nat) (w : Word) : (m.faultLogged e w).engs = m.engs := by
  unfold Mach.faultLogged
  extract_lets n
  rw [Mach.setFld64_engs, Mach.addFld_engs, Mach.rset_engs]

theorem faultShown_engs (e code pc k j : Nat) : (m.faultShown e code pc k j).engs = m.engs := by
  unfold Mach.faultShown
  extract_lets rep n
  have hn : n.engs = m.engs := faultLogged_engs m e _
  clear_value n
  split
  · exact hn
  · rw [Mach.setTask_engs, hn]

/-- R123: an engine fault stops engines, and moves no PC. -/
theorem samePc_engineFault (e code pc : Nat) : SamePc m (m.engineFault e code pc) := by
  cases ha : (m.eng e).act with
  | none =>
    rw [show m.engineFault e code pc = m by unfold Mach.engineFault; rw [ha]]
    exact SamePc.refl m
  | some x =>
    obtain ⟨k, j⟩ := x
    rw [engineFault_eq m ha]
    extract_lets n
    have h : SamePc m n := (SamePc.of_engs (faultShown_engs m e code pc k j)).trans (samePc_squashRun _ k 4)
    clear_value n
    have hheld : SamePc m (n.setEng e { n.eng e with power := .heldOut }) := h.setEng rfl
    exact SamePc.ite (hheld.trans (samePc_raise _ _ _ _)) (SamePc.ite (h.trans (samePc_raise _ _ _ _)) (h.trans (samePc_raise _ _ _ _)))

end Sys2Proof.Machine
end

section
/-!
PROOF. Engine faults an instruction raises (O16): ENGe.FLT holds the fault's word, and what follows the fault in its slot leaves it there.
-/
namespace Sys2Proof.Machine
open Sys2Proof

variable {m n b : Mach} {e : Nat} {gd : Guard} {c : Ctx} {code : Nat}

/-! ### The word of a fault -/

theorem faultWord_repeat {hw rep pc k j : Nat} (h : m.rget (R.ENG_FLT e).addr = BitVec.ofNat 32 (faultWord code hw rep pc k j)) (hc : code < 64)
    (hhw : hw < 2) (hrep : rep < 2) : m.fld (R.ENG_FLT_REPEAT e) = rep := by
  rw [Mach.fld, show (R.ENG_FLT_REPEAT e).addr = (R.ENG_FLT e).addr from rfl, h, bitsOf, BitVec.toNat_ofNat, Nat.shiftRight_eq_div_pow]
  simp only [R.ENG_FLT_REPEAT, faultWord]
  omega

theorem evAddr_flt (he : e < 16) : evAddr (R.ENG_FLT e).addr = false := by
  refine evAddr_eng ?_ ?_ ?_ ?_ <;> simp only [R.ENG_FLT] <;> omega

/-- R123, R124: an opcode or access fault leaves its word in ENGe.FLT, the class bit 0. -/
theorem engineFault_word {pc k j : Nat} (he : e < 16) (hk : k < 32) (hc : code < 0x10) (ha : (m.eng e).act = some (k, j)) :
    (m.engineFault e code pc).rget (R.ENG_FLT e).addr =
      BitVec.ofNat 32 (faultWord code 0 ((m.task k).lastFault == some (code, pc)).toNat pc k j) := by
  have hhw : engHw code = false := decide_eq_false (by omega)
  have hshown := faultShown_word m e code pc k j
  have hsquash := rest_squashRun (m.faultShown e code pc k j) (c := 4) hk (by omega)
  simp only [hhw, Bool.toNat_false, Bool.not_false, Bool.true_and] at hshown
  rw [engineFault_eq m ha, ← hshown]
  dsimp only
  rw [if_neg (by simp [hhw])]
  split
  · exact (hsquash.trans (rest_raise _ _ _ _)).regs _ (evAddr_flt he)
  · exact (hsquash.trans (rest_raise _ _ _ _)).regs _ (evAddr_flt he)

/-! ### The fault recorded -/

/-- `n` holds in ENGe.FLT the fault `code` of the instruction `c`; it repeats the last one `b` has of the task or not. -/
def FaultRecorded (b : Mach) (e : Nat) (c : Ctx) (code : Nat) (n : Mach) : Prop :=
  n.fld (R.ENG_FLT_CODE e) = code ∧ n.fld (R.ENG_FLT_PC e) = c.pc ∧ n.fld (R.ENG_FLT_TASK e) = c.k ∧ n.fld (R.ENG_FLT_SEG e) = c.j ∧
    n.flag (R.ENG_FLT_VALID e) = true ∧ (n.fld (R.ENG_FLT_REPEAT e) = 1 ↔ (b.task c.k).lastFault = some (code, c.pc))

/-- What an instruction's fault needs of its slot: the fields fit the register's. -/
structure FaultFits (e : Nat) (c : Ctx) : Prop where
  eng : e < 16
  task : c.k < 32
  seg : c.j < 8
  pc : c.pc < 2 ^ 14

theorem FaultFits.recorded (h : FaultFits e c) (hc : code < 0x10)
    (hw : n.rget (R.ENG_FLT e).addr = BitVec.ofNat 32 (faultWord code 0 ((b.task c.k).lastFault == some (code, c.pc)).toNat c.pc c.k c.j)) :
    FaultRecorded b e c code n := by
  have hrep := Bool.toNat_lt ((b.task c.k).lastFault == some (code, c.pc))
  obtain ⟨hcode, hvalid, hpc, htask, hseg⟩ := faultWord_fields hw (by omega) (by omega) hrep h.pc h.task h.seg
  refine ⟨hcode, hpc, htask, hseg, hvalid, ?_⟩
  rw [faultWord_repeat hw (by omega) (by omega) hrep, Bool.toNat_eq_one, beq_iff_eq]

/-- The fault an instruction raises on a module whose tasks are `b`'s. -/
theorem FaultFits.engineFault (h : FaultFits e c) (hc : code < 0x10) (ha : (m.eng e).act = some (c.k, c.j)) (ht : m.tasks = b.tasks) :
    FaultRecorded b e c code (m.engineFault e code c.pc) := by
  have hlast : m.task c.k = b.task c.k := by rw [Mach.task, Mach.task, ht]
  exact h.recorded hc (hlast ▸ engineFault_word h.eng h.task hc ha)

theorem FaultRecorded.of_word {n' : Mach} (h : FaultRecorded b e c code n) (hw : n'.rget (R.ENG_FLT e).addr = n.rget (R.ENG_FLT e).addr) :
    FaultRecorded b e c code n' := by
  have hfld (f : Fld) (hf : f.addr = (R.ENG_FLT e).addr) : n'.fld f = n.fld f := by rw [Mach.fld, Mach.fld, hf, hw]
  obtain ⟨hcode, hpc, htask, hseg, hvalid, hrep⟩ := h
  refine ⟨(hfld (R.ENG_FLT_CODE e) rfl).trans hcode, (hfld (R.ENG_FLT_PC e) rfl).trans hpc, (hfld (R.ENG_FLT_TASK e) rfl).trans htask,
    (hfld (R.ENG_FLT_SEG e) rfl).trans hseg, ?_, ?_⟩
  · rwa [Mach.flag, hfld (R.ENG_FLT_VALID e) rfl]
  · rwa [hfld (R.ENG_FLT_REPEAT e) rfl]

/-! ### The shade check after a fault (R62) -/

theorem shadeOverflow_word (m : Mach) (he : e < 16) (k : Nat) : (m.shadeOverflow e k).rget (R.ENG_FLT e).addr = m.rget (R.ENG_FLT e).addr := by
  have hne : (R.ENG_FLT e).addr ≠ R.IMG_FSTAT.addr := by
    simp only [R.ENG_FLT, R.IMG_FSTAT]
    omega
  have hset (x : Mach) (f : Fld) (v : Nat) (hf : f.addr = R.IMG_FSTAT.addr) : (x.setFld f v).rget (R.ENG_FLT e).addr = x.rget (R.ENG_FLT e).addr :=
    Mach.rget_setFld_ne _ _ _ (hf ▸ hne)
  unfold Mach.shadeOverflow
  extract_lets n
  calc (n.raise 0x31E1 0 3).rget (R.ENG_FLT e).addr
    _ = n.rget (R.ENG_FLT e).addr := (rest_raise n _ _ _).regs _ (evAddr_flt he)
    _ = m.rget (R.ENG_FLT e).addr := (hset _ R.IMG_FSTAT_TASK k rfl).trans ((hset _ R.IMG_FSTAT_ENG e rfl).trans (hset m R.IMG_FSTAT_SHDOVF _ rfl))

theorem checkShade_word (m : Mach) (he : e < 16) (k : Nat) : (m.checkShade e k).rget (R.ENG_FLT e).addr = m.rget (R.ENG_FLT e).addr := by
  unfold Mach.checkShade
  extract_lets x
  split
  · exact shadeOverflow_word m he k
  · refine Mach.rget_setFld_ne _ _ _ ?_
    simp only [R.ENG_FLT, R.IMG_SHD_MAX]
    omega

theorem samePc_shadeOverflow (m : Mach) (e k : Nat) : SamePc m (m.shadeOverflow e k) := by
  unfold Mach.shadeOverflow
  extract_lets n
  have hn : n.engs = m.engs := by rw [Mach.setFld_engs, Mach.setFld_engs, Mach.setFlag_engs]
  clear_value n
  exact (SamePc.of_engs hn).trans (samePc_raise n _ _ _)

theorem samePc_checkShade (m : Mach) (e k : Nat) : SamePc m (m.checkShade e k) := by
  unfold Mach.checkShade
  exact SamePc.ite (samePc_shadeOverflow m e k) (SamePc.of_engs (Mach.maxFld_engs _ _ _))

/-! ### Where in its slot an instruction raises its fault -/

theorem issuedBy_act (c : Ctx) (ctl : Ctl) (st : Nat) : (issuedBy c ctl st).act = c.en.act := ctl.next_act c.en

/-- A fault raised before the guard counts (R107, R109) is the whole of what the instruction does. -/
theorem Slot.opcodeFault (h : Slot m e gd c) (hfits : FaultFits e c) (hc : code < 0x10) (gd' : Guard) (ctl : Ctl) (always : Option Nat) (st : Nat)
    (gs ps : List Nat) (body : Ctx → Mach → Mach)
    (hfirst : (c.en.ds ≠ 0 ∧ ctl ≠ .none ∧ code = 0x06) ∨ (ctl = .none ∧ always = some code)) :
    FaultRecorded (atSlot m e) e c code (m.issue e gd' ctl always st gs ps body) := by
  have hraised : FaultRecorded (atSlot m e) e c code ((slotTaken m e c ctl st).engineFault e code c.pc) :=
    hfits.engineFault hc (by rw [slotTaken_eng, issuedBy_act, h.actEn]) (slotTaken_tasks _ _ _ _ _)
  rw [h.issue_eq]
  rcases hfirst with ⟨hd, hctl, rfl⟩ | ⟨hctl, rfl⟩
  · rwa [if_pos ⟨hd, hctl⟩]
  · rwa [if_neg (by simp [hctl]), Option.elim_some]

/-- R163: a custom instruction without a valid entry. -/
theorem Slot.customFault (h : Slot m e gd c) (hfits : FaultFits e c) (gd' : Guard) {x : Nat} (w : Nat) (hx : (m.custEntry x).valid = false) :
    FaultRecorded (atSlot m e) e c 0x02 (m.custom e gd' x w) := by
  unfold Mach.custom
  extract_lets entry
  exact h.opcodeFault hfits (by decide) gd' .none _ _ _ _ _ (.inr ⟨rfl, if_neg (hx ▸ Bool.false_ne_true)⟩)

/-- A fault its body raises stands after the checks that end the slot: neither writes ENGe.FLT while the next PC lies in the code. -/
theorem Slot.bodyFault (h : Slot m e gd c) (hfits : FaultFits e c) (hc : code < 0x10) (ctl : Ctl) (hctl : ctl = .none ∨ c.en.ds = 0) (st : Nat)
    (gs ps : List Nat) (body : Ctx → Mach → Mach)
    (hbody : body c (slotBase m e gd c ctl st gs ps) = (slotBase m e gd c ctl st gs ps).engineFault c.e code c.pc) :
    FaultRecorded (atSlot m e) e c code (m.issue e gd ctl none st gs ps body) := by
  have hnodelay : ¬ (c.en.ds ≠ 0 ∧ ctl ≠ .none) := by
    rcases hctl with hn | hd
    · simp [hn]
    · simp [hd]
  have hg : ¬ (c.p gd.p.val == gd.neg) = true := by simpa using h.guard
  rw [h.issue_eq, if_neg hnodelay, Option.elim_none, guardedBody, if_neg hg, hbody, h.ctxE]
  have hraised : FaultRecorded (atSlot m e) e c code ((slotBase m e gd c ctl st gs ps).engineFault e code c.pc) :=
    hfits.engineFault hc (by rw [slotBase_eng, issuedBy_act, h.actEn]) (slotBase_tasks _ _ _ _ _ _ _ _)
  have hpc := ((samePc_engineFault (slotBase m e gd c ctl st gs ps) e code c.pc).trans (samePc_checkShade _ e c.k)) e
  rw [slotBase_eng, show (issuedBy c ctl st).pc = c.en.advance.pc from Ctl.next_pc ctl hctl] at hpc
  rw [checkEnd_calm (hpc.le.trans h.inCode)]
  exact hraised.of_word (checkShade_word _ hfits.eng _)

/-! ### The instructions -/

theorem localOk_eq_false {a k : Nat} (h : ¬ (a % k = 0 ∧ a + k ≤ 0x8000)) : localOk a k = false := by
  simpa [localOk] using h

theorem swrWrite_none (c : Ctx) {sel : Nat} (h : sel ∉ [0x1000, 0x1001, 0x1002]) (v : Word) : c.swrWrite sel v = none := by
  simp only [List.mem_cons, List.not_mem_nil, or_false, not_or] at h
  obtain ⟨h0, h1, h2⟩ := h
  unfold Ctx.swrWrite
  split
  · exact absurd rfl h0
  · exact absurd rfl h1
  · exact absurd rfl h2
  · rfl

section
variable (h : Slot m e gd c) (hfits : FaultFits e c)
include h hfits

/-- R92: a load beyond the scan-local data or off its width. -/
theorem Slot.localLoadFault (f : FmtD) {k a : Nat} (ha : ((c.g f.a).toNat + f.off.toNat * k) % 2 ^ 32 = a) (hbad : ¬ (a % k = 0 ∧ a + k ≤ 0x8000))
    (ext : Nat → Word) : FaultRecorded (atSlot m e) e c 0x03 (m.localLoad e gd f k ext) := by
  refine h.bodyFault hfits (by decide) .none (.inl rfl) stMA [f.a] [] _ ?_
  dsimp only
  rw [(addrD_eq _ _ _).trans ha, localOk_eq_false hbad, if_neg Bool.false_ne_true]

theorem Slot.localStoreFault (f : FmtD) {k a : Nat} (ha : ((c.g f.a).toNat + f.off.toNat * k) % 2 ^ 32 = a) (hbad : ¬ (a % k = 0 ∧ a + k ≤ 0x8000)) :
    FaultRecorded (atSlot m e) e c 0x03 (m.localStore e gd f k) := by
  refine h.bodyFault hfits (by decide) .none (.inl rfl) stMA [f.a, f.r] [] _ ?_
  dsimp only
  rw [(addrD_eq _ _ _).trans ha, localOk_eq_false hbad, Bool.false_and, if_neg Bool.false_ne_true]

/-- R139: an element beyond its space. -/
theorem Slot.imgLoadFault (f : FmtD) (sp : Nat) (hbad : spaceTop sp < ((c.g f.a).toNat + f.off.toNat) % 2 ^ 32) :
    FaultRecorded (atSlot m e) e c 0x04 (m.imgLoad e gd f sp) := by
  refine h.bodyFault hfits (by decide) .none (.inl rfl) stWB1 [f.a] [] _ ?_
  dsimp only
  rw [addrD_eq, Nat.mul_one, if_pos hbad]

theorem Slot.imgStoreFault (f : FmtD) (sp : Nat) (hbad : spaceTop sp < ((c.g f.a).toNat + f.off.toNat) % 2 ^ 32) :
    FaultRecorded (atSlot m e) e c 0x04 (m.imgStore e gd f sp) := by
  refine h.bodyFault hfits (by decide) .none (.inl rfl) stMA [f.a, f.r] [] _ ?_
  dsimp only
  rw [addrD_eq, Nat.mul_one, if_pos hbad]

/-- R157: a selector beyond the scan constants. -/
theorem Slot.scanReadFault (f : FmtF) (hbad : 8 < f.imm.toNat) :
    FaultRecorded (atSlot m e) e c 0x09 (m.issue e gd .none none stWB [] [] (Machine.scanRead f)) := by
  refine h.bodyFault hfits (by decide) .none (.inl rfl) stWB [] [] _ ?_
  rw [Machine.scanRead, scanConst_eq, List.getElem?_eq_none (by simp only [Ctx.scanConsts, List.length_cons, List.length_nil]; omega)]
  rfl

/-- R158: a selector of no row. -/
theorem Slot.swrFault (d : Fin 64) {sel : Nat} (hbad : sel ∉ [0x1000, 0x1001, 0x1002]) : FaultRecorded (atSlot m e) e c 0x09 (m.swr e gd d sel) := by
  refine h.bodyFault hfits (by decide) .none (.inl rfl) stWB [d.val] [] _ ?_
  simp only [swrWrite_none c hbad]

end

/-- The body of CALL (R153). -/
def callBody (f : FmtC) (c : Ctx) (m : Mach) : Mach :=
  if 16381 ≤ c.pc then m.engineFault c.e 0x07 c.pc else c.branchTo f.target.toNat (c.put stDE (.link (c.pc + 3)) m)

/-- Settles O16, each instruction by the place in its slot where it raises its fault. -/
theorem engineFaultsAreRecorded : Obligations.EngineFaultsAreRecorded := by
  unfold Obligations.EngineFaultsAreRecorded
  intro s e gd c h hpc hj M faults
  have hfits : FaultFits e c := ⟨e.isLt, h.task, hj, hpc⟩
  have hanswers {i : Instr} {f : Mach → Mach} {code : Nat} (hi : exec i s = runEng f s) (hf : FaultRecorded (atSlot s.m e) e c code (f s.m)) :
      faults i code := answers_runEng hi hf
  refine ⟨fun gd' w => ?_, fun gd' n w hn => ?_, fun f hbad => ⟨?_, ?_⟩, fun f hbad => ⟨?_, ?_⟩, fun f hbad => ?_, fun f hbad => ?_, fun f hd hlate => ?_,
    fun f hd => ?_⟩
  · exact hanswers (f := fun m => m.issue e gd' .none (some 0x01) stDE [] [] (fun _ m => m)) rfl
      (h.opcodeFault hfits (by decide) gd' .none (some 0x01) stDE [] [] _ (.inr ⟨rfl, rfl⟩))
  · exact hanswers (f := fun m => m.custom e gd' n w.toNat) rfl (h.customFault hfits gd' w.toNat hn)
  · exact hanswers (f := fun m => m.localLoad e gd f 4 (fun v => BitVec.ofNat 32 v)) rfl (h.localLoadFault hfits f rfl hbad _)
  · exact hanswers (f := fun m => m.localStore e gd f 4) rfl (h.localStoreFault hfits f rfl hbad)
  · exact hanswers (f := fun m => m.imgLoad e gd f spM) rfl (h.imgLoadFault hfits f spM hbad)
  · exact hanswers (f := fun m => m.imgStore e gd f spM) rfl (h.imgStoreFault hfits f spM hbad)
  · exact hanswers (execSrd_eq e gd f s) (h.scanReadFault hfits f hbad)
  · exact hanswers (f := fun m => m.swr e gd f.d f.imm.toNat) rfl (h.swrFault hfits f.d hbad)
  · refine hanswers (f := fun m => m.issue e gd .branch none stDE [] [] (callBody f)) rfl ?_
    exact h.bodyFault hfits (by decide) .branch (.inr hd) stDE [] [] _ (if_pos hlate)
  · exact hanswers (f := fun m => m.issue e gd .branch none stDE [] [] (fun c m => c.branchTo f.target.toNat m)) rfl
      (h.opcodeFault hfits (by decide) gd .branch none stDE [] [] _ (.inl ⟨hd, Ctl.noConfusion, rfl⟩))

end Sys2Proof.Machine
end

section
/-!
SUPPORT. What the instructions form of words: the results on the numbers the words stand for (R131, R132), lane by lane (R134), and the compares (R135).
-/
namespace Sys2Proof.Machine
open Sys2Proof

/-! ### Words as numbers (R131, R132) -/

section
variable (a b : Word)

theorem word_add : a + b = BitVec.ofNat 32 (a.toNat + b.toNat) := by
  rw [BitVec.ofNat_add, BitVec.ofNat_toNat, BitVec.ofNat_toNat, BitVec.setWidth_eq, BitVec.setWidth_eq]

theorem word_sub : a - b = BitVec.ofInt 32 (a.toInt - b.toInt) :=
  BitVec.eq_of_toInt_eq (by rw [BitVec.toInt_sub, BitVec.toInt_ofInt])

theorem word_addSigned {n : Nat} (i : BitVec n) : a + i.signExtend 32 = BitVec.ofInt 32 (a.toInt + i.toInt) := by
  rw [BitVec.ofInt_add, BitVec.ofInt_toInt, BitVec.signExtend]

theorem word_mul : a * b = BitVec.ofNat 32 (a.toNat * b.toNat) := by
  rw [BitVec.ofNat_mul, BitVec.ofNat_toNat, BitVec.ofNat_toNat, BitVec.setWidth_eq, BitVec.setWidth_eq]

/-- The high half of a 64-bit number, signed and unsigned. -/
theorem highHalf_ofInt (n : Int) : (BitVec.ofInt 64 n >>> 32).setWidth 32 = BitVec.ofInt 32 (n / 2 ^ 32) := by
  apply BitVec.eq_of_toNat_eq
  rw [BitVec.toNat_setWidth, BitVec.toNat_ushiftRight, BitVec.toNat_ofInt, BitVec.toNat_ofInt, Nat.shiftRight_eq_div_pow]
  omega

theorem highHalf_ofNat (n : Nat) : (BitVec.ofNat 64 n >>> 32).setWidth 32 = BitVec.ofNat 32 (n / 2 ^ 32) := by
  rw [← BitVec.ofInt_natCast, highHalf_ofInt, ← BitVec.ofInt_natCast]
  norm_cast

theorem mulHigh_eq (x : Fin 4) : mulHigh x a b = if x.val % 2 = 0 then BitVec.ofInt 32 (a.toInt * b.toInt / 2 ^ 32)
    else BitVec.ofNat 32 (a.toNat * b.toNat / 2 ^ 32) := by
  unfold mulHigh
  refine if_congr Iff.rfl ?_ ?_
  · rw [← highHalf_ofInt, BitVec.ofInt_mul, BitVec.signExtend, BitVec.signExtend]
  · rw [← highHalf_ofNat, BitVec.ofNat_mul, BitVec.ofNat_toNat, BitVec.ofNat_toNat]

theorem divide_eq (x : Fin 4) : divide x a b = if b = 0 then 0xFFFFFFFF#32
    else if x.val % 2 = 0 then BitVec.ofInt 32 (a.toInt.tdiv b.toInt) else BitVec.ofNat 32 (a.toNat / b.toNat) := by
  unfold divide
  refine if_congr Iff.rfl rfl (if_congr Iff.rfl ?_ ?_)
  · exact BitVec.eq_of_toInt_eq (by rw [BitVec.toInt_sdiv, BitVec.toInt_ofInt])
  · rw [← BitVec.toNat_udiv, BitVec.ofNat_toNat, BitVec.setWidth_eq]

theorem remainder_eq (x : Fin 4) : remainder x a b = if b = 0 then a
    else if x.val % 2 = 0 then BitVec.ofInt 32 (a.toInt.tmod b.toInt) else BitVec.ofNat 32 (a.toNat % b.toNat) := by
  unfold remainder
  refine if_congr Iff.rfl rfl (if_congr Iff.rfl ?_ ?_)
  · rw [← BitVec.toInt_srem, BitVec.ofInt_toInt]
  · rw [← BitVec.toNat_umod, BitVec.ofNat_toNat, BitVec.setWidth_eq]

theorem word_shiftLeft (k : Nat) : a <<< k = BitVec.ofNat 32 (a.toNat * 2 ^ k) :=
  BitVec.eq_of_toNat_eq (by rw [BitVec.toNat_shiftLeft, BitVec.toNat_ofNat, Nat.shiftLeft_eq])

theorem word_shiftRight (k : Nat) : a >>> k = BitVec.ofNat 32 (a.toNat / 2 ^ k) := by
  rw [← Nat.shiftRight_eq_div_pow, ← BitVec.toNat_ushiftRight, BitVec.ofNat_toNat, BitVec.setWidth_eq]

theorem word_sshiftRight (k : Nat) : a.sshiftRight k = BitVec.ofInt 32 (a.toInt / 2 ^ k) := by
  have hpow : a.toInt >>> k = a.toInt / 2 ^ k := by simpa using Int.shiftRight_eq_div_pow a.toInt k
  rw [← hpow, ← BitVec.toInt_sshiftRight, BitVec.ofInt_toInt]

/-- An immediate in the bits from `k` on. -/
theorem zext14_shiftLeft (i : BitVec 14) (k : Nat) : zext14 i <<< k = BitVec.ofNat 32 (i.toNat * 2 ^ k) := by
  have hi : (zext14 i).toNat = i.toNat := BitVec.toNat_setWidth_of_le (by decide)
  rw [word_shiftLeft, hi]

theorem amount_zext8 (i : BitVec 8) : amount (zext8 i) = i.toNat % 32 :=
  congrArg (· % 32) (BitVec.toNat_setWidth_of_le (by decide))

theorem popcount_eq : popcount a = BitVec.ofNat 32 ((List.range 32).countP (fun i => a.getLsbD i)) := by
  rw [popcount, List.countP_eq_length_filter]

/-- EXT by its variant. -/
theorem extend_eq (x : Fin 4) : extend x a = if x.val = 0 then BitVec.ofNat 32 (a.toNat % 2 ^ 8)
    else if x.val = 1 then BitVec.ofInt 32 (Int.bmod a.toNat (2 ^ 8))
    else if x.val = 2 then BitVec.ofNat 32 (a.toNat % 2 ^ 16) else BitVec.ofInt 32 (Int.bmod a.toNat (2 ^ 16)) := by
  have hlow (n : Nat) : (a.setWidth n).setWidth 32 = BitVec.ofNat 32 (a.toNat % 2 ^ n) := by rw [← BitVec.toNat_setWidth, BitVec.ofNat_toNat]
  have hsigned (n : Nat) : (a.setWidth n).signExtend 32 = BitVec.ofInt 32 (Int.bmod a.toNat (2 ^ n)) := by
    rw [← signExtend_ofNat, BitVec.ofNat_toNat]
  fin_cases x
  · exact hlow 8
  · exact hsigned 8
  · exact hlow 16
  · exact hsigned 16

end

/-! ### Lanes (R134) -/

theorem getLsbD_allOr (a : Bool) {k : Nat} (hk : k < 32) : (if a then 0xFFFFFFFF#32 else 0 : Word).getLsbD k = a := by
  cases a with
  | false => exact BitVec.getLsbD_zero
  | true => exact (BitVec.getLsbD_allOnes (v := 32)).trans (decide_eq_true hk)

/-- LMUX lane by lane. -/
theorem getLsbD_select (a b d : Word) {k : Nat} (hk : k < 32) :
    ((a &&& b) ||| (d &&& ~~~ b)).getLsbD k = if b.getLsbD k then a.getLsbD k else d.getLsbD k := by
  rw [BitVec.getLsbD_or, BitVec.getLsbD_and, BitVec.getLsbD_and, BitVec.getLsbD_not, decide_eq_true hk]
  cases b.getLsbD k <;> simp

/-! ### Compares and predicates (R135, R136) -/

/-- A 6-bit field as the signed number of its row. -/
theorem toInt_sext6 (b : Fin 64) : (sext6 b).toInt = if b.val < 32 then (b.val : Int) else b.val - 64 := by
  revert b
  decide

theorem anyLane_iff (a b : Word) : anyLane a b = true ↔ ∃ k, a.getLsbD k = true ∧ b.getLsbD k = true := by
  rw [anyLane, bne_iff_ne, Ne, show (0 : Word) = 0#32 from rfl, BitVec.zero_iff_eq_false]
  simp only [not_forall, Bool.not_eq_false, BitVec.getLsbD_and, Bool.and_eq_true]

theorem allLanes_iff (a b : Word) : allLanes a b = true ↔ ∀ k, b.getLsbD k = true → a.getLsbD k = true := by
  rw [allLanes, beq_iff_eq, BitVec.eq_of_getLsbD_eq_iff]
  simp only [BitVec.getLsbD_and, Bool.and_eq_right_iff_imp]
  exact ⟨fun h k hk => h k (BitVec.lt_of_getLsbD hk) hk, fun h k _ => h k⟩

theorem xor_eq_true_iff_Xor (x y : Bool) : xor x y = true ↔ Xor (x = true) (y = true) := by
  rw [Bool.xor_iff_ne, Ne, Bool.eq_iff_iff, xor_iff_not_iff]

end Sys2Proof.Machine
end

section
/-!
PROOF. Results on the numbers (O1), lane by lane (O2), and predicates (O3): an instruction that writes one register puts its value in flight.
-/
namespace Sys2Proof.Machine
open Sys2Proof

/-! ### Instructions that write one register -/

variable {s : State} {i : Instr} {e : Nat} {gd : Guard} {c : Ctx}

/-- A command that computes puts its value in flight. -/
theorem Slot.answersCompute (h : Slot s.m e gd c) {st : Nat} {gs ps : List Nat} {d : Fin 64} {val : Ctx → Word} {v : Word}
    (hi : exec i s = runEng (fun m => m.compute e gd st gs ps d val) s) (hv : val c = v) :
    Answers i s (fun m' => Puts (atSlot s.m e) m' c st (gWrite d v)) :=
  answers_runEng hi (hv ▸ h.compute st gs ps d val)

/-- The same, its value told by its lanes. -/
theorem Slot.answersLanes (h : Slot s.m e gd c) {st : Nat} {gs ps : List Nat} {d : Fin 64} {val : Ctx → Word} {lane : Nat → Bool}
    (hi : exec i s = runEng (fun m => m.compute e gd st gs ps d val) s) (hv : ∀ k, k < 32 → (val c).getLsbD k = lane k) :
    Answers i s (fun m' => ∃ v : Word, Puts (atSlot s.m e) m' c st (gWrite d v) ∧ ∀ k, k < 32 → v.getLsbD k = lane k) :=
  answers_runEng hi ⟨val c, h.compute st gs ps d val, hv⟩

/-- A command that forms a predicate puts it in flight combined with the one `cc` names. -/
theorem Slot.answersPredicate (h : Slot s.m e gd c) {f : FmtE} {gs ps : List Nat} {val : Ctx → Bool} {p : Prop}
    (hi : exec i s = runEng (fun m => m.predicate e gd f gs ps val) s) (hv : val c = true ↔ p) :
    Answers i s (fun m' => ∃ v : Bool, Puts (atSlot s.m e) m' c 4 (pWrite f.pd v) ∧ (v = true ↔ p ∧ c.p f.c.val = true)) :=
  answers_runEng hi ⟨_, h.predicate f gs ps val, Bool.and_eq_true_iff.trans (and_congr_left' hv)⟩

/-! ### The instructions -/

/-- Settles O1, each result by what it is on the numbers. -/
theorem arithmeticResults : Obligations.ArithmeticResults := by
  unfold Obligations.ArithmeticResults
  intro s e gd c h sets
  refine ⟨fun f => ?_, fun f => ?_, fun f => ?_, fun f => ?_, fun f => ?_, fun f => ?_, fun f => ?_, fun f => ?_, fun f => ?_, fun f => ?_, fun f => ?_, fun f => ?_,
    fun f => ?_, fun f => ?_, fun f => ?_, fun f => ?_, fun f => ?_, fun f => ?_, fun f => ?_, fun f => ?_⟩
  · exact answers_runEng (f := fun m => m.issue e gd .none none stDE [] [] (fun _ m => m)) rfl (h.puts stDE [] [] [] (h.roomFor _ (by simp)) _ rfl)
  · exact h.answersCompute rfl (word_add _ _)
  · exact h.answersCompute rfl (word_sub _ _)
  · exact h.answersCompute rfl (word_addSigned _ _)
  · exact h.answersCompute rfl (word_mul _ _)
  · exact h.answersCompute rfl (mulHigh_eq _ _ _)
  · exact h.answersCompute rfl (divide_eq _ _ _)
  · exact h.answersCompute rfl (remainder_eq _ _ _)
  · exact h.answersCompute rfl rfl
  · exact h.answersCompute rfl (zext14_shiftLeft _ 18)
  · exact h.answersCompute rfl (congrArg _ (zext14_shiftLeft _ 4))
  · exact h.answersCompute rfl (congrArg _ (BitVec.ofNat_toNat _ _).symm)
  · exact h.answersCompute rfl (word_shiftLeft _ _)
  · exact h.answersCompute rfl (word_shiftRight _ _)
  · exact h.answersCompute rfl (word_sshiftRight _ _)
  · exact h.answersCompute rfl (by rw [amount_zext8, word_shiftLeft])
  · exact h.answersCompute rfl (by rw [amount_zext8, word_shiftRight])
  · exact h.answersCompute rfl (by rw [amount_zext8, word_sshiftRight])
  · exact h.answersCompute rfl (popcount_eq _)
  · exact h.answersCompute rfl (extend_eq _ _)

/-- Settles O2, each lane by the operation on its bits. -/
theorem laneResults : Obligations.LaneResults := by
  unfold Obligations.LaneResults
  intro s e gd c f h r a b d
  refine ⟨?_, ?_, ?_, ?_, ?_, ?_, ?_, ?_⟩
  · exact h.answersLanes rfl fun k _ => BitVec.getLsbD_and
  · exact h.answersLanes rfl fun k _ => BitVec.getLsbD_or
  · exact h.answersLanes rfl fun k _ => BitVec.getLsbD_xor
  · exact h.answersLanes rfl fun k hk => by rw [BitVec.getLsbD_and, BitVec.getLsbD_not, decide_eq_true hk, Bool.true_and]
  · exact h.answersLanes rfl fun k hk => by rw [BitVec.getLsbD_not, BitVec.getLsbD_or, decide_eq_true hk, Bool.true_and]
  · exact h.answersLanes rfl fun k hk => by
      rw [BitVec.getLsbD_not, BitVec.getLsbD_xor, decide_eq_true hk, Bool.true_and, ← Bool.bne_eq_xor, bne, Bool.not_not]
  · exact h.answersLanes rfl fun k hk => getLsbD_select _ _ _ hk
  · exact h.answersLanes rfl fun k hk => getLsbD_allOr _ hk

/-- Settles O3, each compare by what it says of the numbers. -/
theorem predicateResults : Obligations.PredicateResults := by
  unfold Obligations.PredicateResults
  intro s e gd c f h r a b pa pb imm
  refine ⟨?_, ?_, ?_, ?_, ?_, ?_, ?_, ?_, ?_, ?_, ?_, ?_, ?_, ?_, ?_, ?_⟩
  · exact h.answersPredicate rfl beq_iff_eq
  · exact h.answersPredicate rfl bne_iff_ne
  · exact h.answersPredicate rfl BitVec.slt_iff_toInt_lt
  · exact h.answersPredicate rfl BitVec.ult_iff_lt
  · exact h.answersPredicate rfl BitVec.sle_iff_toInt_le
  · exact h.answersPredicate rfl BitVec.ule_iff_le
  · exact h.answersPredicate rfl (beq_iff_eq.trans (by rw [← BitVec.toInt_inj, toInt_sext6]))
  · exact h.answersPredicate rfl (BitVec.slt_iff_toInt_lt.trans (by rw [toInt_sext6]))
  · exact h.answersPredicate rfl Iff.rfl
  · exact h.answersPredicate rfl (anyLane_iff _ _)
  · exact h.answersPredicate rfl (allLanes_iff _ _)
  · exact h.answersPredicate rfl Bool.and_eq_true_iff
  · exact h.answersPredicate rfl Bool.or_eq_true_iff
  · exact h.answersPredicate rfl (xor_eq_true_iff_Xor _ _)
  · exact h.answersPredicate rfl (by simp [pa, pb])
  · exact h.answersPredicate rfl (by simp [pa, pb])

end Sys2Proof.Machine
end

section
/-!
PROOF. The table of the timers (O12): its rows are of four shapes, fixed, awaiting expiry, starting, or missing.
-/
namespace Sys2Proof.Machine
open Sys2Proof

/-! ### The shapes of a row (R145, R146) -/

variable {x y z : TCell} {k now : Nat} {inp q q' b : Bool}

theorem TCell.p_congr (hp : y.preset = x.preset) (hf : y.flags = x.flags) : y.p = x.p := by
  unfold TCell.p TCell.unit
  rw [hp, hf]

theorem timerRow'_of_some {r : TCell × Bool × Bool} (h : timerRow x now inp = some r) : timerRow' x now inp = r := by
  unfold timerRow'
  rw [h]

/-- A cell of the instruction's kind by the row that applies to it. -/
theorem timerEval_own (hk : x.kind = k) : timerEval k x now inp =
    if (timerRow' x now inp).2.2 && (timerRow' x now inp).1.p == 0 then
      ((timerRow' (timerRow' x now inp).1 now inp).1, (timerRow' (timerRow' x now inp).1 now inp).2.1)
    else ((timerRow' x now inp).1, (timerRow' x now inp).2.1) := by
  unfold timerEval
  rw [if_pos hk]

theorem timerEval_fixed (hk : x.kind = k) (h : timerRow x now inp = some (y, q, false)) : timerEval k x now inp = (y, q) := by
  rw [timerEval_own hk, timerRow'_of_some h]
  rfl

/-- A row that waits for the preset time. -/
theorem timerEval_expiry (hk : x.kind = k) (h : timerRow x now inp = if decide (x.p ≤ x.elapsed now) then some (y, q, false) else some (z, q', false)) :
    timerEval k x now inp = if x.p ≤ x.elapsed now then (y, q) else (z, q') := by
  by_cases hp : x.p ≤ x.elapsed now
  · rw [if_pos hp]
    exact timerEval_fixed hk (h.trans (if_pos (decide_eq_true hp)))
  · rw [if_neg hp]
    exact timerEval_fixed hk (h.trans (if_neg (by simpa using hp)))

theorem ite_bool_not {α : Type} (d : Bool) (u v : α) : (if !d then u else v) = if d then v else u := by cases d <;> rfl

/-- A row that starts timing goes on with the cell it leaves. -/
theorem timerEval_started (hk : x.kind = k) (h : timerRow x now inp = some (y, q, true)) (hy : y.p = x.p) (hp : x.p ≠ 0) :
    timerEval k x now inp = (y, q) := by
  rw [timerEval_own hk, timerRow'_of_some h]
  exact if_neg (by simp [hy, hp])

/-- With a preset of 0 it passes on at once to the row that follows expiry. -/
theorem timerEval_starts (hk : x.kind = k) (h : timerRow x now inp = some (y, q, true)) (hy : y.p = x.p)
    (hz : timerRow y now inp = if decide (y.p ≤ y.elapsed now) then some (z, q', false) else some (y, b, false)) :
    timerEval k x now inp = if x.p = 0 then (z, q') else (y, q) := by
  by_cases hp : x.p = 0
  · have hnext : timerRow y now inp = some (z, q', false) := hz.trans (if_pos (decide_eq_true (by omega)))
    rw [if_pos hp, timerEval_own hk, timerRow'_of_some h, timerRow'_of_some hnext]
    exact if_pos (by simp [hy, hp])
  · rw [if_neg hp]
    exact timerEval_started hk h hy hp

/-- R145: where no row applies, the cell is set to IDLE first. -/
theorem timerEval_noRow (hk : x.kind = k) (h : timerRow x now inp = none) (hidle : (timerRow x.idle now inp).isSome) :
    timerEval k x now inp = timerEval k x.idle now inp := by
  obtain ⟨r, hr⟩ := Option.isSome_iff_exists.mp hidle
  have hsame : timerRow' x now inp = timerRow' x.idle now inp := by
    rw [timerRow'_of_some hr]
    unfold timerRow'
    rw [h, hr]
    rfl
  rw [timerEval_own hk, timerEval_own (x := x.idle) hk, hsame]

/-- R145: a cell of another kind becomes an idle cell of the instruction's. -/
theorem timerEval_otherKind (h : x.kind ≠ k) :
    timerEval k x now inp = timerEval k { x with state := 0, start := 0, kind := k } now inp := by
  unfold timerEval
  rw [if_neg h, if_pos rfl]
  rfl

/-! ### States without a row -/

theorem timerRow_ton_none (hk : x.kind = 1) (hs : x.state ∉ [0, 1, 3]) : timerRow x now true = none := by
  obtain ⟨start, preset, kind, state, flags, owner⟩ := x
  obtain rfl : kind = 1 := hk
  match state, hs with
  | 0, hs | 1, hs | 3, hs => simp at hs
  | 2, _ | n + 4, _ => rfl

theorem timerRow_tof_none (hk : x.kind = 2) (hs : x.state ∉ [0, 1, 2]) : timerRow x now false = none := by
  obtain ⟨start, preset, kind, state, flags, owner⟩ := x
  obtain rfl : kind = 2 := hk
  match state, hs with
  | 0, hs | 1, hs | 2, hs => simp at hs
  | n + 3, _ => rfl

theorem timerRow_tp_none (hk : x.kind = 3) (hs : x.state ∉ [0, 1, 3]) : timerRow x now inp = none := by
  obtain ⟨start, preset, kind, state, flags, owner⟩ := x
  obtain rfl : kind = 3 := hk
  match state, hs with
  | 0, hs | 1, hs | 3, hs => simp at hs
  | 2, _ | n + 4, _ => rfl

theorem timerRow_tpxTonr_none (hk : x.kind = 4 ∨ x.kind = 5) (hs : x.state ∉ [0, 1, 2, 3]) : timerRow x now inp = none := by
  obtain ⟨start, preset, kind, state, flags, owner⟩ := x
  match state, hs with
  | 0, hs | 1, hs | 2, hs | 3, hs => simp at hs
  | n + 4, _ => rcases hk with hk | hk <;> obtain rfl := hk <;> rfl

/-- R145: the kinds, inputs and states of no row. -/
theorem timerRow_none (hk : x.kind = k)
    (h : (k = 1 ∧ inp = true ∧ x.state ∉ [0, 1, 3]) ∨ (k = 2 ∧ inp = false ∧ x.state ∉ [0, 1, 2]) ∨ (k = 3 ∧ x.state ∉ [0, 1, 3]) ∨
      ((k = 4 ∨ k = 5) ∧ x.state ∉ [0, 1, 2, 3])) : timerRow x now inp = none ∧ (timerRow x.idle now inp).isSome := by
  subst hk
  obtain ⟨start, preset, kind, state, flags, owner⟩ := x
  rcases h with ⟨hk, rfl, hs⟩ | ⟨hk, rfl, hs⟩ | ⟨hk, hs⟩ | ⟨hk, hs⟩
  · exact ⟨timerRow_ton_none hk hs, by obtain rfl := hk; rfl⟩
  · exact ⟨timerRow_tof_none hk hs, by obtain rfl := hk; rfl⟩
  · exact ⟨timerRow_tp_none hk hs, by obtain rfl := hk; cases inp <;> rfl⟩
  · exact ⟨timerRow_tpxTonr_none hk hs, by rcases hk with hk | hk <;> obtain rfl := hk <;> cases inp <;> rfl⟩

/-- Settles O12, each row by its shape. -/
theorem timerTable : Obligations.TimerTable := by
  unfold Obligations.TimerTable
  intro x now e idle go
  refine ⟨fun k inp hk => timerEval_otherKind hk, fun k inp hk hs => ?_, ?_⟩
  · obtain ⟨hnone, hidle⟩ := timerRow_none (now := now) hk hs
    exact timerEval_noRow hk hnone hidle
  obtain ⟨start, preset, kind, state, flags, owner⟩ := x
  refine ⟨?_, ?_, ?_, ?_, ?_, ?_, ?_, ?_, ?_, ?_, ?_, ?_, ?_, ?_, ?_, ?_, ?_, ?_, ?_, ?_, ?_, ?_, ?_⟩
  -- TON
  · rintro rfl
    exact timerEval_fixed rfl rfl
  · rintro ⟨rfl, rfl⟩
    exact timerEval_starts rfl rfl (TCell.p_congr rfl rfl) rfl
  · rintro ⟨rfl, rfl⟩
    exact timerEval_expiry rfl rfl
  · rintro ⟨rfl, rfl⟩
    exact timerEval_fixed rfl rfl
  -- TOF
  · rintro rfl
    exact timerEval_fixed rfl rfl
  · rintro ⟨rfl, rfl⟩
    exact timerEval_starts rfl rfl (TCell.p_congr rfl rfl) rfl
  · rintro ⟨rfl, rfl⟩
    exact timerEval_expiry rfl rfl
  · rintro ⟨rfl, rfl⟩
    exact timerEval_fixed rfl rfl
  -- TP
  · rintro ⟨rfl, rfl⟩
    exact timerEval_starts rfl rfl (TCell.p_congr rfl rfl) (ite_bool_not _ _ _)
  · rintro ⟨rfl, rfl⟩
    exact timerEval_fixed rfl rfl
  · rintro inp ⟨rfl, rfl⟩
    rw [← ite_not]
    simp only [Nat.not_lt]
    cases inp <;> exact timerEval_expiry rfl (ite_bool_not _ _ _)
  · rintro inp ⟨rfl, rfl⟩
    cases inp <;> exact timerEval_fixed rfl rfl
  -- TPX
  · rintro ⟨rfl, rfl | rfl⟩ <;> exact timerEval_starts rfl rfl (TCell.p_congr rfl rfl) rfl
  · rintro ⟨rfl, rfl⟩
    exact timerEval_expiry rfl rfl
  · rintro ⟨rfl, rfl | rfl⟩ <;> exact timerEval_expiry rfl rfl
  · rintro ⟨rfl, rfl⟩
    exact timerEval_fixed rfl rfl
  · rintro ⟨rfl, rfl | rfl⟩ <;> exact timerEval_fixed rfl rfl
  -- TONR
  · rintro inp ⟨rfl, rfl⟩
    exact timerEval_fixed rfl rfl
  · rintro ⟨rfl, rfl⟩
    exact timerEval_starts rfl rfl (TCell.p_congr rfl rfl) rfl
  · rintro ⟨rfl, rfl⟩ hp
    exact timerEval_started rfl rfl (TCell.p_congr rfl rfl) hp
  · rintro ⟨rfl, rfl⟩
    exact timerEval_expiry rfl rfl
  · rintro ⟨rfl, rfl⟩
    exact timerEval_fixed rfl rfl
  · rintro ⟨rfl, rfl⟩
    exact timerEval_fixed rfl rfl

end Sys2Proof.Machine
end

section
/-!
SUPPORT. Instructions on a cell of T, C or E (R143, R151): the cell read, its new content put in flight at MA and a result at WB+1.
-/
namespace Sys2Proof.Machine
open Sys2Proof

/-! ### Reads of cells -/

/-- The counter cells of a chain are the same on a module seen as another. -/
theorem SeesAs.readChain {c : Ctx} {m n : Mach} (h : SeesAs c m n) (he : c.e < 16) (hk : c.k < 32) (i w : Nat) :
    (c.readChain i w n).1 = (c.readChain i w m).1 ∧ SeesAs c (c.readChain i w m).2 (c.readChain i w n).2 := by
  induction w generalizing i m n with
  | zero => exact ⟨rfl, h⟩
  | succ w ih =>
    obtain ⟨hv, hs⟩ := h.read he hk spC i
    obtain ⟨hvs, ht⟩ := ih hs (i + 1)
    exact ⟨congrArg₂ List.cons hv hvs, ht⟩

theorem sameSegs_readChain (c : Ctx) (i n : Nat) (m : Mach) : SameSegs m (c.readChain i n m).2 := by
  induction n generalizing i m with
  | zero => exact SameSegs.refl m
  | succ n ih => exact (sameSegs_read c spC i m).trans (ih _ _)

theorem readChain_length (c : Ctx) (i n : Nat) (m : Mach) : (c.readChain i n m).1.length = n := by
  induction n generalizing i m with
  | zero => rfl
  | succ n ih => exact congrArg Nat.succ (ih _ _)

/-- Taking a free value is seen by no read. -/
theorem SeesAs.fresh {c : Ctx} {m n : Mach} (h : SeesAs c m n) : SeesAs c m.fresh.2 n.fresh.2 := by
  obtain ⟨⟨hsame, hengs, hregs⟩, hfl⟩ := h
  refine ⟨⟨?_, hengs, hregs⟩, hfl⟩
  unfold Mach.fresh
  rw [hsame]

theorem SeesAs.free {c : Ctx} {m n : Mach} (h : SeesAs c m n) : n.free = m.free := by rw [h.only.1]

/-! ### The PRIMED mark (R206) -/

theorem scanEntry_congr {a b : Scan} (h : a.segs = b.segs) (js : List Nat) (key : Nat) : a.entry js key = b.entry js key := by
  simp only [Scan.entry, Scan.seg, h]

theorem mark_held (m : Mach) (k sp i j : Nat) : ((m.mark k sp i).task j).held = (m.task j).held := by
  unfold Mach.mark
  split
  · split
    · dsimp only
      split
      · rfl
      · by_cases hj : j = k
        · rw [hj, Mach.task_setTask_same]
        · rw [Mach.task_setTask_ne _ hj]
    · rfl
  · rfl

theorem read_held (c : Ctx) (sp i j : Nat) (m : Mach) : ((c.read sp i m).2.task j).held = (m.task j).held := by
  unfold Ctx.read
  split
  · rfl
  · split
    · rfl
    · split
      · rfl
      · dsimp only
        split
        · rfl
        · exact mark_held _ _ _ _ _

/-- A read-set mark leaves the scan's own entries. -/
theorem own_congr {c : Ctx} {m n : Mach} (hs : SameSegs m n) (ht : TasksOnly m n) (key : Nat) : c.own n key = c.own m key := by
  have hdep (f : Fld) : n.fld f = m.fld f := by rw [ht]; rfl
  have hfl : n.eng c.e = m.eng c.e := by rw [ht]; rfl
  have hsegs : ((n.task c.k).run.getD c.sc).segs = ((m.task c.k).run.getD c.sc).segs := by
    simpa only [Option.getD_map] using congrArg (·.getD c.sc.segs) (hs c.k)
  unfold Ctx.own
  rw [hdep, hfl]
  dsimp only
  rw [scanEntry_congr hsegs]

theorem primed_congr {c : Ctx} {m n : Mach} {i : Nat} (ho : c.own n (ikey spE i) = c.own m (ikey spE i)) (hh : (n.task c.k).held = (m.task c.k).held)
    (ha : n.cu = m.cu) (hi : n.img = m.img) : c.primed n i = c.primed m i := by
  have hpred : c.pred n (ikey spE i) = c.pred m (ikey spE i) := by
    unfold Ctx.pred
    rw [hh]
  have hlive : n.liveEntry (ikey spE i) = m.liveEntry (ikey spE i) := by
    unfold Mach.liveEntry
    rw [ha]
  have hbit : n.bit spPrimed i = m.bit spPrimed i := by rw [Mach.bit, Mach.bit, Mach.cell, Mach.cell, hi]
  unfold Ctx.primed
  dsimp only
  rw [ho, hpred, hlive, hbit]

/-- Reading the cell leaves its PRIMED mark as the scan sees it. -/
theorem primed_read (c : Ctx) (sp j i : Nat) (m : Mach) : c.primed (c.read sp j m).2 i = c.primed m i := by
  have ht := tasksOnly_read c sp j m
  exact primed_congr (own_congr (sameSegs_read c sp j m) ht _) (read_held c sp j _ m) (by rw [ht]) (by rw [ht])

theorem SeesAs.primed {c : Ctx} {m n : Mach} (h : SeesAs c m n) (he : c.e < 16) (hk : c.k < 32) (i : Nat) : c.primed n i = c.primed m i := by
  obtain ⟨hsame, -, -⟩ := h.only
  exact primed_congr (h.own he hk _) (by rw [hsame]; rfl) (by rw [hsame]) (by rw [hsame])

/-! ### The body of a cell instruction -/

variable {m b n : Mach} {e : Nat} {gd : Guard} {c : Ctx}

/-- The module `n` an instruction's body goes on with once it has read the image: its engine has issued, and to the scan `n` is `b`, the slot's module with what
the reads mark. -/
structure HasRead (m : Mach) (e : Nat) (c : Ctx) (st : Nat) (b n : Mach) : Prop where
  eng : n.eng e = issued c st
  segs : SameSegs (atSlot m e) n
  sees : SeesAs c b n

theorem HasRead.fresh {st : Nat} (h : HasRead m e c st b n) : HasRead m e c st b.fresh.2 n.fresh.2 := ⟨h.eng, h.segs, h.sees.fresh⟩

/-- The module the reads of an instruction begin with. -/
theorem Slot.readBase (h : Slot m e gd c) (st : Nat) (gs ps keys : List Nat) :
    HasRead m e c st (atSlot m e) (c.earlyImg keys (issueBase m e gd c st gs ps)) := by
  refine ⟨(earlyImg_eng _ _ _ _).trans (issueBase_eng _ _ _ _ _ _ _), SameSegs.of_tasks ?_, h.seesAs st gs ps keys⟩
  rw [earlyImg_tasks, issueBase_same]

theorem HasRead.read {st : Nat} (h : HasRead m e c st b n) (he : c.e < 16) (hk : c.k < 32) (sp i : Nat) :
    (c.read sp i n).1 = (c.read sp i b).1 ∧ HasRead m e c st (c.read sp i b).2 (c.read sp i n).2 := by
  obtain ⟨hv, hs⟩ := h.sees.read he hk sp i
  refine ⟨hv, ?_, h.segs.trans (sameSegs_read c sp i n), hs⟩
  rw [Mach.eng, (tasksOnly_read c sp i n).engs]
  exact h.eng

theorem HasRead.readChain {st : Nat} (h : HasRead m e c st b n) (he : c.e < 16) (hk : c.k < 32) (i k : Nat) :
    (c.readChain i k n).1 = (c.readChain i k b).1 ∧ HasRead m e c st (c.readChain i k b).2 (c.readChain i k n).2 := by
  obtain ⟨hv, hs⟩ := h.sees.readChain he hk i k
  refine ⟨hv, ?_, h.segs.trans (sameSegs_readChain c i k n), hs⟩
  rw [Mach.eng, (tasksOnly_readChain c i k n).engs]
  exact h.eng

/-- R143, R151: a cell instruction within its space works on the content of its cell at the slot. -/
theorem Slot.cellInstr (h : Slot m e gd c) (he : e < 16) (f : FmtD) (sp st : Nat) (gs : List Nat) (k : Ctx → Nat → CellV → Mach → Mach) {i : Nat}
    (hi : ((c.g f.a).toNat + f.off.toNat) % 2 ^ 32 = i) (hle : i ≤ spaceTop sp) :
    ∃ n, HasRead m e c st (c.read sp i (atSlot m e)).2 n ∧
      m.cellInstr e gd f sp st gs k = ((k c i (c.read sp i (atSlot m e)).1 n).checkShade e c.k).checkEnd e := by
  have ha : addrD (c.g f.a) f.off 1 = i := by rw [addrD_eq, Nat.mul_one, hi]
  obtain ⟨hv, hr⟩ := (h.readBase st (f.a.val :: gs) [] [ikey sp i]).read (h.engLt he) h.task sp i
  refine ⟨_, hr, ?_⟩
  unfold Mach.cellInstr
  rw [h.issue]
  dsimp only
  rw [ha, if_neg (Nat.not_lt.mpr hle), hv]

/-! ### Writes of a cell and a result -/

/-- The frame's count rests on what the writes in flight make of the segment. -/
theorem entryCount_flight {x : Eng} (ha : (n.eng e).act = x.act)
    (hf : ∀ s, ((n.eng e).flight.map (·.w)).foldl Seg.apply s = (x.flight.map (·.w)).foldl Seg.apply s) :
    n.entryCount e = (n.setEng e x).entryCount e := by
  unfold Mach.entryCount
  rw [Mach.eng_setEng_same, ha]
  simp only [hf]
  rfl

/-- The engine once an instruction that completes at WB+1 has put `ws` in flight at MA and `gs` at WB+1. -/
def cellIssued (c : Ctx) (ws gs : List Wr) : Eng :=
  { issued c 8 with flight := gs.foldl (fun fs w => insFlight ⟨c.i + 7, w⟩ fs) (inFlight c 6 ws) }

/-- A body that has read puts entries of the frame in flight at MA, and at WB+1 writes that are none of the frame's. -/
theorem Slot.putsCell (h : Slot m e gd c) {ws gs : List Wr} (hn : HasRead m e c 8 b n) (hr : Room m c 6 ws) (hg : ∀ w ∈ gs, ∀ s : Seg, s.apply w = s) :
    let m' := ((c.putAll 8 gs (c.putAll 6 ws n)).checkShade e c.k).checkEnd e
    m'.eng c.e = cellIssued c ws gs ∧ OnlyEngine b m' c.e := by
  have hce := h.ctxE
  subst hce
  obtain ⟨hengW, htasksW, honlyW⟩ := putAll_eng c 6 ws n
  obtain ⟨hengG, htasksG, honlyG⟩ := putAll_eng c 8 gs (c.putAll 6 ws n)
  have heng : (c.putAll 8 gs (c.putAll 6 ws n)).eng c.e = cellIssued c ws gs := by
    rw [hengG, hengW, hn.eng]
    simp only [cellIssued, issued, inFlight, advance_flight]
    rfl
  have hsegs : SameSegs (atSlot m c.e) (c.putAll 8 gs (c.putAll 6 ws n)) := hn.segs.trans (SameSegs.of_tasks (htasksG.trans htasksW))
  have hroom : (c.putAll 8 gs (c.putAll 6 ws n)).entryCount c.e ≤ 2048 := by
    rw [entryCount_flight (x := { issued c 6 with flight := inFlight c 6 ws }) (by rw [heng]; rfl)
        (fun s => by rw [heng]; exact inFlight_apply c 8 hg _ s),
      entryCount_congr (m := (atSlot m c.e).setEng c.e { issued c 6 with flight := inFlight c 6 ws })
        ((Mach.eng_setEng_same _ _ _).trans (Mach.eng_setEng_same _ _ _).symm) hsegs]
    exact entries_room rfl (Mach.eng_setEng_same _ _ _) hr
  obtain ⟨he, ho⟩ := h.finish (by rw [heng]; exact h.inCode) hroom (honlyG b (honlyW b hn.sees.only))
  exact ⟨he.trans heng, ho⟩

/-- The spaces of cells have no reserved addresses. -/
theorem shades_cell {sp : Nat} (h : sp = spT ∨ sp = spC ∨ sp = spE) (i : Nat) (v : CellV) : Ctx.shades sp i v = [.shade (ikey sp i) v] := by
  rcases h with rfl | rfl | rfl <;> rfl

/-- The entry of a cell that changes. -/
def cellWrite (sp i : Nat) (old new : CellV) : List Wr := if old = new then [] else [.shade (ikey sp i) new]

theorem writeIf_eq_putAll (c : Ctx) {sp : Nat} (h : sp = spT ∨ sp = spC ∨ sp = spE) (i : Nat) (old new : CellV) (m : Mach) :
    c.writeIf sp i old new m = c.putAll 6 (cellWrite sp i old new) m := by
  unfold Ctx.writeIf cellWrite
  split
  · rfl
  · rw [write_eq_putAll, shades_cell h]
    rfl

/-- A cell instruction that writes its cell and the result. -/
theorem Slot.cellPuts (h : Slot m e gd c) {sp i : Nat} {old new : CellV} (hsp : sp = spT ∨ sp = spC ∨ sp = spE) (hn : HasRead m e c 8 b n)
    (hr : Room m c 6 (cellWrite sp i old new)) (d : Fin 64) (v : Word) :
    CellPuts b (((c.setG stWB1 d v (c.writeIf sp i old new n)).checkShade e c.k).checkEnd e) c (ikey sp i) old new d v := by
  rw [writeIf_eq_putAll c hsp, setG_eq_putAll c stWB1 (by omega)]
  exact h.putsCell hn hr (gWrite_apply d v)

/-- A cell instruction that writes its cell alone. -/
theorem Slot.cellSets (h : Slot m e gd c) {sp i : Nat} {old new : CellV} (hsp : sp = spT ∨ sp = spC ∨ sp = spE) (hn : HasRead m e c 6 b n)
    (hr : Room m c 6 (cellWrite sp i old new)) :
    Puts b (((c.writeIf sp i old new n).checkShade e c.k).checkEnd e) c 6 (cellWrite sp i old new) := by
  rw [writeIf_eq_putAll c hsp]
  exact h.putsSeen hn.eng hn.segs (h.ctxE ▸ hn.sees.only) hr

/-- R150, R151: an instruction that gives its cell a new content and has no result. -/
theorem Slot.setsCell (h : Slot m e gd c) (he : e < 16) (f : FmtD) {sp : Nat} (hsp : sp = spT ∨ sp = spC ∨ sp = spE) (gs : List Nat) (new : Ctx → CellV → CellV)
    {i : Nat} (hi : ((c.g f.a).toNat + f.off.toNat) % 2 ^ 32 = i) (hle : i ≤ spaceTop sp) {old : CellV} (hold : (c.read sp i (atSlot m e)).1 = old)
    (hroom : Room m c 6 (cellWrite sp i old (new c old))) :
    Puts (c.read sp i (atSlot m e)).2 (m.cellInstr e gd f sp stMA gs (fun c i v m => c.writeIf sp i v (new c v) m)) c 6
      (cellWrite sp i old (new c old)) := by
  subst hold
  obtain ⟨n, hn, heq⟩ := h.cellInstr he f sp stMA gs _ hi hle
  rw [heq]
  exact h.cellSets hsp hn hroom

end Sys2Proof.Machine
end

section
/-!
PROOF. Timer instructions (O11).
-/
namespace Sys2Proof.Machine
open Sys2Proof

variable {m : Mach} {e : Nat} {gd : Guard} {c : Ctx}

/-- R143, R147: a timer instruction writes the cell its kind makes of it, and Q and the timing state. -/
theorem Slot.timer (h : Slot m e gd c) (he : e < 16) (f : FmtD) (kind : Nat) {i : Nat} (hi : ((c.g f.a).toNat + f.off.toNat) % 2 ^ 32 = i) (hle : i ≤ 8191)
    {old : CellV} (hold : (c.read spT i (atSlot m e)).1 = old) {r : TCell × Bool} (hr : timerEval kind (TCell.ofV old) c.now ((c.g f.r).getLsbD 0) = r)
    (hroom : Room m c 6 (cellWrite spT i old r.1.toV)) :
    CellPuts (c.read spT i (atSlot m e)).2 (m.timer e gd f kind) c (ikey spT i) old r.1.toV f.r (BitVec.ofNat 32 (r.2.toNat + 2 * r.1.timing.toNat)) := by
  subst hold hr
  unfold Mach.timer
  obtain ⟨n, hn, heq⟩ := h.cellInstr he f spT stWB1 [f.r.val] _ hi hle
  rw [heq]
  exact h.cellPuts (.inl rfl) hn hroom f.r _

/-! ### TRD (R150) -/

/-- What TRD gives for a cell: a free value where R150 states none. -/
def trdValue (t : TCell) (now free : Nat) : Word := (timerRead t now).elim (Config.freeWord free) (BitVec.ofNat 32)

/-- The body of TRD. -/
def readTimer (f : FmtD) (c : Ctx) (v : CellV) (m : Mach) : Mach :=
  (timerRead (TCell.ofV v) c.now).elim (c.setG stWB1 f.r (Config.freeWord m.free) m.fresh.2) (fun n => c.setG stWB1 f.r (BitVec.ofNat 32 n) m)

theorem execTrd_eq (e : Fin 16) (gd : Guard) (f : FmtD) (s : State) :
    exec (.trd e gd f) s = runEng (fun m => m.cellInstr e gd f spT stWB1 [] (fun c _ v m => readTimer f c v m)) s := by
  show execTrd e gd f s = _
  unfold execTrd readTimer
  congr 2
  funext m
  congr 1
  funext c i v n
  cases timerRead (TCell.ofV v) c.now <;> rfl

theorem Slot.readTimer (h : Slot m e gd c) (he : e < 16) (f : FmtD) {i : Nat} (hi : ((c.g f.a).toNat + f.off.toNat) % 2 ^ 32 = i) (hle : i ≤ 8191)
    {old : CellV} (hold : (c.read spT i (atSlot m e)).1 = old) {b : Mach} (hb : (c.read spT i (atSlot m e)).2 = b) :
    ∃ b', (b' = b ∨ b' = { b with free := b.free + 1 }) ∧
      Puts b' (m.cellInstr e gd f spT stWB1 [] (fun c _ v m => Machine.readTimer f c v m)) c 8 (gWrite f.r (trdValue (TCell.ofV old) c.now b.free)) := by
  subst hold hb
  obtain ⟨n, hn, heq⟩ := h.cellInstr he f spT stWB1 [] (fun c _ v m => Machine.readTimer f c v m) hi hle
  have hputs {b' n' : Mach} (hn' : HasRead m e c 8 b' n') (v : Word) :
      Puts b' (((c.setG stWB1 f.r v n').checkShade e c.k).checkEnd e) c 8 (gWrite f.r v) := by
    rw [setG_eq_putAll c stWB1 (by omega)]
    exact h.putsSeen hn'.eng hn'.segs (h.ctxE ▸ hn'.sees.only) (h.roomFor _ (gWrite_apply _ _))
  rw [heq, trdValue, Machine.readTimer]
  cases timerRead (TCell.ofV (c.read spT i (atSlot m e)).1) c.now with
  | some t => exact ⟨_, .inl rfl, hputs hn _⟩
  | none =>
    rw [hn.sees.free]
    exact ⟨_, .inr rfl, hputs hn.fresh _⟩

theorem timerRead_timing {t : TCell} {now : Nat} (h : t.timing = true) : timerRead t now = some (min (t.elapsed now) t.p / t.unit) := if_pos h

theorem timerRead_rest {t : TCell} {now : Nat} (h : t.timing = false) : timerRead t now = if t.state = 2 ∧ t.kind = 5 then some (t.start / t.unit)
    else if t.state = 3 then some (t.p / t.unit) else if t.state = 0 ∨ (t.state = 2 ∧ t.kind = 2) then some 0 else none :=
  if_neg (by simp [h])

theorem timing_eq_false {t : TCell} (h1 : t.state ≠ 1) (h2 : ¬ (t.state = 2 ∧ t.kind = 4)) : t.timing = false := by
  simpa [TCell.timing, h1] using h2

theorem trdValue_of_some {t : TCell} {now free x : Nat} (h : timerRead t now = some x) : trdValue t now free = BitVec.ofNat 32 x := by
  rw [trdValue, h]
  rfl

/-- R150, state by state. -/
theorem trdValue_table (t : TCell) (now free : Nat) :
    (t.timing = true → (trdValue t now free).toNat = min (t.elapsed now) t.p / t.unit % 2 ^ 32) ∧
    (t.kind = 5 → t.state = 2 → (trdValue t now free).toNat = t.start / t.unit % 2 ^ 32) ∧
    (t.timing = false → t.state = 3 → (trdValue t now free).toNat = t.p / t.unit % 2 ^ 32) ∧
    (t.state = 0 → trdValue t now free = 0) ∧ (t.kind = 2 → t.state = 2 → trdValue t now free = 0) := by
  have hnat {x : Nat} (h : timerRead t now = some x) : (trdValue t now free).toNat = x % 2 ^ 32 := by rw [trdValue_of_some h, BitVec.toNat_ofNat]
  refine ⟨fun ht => hnat (timerRead_timing ht), fun hk hs => hnat ?_, fun ht hs => hnat ?_, fun hs => trdValue_of_some ?_, fun hk hs => trdValue_of_some ?_⟩
  · rw [timerRead_rest (timing_eq_false (by omega) (by omega)), if_pos ⟨hs, hk⟩]
  · rw [timerRead_rest ht, if_neg (by omega), if_pos hs]
  · rw [timerRead_rest (timing_eq_false (by omega) (by omega)), if_neg (by omega), if_neg (by omega), if_pos (.inl hs)]
  · rw [timerRead_rest (timing_eq_false (by omega) (by omega)), if_neg (by omega), if_neg (by omega), if_pos (.inr ⟨hs, hk⟩)]

/-- Settles O11, each instruction by what it makes of its cell. -/
theorem timerInstructions : Obligations.TimerInstructions := by
  unfold Obligations.TimerInstructions
  intro s e gd c f h M i old B key timer sets hle
  have htimer {x : Instr} (kind : Nat) (hx : exec x s = runEng (fun m => m.timer e gd f kind) s) : timer x kind :=
    fun hroom => answers_runEng hx (h.timer e.isLt f kind rfl hle rfl rfl hroom)
  refine ⟨htimer 1 rfl, htimer 2 rfl, htimer 3 rfl, htimer 4 rfl, htimer 5 rfl, fun hroom => ?_, fun hroom => ?_, ?_⟩
  · exact answers_runEng (f := fun m => m.cellInstr e gd f spT stMA [] (fun c i v m => c.writeIf spT i v (TCell.ofV v).idle.toV m)) rfl
      (h.setsCell e.isLt f (.inl rfl) [] (fun _ v => (TCell.ofV v).idle.toV) rfl hle rfl hroom)
  · exact answers_runEng (f := fun m => m.cellInstr e gd f spT stMA [f.r]
        (fun c i v m => c.writeIf spT i v ({ TCell.ofV v with preset := (c.g f.r).toNat } : TCell).toV m)) rfl
      (h.setsCell e.isLt f (.inl rfl) [f.r] (fun c v => ({ TCell.ofV v with preset := (c.g f.r).toNat } : TCell).toV) rfl hle rfl hroom)
  · obtain ⟨b', hb, hputs⟩ := h.readTimer e.isLt f rfl hle rfl rfl
    exact answers_runEng (execTrd_eq e gd f s) ⟨trdValue (TCell.ofV old) c.now B.free, b', hb, hputs, trdValue_table _ _ _⟩

end Sys2Proof.Machine
end

section
/-!
PROOF. Counters, chained counters and edges (O13).
-/
namespace Sys2Proof.Machine
open Sys2Proof

variable {m : Mach} {e : Nat} {gd : Guard} {c : Ctx}

/-! ### Counters (R151) -/

theorem countUp_toNat (w : Word) : (countUp w).toNat = min (w.toNat + 1) (2 ^ 32 - 1) := by
  unfold countUp
  split
  · next h => rw [h]; rfl
  · bv_omega

theorem countDown_toNat (w : Word) : (countDown w).toNat = w.toNat - 1 := by
  unfold countDown
  split
  · next h => rw [h]; rfl
  · bv_omega

/-- A counter instruction by the number its step gives. -/
theorem Slot.counter (h : Slot m e gd c) (he : e < 16) (f : FmtD) (step : Word → Word → Word) {i : Nat}
    (hi : ((c.g f.a).toNat + f.off.toNat) % 2 ^ 32 = i) (hle : i ≤ 4095) {old : CellV} (hold : (c.read spC i (atSlot m e)).1 = old) {n' : Nat}
    (hstep : (step (old.setWidth 32) (c.g f.r)).toNat = n') (hroom : Room m c 6 (cellWrite spC i old (BitVec.ofNat 128 n'))) :
    CellPuts (c.read spC i (atSlot m e)).2 (m.counter e gd f step) c (ikey spC i) old (BitVec.ofNat 128 n') f.r (BitVec.ofNat 32 n') := by
  subst hold hstep
  rw [BitVec.ofNat_toNat] at hroom ⊢
  rw [BitVec.ofNat_toNat, BitVec.setWidth_eq]
  unfold Mach.counter
  obtain ⟨n, hn, heq⟩ := h.cellInstr he f spC stWB1 [f.r.val] _ hi hle
  rw [heq]
  exact h.cellPuts (.inr (.inl rfl)) hn hroom f.r _

/-! ### Chained counters (R152) -/

theorem chainStep_eq (k sel v : Nat) : chainStep k sel v = if sel = 1 ∧ v < 2 ^ (32 * k) - 1 then v + 1 else if sel = 2 then v - 1 else v := by
  unfold chainStep
  split
  · next h => simp [h]
  · next h => simp [h]

/-- The entries of a chain of cells from `i` on that changes from `vs` to the words of `v`. -/
def chainWrites (i : Nat) (vs : List CellV) (v : Nat) : List Wr :=
  (List.range vs.length).flatMap (fun j => cellWrite spC (i + j) (vs.getD j 0) (BitVec.ofNat 128 (v / 2 ^ (32 * j) % 2 ^ 32)))

theorem zipIdx_eq_map_range {α : Type} (xs : List α) (d : α) : xs.zipIdx = (List.range xs.length).map (fun j => (xs.getD j d, j)) :=
  List.ext_getElem (by simp) fun i h _ => by
    rw [List.length_zipIdx] at h
    simp [h]

theorem foldM_writeIf_eq_putAll (c : Ctx) (i : Nat) (vs : List CellV) (v : Nat) (m : Mach) :
    foldM vs.zipIdx (fun x m => c.writeIf spC (i + x.2) x.1 (BitVec.ofNat 128 (v / 2 ^ (32 * x.2) % 2 ^ 32)) m) m = c.putAll 6 (chainWrites i vs v) m := by
  refine (foldM_putAll c 6 (fun x : CellV × Nat => cellWrite spC (i + x.2) x.1 (BitVec.ofNat 128 (v / 2 ^ (32 * x.2) % 2 ^ 32))) _
    (fun x n => writeIf_eq_putAll c (.inr (.inl rfl)) _ _ _ n) _ _).trans ?_
  rw [zipIdx_eq_map_range vs 0, List.flatMap_map]
  rfl

/-- R152: a chain within C. -/
theorem Slot.chain (h : Slot m e gd c) (he : e < 16) (f : FmtD) {i k : Nat} (hi : ((c.g f.a).toNat + f.off.toNat) % 2 ^ 32 = i)
    (hk : (c.g f.r).toNat / 4 % 4 + 1 = k) (hle : i + k - 1 ≤ 4095) {vs : List CellV} (hvs : (c.readChain i k (atSlot m e)).1 = vs) {v : Nat}
    (hv : chainStep k ((c.g f.r).toNat % 4) (chainValue vs) = v) (hroom : Room m c 6 (chainWrites i vs v)) :
    (m.chain e gd f).eng c.e = cellIssued c (chainWrites i vs v) (gWrite f.r (BitVec.ofNat 32 v)) ∧
      OnlyEngine (c.readChain i k (atSlot m e)).2 (m.chain e gd f) c.e := by
  have ha : addrD (c.g f.a) f.off 1 = i := by rw [addrD_eq, Nat.mul_one, hi]
  obtain ⟨hread, hn⟩ := (h.readBase stWB1 [f.a, f.r] [] (ikeys spC i k)).readChain (h.engLt he) h.task i k
  have hm : m.chain e gd f = ((c.putAll 8 (gWrite f.r (BitVec.ofNat 32 v)) (c.putAll 6 (chainWrites i vs v)
      (c.readChain i k (c.earlyImg (ikeys spC i k) (issueBase m e gd c stWB1 [f.a, f.r] []))).2)).checkShade e c.k).checkEnd e := by
    unfold Mach.chain
    rw [h.issue]
    dsimp only
    rw [ha, hk, if_neg (show ¬ spaceTop spC < i + k - 1 from Nat.not_lt.mpr hle), hread, hvs, hv, setG_eq_putAll c stWB1 (by omega), foldM_writeIf_eq_putAll]
    rfl
  rw [hm]
  exact h.putsCell hn hroom (gWrite_apply _ _)

/-! ### Edges (R151, R206) -/

/-- The entry of an edge cell: it takes the input when it changes, or is unevaluated. -/
def edgeWrite (i : Nat) (primed : Bool) (old new : CellV) : List Wr := if primed ∨ old ≠ new then [.shade (ikey spE i) new] else []

theorem edgeWrite_eq_putAll (c : Ctx) (i : Nat) (primed : Bool) (old new : CellV) (m : Mach) :
    (if primed then c.write stMA spE i new m else c.writeIf spE i old new m) = c.putAll 6 (edgeWrite i primed old new) m := by
  unfold edgeWrite
  cases primed with
  | true => rw [if_pos rfl, if_pos (.inl rfl), write_eq_putAll, shades_cell (.inr (.inr rfl))]; rfl
  | false =>
    rw [if_neg Bool.false_ne_true, writeIf_eq_putAll c (.inr (.inr rfl)), cellWrite]
    by_cases h : old = new <;> simp [h]

/-- R151, R206: an edge instruction within E. -/
theorem Slot.edge (h : Slot m e gd c) (he : e < 16) (f : FmtD) (out : Bool → Bool → Bool) {i : Nat}
    (hi : ((c.g f.a).toNat + f.off.toNat) % 2 ^ 32 = i) (hle : i ≤ 16383) {old : CellV} (hold : (c.read spE i (atSlot m e)).1 = old)
    {pr : Bool} (hpr : c.primed (atSlot m e) i = pr) (hroom : Room m c 6 (edgeWrite i pr old (bitV ((c.g f.r).getLsbD 0)))) :
    (m.edge e gd f out).eng c.e = cellIssued c (edgeWrite i pr old (bitV ((c.g f.r).getLsbD 0)))
        (gWrite f.r (if !pr && out ((c.g f.r).getLsbD 0) (old != 0) then 1 else 0)) ∧
      OnlyEngine (c.read spE i (atSlot m e)).2 (m.edge e gd f out) c.e := by
  unfold Mach.edge
  obtain ⟨n, hn, heq⟩ := h.cellInstr he f spE stWB1 [f.r.val] _ hi hle
  have hpn : c.primed n i = pr := (hn.sees.primed (h.engLt he) h.task i).trans ((primed_read c spE i i _).trans hpr)
  rw [heq]
  dsimp only
  rw [hpn, hold, edgeWrite_eq_putAll, setG_eq_putAll c stWB1 (by omega)]
  exact h.putsCell hn hroom (gWrite_apply _ _)

/-- Settles O13: the counters by the number of their step, the chain by its words, the edges by their cell. -/
theorem counterAndEdgeInstructions : Obligations.CounterAndEdgeInstructions := by
  unfold Obligations.CounterAndEdgeInstructions
  intro s e gd c f h M i old n up counter inp cell ews edge sel k vs v v' cws
  have hn : (old.setWidth 32).toNat = n := BitVec.toNat_setWidth _ _
  have hcounter {x : Instr} {step : Word → Word → Word} {n' : Nat} (hle : i ≤ 4095) (hx : exec x s = runEng (fun m => m.counter e gd f step) s)
      (hstep : (step (old.setWidth 32) (c.g f.r)).toNat = n') : counter x n' :=
    fun hroom => answers_runEng hx (h.counter e.isLt f step rfl hle rfl hstep hroom)
  have hedge {x : Instr} {out : Bool → Bool → Bool} (hle : i ≤ 16383) (hx : exec x s = runEng (fun m => m.edge e gd f out) s) : edge x (out inp cell) :=
    fun hroom => answers_runEng hx (h.edge e.isLt f out rfl hle rfl rfl hroom)
  refine ⟨fun hle => ⟨hcounter hle rfl ?_, hcounter hle rfl ?_, hcounter hle rfl ?_, fun hroom => ?_⟩, fun hle hroom => ?_,
    fun hle => ⟨?_, ?_, ?_⟩⟩
  · rw [apply_ite BitVec.toNat, countUp_toNat, hn]
  · rw [apply_ite BitVec.toNat, countDown_toNat, hn]
  · rw [apply_ite BitVec.toNat, apply_ite BitVec.toNat, countUp_toNat, countDown_toNat, hn]
  · exact answers_runEng (f := fun m => m.cellInstr e gd f spC stMA [f.r] (fun c i v m => c.writeIf spC i v ((c.g f.r).setWidth 128) m)) rfl
      (h.setsCell e.isLt f (.inr (.inl rfl)) [f.r] (fun c _ => (c.g f.r).setWidth 128) rfl hle rfl hroom)
  · have hlen : vs.length = k := readChain_length c i k M
    have hcws : cws = chainWrites i vs v' := by rw [chainWrites, hlen]; rfl
    rw [hcws] at hroom ⊢
    exact answers_runEng (f := fun m => m.chain e gd f) rfl (h.chain e.isLt f rfl rfl hle rfl (chainStep_eq _ _ _) hroom)
  · exact hedge (out := fun inp cell => inp && !cell) hle rfl
  · exact hedge (out := fun inp cell => cell && !inp) hle rfl
  · exact hedge (out := fun inp cell => xor inp cell) hle rfl

end Sys2Proof.Machine
end

section
/-!
PROOF. Custom instructions (O17): what a finished micro-sequence puts in flight, at the two stages of R172, on the module whose read-sets it has marked.
-/
namespace Sys2Proof.Machine
open Sys2Proof

variable {m b n : Mach} {e : Nat} {gd : Guard} {c : Ctx}

theorem OnlyEngine.refl (m : Mach) (e : Nat) : OnlyEngine m m e := ⟨rfl, fun _ _ => rfl, fun _ _ => rfl⟩

theorem earlyImg_only (c : Ctx) (keys : List Nat) (m : Mach) : OnlyEngine m (c.earlyImg keys m) c.e :=
  (SeesAs.earlyImg ⟨OnlyEngine.refl m c.e, rfl⟩ keys).only

/-! ### Writes at two stages -/

/-- The engine after an instruction that completes at stage `st` and puts `ws` in flight to that stage, then `ps` to stage `st'`. -/
def issuedTwo (c : Ctx) (st : Nat) (ws : List Wr) (st' : Nat) (ps : List Wr) : Eng :=
  { issued c st with flight := ps.foldl (fun fs w => insFlight ⟨c.i + st' - 1, w⟩ fs) (inFlight c st ws) }

/-- The end of an instruction whose body works on `b`, counts early accesses in `n`, and puts writes in flight to two stages within the frame's limit. -/
theorem Slot.putsTwo (h : Slot m e gd c) {st st' : Nat} {ws ps : List Wr} (hn : n.eng e = issued c st) (ht : n.tasks = b.tasks) (ho : OnlyEngine b n e)
    (hr : (b.setEng c.e (issuedTwo c st ws st' ps)).entryCount c.e ≤ 2048) :
    let m' := ((c.putAll st' ps (c.putAll st ws n)).checkShade e c.k).checkEnd e
    m'.eng c.e = issuedTwo c st ws st' ps ∧ OnlyEngine b m' c.e := by
  have hce := h.ctxE
  subst hce
  obtain ⟨hengW, htasksW, honlyW⟩ := putAll_eng c st ws n
  obtain ⟨hengP, htasksP, honlyP⟩ := putAll_eng c st' ps (c.putAll st ws n)
  have heng : (c.putAll st' ps (c.putAll st ws n)).eng c.e = issuedTwo c st ws st' ps := by
    rw [hengP, hengW, hn]
    simp only [issuedTwo, issued, inFlight, advance_flight]
  have hroom : (c.putAll st' ps (c.putAll st ws n)).entryCount c.e ≤ 2048 := by
    rwa [entryCount_congr (m := b.setEng c.e (issuedTwo c st ws st' ps)) (heng.trans (Mach.eng_setEng_same _ _ _).symm)
      (SameSegs.of_tasks (htasksP.trans (htasksW.trans ht)))]
  obtain ⟨he, hob⟩ := h.finish (by rw [heng]; exact h.inCode) hroom (honlyP b (honlyW b ho))
  exact ⟨he.trans heng, hob⟩

/-! ### The results of a sequence (R170, R172) -/

/-- The entry of an element that the sequence has written. -/
def ownWrite (y : Nat × Option CellV) : List Wr :=
  match y.2 with
  | some v => [.shade y.1 v]
  | none => []

/-- The write of a member of the destination group; one beyond g63 is discarded (R163). -/
def memberWrite (base : Nat) (y : Nat × Word) : List Wr := if 63 < base + y.1 then [] else gWrite (base + y.1) y.2

/-- What a sequence writes at stage 3 + DIST: its shade entries and its destination group. -/
def CustRun.writes (u : CustRun) (base : Nat) : List Wr := u.own.flatMap ownWrite ++ u.outs.flatMap (memberWrite base)

/-- What it writes at stage 2 + DIST: its destination predicate. -/
def CustRun.predWrites (u : CustRun) (d : Nat) : List Wr :=
  match u.pd with
  | some v => pWrite d v
  | none => []

theorem setG_eq_putAll_member (c : Ctx) (st base : Nat) (y : Nat × Word) (m : Mach) :
    c.setG st (base + y.1) y.2 m = c.putAll st (memberWrite base y) m := by
  unfold memberWrite
  split
  · next h => exact if_pos (.inr h)
  · next h => exact setG_eq_putAll c st (Nat.not_lt.mp h) _ _

theorem setP_eq_putAll (c : Ctx) (st d : Nat) (v : Bool) (m : Mach) : c.setP st d v m = c.putAll st (pWrite d v) m := by
  unfold Ctx.setP pWrite
  split <;> rfl

theorem custResults_eq_putAll (c : Ctx) (x : CustEntry) (w : Nat) (u : CustRun) (m : Mach) :
    c.custResults x w u m = c.putAll (2 + x.dist) (u.predWrites (custPd w)) (c.putAll (3 + x.dist) (u.writes (x.baseD w)) m) := by
  unfold Ctx.custResults
  dsimp only
  rw [foldM_putAll c (3 + x.dist) ownWrite _ (fun y n => by obtain ⟨key, v⟩ := y; cases v <;> rfl),
    foldM_putAll c (3 + x.dist) (memberWrite (x.baseD w)) _ (fun y n => setG_eq_putAll_member c _ _ y n), ← putAll_append, ← CustRun.writes, CustRun.predWrites]
  cases u.pd with
  | none => rfl
  | some v => exact setP_eq_putAll c _ _ v _

/-! ### The instruction -/

/-- The micro-sequence of entry `x` for the instruction word `w`, run on the module `m`. -/
def Ctx.custRun (c : Ctx) (x : CustEntry) (w : Nat) (m : Mach) : CustRun := CustRun.sequence c (x.args c w) x.uops 0 { m := m }

theorem tasksOnly_custRun (c : Ctx) (x : CustEntry) (w : Nat) (m : Mach) : TasksOnly m (c.custRun x w m).m := tasksOnly_sequence c _ _ 0 { m := m }

/-- R160: a valid entry's sequence that ends without a fault puts its results in flight. -/
theorem Slot.custom_eq (h : Slot m e gd c) {k w : Nat} {x : CustEntry} (hx : m.custEntry k = x) (hvalid : x.valid = true) {u : CustRun}
    (hu : c.custRun x w (issueBase m e gd c (3 + x.dist) (x.readsG w) (x.readsP w)) = u) (hfault : u.fault = none) :
    m.custom e gd k w = ((c.putAll (2 + x.dist) (u.predWrites (custPd w)) (c.putAll (3 + x.dist) (u.writes (x.baseD w)) (c.earlyImg u.keys u.m))).checkShade e
      c.k).checkEnd e := by
  unfold Mach.custom
  rw [hx]
  dsimp only
  rw [if_pos hvalid, h.issue]
  rw [Ctx.custRun] at hu
  simp only [hu, hfault, custResults_eq_putAll]

/-- R170, R172: the engine then holds the results in flight, and the module what the sequence has marked. -/
theorem Slot.custom (h : Slot m e gd c) {k w : Nat} {x : CustEntry} (hx : m.custEntry k = x) (hvalid : x.valid = true) {u : CustRun}
    (hu : c.custRun x w (issueBase m e gd c (3 + x.dist) (x.readsG w) (x.readsP w)) = u) (hfault : u.fault = none) {after : Eng}
    (hafter : issuedTwo c (3 + x.dist) (u.writes (x.baseD w)) (2 + x.dist) (u.predWrites (custPd w)) = after) (hroom : (u.m.setEng c.e after).entryCount c.e ≤ 2048) :
    (m.custom e gd k w).eng c.e = after ∧ OnlyEngine u.m (m.custom e gd k w) c.e := by
  have heng : (c.earlyImg u.keys u.m).eng e = issued c (3 + x.dist) := by
    rw [earlyImg_eng, ← hu, Mach.eng, (tasksOnly_custRun _ _ _ _).engs]
    exact issueBase_eng _ _ _ _ _ _ _
  subst hafter
  rw [h.custom_eq hx hvalid hu hfault]
  exact h.putsTwo heng (earlyImg_tasks _ _ _) (h.ctxE ▸ earlyImg_only c u.keys u.m) hroom

/-- Settles O17, by the run of the sequence and the writes it leaves in flight. -/
theorem customInstructions : Obligations.CustomInstructions := by
  unfold Obligations.CustomInstructions
  intro s e gd c n w h x M u ws ps after hvalid hfault hroom
  exact answers_runEng (f := fun m => m.custom e gd n w.toNat) rfl (h.custom rfl hvalid rfl hfault rfl hroom)

end Sys2Proof.Machine
end

section
/-!
SUPPORT. A change point by point (R189, R213): each point named takes its new value and quality, whatever the order of the writes; the others stay, and so does
what the sources say of every point.
-/
namespace Sys2Proof.Machine
open Sys2Proof

/-! ### Repetitions in which one step alone touches an observation -/

/-- Of a repetition over distinct members only the step for `x` moves the observation `φ`: `φ` has moved by that step. -/
theorem foldM_of_mem {α β : Type} (φ : Mach → β) (F : β → β) (f : α → Mach → Mach) {xs : List α} {x : α} (hx : x ∈ xs) (hnd : xs.Nodup)
    (hsame : ∀ n, φ (f x n) = F (φ n)) (hne : ∀ y ∈ xs, y ≠ x → ∀ n, φ (f y n) = φ n) (m : Mach) : φ (foldM xs f m) = F (φ m) := by
  have hkeep : ∀ ys : List α, (∀ y ∈ ys, y ∈ xs ∧ y ≠ x) → ∀ n, φ (foldM ys f n) = φ n := fun ys hys n =>
    foldM_inv (fun k => φ k = φ n) f ys (fun y hy k hk => (hne y (hys y hy).1 (hys y hy).2 k).trans hk) n rfl
  obtain ⟨as, bs, rfl⟩ := List.append_of_mem hx
  obtain ⟨hxa, hxb⟩ : x ∉ as ∧ x ∉ bs := by
    have h := List.nodup_middle.mp hnd
    simpa using (List.nodup_cons.mp h).1
  have hsplit : foldM (as ++ x :: bs) f m = foldM bs f (f x (foldM as f m)) := by simp [foldM]
  rw [hsplit, hkeep bs (fun y hy => ⟨by simp [hy], by rintro rfl; exact hxb hy⟩), hsame,
    hkeep as (fun y hy => ⟨by simp [hy], by rintro rfl; exact hxa hy⟩)]

/-- Ordering the points of a change by their index (R213) is a sort. -/
theorem insPt_sort_perm (ps : List PtChange) : (ps.foldr insPt []).Perm ps := by
  have hins : ∀ (p : PtChange) qs, insPt p qs = qs.orderedInsert (fun a b => a.idx ≤ b.idx) p := by
    intro p qs
    induction qs with
    | nil => rfl
    | cons q qs ih => simp only [insPt, List.orderedInsert_cons, ih]
  have hfold : ps.foldr insPt [] = ps.insertionSort (fun a b => a.idx ≤ b.idx) := by
    induction ps with
    | nil => rfl
    | cons p ps ih => rw [List.foldr_cons, ih, hins, List.insertionSort_cons]
  rw [hfold]
  exact List.perm_insertionSort _ ps

/-! ### One point and one word -/

variable (m : Mach)

/-- The write of a point gives the point its value and quality, and touches no other record of a point: a write that alters nothing finds them there. -/
theorem writePoint_pt (p : PtChange) (i : Nat) : (m.writePoint p).pt i = if i = p.idx then { m.pt i with v := p.v, q := p.q } else m.pt i := by
  have hset : ∀ n : Mach, n.pts = (m.setPt p.idx { m.pt p.idx with v := p.v, q := p.q }).pts →
      n.pt i = if i = p.idx then { m.pt i with v := p.v, q := p.q } else m.pt i := by
    intro n hn
    rw [pt_congr _ hn]
    split
    · next h => rw [h, Mach.pt_setPt_same]
    · next h => rw [Mach.pt_setPt_ne _ h]
  unfold Mach.writePoint
  extract_lets o fl m1 m2 m3
  have h1 : m1.pts = m.pts := by
    simp only [m1]
    split
    · exact preserve_pts _ _ _
    · rfl
  have h2 : m2.pts = (m.setPt p.idx { m.pt p.idx with v := p.v, q := p.q }).pts := by
    simp only [m2, o, Mach.setPt, h1]
  have h3 : m3.pts = m2.pts := by
    simp only [m3]
    split
    · exact journal_pts _ _ _ _ _
    · rfl
  clear_value m2
  split
  · split
    · exact hset _ ((journal_pts _ _ _ _ _).trans h2)
    · split
      · split
        · exact hset _ ((journal_pts _ _ _ _ _).trans (h3.trans h2))
        · exact hset _ (h3.trans h2)
      · exact hset _ ((journal_pts _ _ _ _ _).trans h2)
  · next h =>
    split
    · next hi =>
      obtain ⟨⟨hv, hq⟩, -⟩ : ((m.pt i).v = p.v ∧ (m.pt i).q = p.q) ∧ p.kind = 0 := by simpa [Mach.alters, hi] using h
      rw [← hv, ← hq]
    · rfl

theorem writePoint_pt_same (p : PtChange) : (m.writePoint p).pt p.idx = { m.pt p.idx with v := p.v, q := p.q } := by rw [writePoint_pt, if_pos rfl]

theorem writePoint_pt_ne {p : PtChange} {i : Nat} (h : i ≠ p.idx) : (m.writePoint p).pt i = m.pt i := by rw [writePoint_pt, if_neg h]

/-- The write of a word gives the word its content: a write that alters nothing finds it there. -/
theorem writeWord_cell_same (t : Nat) (w : Nat × Word) : (m.writeWord t w).cell spW w.1 = w.2.setWidth 128 := by
  unfold Mach.writeWord
  split
  · next h => exact h
  · exact (congrArg (fun img => sget 0 img (ikey spW w.1)) (logs_streamPut _ _).calm.img).trans (Mach.cell_setCell_same _ spW w.1 _)

theorem writeWord_cell_ne (t : Nat) {w : Nat × Word} {i : Nat} (h : i ≠ w.1) : (m.writeWord t w).cell spW i = m.cell spW i := by
  unfold Mach.writeWord
  split
  · rfl
  · calc _ = ((m.preserve true w.1).setCell spW w.1 (w.2.setWidth 128)).cell spW i := by
          simp only [Mach.cell, (logs_streamPut _ _).calm.img]
      _ = (m.preserve true w.1).cell spW i := Mach.cell_setCell_ne _ (by simpa [ikey] using h) _
      _ = m.cell spW i := by simp only [Mach.cell, (calm_preserve m true w.1).img]

theorem writeWord_faults (t : Nat) (w : Nat × Word) : (m.writeWord t w).faults = m.faults := by
  unfold Mach.writeWord
  split
  · rfl
  · exact (logs_streamPut _ _).calm.faults.trans (calm_preserve m true w.1).faults

/-! ### The change written -/

/-- The write of a change: its words, its points in order, and the tasks it wakes. -/
theorem writeChange_eq (c : Change) :
    m.writeChange c = (foldM (c.pts.foldr insPt []) (fun p n => n.writePoint p)
      (foldM c.words (fun w n => n.writeWord c.stamp w) { m with ev := { m.ev with ord := m.ev.ord + 1 } })).wake (c.pts.filter m.alters) c.stamp := rfl

theorem writeChange_faults (c : Change) : (m.writeChange c).faults = m.faults := by
  rw [writeChange_eq, (calm_wake _ _ _).faults, foldM_keeps Mach.faults _ (fun p n => (calm_writePoint n p).faults),
    foldM_keeps Mach.faults _ (fun w n => writeWord_faults n _ w)]

/-- A change written moves a point as the writes of its points move it. -/
theorem writeChange_pt (c : Change) (i : Nat) :
    ∃ n : Mach, n.pt i = m.pt i ∧ (m.writeChange c).pt i = (foldM (c.pts.foldr insPt []) (fun p n => n.writePoint p) n).pt i := by
  refine ⟨foldM c.words (fun w n => n.writeWord c.stamp w) { m with ev := { m.ev with ord := m.ev.ord + 1 } }, ?_, ?_⟩
  · exact pt_congr { m with ev := { m.ev with ord := m.ev.ord + 1 } } (foldM_keeps Mach.pts _ (fun w n => writeWord_pts n _ w) _ _) i
  · rw [writeChange_eq, pt_congr _ (wake_pts _ _ _)]

/-- What each write of a change leaves of a point's record, the change leaves. -/
theorem change_pt_keeps {β : Type} (φ : Pt → β) {c : Change} {i : Nat} (h : ∀ p ∈ c.pts, ∀ n : Mach, φ ((n.writePoint p).pt i) = φ (n.pt i)) :
    φ ((m.change c).pt i) = φ (m.pt i) := by
  unfold Mach.change
  split
  · rfl
  · split
    · obtain ⟨n, hn, heq⟩ := writeChange_pt m c i
      rw [heq, ← hn]
      exact foldM_inv (fun k => φ (k.pt i) = φ (n.pt i)) _ _ (fun p hp k hk => (h p ((insPt_sort_perm c.pts).mem_iff.mp hp) k).trans hk) n rfl
    · rw [pt_congr m (holdChange_pts _ _)]

/-- A change leaves the points it does not name as they were. -/
theorem change_pt_other {c : Change} {i : Nat} (h : i ∉ c.pts.map (·.idx)) : (m.change c).pt i = m.pt i :=
  change_pt_keeps m id (fun p hp n => writePoint_pt_ne n (by rintro rfl; exact h (List.mem_map_of_mem hp)))

/-- A point's record but for the image's value and quality: what its source says, its chatter record and its wake mask. -/
def Pt.said (x : Pt) : Pt := { x with v := false, q := 0 }

/-- A change of the image leaves what the sources say of every point as it was (R188). -/
theorem change_said (c : Change) (i : Nat) : ((m.change c).pt i).said = (m.pt i).said :=
  change_pt_keeps m Pt.said (fun p _ n => by rw [writePoint_pt]; split <;> rfl)

/-- A change written gives each point it names, once, its value and quality. -/
theorem writeChange_pt_named {c : Change} (hnd : (c.pts.map (·.idx)).Nodup) {p : PtChange} (hp : p ∈ c.pts) :
    (m.writeChange c).pt p.idx = { m.pt p.idx with v := p.v, q := p.q } := by
  obtain ⟨n, hn, heq⟩ := writeChange_pt m c p.idx
  have hperm := insPt_sort_perm c.pts
  rw [heq, ← hn]
  refine foldM_of_mem (fun k => k.pt p.idx) (fun x => { x with v := p.v, q := p.q }) _ (hperm.mem_iff.mpr hp) (hperm.nodup_iff.mpr (List.Nodup.of_map _ hnd))
    (fun k => writePoint_pt_same k p) (fun q hq hne k => writePoint_pt_ne k (fun hi => hne ?_)) n
  exact List.inj_on_of_nodup_map hnd (hperm.mem_iff.mp hq) hp hi.symm

/-- A change written gives each word it names, once, its content. -/
theorem writeChange_cell_named {c : Change} (hnd : (c.words.map (·.1)).Nodup) {w : Nat × Word} (hw : w ∈ c.words) :
    (m.writeChange c).cell spW w.1 = w.2.setWidth 128 := by
  have hpts : ∀ n : Mach, ((foldM (c.pts.foldr insPt []) (fun p n => n.writePoint p) n).wake (c.pts.filter m.alters) c.stamp).img = n.img := fun n =>
    (calm_wake _ _ _).img.trans (foldM_keeps Mach.img _ (fun p n => (calm_writePoint n p).img) _ n)
  rw [writeChange_eq]
  calc _ = (foldM c.words (fun w n => n.writeWord c.stamp w) { m with ev := { m.ev with ord := m.ev.ord + 1 } }).cell spW w.1 := by
        simp only [Mach.cell, hpts]
    _ = w.2.setWidth 128 :=
      foldM_of_mem (fun k => k.cell spW w.1) (fun _ => w.2.setWidth 128) _ hw (List.Nodup.of_map _ hnd) (fun k => writeWord_cell_same k _ w)
        (fun y hy hne k => writeWord_cell_ne k _ (fun hi => hne (List.inj_on_of_nodup_map hnd hy hw hi.symm))) _

end Sys2Proof.Machine
end

section
/-!
PROOF. A change that is written at once (O23).
-/
namespace Sys2Proof.Machine
open Sys2Proof

/-- R31: with nothing held back and room in the share a module that follows no lead writes a change at once. -/
theorem change_eq_writeChange (m : Mach) {c : Change} (hf : m.following = false) (hh : m.ev.held = []) (hr : m.shareBits + m.changeBits c ≤ 2 ^ 21) :
    m.change c = m.writeChange c := by
  have hroom : (m.ev.held.isEmpty && decide (m.shareBits + m.changeBits c ≤ shareCap)) = true := Bool.and_eq_true_iff.mpr ⟨by rw [hh]; rfl, decide_eq_true hr⟩
  unfold Mach.change
  rw [if_neg (by simp [hf]), if_pos hroom]

/-- Settles O23, by the writes of the change's points and words. -/
theorem changesReachTheImage : Obligations.ChangesReachTheImage := by
  unfold Obligations.ChangesReachTheImage
  intro m c hf hh hr hpts hwords
  refine ⟨fun p hp => ?_, fun i hi => change_pt_other m hi, fun w hw => ?_, ?_, ?_⟩ <;> rw [change_eq_writeChange m hf hh hr]
  · rw [writeChange_pt_named m hpts hp]
    exact ⟨rfl, rfl⟩
  · exact writeChange_cell_named m hwords hw
  · exact (writeChange_held m c).trans hh
  · exact writeChange_faults m c

end Sys2Proof.Machine
end

section
/-!
SUPPORT. What an accepted transition, a fault raised and a fault cleared leave of the points and of the faults, and what a command of the field side touches.
-/
namespace Sys2Proof.Machine
open Sys2Proof

variable (m : Mach)

/-! ### Accepted transitions (R188, R215) -/

/-- What a point's source reports: its value, its quality and the stamp of the last transition accepted. -/
def Pt.reported (x : Pt) : Bool × Nat × Nat := (x.sv, x.sq, x.sAt)

theorem Pt.reported_eq {x : Pt} {v : Bool} {q t : Nat} : x.reported = (v, q, t) ↔ x.sv = v ∧ x.sq = q ∧ x.sAt = t := by simp [Pt.reported]

/-- What the image holds of a point: its value and its quality. -/
def Pt.shown (x : Pt) : Bool × Nat := (x.v, x.q)

theorem reported_of_said {x y : Pt} (h : x.said = y.said) : x.reported = y.reported := by
  change x.said.reported = y.said.reported
  rw [h]

theorem showBlocked_pts (i : Nat) : (m.showBlocked i).pts = m.pts := by
  unfold Mach.showBlocked
  split <;> simp only [Mach.setFlag_pts, Mach.setFld_pts]

/-- Whatever the chatter record makes of it, an accepted transition gives its point the source's report, and changes neither the image nor another point. -/
theorem accept_pts (p : PtChange) : ∃ x : Pt, (m.accept p).2.pts = (m.setPt p.idx x).pts ∧ x.reported = (p.v, p.q, p.stamp) ∧ x.shown = (m.pt p.idx).shown := by
  unfold Mach.accept
  extract_lets o isTrans o' kept m1 m2 q m3 m4
  have hcount : m1.pts = m.pts := by
    simp only [m1]
    split
    · exact Mach.satFld_pts _ _ _
    · rfl
  have hm2 : m2.pts = (m.setPt p.idx o').pts := by simp only [m2, Mach.setPt, hcount]
  split
  · exact ⟨_, rfl, rfl, rfl⟩
  · split
    · split <;> exact ⟨o', hm2, rfl, rfl⟩
    · split
      · dsimp only
        split
        · exact ⟨_, showBlocked_pts _ _, rfl, rfl⟩
        · exact ⟨_, rfl, rfl, rfl⟩
      · exact ⟨_, rfl, rfl, rfl⟩

theorem accept_reported (p : PtChange) : ((m.accept p).2.pt p.idx).reported = (p.v, p.q, p.stamp) := by
  obtain ⟨x, hpts, hrep, -⟩ := accept_pts m p
  rw [pt_congr _ hpts, Mach.pt_setPt_same, hrep]

theorem accept_pt_ne {p : PtChange} {i : Nat} (h : i ≠ p.idx) : (m.accept p).2.pt i = m.pt i := by
  obtain ⟨x, hpts, -, -⟩ := accept_pts m p
  rw [pt_congr _ hpts, Mach.pt_setPt_ne _ h]

theorem accept_shown (p : PtChange) (i : Nat) : ((m.accept p).2.pt i).shown = (m.pt i).shown := by
  by_cases h : i = p.idx
  · obtain ⟨x, hpts, -, hshown⟩ := accept_pts m p
    rw [h, pt_congr _ hpts, Mach.pt_setPt_same, hshown]
  · rw [accept_pt_ne m h]

/-- The transitions of one instant are accepted one after another. -/
theorem acceptAll_eq_foldM (ps : List PtChange) : (m.acceptAll ps).2 = foldM ps (fun p n => (n.accept p).2) m := by
  induction ps generalizing m with
  | nil => rfl
  | cons p ps ih => exact ih _

theorem acceptAll_reported {ps : List PtChange} (hnd : (ps.map (·.idx)).Nodup) {p : PtChange} (hp : p ∈ ps) :
    ((m.acceptAll ps).2.pt p.idx).reported = (p.v, p.q, p.stamp) := by
  rw [acceptAll_eq_foldM]
  exact foldM_of_mem (fun n => (n.pt p.idx).reported) (fun _ => (p.v, p.q, p.stamp)) _ hp (List.Nodup.of_map _ hnd) (fun n => accept_reported n p)
    (fun q hq hne n => congrArg Pt.reported (accept_pt_ne n (fun hi => hne (List.inj_on_of_nodup_map hnd hq hp hi.symm)))) m

theorem acceptAll_shown (ps : List PtChange) (i : Nat) : ((m.acceptAll ps).2.pt i).shown = (m.pt i).shown := by
  rw [acceptAll_eq_foldM]
  exact foldM_keeps (fun n => (n.pt i).shown) _ (fun p n => accept_shown n p i) ps m

/-- Points of one instant, taken in order, are accepted with what their sources report. -/
theorem acceptSorted_reported {ps : List PtChange} (hnd : (ps.map (·.idx)).Nodup) {p : PtChange} (hp : p ∈ ps) :
    ((m.acceptAll (ps.foldr insPt [])).2.pt p.idx).reported = (p.v, p.q, p.stamp) :=
  acceptAll_reported m (((insPt_sort_perm ps).map _).nodup_iff.mpr hnd) ((insPt_sort_perm ps).mem_iff.mpr hp)

/-- A source's changes of one instant leave at each point what its source reports. -/
theorem source_reported {ps : List PtChange} (hnd : (ps.map (·.idx)).Nodup) {p : PtChange} (hp : p ∈ ps) :
    ((m.source ps).pt p.idx).reported = (p.v, p.q, p.stamp) := by
  have h := acceptSorted_reported m hnd hp
  unfold Mach.source Mach.sourceAt
  dsimp only
  split
  · exact (reported_of_said (change_said _ _ _)).trans h
  · exact h

theorem ownSource_reported {ps : List PtChange} (hnd : (ps.map (·.idx)).Nodup) {p : PtChange} (hp : p ∈ ps) :
    ((m.ownSource ps).pt p.idx).reported = (p.v, p.q, p.stamp) := by
  unfold Mach.ownSource
  split
  · exact acceptSorted_reported m hnd hp
  · exact source_reported m hnd hp

/-- R315: in RUN a FOLLOW or UNSYNC module keeps its own supervision's results out of the image. -/
theorem ownSource_shown (ps : List PtChange) (hst : m.st = .run) (hrole : 2 ≤ m.role) (i : Nat) : ((m.ownSource ps).pt i).shown = (m.pt i).shown := by
  unfold Mach.ownSource
  rw [if_pos (by simp [hst, hrole])]
  exact acceptAll_shown m _ i

theorem rest_ownSource (ps : List PtChange) : Rest m (m.ownSource ps) := by
  unfold Mach.ownSource
  split
  · exact rest_acceptAll m _
  · exact rest_source m ps

/-! ### Points beside those a fault shows (R183, R417) -/

theorem stat_pt_other {i j : Nat} (h : i ≠ j) (b : Bool) : (m.stat j b).pt i = m.pt i := by
  unfold Mach.stat Mach.setStat
  extract_lets pts n
  have hmem : ∀ p ∈ pts, p.idx = j := by simp [pts]
  have hn : n.pt i = m.pt i :=
    foldM_inv (fun k => k.pt i = m.pt i) _ pts (fun p hp k hk => (Mach.pt_setPt_ne k (hmem p hp ▸ h) _).trans hk) m rfl
  split
  · refine (change_pt_other n (fun hi => ?_)).trans hn
    obtain ⟨p, hp, rfl⟩ := List.mem_map.mp hi
    exact h (hmem p hp)
  · exact hn

theorem showFaults_pt {i : Nat} (h : i < 4248) : m.showFaults.pt i = m.pt i := by
  unfold Mach.showFaults
  rw [stat_pt_other _ (by omega), stat_pt_other _ (by omega), pt_congr _ (faultSum_pts m)]

theorem squashSnap_pts (k c : Nat) : (m.squashSnap k c).pts = m.pts := by
  unfold Mach.squashSnap
  split
  · exact countSquash_pts _ _ _
  · rfl

theorem startYield_pts (r : Nat) : (m.startYield r).pts = m.pts := by
  unfold Mach.startYield
  split
  · refine (foldM_keeps Mach.pts _ (fun k n => ?_) _ { m with pair := { m.pair with yielding := some r } }).trans rfl
    rw [Mach.setTask_pts, squashRun_pts, squashSnap_pts]
  · rfl

theorem lastFault_pts (c k : Nat) : (m.lastFault c k).pts = m.pts := by
  unfold Mach.lastFault
  rw [Mach.setFld64_pts, Mach.setFlag_pts, Mach.setFld_pts, Mach.setFld_pts]

theorem raise_pt (c s k : Nat) {i : Nat} (h : i < 4248) : (m.raise c s k).pt i = m.pt i := by
  unfold Mach.raise
  extract_lets m1 m2 m3 m4 m5
  have h1 : m1.pt i = m.pt i := pt_congr _ (sysEvent_pts _ _ _ _) i
  clear_value m1
  have h2 : m2.pts = m1.pts := by
    simp only [m2]
    split <;> rfl
  clear_value m2
  have h3 : m3.pt i = m.pt i := (showFaults_pt m2 h).trans ((pt_congr m1 h2 i).trans h1)
  clear_value m3
  have h4 : m4.pt i = m.pt i := (pt_congr m3 (lastFault_pts _ _ _) i).trans h3
  have hfatal (y : Mach) (hy : y.pt i = m.pt i) : ({ y with fatal := some c } : Mach).pt i = m.pt i := hy
  have h5 : m5.pt i = m.pt i := (pt_congr m3 (lastFault_pts _ _ _) i).trans h3
  clear_value m4 m5
  split
  · split
    · exact (stat_pt_other (m4.setFlag R.DIAG_FSUM_DEGRADED true) (show i ≠ 4250 by omega) true).trans ((pt_congr m4 (Mach.setFlag_pts _ _ _) i).trans h4)
    · exact (pt_congr _ (startYield_pts _ _) i).trans h4
  · split
    · exact hfatal m5 h5
    · exact h3

theorem clear_pt (c s k : Nat) {i : Nat} (h : i < 4248) : (m.clear c s k).pt i = m.pt i := by
  by_cases hf : (c, s, k) ∈ m.faults
  · rw [clear_eq m hf, showFaults_pt _ h]
    exact pt_congr m (sysEvent_pts _ _ _ _) i
  · rw [clear_absent m hf]

/-! ### Faults beside the one a held change raises (R31) -/

/-- Holding a change back raises MINOR 0x3013 and no other fault. -/
theorem holdChange_absent (c : Change) {f : Nat × Nat × Nat} (hf : f ≠ (0x3013, 0, 1)) (h : f ∉ m.faults) : f ∉ (m.holdChange c).faults := by
  unfold Mach.holdChange
  extract_lets q m1 src m2 m3 m4
  have h2 : m2.faults = m.faults := by simp only [m2, m1, Mach.satFld_faults]
  have h3 : m3.faults = m2.faults := (logs_sysEvent m2 _ _ _).calm.faults
  have h3 : m3.faults = m.faults := h3.trans h2
  clear_value m2 m3
  split
  · have h4 : m4.faults = m3.faults ++ [(0x3013, 0, 1)] := (calm_faultSum _).faults
    rw [h4, h3]
    simp [h, hf]
  · exact h2 ▸ h

theorem change_absent (c : Change) {f : Nat × Nat × Nat} (hf : f ≠ (0x3013, 0, 1)) (h : f ∉ m.faults) : f ∉ (m.change c).faults := by
  unfold Mach.change
  split
  · exact h
  · split
    · rw [writeChange_faults]
      exact h
    · exact holdChange_absent m c hf h

theorem stat_absent (i : Nat) (b : Bool) {f : Nat × Nat × Nat} (hf : f ≠ (0x3013, 0, 1)) (h : f ∉ m.faults) : f ∉ (m.stat i b).faults := by
  unfold Mach.stat Mach.setStat
  extract_lets pts n
  have hn : n.faults = m.faults := foldM_keeps Mach.faults _ (fun _ _ => rfl) pts m
  have h' : f ∉ n.faults := hn ▸ h
  split
  · exact change_absent n _ hf h'
  · exact h'

/-- A fault cleared is not present, but for the one that showing it can raise. -/
theorem clear_absent_after {c s k : Nat} (hf : (c, s, k) ≠ (0x3013, 0, 1)) : (c, s, k) ∉ (m.clear c s k).faults := by
  by_cases h : (c, s, k) ∈ m.faults
  · have hgone : (c, s, k) ∉ (m.faultGone c s k).faultSum.faults := by
      rw [(calm_faultSum _).faults]
      simp [Mach.faultGone]
    rw [clear_eq m h]
    exact stat_absent _ _ _ hf (stat_absent _ _ _ hf hgone)
  · rw [clear_absent m h]
    exact h

/-! ### What a command of the field side touches -/

namespace FieldOnly

variable {m n x : Mach}

theorem refl (m : Mach) : FieldOnly m m := ⟨rfl, fun _ _ _ => rfl, fun _ h => h, List.prefix_rfl⟩

theorem trans (h : FieldOnly m n) (g : FieldOnly n x) : FieldOnly m x := by
  refine ⟨?_, fun a he ha => (g.regs a he ha).trans (h.regs a he ha), fun _ hf => hf, h.out.trans g.out⟩
  have hx := g.same
  rw [h.same] at hx
  exact hx

theorem rest (h : FieldOnly m n) (g : Rest n x) : FieldOnly m x := by
  refine h.trans ⟨?_, fun a he _ => g.regs a he, fun _ hf => hf, g.out⟩
  have hx := g.same
  rw [hx]

theorem clear (h : FieldOnly m n) (c s k : Nat) : FieldOnly m (n.clear c s k) := by
  obtain ⟨hsame, hregs, hfaults, hout⟩ := events_clear n c s k
  refine h.trans ⟨?_, fun a he _ => hregs a he id, hfaults, hout⟩
  rw [hsame]

/-- A register of the field block is written. -/
theorem setFld (h : FieldOnly m n) {f : Fld} (v : Nat) (ha : 0xA0000 ≤ f.addr ∧ f.addr < 0xB0000) : FieldOnly m (n.setFld f v) :=
  h.trans ⟨rfl, fun a _ hna => n.rget_setFld_ne f v (by rintro rfl; exact hna ha), fun _ hf => hf, List.prefix_rfl⟩

theorem setFlag (h : FieldOnly m n) {f : Fld} (b : Bool) (ha : 0xA0000 ≤ f.addr ∧ f.addr < 0xB0000) : FieldOnly m (n.setFlag f b) := h.setFld _ ha

theorem satFld (h : FieldOnly m n) {f : Fld} (v : Nat) (ha : 0xA0000 ≤ f.addr ∧ f.addr < 0xB0000) : FieldOnly m (n.satFld f v) := h.setFld _ ha

theorem setDi (h : FieldOnly m n) (k : Nat) (d : Di) : FieldOnly m (n.setDi k d) :=
  h.trans ⟨rfl, fun _ _ _ => rfl, fun _ hf => hf, List.prefix_rfl⟩

end FieldOnly

/-- A command of the field side, in a module that is supplied, answers with what its meaning makes of the module. -/
theorem answers_runField {c : Instr} {s : State} {t : Nat} {f : Mach → Mach} {P : Mach → Prop} (h : exec c s = runField t f s)
    (ha : (arrive t s).alive = true) (hP : P (f (arrive t s))) : Answers c s P :=
  answers_runAt (f := fun m => if m.alive then f m else m) h (by rw [if_pos ha]; exact hP)

end Sys2Proof.Machine
end

section
/-!
PROOF. Field inputs: acceptance, chatter release, wire breaks and input groups (O31).
-/
namespace Sys2Proof.Machine
open Sys2Proof

variable (m : Mach)

/-! ### Registers of the field block -/

/-- Events write no register of the field block. -/
theorem evAddr_fio {a : Nat} (h : 0xA0000 ≤ a) (h' : a < 0xB0000) : evAddr a = false := by
  simp [evAddr, R.EVU_SEQ, R.EVU_STAT_FIFOLOST, R.EVU_LOSTFIFO, R.EVU_LASTSNAP_LO, R.EVU_FIFOMAX_MAX, R.EVU_WAKES, R.DIAG_FSUM_MINOR, R.DIAG_LFLT_CODE,
    R.DIAG_LFLTT_LO, R.IMG_SNPSTAT_HOLDS, R.PRT_STREAM_LEVEL, R.EVU_CHBLK_POINTS]
  omega

theorem digOk_inFio (g : Fin 4) : 0xA0000 ≤ (R.FIO_DIG_STAT_OK g).addr ∧ (R.FIO_DIG_STAT_OK g).addr < 0xB0000 := by
  simp only [R.FIO_DIG_STAT_OK]
  omega

theorem digLoss_inFio (g : Fin 4) : 0xA0000 ≤ (R.FIO_DIG_STAT_LOSSCNT g).addr ∧ (R.FIO_DIG_STAT_LOSSCNT g).addr < 0xB0000 := digOk_inFio g

theorem wbBit_inFio (n : Fin 64) : 0xA0000 ≤ (diBit R.FIO_WB_LO n).addr ∧ (diBit R.FIO_WB_LO n).addr < 0xB0000 := by
  simp only [diBit, R.FIO_WB_LO]
  omega

theorem clear_flag {f : Fld} (c s k : Nat) (h : evAddr f.addr = false) : (m.clear c s k).flag f = m.flag f := by
  simp only [Mach.flag, Mach.fld, (but_clear m c s k).regs _ h]

theorem setDi_di_same (n : Nat) (d : Di) : (m.setDi n d).di n = d := sget_sset_same _ _ _ _

theorem setDi_di_ne {n k : Nat} (h : k ≠ n) (d : Di) : (m.setDi n d).di k = m.di k := sget_sset_ne _ _ _ _ h

/-! ### Accepted inputs (R210–R212) -/

/-- R210: an input of a group that is present is accepted after its filter time. -/
theorem diChange_eq {n first : Nat} (hok : m.flag (R.FIO_DIG_STAT_OK (n / 16)) = true) (hfirst : first ≤ m.now - m.diTime n) :
    m.diChange n first = some { idx := n, v := !(m.pt n).sv, q := m.diQ n,
                                    stamp := (if m.flag (R.EVU_DI_CFG_STAMP n) then m.now - m.diTime n else first) - m.fld R.EVU_DIDLY_DELAY * 10 } := by
  unfold Mach.diChange
  exact if_pos (by simp [hok, hfirst])

theorem diChange_idx {n first : Nat} {p : PtChange} (h : m.diChange n first = some p) : p.idx = n := by
  unfold Mach.diChange at h
  dsimp only at h
  split at h
  · exact (Option.some.inj h) ▸ rfl
  · cases h

/-- Distinct inputs give changes of distinct points. -/
theorem diChanges_nodup {ins : List (Fin 64 × Nat)} (h : (ins.map (·.1)).Nodup) : ((ins.filterMap (fun x => m.diChange x.1 x.2)).map (·.idx)).Nodup := by
  rw [List.Nodup, List.pairwise_map, List.pairwise_filterMap]
  refine (List.pairwise_map.mp h).imp (fun {x y} hne p hp q hq => ?_)
  rw [diChange_idx m hp, diChange_idx m hq]
  exact Fin.val_ne_of_ne hne

theorem diAccepted_reported {ins : List (Fin 64 × Nat)} (hnd : (ins.map (·.1)).Nodup) {x : Fin 64 × Nat} (hx : x ∈ ins)
    (hok : m.flag (R.FIO_DIG_STAT_OK (x.1.val / 16)) = true) (hfirst : x.2 ≤ m.now - m.diTime x.1) :
    ((m.source (ins.filterMap (fun x => m.diChange x.1 x.2))).pt x.1).reported =
      (!(m.pt x.1).sv, m.diQ x.1, (if m.flag (R.EVU_DI_CFG_STAMP x.1) then m.now - m.diTime x.1 else x.2) - m.fld R.EVU_DIDLY_DELAY * 10) :=
  source_reported m (diChanges_nodup m hnd) (List.mem_filterMap.mpr ⟨x, hx, diChange_eq m hok hfirst⟩)

/-! ### Chatter release (R215) -/

/-- A point whose blocking has ended. -/
def Mach.unblocked (m : Mach) (i : Nat) : Mach := (m.setPt i { m.pt i with blocked := false, trans := [] }).showBlocked i

/-- A blocked point released after its quiet time keeps its source's value. -/
theorem chatterRelease_does {i a w q : Nat} (hch : m.chatter i = some (a, w, q)) (hb : (m.pt i).blocked = true) (hq : (m.pt i).lastAcc + q ≤ m.now) :
    let n := m.chatterRelease i
    FieldOnly m n ∧ (n.pt i).blocked = false ∧ (n.pt i).sv = (m.pt i).sv := by
  intro n
  have hn : n = (m.unblocked i).change { pts := [{ idx := i, v := (m.pt i).sv, q := (m.pt i).sq, stamp := (m.unblocked i).now, kind := 4 }] } := by
    simp only [n, Mach.chatterRelease, hch]
    exact if_pos (by simp [hb, hq])
  have hsaid : (n.pt i).said = ({ m.pt i with blocked := false, trans := [] } : Pt).said := by
    rw [hn, change_said, Mach.unblocked, pt_congr _ (showBlocked_pts _ _), Mach.pt_setPt_same]
  have hr : Rest m (m.unblocked i) := (rest_setPt m _ _).trans (rest_showBlocked _ _)
  refine ⟨(FieldOnly.refl m).rest (hn ▸ hr.trans (rest_change _ _)), ?_, ?_⟩
  · exact (congrArg Pt.blocked hsaid :)
  · exact (congrArg Pt.sv hsaid :)

/-! ### Wire breaks (R304, R305) -/

/-- One measurement: its current is kept, its class where it has one, and the row of measurements in that class. -/
theorem Di.measure_eq (d : Di) (cur : Nat) : d.measure cur =
    { d with cur := cur, cls := (if cur < 300 then 1 else if cur < 500 then d.cls else 2),
             run := if 300 ≤ cur ∧ cur < 500 then 0 else if (if cur < 300 then 1 else if cur < 500 then d.cls else 2) = d.cls then d.run + 1 else 1 } := by
  unfold Di.measure diClass
  by_cases h1 : cur < 300
  · simp [h1, Nat.not_le.mpr h1]
  · by_cases h2 : cur < 500
    · simp [h1, h2, Nat.not_lt.mp h1]
    · simp [h1, h2]

/-- The declared state of an input as its record and FIO.WB show it. -/
def Mach.wireShown (m : Mach) (n decl : Nat) : Mach := (m.setDi n { m.di n with decl := decl }).setFlag (diBit R.FIO_WB_LO n) (decl == 2)

/-- The quality an input has once its declared state is shown, as its source's change. -/
def Mach.wireSource (m : Mach) (n decl : Nat) : Mach :=
  (m.wireShown n decl).ownSource [{ idx := n, v := (m.pt n).sv, q := (m.wireShown n decl).diQ n, stamp := m.now }]

/-- R305: twenty measurements in a row declare a state that is new; FIO.WB, the quality and the fault change where the break shown does. -/
theorem declareWire_eq {n decl : Nat} (hen : m.flag (diBit R.FIO_WBEN_LO n) = true) (hrun : 20 ≤ (m.di n).run) (hcls : (m.di n).cls ≠ 0)
    (hdecl : 3 - (m.di n).cls = decl) (hne : (m.di n).decl ≠ decl) :
    m.declareWire n = if (decl == 2) = m.flag (diBit R.FIO_WB_LO n) then m.wireShown n decl
      else if m.flag (diBit R.FIO_WB_LO n) then (m.wireSource n decl).clear 0x31C8 n 1 else (m.wireSource n decl).raise 0x31C8 n 1 := by
  subst hdecl
  unfold Mach.declareWire
  exact if_pos ⟨hen, hrun, hcls, hne.symm⟩

theorem wireShown_di (n decl : Nat) : (m.wireShown n decl).di n = { m.di n with decl := decl } := setDi_di_same m n _

theorem wireShown_wb (n decl : Nat) : (m.wireShown n decl).flag (diBit R.FIO_WB_LO n) = (decl == 2) :=
  Mach.flag_setFlag_same _ _ _ (Nat.succ_le_of_lt (Nat.mod_lt _ (by decide))) rfl

theorem fieldOnly_wireShown (n : Fin 64) (decl : Nat) : FieldOnly m (m.wireShown n decl) := ((FieldOnly.refl m).setDi _ _).setFld _ (wbBit_inFio n)

/-- What a declared state shows stays through its source's change and the fault's. -/
theorem wireSource_does (n : Fin 64) (decl : Nat) :
    let x := m.wireSource n decl
    FieldOnly m x ∧ x.di n = { m.di n with decl := decl } ∧ x.flag (diBit R.FIO_WB_LO n) = (decl == 2) ∧ (x.pt n).sq = (m.wireShown n decl).diQ n ∧
      (m.st = .run → 2 ≤ m.role → (x.pt n).q = (m.pt n).q) := by
  have hr : Rest (m.wireShown n decl) (m.wireSource n decl) := rest_ownSource _ _
  have hrep := ownSource_reported (m.wireShown n decl) (ps := [{ idx := n, v := (m.pt n).sv, q := (m.wireShown n decl).diQ n, stamp := m.now }])
    (List.nodup_singleton _) (List.mem_singleton_self _)
  have hwb := wbBit_inFio n
  refine ⟨(fieldOnly_wireShown m n decl).rest hr, ?_, (hr.flag (evAddr_fio hwb.1 hwb.2)).trans (wireShown_wb m n decl), (Pt.reported_eq.mp hrep).2.1, fun hst hrole => ?_⟩
  · rw [Mach.di, hr.same]
    exact wireShown_di m n decl
  · have hrole' : (m.wireShown n decl).role = m.role := by
      have hne : R.PRT_STAT_ROLE.addr ≠ (diBit R.FIO_WB_LO n).addr := fun h => absurd (h ▸ hwb.2) (by decide)
      exact (Mach.fld_setFld_ne _ _ _ _ (Nat.succ_le_of_lt (Nat.mod_lt _ (by decide))) (.inl hne)).trans rfl
    exact congrArg (·.2) (ownSource_shown (m.wireShown n decl) _ hst (hrole'.symm ▸ hrole) n)

/-- R304, R305: a break declared. -/
theorem declareWire_break (n : Fin 64) (hen : m.flag (diBit R.FIO_WBEN_LO n) = true) (hrun : 20 ≤ (m.di n).run) (hcls : (m.di n).cls = 1)
    (hne : (m.di n).decl ≠ 2) :
    let x := m.declareWire n
    FieldOnly m x ∧ (x.di n).decl = 2 ∧ x.flag (diBit R.FIO_WB_LO n) = true ∧ (m.flag (diBit R.FIO_WB_LO n) = false → (0x31C8, n.val, 1) ∈ x.faults ∧
      (x.pt n).sq = 1 ∧ (m.st = .run → 2 ≤ m.role → (x.pt n).q = (m.pt n).q)) := by
  intro x
  have hx : x = _ := declareWire_eq m (decl := 2) hen hrun (by simp [hcls]) (by rw [hcls]) hne
  cases hwas : m.flag (diBit R.FIO_WB_LO n) with
  | true =>
    rw [if_pos (show ((2 : Nat) == 2) = _ from hwas.symm)] at hx
    rw [hx]
    exact ⟨fieldOnly_wireShown m n 2, by rw [wireShown_di], wireShown_wb m n 2, fun h => absurd h (by simp)⟩
  | false =>
    rw [if_neg (by simp [hwas]), if_neg (by simp [hwas])] at hx
    obtain ⟨honly, hdi, hflag, hsq, hq⟩ := wireSource_does m n 2
    have hr := rest_raise (m.wireSource n 2) 0x31C8 n 1
    have hpt : x.pt n = (m.wireSource n 2).pt n := by
      rw [hx]
      exact raise_pt _ _ _ _ (by omega)
    have hbroken : (m.wireShown n 2).diQ n = 1 := by
      unfold Mach.diQ
      rw [wireShown_wb, if_neg (by simp)]
    have hwb := wbBit_inFio n
    refine ⟨hx ▸ honly.rest hr, ?_, hx ▸ (hr.flag (evAddr_fio hwb.1 hwb.2)).trans hflag, fun _ => ⟨hx ▸ raise_mem _ _ _ _, ?_, fun hst hrole => ?_⟩⟩
    · rw [hx, Mach.di, hr.same]
      exact congrArg Di.decl hdi
    · rw [hpt, hsq, hbroken]
    · rw [hpt, hq hst hrole]

/-- R304, R305: the end of a break declared. -/
theorem declareWire_intact (n : Fin 64) (hen : m.flag (diBit R.FIO_WBEN_LO n) = true) (hrun : 20 ≤ (m.di n).run) (hcls : (m.di n).cls = 2)
    (hne : (m.di n).decl ≠ 1) :
    let x := m.declareWire n
    FieldOnly m x ∧ (x.di n).decl = 1 ∧ x.flag (diBit R.FIO_WB_LO n) = false ∧ (m.flag (diBit R.FIO_WB_LO n) = true → (0x31C8, n.val, 1) ∉ x.faults) := by
  intro x
  have hx : x = _ := declareWire_eq m (decl := 1) hen hrun (by simp [hcls]) (by rw [hcls]) hne
  cases hwas : m.flag (diBit R.FIO_WB_LO n) with
  | false =>
    rw [if_pos (show ((1 : Nat) == 2) = _ from hwas.symm)] at hx
    rw [hx]
    exact ⟨fieldOnly_wireShown m n 1, by rw [wireShown_di], wireShown_wb m n 1, fun h => absurd h (by simp)⟩
  | true =>
    rw [if_neg (by simp [hwas]), if_pos hwas] at hx
    obtain ⟨honly, hdi, hflag, -, -⟩ := wireSource_does m n 1
    have hwb := wbBit_inFio n
    refine ⟨hx ▸ honly.clear _ _ _, ?_, hx ▸ (clear_flag _ _ _ _ (evAddr_fio hwb.1 hwb.2)).trans hflag, fun _ => hx ▸ clear_absent_after _ (by simp)⟩
    rw [hx, Mach.di, (but_clear _ _ _ _).same]
    exact congrArg Di.decl hdi

/-! ### Input groups (R307) -/

/-- The points of an input group are distinct. -/
theorem groupPoints_nodup (g : Nat) : ((List.range 16).map (fun i => 16 * g + i)).Nodup := List.nodup_range.map (fun _ _ h => Nat.add_left_cancel h)

theorem mem_groupPoints (g : Nat) {i : Nat} (h : i < 16) : 16 * g + i ∈ (List.range 16).map (fun i => 16 * g + i) :=
  List.mem_map_of_mem (List.mem_range.mpr h)

/-- R187, R189: a change of quality gives each point of the group the quality, with the value last received. -/
theorem sourceQuality_reported {is : List Nat} (hnd : is.Nodup) {i : Nat} (hi : i ∈ is) (q t : Nat) :
    ((m.sourceQuality is q t).pt i).reported = ((m.pt i).rv, q, t) :=
  source_reported m (ps := is.map (fun i => { idx := i, v := (m.pt i).rv, q := q, stamp := t })) (by simpa [Function.comp_def] using hnd)
    (List.mem_map_of_mem (f := fun i => ({ idx := i, v := (m.pt i).rv, q := q, stamp := t } : PtChange)) hi)

/-- The absence of a group as its registers show it. -/
def Mach.groupLost (m : Mach) (g : Nat) : Mach := (m.setFlag (R.FIO_DIG_STAT_OK g) false).satFld (R.FIO_DIG_STAT_LOSSCNT g) 1

theorem groupLost_shows (g : Fin 4) : FieldOnly m (m.groupLost g) ∧ (m.groupLost g).flag (R.FIO_DIG_STAT_OK g) = false ∧
    (m.groupLost g).fld (R.FIO_DIG_STAT_LOSSCNT g) = min (m.fld (R.FIO_DIG_STAT_LOSSCNT g) + 1) (2 ^ 16 - 1) := by
  have hcount : (m.setFlag (R.FIO_DIG_STAT_OK g) false).fld (R.FIO_DIG_STAT_LOSSCNT g) = m.fld (R.FIO_DIG_STAT_LOSSCNT g) :=
    Mach.fld_setFld_ne _ _ _ _ (by simp [R.FIO_DIG_STAT_OK]) (.inr (.inr (by simp [R.FIO_DIG_STAT_OK, R.FIO_DIG_STAT_LOSSCNT])))
  refine ⟨((FieldOnly.refl m).setFlag false (digOk_inFio g)).satFld 1 (digLoss_inFio g), ?_, ?_⟩
  · exact (Mach.flag_setFld_ne _ _ (by simp [R.FIO_DIG_STAT_LOSSCNT]) (.inr (.inl (by simp [R.FIO_DIG_STAT_OK, R.FIO_DIG_STAT_LOSSCNT])))).trans
      (Mach.flag_setFlag_same _ _ _ (by simp [R.FIO_DIG_STAT_OK]) rfl)
  · unfold Mach.groupLost Mach.satFld
    rw [Mach.fld_setFld_same _ _ _ (by simp [R.FIO_DIG_STAT_LOSSCNT]), hcount]
    exact Nat.mod_eq_of_lt (lt_of_le_of_lt (Nat.min_le_right _ _) (by simp [R.FIO_DIG_STAT_LOSSCNT]))

/-- What follows at once from a group's absence: its inputs' quality and the fault. -/
def Mach.groupAbsent (m : Mach) (g : Nat) : Mach :=
  ((m.groupLost g).sourceQuality ((List.range 16).map (fun i => 16 * g + i)) 1 (m.groupLost g).now).raise (0x31C4 + g) 0 2

theorem groupAbsent_does (g : Fin 4) :
    let x := m.groupAbsent g
    FieldOnly m x ∧ x.flag (R.FIO_DIG_STAT_OK g) = false ∧ x.fld (R.FIO_DIG_STAT_LOSSCNT g) = min (m.fld (R.FIO_DIG_STAT_LOSSCNT g) + 1) (2 ^ 16 - 1) ∧
      (0x31C4 + g.val, 0, 2) ∈ x.faults ∧ ∀ i, i < 16 → (x.pt (16 * g.val + i)).sq = 1 ∧ (x.pt (16 * g.val + i)).sv = (m.pt (16 * g.val + i)).rv := by
  intro x
  have hr : Rest (m.groupLost g) x := (rest_sourceQuality _ _ _ _).trans (rest_raise _ _ _ _)
  obtain ⟨honly, hok, hcount⟩ := groupLost_shows m g
  have hfio : evAddr (R.FIO_DIG_STAT_OK g).addr = false := evAddr_fio (digOk_inFio g).1 (digOk_inFio g).2
  refine ⟨honly.rest hr, (hr.flag hfio).trans hok, (hr.fld (f := R.FIO_DIG_STAT_LOSSCNT g) hfio).trans hcount, raise_mem _ _ _ _, fun i hi => ?_⟩
  have hpt : (m.groupLost g).pt (16 * g.val + i) = m.pt (16 * g.val + i) := pt_congr m ((Mach.satFld_pts _ _ _).trans (Mach.setFlag_pts _ _ _)) _
  have hrep := sourceQuality_reported (m.groupLost g) (groupPoints_nodup g) (mem_groupPoints g hi) 1 (m.groupLost g).now
  rw [← raise_pt _ (0x31C4 + g) 0 2 (show 16 * g.val + i < 4248 by omega), hpt] at hrep
  obtain ⟨hsv, hsq, -⟩ := Pt.reported_eq.mp hrep
  exact ⟨hsq, hsv⟩

/-- The presence of a group as its register shows it. -/
def Mach.groupFound (m : Mach) (g : Nat) : Mach := m.setFlag (R.FIO_DIG_STAT_OK g) true

/-- The values and qualities a group returns with, as its source's changes. -/
def Mach.groupLevels (m : Mach) (g : Nat) (levels : BitVec 16) : List PtChange :=
  (List.range 16).map (fun i => { idx := 16 * g + i, v := levels.getLsbD i, q := (m.groupFound g).diQ (16 * g + i), stamp := (m.groupFound g).now })

/-- What follows at once from a group's return: its inputs' values and qualities, and the end of the fault. -/
def Mach.groupBack (m : Mach) (g : Nat) (levels : BitVec 16) : Mach := ((m.groupFound g).source (m.groupLevels g levels)).clear (0x31C4 + g) 0 2

/-- With its group present an input's quality is that of its wire. -/
theorem diQ_groupFound (g : Fin 4) {i : Nat} (hi : i < 16) :
    (m.groupFound g).diQ (16 * g.val + i) = if m.flag (diBit R.FIO_WB_LO (16 * g.val + i)) then 1 else 0 := by
  have hg : (16 * g.val + i) / 16 = g.val := by omega
  have hok : (m.groupFound g).flag (R.FIO_DIG_STAT_OK g) = true := Mach.flag_setFlag_same _ _ _ (by simp [R.FIO_DIG_STAT_OK]) rfl
  have hwb : (m.groupFound g).flag (diBit R.FIO_WB_LO (16 * g.val + i)) = m.flag (diBit R.FIO_WB_LO (16 * g.val + i)) :=
    Mach.flag_setFld_ne _ _ (by simp [R.FIO_DIG_STAT_OK]) (.inl (by simp only [diBit, R.FIO_WB_LO, R.FIO_DIG_STAT_OK]; omega))
  unfold Mach.diQ
  rw [hg, hwb, hok]
  cases m.flag (diBit R.FIO_WB_LO (16 * g.val + i)) <;> rfl

theorem groupBack_does (g : Fin 4) (levels : BitVec 16) :
    let x := m.groupBack g levels
    FieldOnly m x ∧ x.flag (R.FIO_DIG_STAT_OK g) = true ∧ (0x31C4 + g.val, 0, 2) ∉ x.faults ∧
      ∀ i, i < 16 → (x.pt (16 * g.val + i)).sv = levels.getLsbD i ∧
        (x.pt (16 * g.val + i)).sq = if m.flag (diBit R.FIO_WB_LO (16 * g.val + i)) then 1 else 0 := by
  intro x
  have hr : Rest (m.groupFound g) ((m.groupFound g).source (m.groupLevels g levels)) := rest_source _ _
  have hfio : evAddr (R.FIO_DIG_STAT_OK g).addr = false := evAddr_fio (digOk_inFio g).1 (digOk_inFio g).2
  have honly : FieldOnly m (m.groupFound g) := (FieldOnly.refl m).setFlag true (digOk_inFio g)
  have hok : (m.groupFound g).flag (R.FIO_DIG_STAT_OK g) = true := Mach.flag_setFlag_same _ _ _ (by simp [R.FIO_DIG_STAT_OK]) rfl
  have hnd : ((m.groupLevels g levels).map (·.idx)).Nodup := by
    rw [Mach.groupLevels, List.map_map]
    exact groupPoints_nodup g
  refine ⟨(honly.rest hr).clear _ _ _, (clear_flag _ _ _ _ hfio).trans ((hr.flag hfio).trans hok), clear_absent_after _ (by simp), fun i hi => ?_⟩
  have hrep := source_reported (m.groupFound g) hnd (List.mem_map_of_mem (List.mem_range.mpr hi))
  rw [← clear_pt _ (0x31C4 + g) 0 2 (show 16 * g.val + i < 4248 by omega)] at hrep
  obtain ⟨hsv, hsq, -⟩ := Pt.reported_eq.mp hrep
  exact ⟨hsv, hsq.trans (diQ_groupFound m g hi)⟩

/-- Settles O31, each command by what its operation reports of its inputs. -/
theorem fieldInputs : Obligations.FieldInputs := by
  unfold Obligations.FieldInputs
  intro s t m only
  refine ⟨fun ins ha hsample hnd => ?_, fun i a w q ha hch hb hq => ?_, fun n cur ha hen => ?_, fun n ha hen hrun => ⟨fun hcls hne => ?_, fun hcls hne => ?_⟩,
    fun g ha habs => ?_, fun g levels ha hok => ?_⟩
  · have hexec : exec (.diTransitionAccepted t ins) s = runField t (fun m => if m.now % 100 = 0 then m.source (ins.filterMap (fun x => m.diChange x.1 x.2)) else m) s := rfl
    refine answers_runField hexec ha ?_
    rw [if_pos hsample]
    refine ⟨(FieldOnly.refl m).rest (rest_source _ _), fun x hx hok hfirst => ?_⟩
    exact Pt.reported_eq.mp (diAccepted_reported m hnd hx hok hfirst)
  · exact answers_runField (f := fun m => m.chatterRelease i) rfl ha (chatterRelease_does m hch hb hq)
  · refine answers_runField (f := fun m => if m.flag (diBit R.FIO_WBEN_LO n) then m.setDi n ((m.di n).measure cur) else m) rfl ha ?_
    rw [if_pos hen, setDi_di_same, Di.measure_eq]
    exact ⟨rfl, fun k hk => setDi_di_ne m hk _, rfl, rfl, rfl, rfl⟩
  · exact answers_runField (f := fun m => m.declareWire n) rfl ha (declareWire_break m n hen hrun hcls hne)
  · exact answers_runField (f := fun m => m.declareWire n) rfl ha (declareWire_intact m n hen hrun hcls hne)
  · refine answers_runField (f := fun m => if !m.faultOn (0x31C4 + g) then m.groupAbsent g else m) rfl ha ?_
    rw [if_pos (by rw [habs]; rfl)]
    exact groupAbsent_does m g
  · refine answers_runField (f := fun m => if m.flag (R.FIO_DIG_STAT_OK g) then m else m.groupBack g levels) rfl ha ?_
    rw [if_neg (by rw [hok]; decide)]
    exact groupBack_does m g levels

end Sys2Proof.Machine
end

section
/-!
PROOF. The journal (R218–R230): the number an entry takes, and its way into the FIFO (O24).
-/
namespace Sys2Proof.Machine
open Sys2Proof

variable (m : Mach)

theorem streamPut_ev (r : List Byte) : (m.streamPut r).ev = m.ev := by
  unfold Mach.streamPut
  split <;> rfl

theorem streamPut_fld (r : List Byte) {f : Fld} (h : f.addr ≠ R.PRT_STREAM_LEVEL.addr) : (m.streamPut r).fld f = m.fld f := by
  unfold Mach.streamPut
  split
  · exact fld_setFld_of_addr_ne _ _ h
  · rfl

/-- A FIFO with room takes an entry, behind the marker of the entries lost before it (R227, R230). -/
theorem fifoPut_room (j : JEntry) (h : m.ev.fifo.length < 4095) :
    (m.fifoPut j).ev.fifoLost = 0 ∧
      (m.fifoPut j).ev.fifo = m.ev.fifo ++ (if m.ev.fifoLost = 0 then [] else [⟨m.ev.fifoLostT, 0x3010, 0x34, 1, m.ev.fifoLost⟩]) ++ [j] := by
  unfold Mach.fifoPut
  rw [if_neg (by omega)]
  exact ⟨rfl, rfl⟩

/-- A full FIFO loses the entry and counts it (R227). -/
theorem fifoPut_full (j : JEntry) (h : 4095 ≤ m.ev.fifo.length) :
    (m.fifoPut j).ev.fifo = m.ev.fifo ∧ (m.fifoPut j).ev.fifoLost = min (m.ev.fifoLost + 1) (2 ^ 32 - 1) ∧
      (m.fifoPut j).fld R.EVU_LOSTFIFO = min (m.fld R.EVU_LOSTFIFO + 1) (2 ^ 32 - 1) ∧ (m.fifoPut j).flag R.EVU_STAT_FIFOLOST = true := by
  unfold Mach.fifoPut
  rw [if_pos h]
  refine ⟨rfl, rfl, ?_, Mach.flag_setFlag_same _ _ _ (by decide) rfl⟩
  refine (fld_setFld_of_addr_ne _ _ (by decide)).trans ((Mach.fld_setFld_same _ _ _ (by decide)).trans ?_)
  exact Nat.mod_eq_of_lt (by simp only [R.EVU_LOSTFIFO]; omega)

theorem fifoPut_seq (j : JEntry) : (m.fifoPut j).fld R.EVU_SEQ = m.fld R.EVU_SEQ := by
  unfold Mach.fifoPut
  split
  · exact (fld_setFld_of_addr_ne _ _ (by decide)).trans (fld_setFld_of_addr_ne _ _ (by decide))
  · exact fld_setFld_of_addr_ne _ _ (by decide)

/-- The module whose next entry has its number and has gone into the stream (R218, R279). -/
def Mach.entryNumbered (m : Mach) (j : JEntry) : Mach := (m.addFld R.EVU_SEQ 1).streamPut j.bytes

theorem journal_eq (time point kind flags : Nat) (h : m.following = false) :
    m.journal time point kind flags = (m.entryNumbered ⟨time % 2 ^ 64, point, kind, flags, m.fld R.EVU_SEQ⟩).fifoPut ⟨time % 2 ^ 64, point, kind, flags, m.fld R.EVU_SEQ⟩ := by
  unfold Mach.journal
  rw [if_neg (by rw [h]; decide)]
  rfl

theorem journal_following (time point kind flags : Nat) (h : m.following = true) : m.journal time point kind flags = m := by
  unfold Mach.journal
  rw [if_pos h]

theorem entryNumbered_ev (j : JEntry) : (m.entryNumbered j).ev = m.ev := streamPut_ev _ _

theorem entryNumbered_seq (j : JEntry) : (m.entryNumbered j).fld R.EVU_SEQ = (m.fld R.EVU_SEQ + 1) % 2 ^ 32 :=
  (streamPut_fld _ _ (by decide)).trans (Mach.fld_setFld_same _ _ _ (by decide))

theorem entryNumbered_lost (j : JEntry) : (m.entryNumbered j).fld R.EVU_LOSTFIFO = m.fld R.EVU_LOSTFIFO :=
  (streamPut_fld _ _ (by decide)).trans (fld_addFld_of_addr_ne _ _ (by decide))

/-- Settles O24: a numbered entry meets a FIFO with room, or a full one. -/
theorem journalEntriesAreNumbered : Obligations.JournalEntriesAreNumbered := by
  unfold Obligations.JournalEntriesAreNumbered
  intro m time point kind flags m' j
  refine ⟨journal_following m time point kind flags, fun hf => ?_, fun hf hroom => ?_, fun hf hfull => ?_⟩
  · exact (congrArg (·.fld R.EVU_SEQ) (journal_eq m time point kind flags hf)).trans ((fifoPut_seq _ _).trans (entryNumbered_seq m _))
  · obtain ⟨hlost, hfifo⟩ := fifoPut_room (m.entryNumbered j) j (by rwa [entryNumbered_ev])
    rw [entryNumbered_ev] at hfifo
    rw [show m' = (m.entryNumbered j).fifoPut j from journal_eq m time point kind flags hf]
    exact ⟨hlost, hfifo⟩
  · have hput := fifoPut_full (m.entryNumbered j) j (by rwa [entryNumbered_ev])
    rw [entryNumbered_ev, entryNumbered_lost] at hput
    rw [show m' = (m.entryNumbered j).fifoPut j from journal_eq m time point kind flags hf]
    exact hput

end Sys2Proof.Machine
end

section
/-!
SUPPORT. The move engine (R494–R507): what its commands touch, what showing a channel's state leaves, and how a descriptor starts.
-/
namespace Sys2Proof.Machine
open Sys2Proof

/-- Events write no register of the move engine, the retained store, the display or the update store. -/
theorem evAddr_beyondPair {a : Nat} (h : 0xE0000 ≤ a) (h' : a < 0x120000) : evAddr a = false := by
  simp [evAddr, R.EVU_SEQ, R.EVU_STAT_FIFOLOST, R.EVU_LOSTFIFO, R.EVU_LASTSNAP_LO, R.EVU_FIFOMAX_MAX, R.EVU_WAKES, R.DIAG_FSUM_MINOR, R.DIAG_LFLT_CODE,
    R.DIAG_LFLTT_LO, R.IMG_SNPSTAT_HOLDS, R.PRT_STREAM_LEVEL, R.EVU_CHBLK_POINTS]
  omega

theorem fld_satFld_same (m : Mach) {f : Fld} (n : Nat) (h : f.lsb + f.width ≤ 32) : (m.satFld f n).fld f = min (m.fld f + n) (2 ^ f.width - 1) := by
  have hpos := Nat.two_pow_pos f.width
  rw [Mach.satFld, Mach.fld_setFld_same _ _ _ h]
  exact Nat.mod_eq_of_lt (by omega)

/-! ### What a command of the move engine touches -/

theorem Events.transMov {m n x : Mach} {as : Nat → Prop} (h : Events { m with mov := n.mov } n as) (g : Events { n with mov := x.mov } x as) :
    Events { m with mov := x.mov } x as := by
  refine ⟨?_, fun a he ha => (g.regs a he ha).trans (h.regs a he ha), fun f hf => g.faults f (h.faults f hf), h.out.trans g.out⟩
  have hx := g.same
  rw [h.same] at hx
  exact hx

theorem Rest.mov {m n : Mach} (h : Rest m n) : n.mov = m.mov := by rw [h.same]

namespace MoveOnly

variable {m n x : Mach}

theorem trans (h : MoveOnly m n) (g : MoveOnly n x) : MoveOnly m x := Events.transMov h g

/-- A change of the engine's own records and registers. -/
theorem of_own (h : n = { m with regs := n.regs, mov := n.mov }) (hr : ∀ a, ¬ (0xE0000 ≤ a ∧ a < 0xF0000) → n.rget a = m.rget a) : MoveOnly m n := by
  refine ⟨?_, fun a _ => hr a, fun f hf => ?_, ?_⟩
  · rw [h]
  · rw [h]; exact hf
  · rw [h]

/-- What events write. -/
theorem of_rest (g : Rest m n) : MoveOnly m n := by
  refine ⟨?_, fun a he _ => g.regs a he, g.faults, g.out⟩
  have hx := g.same
  rw [hx]

end MoveOnly

/-! ### The registers of a channel -/

theorem movCh_congr {m n : Mach} (h : n.mov = m.mov) (k : Nat) : n.movCh k = m.movCh k := by simp only [Mach.movCh, h]

theorem movCh_setMovCh_same (m : Mach) (c : Nat) (y : MovCh) : (m.setMovCh c y).movCh c = y := sget_sset_same _ _ _ _

theorem movCh_setMovCh_ne (m : Mach) {c k : Nat} (h : k ≠ c) (y : MovCh) : (m.setMovCh c y).movCh k = m.movCh k := sget_sset_ne _ _ _ _ h

/-- The registers that a descriptor's start, or its refusal, shows in channel `c`. -/
def startRegs (c : Nat) : List Nat :=
  [R.MOV_STAT.addr, (R.MOV_CH_STAT c).addr, (R.MOV_CH_DESC c).addr, (R.MOV_CH_RESID c).addr, (R.MOV_CH_ROWSLEFT c).addr, (R.MOV_CH_ERRINFO c).addr,
    (R.MOV_CH_DROP c).addr]

/-- The registers that the progress of a descriptor shows beside the bytes moved. -/
def runRegs (c : Nat) : List Nat := (R.MOV_CH_DONE c).addr :: R.MOV_PRESV.addr :: startRegs c

/-- A field of a register among `as` that is no part of the length of channel `c`'s queue. -/
def besideQlen (c : Nat) (as : List Nat) (f : Fld) : Prop :=
  f.addr ∈ as ∧ f.lsb + f.width ≤ 32 ∧ (f.addr ≠ (R.MOV_CH_STAT c).addr ∨ f.lsb + f.width ≤ 2 ∨ 7 ≤ f.lsb)

/-- `n` differs from `m` in the registers `as` and in the descriptors the channels run: the buffer, and the queue of channel `c` with its length, are as they were. -/
structure MovesCh (c : Nat) (as : List Nat) (m n : Mach) : Prop where
  same : n = { m with regs := n.regs, mov := n.mov }
  regs : ∀ a, a ∉ as → n.rget a = m.rget a
  qlen : n.fld (R.MOV_CH_STAT_QLEN c) = m.fld (R.MOV_CH_STAT_QLEN c)
  queue : (n.movCh c).queue = (m.movCh c).queue
  buf : n.mov.pbuf = m.mov.pbuf

namespace MovesCh

variable {c : Nat} {as bs : List Nat} {m n x : Mach}

theorem refl (m : Mach) : MovesCh c as m m := ⟨rfl, fun _ _ => rfl, rfl, rfl, rfl⟩

theorem trans (h : MovesCh c as m n) (g : MovesCh c as n x) : MovesCh c as m x := by
  refine ⟨?_, fun a ha => (g.regs a ha).trans (h.regs a ha), g.qlen.trans h.qlen, g.queue.trans h.queue, g.buf.trans h.buf⟩
  have hx := g.same
  rw [h.same] at hx
  exact hx

theorem mono (h : MovesCh c as m n) (hs : as ⊆ bs) : MovesCh c bs m n := ⟨h.same, fun a ha => h.regs a (fun hm => ha (hs hm)), h.qlen, h.queue, h.buf⟩

theorem setFld (h : MovesCh c as m n) {f : Fld} (v : Nat) (hf : besideQlen c as f) : MovesCh c as m (n.setFld f v) := by
  obtain ⟨hm, hw, hq⟩ := hf
  refine h.trans ⟨rfl, fun a ha => n.rget_setFld_ne f v (by rintro rfl; exact ha hm), ?_, rfl, rfl⟩
  refine n.fld_setFld_ne f _ v hw ?_
  have h2 : (R.MOV_CH_STAT_QLEN c).lsb = 2 ∧ (R.MOV_CH_STAT_QLEN c).width = 5 := ⟨rfl, rfl⟩
  rcases hq with hne | hlow | hhigh
  · exact .inl (Ne.symm hne)
  · exact .inr (.inr (by omega))
  · exact .inr (.inl (by omega))

theorem setRun (h : MovesCh c as m n) (r : Option MovRun) : MovesCh c as m (n.setMovCh c { n.movCh c with run := r }) :=
  h.trans ⟨rfl, fun _ _ => rfl, rfl, by rw [movCh_setMovCh_same], rfl⟩

theorem fld (h : MovesCh c as m n) {f : Fld} (hf : f.addr ∉ as) : n.fld f = m.fld f := by simp only [Mach.fld, h.regs _ hf]
theorem flag (h : MovesCh c as m n) {f : Fld} (hf : f.addr ∉ as) : n.flag f = m.flag f := by simp only [Mach.flag, h.fld hf]

end MovesCh

variable {c : Nat}

theorem startRegs_subset_runRegs : startRegs c ⊆ runRegs c := fun _ h => List.mem_cons_of_mem _ (List.mem_cons_of_mem _ h)

/-- The descriptors are those of a module with the same registers from 0xE4000 on. -/
theorem pdesc_congr {m n : Mach} (h : ∀ a, 0xE4000 ≤ a → n.rget a = m.rget a) (i : Nat) : n.pdesc i = m.pdesc i := by
  unfold Mach.pdesc Mach.fld
  rw [h (R.MOV_PDESC_SRC i).addr (by simp only [R.MOV_PDESC_SRC]; omega), h (R.MOV_PDESC_DST i).addr (by simp only [R.MOV_PDESC_DST]; omega),
    h (R.MOV_PDESC_LEN_LEN i).addr (by simp only [R.MOV_PDESC_LEN_LEN]; omega), h (R.MOV_PDESC_ROWS_ROWS i).addr (by simp only [R.MOV_PDESC_ROWS_ROWS]; omega),
    h (R.MOV_PDESC_STRIDE_SSTRIDE i).addr (by simp only [R.MOV_PDESC_STRIDE_SSTRIDE]; omega),
    h (R.MOV_PDESC_STRIDE_DSTRIDE i).addr (by simp only [R.MOV_PDESC_STRIDE_DSTRIDE]; omega),
    h (R.MOV_PDESC_MODE_MODE i).addr (by simp only [R.MOV_PDESC_MODE_MODE]; omega), h (R.MOV_PDESC_MODE_NEXT i).addr (by simp only [R.MOV_PDESC_MODE_NEXT]; omega),
    h (R.MOV_PDESC_FILL i).addr (by simp only [R.MOV_PDESC_FILL]; omega)]

/-- The registers a channel's progress shows lie below the descriptors. -/
theorem runRegs_lt (hc : c < 16) {a : Nat} (h : a ∈ runRegs c) : 0xE0000 ≤ a ∧ a < 0xE4000 := by
  simp only [runRegs, startRegs, List.mem_cons, List.not_mem_nil, or_false, R.MOV_CH_DONE, R.MOV_PRESV, R.MOV_STAT, R.MOV_CH_STAT, R.MOV_CH_DESC, R.MOV_CH_RESID,
    R.MOV_CH_ROWSLEFT, R.MOV_CH_ERRINFO, R.MOV_CH_DROP] at h
  omega

/-- A register of the channel at another offset than those its progress shows. -/
theorem notin_runRegs {a : Nat} (h : a = (R.MOV_CH_CTRL c).addr ∨ a = (R.MOV_CH_BYTES c).addr ∨ a = (R.MOV_CH_ERRADDR c).addr) : a ∉ runRegs c := by
  simp only [runRegs, startRegs, List.mem_cons, List.not_mem_nil, or_false, R.MOV_CH_DONE, R.MOV_PRESV, R.MOV_STAT, R.MOV_CH_STAT, R.MOV_CH_DESC, R.MOV_CH_RESID,
    R.MOV_CH_ROWSLEFT, R.MOV_CH_ERRINFO, R.MOV_CH_DROP, R.MOV_CH_CTRL, R.MOV_CH_BYTES, R.MOV_CH_ERRADDR] at h ⊢
  omega

theorem done_notin_startRegs : (R.MOV_CH_DONE c).addr ∉ startRegs c := by
  simp only [startRegs, List.mem_cons, List.not_mem_nil, or_false, R.MOV_CH_DONE, R.MOV_STAT, R.MOV_CH_STAT, R.MOV_CH_DESC, R.MOV_CH_RESID,
    R.MOV_CH_ROWSLEFT, R.MOV_CH_ERRINFO, R.MOV_CH_DROP]
  omega

namespace MovesCh

variable {m n : Mach}

theorem moveOnly (hc : c < 16) (h : MovesCh c (runRegs c) m n) : MoveOnly m n :=
  .of_own h.same (fun a ha => h.regs a (fun hm => ha (by have := runRegs_lt hc hm; omega)))

theorem pdesc (hc : c < 16) (h : MovesCh c (runRegs c) m n) (i : Nat) : n.pdesc i = m.pdesc i :=
  pdesc_congr (fun a ha => h.regs a (fun hm => by have := runRegs_lt hc hm; omega)) i

theorem noovl (h : MovesCh c (runRegs c) m n) : n.flag (R.MOV_CH_CTRL_NOOVL c) = m.flag (R.MOV_CH_CTRL_NOOVL c) :=
  h.flag (notin_runRegs (.inl rfl))

end MovesCh

variable (m : Mach)

/-! ### A channel's state (R505, R506) -/

/-- The bits of MOV.STAT that show a channel busy, and halted. -/
def movBusyBit (c : Nat) : Fld := ⟨R.MOV_STAT.addr, c, 1⟩
def movHaltBit (c : Nat) : Fld := ⟨R.MOV_STAT.addr, 16 + c, 1⟩

theorem movState_eq (s : Nat) :
    m.movState c s = ((m.setFld (R.MOV_CH_STAT_STATE c) s).setFld (movBusyBit c) (s == 1).toNat).setFld (movHaltBit c) (s == 2).toNat := rfl

/-- The state shown keeps every register but STAT of the channel and MOV.STAT, and of the former all behind the state. -/
theorem movState_fld (s : Nat) {f : Fld} (h : f.addr ≠ R.MOV_STAT.addr) (hs : f.addr ≠ (R.MOV_CH_STAT c).addr ∨ 2 ≤ f.lsb) : (m.movState c s).fld f = m.fld f := by
  rw [movState_eq, fld_setFld_of_addr_ne (f := movHaltBit c) _ _ h, fld_setFld_of_addr_ne (f := movBusyBit c) _ _ h,
    Mach.fld_setFld_ne _ (R.MOV_CH_STAT_STATE c) _ _ (by simp [R.MOV_CH_STAT_STATE]) (hs.imp_right .inr)]

theorem movState_flag (s : Nat) {f : Fld} (h : f.addr ≠ R.MOV_STAT.addr) (hs : f.addr ≠ (R.MOV_CH_STAT c).addr ∨ 2 ≤ f.lsb) : (m.movState c s).flag f = m.flag f :=
  congrArg (· != 0) (movState_fld m s h hs)

theorem chStat_ne_movStat (c : Nat) : (R.MOV_CH_STAT c).addr ≠ R.MOV_STAT.addr := by
  simp only [R.MOV_CH_STAT, R.MOV_STAT]
  omega

theorem movState_state (s : Nat) : (m.movState c s).fld (R.MOV_CH_STAT_STATE c) = s % 4 := by
  have h : (R.MOV_CH_STAT_STATE c).addr ≠ R.MOV_STAT.addr := chStat_ne_movStat c
  rw [movState_eq, fld_setFld_of_addr_ne (f := movHaltBit c) _ _ h, fld_setFld_of_addr_ne (f := movBusyBit c) _ _ h]
  exact Mach.fld_setFld_same _ _ _ (by simp [R.MOV_CH_STAT_STATE])

theorem showPresv_eq : m.showPresv = (m.setFld R.MOV_PRESV_CUR m.presvUse).maxFld R.MOV_PRESV_MAX m.presvUse := rfl

/-- The reserve shown keeps every other register (R508). -/
theorem showPresv_fld {f : Fld} (h : f.addr ≠ R.MOV_PRESV.addr) : m.showPresv.fld f = m.fld f := by
  rw [showPresv_eq, Mach.maxFld, fld_setFld_of_addr_ne (f := R.MOV_PRESV_MAX) _ _ h, fld_setFld_of_addr_ne (f := R.MOV_PRESV_CUR) m _ h]

theorem showPresv_flag {f : Fld} (h : f.addr ≠ R.MOV_PRESV.addr) : m.showPresv.flag f = m.flag f := congrArg (· != 0) (showPresv_fld m h)

theorem movState_mov (s : Nat) : (m.movState c s).mov = m.mov := by rw [movState_eq, Mach.setFld_mov, Mach.setFld_mov, Mach.setFld_mov]

theorem showPresv_mov : m.showPresv.mov = m.mov := by rw [showPresv_eq, Mach.maxFld, Mach.setFld_mov, Mach.setFld_mov]

/-- A field of another register than the channel's STAT. -/
theorem besideQlen_of_reg {as : List Nat} {f : Fld} (hm : f.addr ∈ as) (hw : f.lsb + f.width ≤ 32) (hs : f.addr ≠ (R.MOV_CH_STAT c).addr) : besideQlen c as f :=
  ⟨hm, hw, .inl hs⟩

theorem movesCh_movState (hc : c < 16) (s : Nat) : MovesCh c (startRegs c) m (m.movState c s) := by
  have hstate : besideQlen c (startRegs c) (R.MOV_CH_STAT_STATE c) := ⟨List.mem_cons_of_mem _ (List.mem_cons_self ..), by simp [R.MOV_CH_STAT_STATE], .inr (.inl (by simp [R.MOV_CH_STAT_STATE]))⟩
  have hbit : ∀ i, i < 32 → besideQlen c (startRegs c) ⟨R.MOV_STAT.addr, i, 1⟩ := fun i hi =>
    besideQlen_of_reg (List.mem_cons_self ..) (by dsimp only; omega) (chStat_ne_movStat c).symm
  rw [movState_eq]
  exact (((MovesCh.refl m).setFld s hstate).setFld _ (hbit c (by omega))).setFld _ (hbit (16 + c) (by omega))

theorem movesCh_showPresv : MovesCh c (runRegs c) m m.showPresv := by
  have hp : ∀ f : Fld, f.addr = R.MOV_PRESV.addr → f.lsb + f.width ≤ 32 → besideQlen c (runRegs c) f := fun f ha hw =>
    ⟨by simp [ha, runRegs], hw, .inl (by rw [ha]; simp only [R.MOV_PRESV, R.MOV_CH_STAT]; omega)⟩
  rw [showPresv_eq, Mach.maxFld]
  exact ((MovesCh.refl m).setFld _ (hp R.MOV_PRESV_CUR rfl (by decide))).setFld _ (hp R.MOV_PRESV_MAX rfl (by decide))

/-! ### The start of a descriptor (R502) -/

/-- The channel's register of the descriptor in hand shows index `i`. -/
def Mach.descShown (m : Mach) (c i : Nat) : Mach := (m.setFld (R.MOV_CH_DESC_INDEX c) i).setFlag (R.MOV_CH_DESC_PROG c) true

/-- The source of a COPY whose sides overlap, as it is before the descriptor runs (R504). -/
def Mach.copySource (m : Mach) (d : MovDesc) : Option (SMap Byte) :=
  if d.overlaps then some ((List.range d.srcSpan).foldl (fun b j => sset 0 b (d.src + j) (m.pbufByte (d.src + j))) []) else none

/-- Channel `c` runs the descriptor `d` with index `i` for the request `q`. -/
def Mach.descRuns (m : Mach) (c : Nat) (q : MovReq) (i : Nat) (d : MovDesc) : Mach :=
  (((m.setMovCh c { m.movCh c with run := some ⟨i, q, 0, 0, m.copySource d⟩ }).setFld (R.MOV_CH_RESID_BYTES c) d.len).setFld (R.MOV_CH_ROWSLEFT_ROWS c) (d.rows - 1)).movState c 1

theorem movesCh_descShown (i : Nat) : MovesCh c (startRegs c) m (m.descShown c i) := by
  have hd : ∀ f : Fld, f.addr = (R.MOV_CH_DESC c).addr → f.lsb + f.width ≤ 32 → besideQlen c (startRegs c) f := fun f ha hw =>
    ⟨by simp [ha, startRegs], hw, .inl (by rw [ha]; simp only [R.MOV_CH_DESC, R.MOV_CH_STAT]; omega)⟩
  exact ((MovesCh.refl m).setFld _ (hd (R.MOV_CH_DESC_INDEX c) rfl (by simp [R.MOV_CH_DESC_INDEX]))).setFld _ (hd (R.MOV_CH_DESC_PROG c) rfl (by simp [R.MOV_CH_DESC_PROG]))

theorem movesCh_movRefuse (code : Nat) : MovesCh c (startRegs c) m (m.movRefuse c code) := by
  have h1 : besideQlen c (startRegs c) (R.MOV_CH_ERRINFO_CODE c) := 
    besideQlen_of_reg (by simp [startRegs, R.MOV_CH_ERRINFO_CODE, R.MOV_CH_ERRINFO]) (by simp [R.MOV_CH_ERRINFO_CODE]) (by simp only [R.MOV_CH_ERRINFO_CODE, R.MOV_CH_STAT]; omega)
  have h2 : besideQlen c (startRegs c) (R.MOV_CH_STAT_REFUSED c) := 
    ⟨by simp [startRegs, R.MOV_CH_STAT_REFUSED, R.MOV_CH_STAT], by simp [R.MOV_CH_STAT_REFUSED], .inr (.inr (by simp [R.MOV_CH_STAT_REFUSED]))⟩
  have h3 : besideQlen c (startRegs c) (R.MOV_CH_DROP_REFUSED c) := 
    besideQlen_of_reg (by simp [startRegs, R.MOV_CH_DROP_REFUSED, R.MOV_CH_DROP]) (by simp [R.MOV_CH_DROP_REFUSED]) (by simp only [R.MOV_CH_DROP_REFUSED, R.MOV_CH_STAT]; omega)
  exact (((MovesCh.refl m).setFld _ h1).setFld _ h2).setFld _ h3

theorem movesCh_descRuns (hc : c < 16) (q : MovReq) (i : Nat) (d : MovDesc) : MovesCh c (startRegs c) m (m.descRuns c q i d) := by
  have h1 : besideQlen c (startRegs c) (R.MOV_CH_RESID_BYTES c) := 
    besideQlen_of_reg (by simp [startRegs, R.MOV_CH_RESID_BYTES, R.MOV_CH_RESID]) (by simp [R.MOV_CH_RESID_BYTES]) (by simp only [R.MOV_CH_RESID_BYTES, R.MOV_CH_STAT]; omega)
  have h2 : besideQlen c (startRegs c) (R.MOV_CH_ROWSLEFT_ROWS c) := 
    besideQlen_of_reg (by simp [startRegs, R.MOV_CH_ROWSLEFT_ROWS, R.MOV_CH_ROWSLEFT]) (by simp [R.MOV_CH_ROWSLEFT_ROWS]) (by simp only [R.MOV_CH_ROWSLEFT_ROWS, R.MOV_CH_STAT]; omega)
  exact ((((MovesCh.refl m).setRun _).setFld _ h1).setFld _ h2).trans (movesCh_movState _ hc 1)

theorem descShown_mov (i : Nat) : (m.descShown c i).mov = m.mov := by rw [Mach.descShown, Mach.setFlag_mov, Mach.setFld_mov]

theorem movRefuse_mov (code : Nat) : (m.movRefuse c code).mov = m.mov := by
  rw [Mach.movRefuse, Mach.satFld, Mach.setFld_mov, Mach.setFlag_mov, Mach.setFld_mov]

/-- A descriptor with an index beyond the 256 is refused with code 6 (R502). -/
theorem movStart_beyond (q : MovReq) {i : Nat} (h : 255 < i) : m.movStart c q i = (false, (m.descShown c i).movRefuse c 6) := by
  unfold Mach.movStart
  exact if_pos h

theorem movStart_within (q : MovReq) {i : Nat} (h : i ≤ 255) :
    m.movStart c q i = (((m.descShown c i).pdesc i).refusal ((m.descShown c i).flag (R.MOV_CH_CTRL_NOOVL c))).elim
      (true, (m.descShown c i).descRuns c q i ((m.descShown c i).pdesc i)) (fun code => (false, (m.descShown c i).movRefuse c code)) := by
  unfold Mach.movStart
  extract_lets n d buf n'
  rw [if_neg (by omega)]
  have hn : m.descShown c i = n := rfl
  rw [hn]
  split
  · next code hd => rw [hd]; rfl
  · next hd => rw [hd]; rfl

theorem movStart_of_refusal (hc : c < 16) (q : MovReq) {i code : Nat} (hi : i ≤ 255) (h : (m.pdesc i).refusal (m.flag (R.MOV_CH_CTRL_NOOVL c)) = some code) :
    m.movStart c q i = (false, (m.descShown c i).movRefuse c code) := by
  have hs : MovesCh c (runRegs c) m (m.descShown c i) := (movesCh_descShown m i).mono startRegs_subset_runRegs
  rw [movStart_within m q hi, hs.pdesc hc, hs.noovl, h, Option.elim_some]

theorem movStart_of_accepted (hc : c < 16) (q : MovReq) {i : Nat} (hi : i ≤ 255) (h : (m.pdesc i).refusal (m.flag (R.MOV_CH_CTRL_NOOVL c)) = none) :
    m.movStart c q i = (true, (m.descShown c i).descRuns c q i (m.pdesc i)) := by
  have hs : MovesCh c (runRegs c) m (m.descShown c i) := (movesCh_descShown m i).mono startRegs_subset_runRegs
  rw [movStart_within m q hi, hs.pdesc hc, hs.noovl, h, Option.elim_none]

theorem movesCh_movStart (hc : c < 16) (q : MovReq) (i : Nat) : MovesCh c (startRegs c) m (m.movStart c q i).2 := by
  by_cases hi : 255 < i
  · rw [movStart_beyond m q hi]
    exact (movesCh_descShown m i).trans (movesCh_movRefuse _ _)
  · cases h : (m.pdesc i).refusal (m.flag (R.MOV_CH_CTRL_NOOVL c)) with
    | none =>
      rw [movStart_of_accepted m hc q (by omega) h]
      exact (movesCh_descShown m i).trans (movesCh_descRuns _ hc q i _)
    | some code =>
      rw [movStart_of_refusal m hc q (by omega) h]
      exact (movesCh_descShown m i).trans (movesCh_movRefuse _ _)

/-- A refusal's code and flag are shown, and it counts (R502). -/
theorem movRefuse_shows {code : Nat} (h : code < 8) :
    (m.movRefuse c code).fld (R.MOV_CH_ERRINFO_CODE c) = code ∧ (m.movRefuse c code).flag (R.MOV_CH_STAT_REFUSED c) = true ∧
      (m.movRefuse c code).fld (R.MOV_CH_DROP_REFUSED c) = min (m.fld (R.MOV_CH_DROP_REFUSED c) + 1) (2 ^ 16 - 1) := by
  have h1 : (R.MOV_CH_ERRINFO_CODE c).addr ≠ (R.MOV_CH_STAT_REFUSED c).addr := by simp only [R.MOV_CH_ERRINFO_CODE, R.MOV_CH_STAT_REFUSED]; omega
  have h2 : (R.MOV_CH_ERRINFO_CODE c).addr ≠ (R.MOV_CH_DROP_REFUSED c).addr := by simp only [R.MOV_CH_ERRINFO_CODE, R.MOV_CH_DROP_REFUSED]; omega
  have h3 : (R.MOV_CH_STAT_REFUSED c).addr ≠ (R.MOV_CH_DROP_REFUSED c).addr := by simp only [R.MOV_CH_STAT_REFUSED, R.MOV_CH_DROP_REFUSED]; omega
  unfold Mach.movRefuse
  refine ⟨?_, ?_, ?_⟩
  · refine (fld_setFld_of_addr_ne _ _ h2).trans ((fld_setFld_of_addr_ne _ _ h1).trans ((Mach.fld_setFld_same _ _ _ (by simp [R.MOV_CH_ERRINFO_CODE])).trans ?_))
    exact Nat.mod_eq_of_lt h
  · exact (congrArg (· != 0) (fld_setFld_of_addr_ne _ _ h3)).trans (Mach.flag_setFlag_same _ _ _ (by simp [R.MOV_CH_STAT_REFUSED]) rfl)
  · have hkeep : ((m.setFld (R.MOV_CH_ERRINFO_CODE c) code).setFlag (R.MOV_CH_STAT_REFUSED c) true).fld (R.MOV_CH_DROP_REFUSED c) = m.fld (R.MOV_CH_DROP_REFUSED c) :=
      (fld_setFld_of_addr_ne _ _ h3.symm).trans (fld_setFld_of_addr_ne _ _ h2.symm)
    rw [fld_satFld_same _ _ (by simp [R.MOV_CH_DROP_REFUSED]), hkeep, R.MOV_CH_DROP_REFUSED]

theorem descRuns_does (q : MovReq) (i : Nat) (d : MovDesc) :
    ((m.descRuns c q i d).movCh c).run = some ⟨i, q, 0, 0, m.copySource d⟩ ∧ (m.descRuns c q i d).fld (R.MOV_CH_STAT_STATE c) = 1 ∧
      (m.descRuns c q i d).fld (R.MOV_CH_DESC_INDEX c) = m.fld (R.MOV_CH_DESC_INDEX c) := by
  refine ⟨?_, movState_state _ 1, ?_⟩
  · rw [Mach.descRuns, movCh_congr ((movState_mov _ 1).trans ((Mach.setFld_mov _ _ _).trans (Mach.setFld_mov _ _ _))), movCh_setMovCh_same]
  · have h1 : (R.MOV_CH_DESC_INDEX c).addr ≠ R.MOV_STAT.addr := by simp only [R.MOV_CH_DESC_INDEX, R.MOV_STAT]; omega
    have h2 : (R.MOV_CH_DESC_INDEX c).addr ≠ (R.MOV_CH_STAT c).addr := by simp only [R.MOV_CH_DESC_INDEX, R.MOV_CH_STAT]; omega
    have h3 : (R.MOV_CH_DESC_INDEX c).addr ≠ (R.MOV_CH_RESID_BYTES c).addr := by simp only [R.MOV_CH_DESC_INDEX, R.MOV_CH_RESID_BYTES]; omega
    have h4 : (R.MOV_CH_DESC_INDEX c).addr ≠ (R.MOV_CH_ROWSLEFT_ROWS c).addr := by simp only [R.MOV_CH_DESC_INDEX, R.MOV_CH_ROWSLEFT_ROWS]; omega
    exact (movState_fld _ 1 h1 (.inl h2)).trans ((fld_setFld_of_addr_ne _ _ h4).trans (fld_setFld_of_addr_ne _ _ h3))

theorem descShown_index {i : Nat} (h : i ≤ 255) : (m.descShown c i).fld (R.MOV_CH_DESC_INDEX c) = i := by
  refine (Mach.fld_setFld_ne _ _ _ _ (by simp [R.MOV_CH_DESC_PROG]) (.inr (.inl (by simp [R.MOV_CH_DESC_INDEX, R.MOV_CH_DESC_PROG])))).trans ?_
  refine (Mach.fld_setFld_same _ _ _ (by simp [R.MOV_CH_DESC_INDEX])).trans (Nat.mod_eq_of_lt ?_)
  simp only [R.MOV_CH_DESC_INDEX]
  omega

end Sys2Proof.Machine
end

section
/-!
SUPPORT. A burst of the move engine (R497–R504): the bytes it moves, and how its descriptor goes on.
-/
namespace Sys2Proof.Machine
open Sys2Proof

variable (m : Mach) {c : Nat} {r : MovRun}

/-! ### The bytes of a burst (R501) -/

theorem foldM_concat {α : Type} (xs : List α) (y : α) (f : α → Mach → Mach) : foldM (xs ++ [y]) f m = f y (foldM xs f m) := by simp [foldM]

/-- Writing `g` of 0, 1, … to the program buffer from an address on. -/
theorem foldM_pbufSet (g : Nat → Byte) (b k : Nat) :
    ∃ p, foldM ((List.range k).zip ((List.range k).map g)) (fun x n => n.pbufSet (b + x.1) x.2) m = { m with mov := { m.mov with pbuf := p } } ∧
      ∀ a, sget 0 p a = if b ≤ a ∧ a < b + k then g (a - b) else m.pbufByte a := by
  have hzip : ∀ j, (List.range j).zip ((List.range j).map g) = (List.range j).map (fun i => (i, g i)) := fun j => by
    simpa using List.zip_map' (f := id) (g := g) (l := List.range j)
  rw [hzip]
  induction k with
  | zero => exact ⟨m.mov.pbuf, rfl, fun a => by rw [if_neg (by omega)]; rfl⟩
  | succ k ih =>
    obtain ⟨p, hp, hget⟩ := ih
    refine ⟨sset 0 p (b + k) (g k), ?_, fun a => ?_⟩
    · rw [List.range_succ, List.map_append, List.map_singleton, foldM_concat, hp]
      rfl
    · by_cases ha : a = b + k
      · rw [ha, sget_sset_same, if_pos (by omega), Nat.add_sub_cancel_left]
      · rw [sget_sset_ne _ _ _ _ ha, hget]
        exact if_congr (by omega) rfl rfl

/-- How many bytes of the descriptor `d` a burst moves from position `p` on. -/
def MovDesc.burst (d : MovDesc) (p : Nat) : Nat := min 64 (d.len - p)

/-- The burst of the run `r` has written its bytes, and they count. -/
def Mach.bytesMoved (m : Mach) (c : Nat) (r : MovRun) : Mach :=
  let d := m.pdesc r.index
  let t := d.dst + r.row * d.dstride
  let at_ := d.dstOf r.pos (d.burst r.pos)
  let bs := (List.range at_.2).map (fun j => m.movDst r d (d.src + r.row * d.sstride) t (at_.1 + j))
  (foldM ((List.range at_.2).zip bs) (fun x n => n.pbufSet (t + at_.1 + x.1) x.2) m).addFld (R.MOV_CH_BYTES c) (d.burst r.pos)

/-- Beside the buffer only the count of bytes has changed. -/
structure BytesOnly (c : Nat) (m n : Mach) : Prop where
  same : n = { m with regs := n.regs, mov := { m.mov with pbuf := n.mov.pbuf } }
  regs : ∀ a, a ≠ (R.MOV_CH_BYTES c).addr → n.rget a = m.rget a

theorem bytesMoved_does (r : MovRun) :
    let d := m.pdesc r.index
    let t := d.dst + r.row * d.dstride
    let at_ := d.dstOf r.pos (d.burst r.pos)
    BytesOnly c m (m.bytesMoved c r) ∧ (m.bytesMoved c r).fld (R.MOV_CH_BYTES c) = (m.fld (R.MOV_CH_BYTES c) + d.burst r.pos) % 2 ^ 32 ∧
      ∀ a, (m.bytesMoved c r).pbufByte a = if t + at_.1 ≤ a ∧ a < t + at_.1 + at_.2 then m.movDst r d (d.src + r.row * d.sstride) t (at_.1 + (a - (t + at_.1))) else m.pbufByte a := by
  intro d t at_
  obtain ⟨p, hp, hget⟩ := foldM_pbufSet m (fun j => m.movDst r d (d.src + r.row * d.sstride) t (at_.1 + j)) (t + at_.1) at_.2
  have heq : m.bytesMoved c r = ({ m with mov := { m.mov with pbuf := p } } : Mach).addFld (R.MOV_CH_BYTES c) (d.burst r.pos) := by
    rw [← hp]
    rfl
  rw [heq]
  refine ⟨⟨rfl, fun a ha => ?_⟩, ?_, hget⟩
  · exact Mach.rget_setFld_ne _ _ _ ha
  · exact fld_addFld_same _ _ (by simp [R.MOV_CH_BYTES])

namespace BytesOnly

variable {m n : Mach}

theorem moveOnly (hc : c < 16) (h : BytesOnly c m n) : MoveOnly m n := by
  refine .of_own ?_ (fun a ha => h.regs a (fun hm => ha ?_))
  · rw [h.same]
  · rw [hm]
    simp only [R.MOV_CH_BYTES]
    omega

theorem fld (h : BytesOnly c m n) {f : Fld} (hf : f.addr ≠ (R.MOV_CH_BYTES c).addr) : n.fld f = m.fld f := by simp only [Mach.fld, h.regs _ hf]

theorem movCh (h : BytesOnly c m n) (k : Nat) : n.movCh k = m.movCh k := by
  rw [h.same]
  rfl

theorem pdesc (hc : c < 16) (h : BytesOnly c m n) (i : Nat) : n.pdesc i = m.pdesc i :=
  pdesc_congr (fun a ha => h.regs a (fun hm => by rw [hm] at ha; simp only [R.MOV_CH_BYTES] at ha; omega)) i

end BytesOnly

/-! ### The end of a descriptor (R500) -/

/-- Channel `c` has moved its descriptor, and it counts. -/
def Mach.descDone (m : Mach) (c : Nat) : Mach := ((m.addFld (R.MOV_CH_DONE c) 1).setMovCh c { m.movCh c with run := none }).movState c 0

theorem movDone_last {d : MovDesc} (h : d.next = 0xFFFF) : m.movDone c r d = (m.descDone c).showPresv := by
  unfold Mach.movDone
  extract_lets n
  rw [if_pos h]
  rfl

theorem movDone_next {d : MovDesc} (h : d.next ≠ 0xFFFF) : m.movDone c r d = ((m.descDone c).movStart c r.req d.next).2.showPresv := by
  unfold Mach.movDone
  extract_lets n
  rw [if_neg h]
  rfl

theorem descDone_does :
    ((m.descDone c).movCh c).run = none ∧ (m.descDone c).fld (R.MOV_CH_STAT_STATE c) = 0 ∧ (m.descDone c).fld (R.MOV_CH_DONE c) = (m.fld (R.MOV_CH_DONE c) + 1) % 2 ^ 32 := by
  have h1 : (R.MOV_CH_DONE c).addr ≠ R.MOV_STAT.addr := by simp only [R.MOV_CH_DONE, R.MOV_STAT]; omega
  have h2 : (R.MOV_CH_DONE c).addr ≠ (R.MOV_CH_STAT c).addr := by simp only [R.MOV_CH_DONE, R.MOV_CH_STAT]; omega
  refine ⟨?_, movState_state _ 0, (movState_fld _ 0 h1 (.inl h2)).trans ?_⟩
  · rw [Mach.descDone, movCh_congr (movState_mov _ 0), movCh_setMovCh_same]
  · exact fld_addFld_same m 1 (by simp [R.MOV_CH_DONE])

theorem descDone_resid : (m.descDone c).fld (R.MOV_CH_RESID_BYTES c) = m.fld (R.MOV_CH_RESID_BYTES c) := by
  have h1 : (R.MOV_CH_RESID_BYTES c).addr ≠ R.MOV_STAT.addr := by simp only [R.MOV_CH_RESID_BYTES, R.MOV_STAT]; omega
  have h2 : (R.MOV_CH_RESID_BYTES c).addr ≠ (R.MOV_CH_STAT c).addr := by simp only [R.MOV_CH_RESID_BYTES, R.MOV_CH_STAT]; omega
  have h3 : (R.MOV_CH_RESID_BYTES c).addr ≠ (R.MOV_CH_DONE c).addr := by simp only [R.MOV_CH_RESID_BYTES, R.MOV_CH_DONE]; omega
  exact (movState_fld _ 0 h1 (.inl h2)).trans (fld_addFld_of_addr_ne m 1 h3)

theorem movesCh_descDone (hc : c < 16) : MovesCh c (runRegs c) m (m.descDone c) := by
  have h1 : besideQlen c (runRegs c) (R.MOV_CH_DONE c) :=
    besideQlen_of_reg (List.mem_cons_self ..) (by simp [R.MOV_CH_DONE]) (by simp only [R.MOV_CH_DONE, R.MOV_CH_STAT]; omega)
  exact (((MovesCh.refl m).setFld _ h1).setRun none).trans ((movesCh_movState _ hc 0).mono startRegs_subset_runRegs)

theorem movesCh_movDone (hc : c < 16) (r : MovRun) (d : MovDesc) : MovesCh c (runRegs c) m (m.movDone c r d) := by
  have hdone := movesCh_descDone m hc
  by_cases h : d.next = 0xFFFF
  · rw [movDone_last m h]
    exact hdone.trans (movesCh_showPresv _)
  · rw [movDone_next m h]
    exact (hdone.trans ((movesCh_movStart _ hc r.req d.next).mono startRegs_subset_runRegs)).trans (movesCh_showPresv _)

/-! ### How a descriptor goes on after a burst (R501) -/

/-- No byte of the burst is read in vain: none is bad, or the descriptor reads none of the DRAM (R505). -/
def Mach.burstReads (m : Mach) (r : MovRun) (bad : Option Nat) : Prop := bad = none ∨ (m.pdesc r.index).kind = 1 ∨ inView (m.pdesc r.index).src = true

/-- Channel `c` runs on as `r`, with `left` bytes of its row to move. -/
def Mach.runsOn (m : Mach) (c : Nat) (r : MovRun) (left : Nat) : Mach :=
  (m.setMovCh c { m.movCh c with run := some r }).setFld (R.MOV_CH_RESID_BYTES c) left

/-- The run `r` of the descriptor `d` goes on behind the bytes of a burst: in its row, with the next one, or with the descriptor's end. -/
def Mach.goesOn (m : Mach) (c : Nat) (r : MovRun) (d : MovDesc) : Mach :=
  let left := d.len - r.pos - d.burst r.pos
  if left = 0 then
    if r.row + 1 < d.rows then (m.runsOn c { r with row := r.row + 1, pos := 0 } d.len).setFld (R.MOV_CH_ROWSLEFT_ROWS c) (d.rows - r.row - 2)
    else (m.setFld (R.MOV_CH_RESID_BYTES c) 0).movDone c r d
  else m.runsOn c { r with pos := r.pos + d.burst r.pos } left

variable {bad : Option Nat}

theorem movBurst_reads (hrun : (m.movCh c).run = some r) (hb : m.burstReads r bad) :
    m.movBurst c bad = (m.bytesMoved c r).goesOn c r (m.pdesc r.index) := by
  have hnone : (if (m.pdesc r.index).kind = 1 ∨ inView (m.pdesc r.index).src = true then none else bad) = none := by
    rcases hb with hb | hb
    · rw [hb, ite_self]
    · rw [if_pos hb]
  unfold Mach.movBurst
  rw [hrun]
  dsimp only
  rw [hnone]
  rfl

theorem pdesc_widths (i : Nat) : (m.pdesc i).len < 2 ^ 24 ∧ (m.pdesc i).rows < 2 ^ 16 :=
  ⟨fld_lt m (R.MOV_PDESC_LEN_LEN i), fld_lt m (R.MOV_PDESC_ROWS_ROWS i)⟩

theorem runsOn_does (r : MovRun) {left : Nat} (h : left < 2 ^ 24) :
    ((m.runsOn c r left).movCh c).run = some r ∧ (m.runsOn c r left).fld (R.MOV_CH_RESID_BYTES c) = left := by
  refine ⟨?_, (Mach.fld_setFld_same _ _ _ (by simp [R.MOV_CH_RESID_BYTES])).trans (Nat.mod_eq_of_lt h)⟩
  rw [Mach.runsOn, movCh_congr (Mach.setFld_mov _ _ _), movCh_setMovCh_same]

theorem besideQlen_resid : besideQlen c (runRegs c) (R.MOV_CH_RESID_BYTES c) :=
  besideQlen_of_reg (by simp [runRegs, startRegs, R.MOV_CH_RESID_BYTES, R.MOV_CH_RESID]) (by simp [R.MOV_CH_RESID_BYTES])
    (by simp only [R.MOV_CH_RESID_BYTES, R.MOV_CH_STAT]; omega)

theorem movesCh_runsOn (r : MovRun) (left : Nat) : MovesCh c (runRegs c) m (m.runsOn c r left) := ((MovesCh.refl m).setRun _).setFld _ besideQlen_resid

theorem movesCh_goesOn (hc : c < 16) (r : MovRun) (d : MovDesc) : MovesCh c (runRegs c) m (m.goesOn c r d) := by
  have hrows : besideQlen c (runRegs c) (R.MOV_CH_ROWSLEFT_ROWS c) :=
    besideQlen_of_reg (by simp [runRegs, startRegs, R.MOV_CH_ROWSLEFT_ROWS, R.MOV_CH_ROWSLEFT]) (by simp [R.MOV_CH_ROWSLEFT_ROWS])
      (by simp only [R.MOV_CH_ROWSLEFT_ROWS, R.MOV_CH_STAT]; omega)
  unfold Mach.goesOn
  extract_lets left
  split
  · split
    · exact (movesCh_runsOn m _ _).setFld _ hrows
    · exact ((MovesCh.refl m).setFld _ besideQlen_resid).trans (movesCh_movDone _ hc r d)
  · exact movesCh_runsOn m _ _

variable {d : MovDesc}

/-- The burst ends within a row. -/
theorem goesOn_part (h : d.burst r.pos < d.len - r.pos) : m.goesOn c r d = m.runsOn c { r with pos := r.pos + d.burst r.pos } (d.len - r.pos - d.burst r.pos) := by
  unfold Mach.goesOn
  exact if_neg (by omega)

/-- The burst ends a row that is not the last. -/
theorem goesOn_row (h : d.len - r.pos ≤ d.burst r.pos) (hr : r.row + 1 < d.rows) :
    m.goesOn c r d = (m.runsOn c { r with row := r.row + 1, pos := 0 } d.len).setFld (R.MOV_CH_ROWSLEFT_ROWS c) (d.rows - r.row - 2) := by
  unfold Mach.goesOn
  extract_lets left
  rw [if_pos (by omega), if_pos hr]

/-- The burst ends the last row. -/
theorem goesOn_end (h : d.len - r.pos ≤ d.burst r.pos) (hr : d.rows ≤ r.row + 1) : m.goesOn c r d = (m.setFld (R.MOV_CH_RESID_BYTES c) 0).movDone c r d := by
  unfold Mach.goesOn
  extract_lets left
  rw [if_pos (by omega), if_neg (by omega)]

theorem goesOn_row_does (h : d.len - r.pos ≤ d.burst r.pos) (hr : r.row + 1 < d.rows) (hl : d.len < 2 ^ 24) (hw : d.rows < 2 ^ 16) :
    ((m.goesOn c r d).movCh c).run = some { r with row := r.row + 1, pos := 0 } ∧ (m.goesOn c r d).fld (R.MOV_CH_RESID_BYTES c) = d.len ∧
      (m.goesOn c r d).fld (R.MOV_CH_ROWSLEFT_ROWS c) = d.rows - r.row - 2 := by
  obtain ⟨hrun, hresid⟩ := runsOn_does m (c := c) { r with row := r.row + 1, pos := 0 } hl
  have hne : (R.MOV_CH_RESID_BYTES c).addr ≠ (R.MOV_CH_ROWSLEFT_ROWS c).addr := by simp only [R.MOV_CH_RESID_BYTES, R.MOV_CH_ROWSLEFT_ROWS]; omega
  rw [goesOn_row m h hr]
  refine ⟨hrun, (fld_setFld_of_addr_ne _ _ hne).trans hresid, ?_⟩
  exact (Mach.fld_setFld_same _ _ _ (by simp [R.MOV_CH_ROWSLEFT_ROWS])).trans (Nat.mod_eq_of_lt (by simp only [R.MOV_CH_ROWSLEFT_ROWS]; omega))

theorem movDone_counts (hc : c < 16) : (m.movDone c r d).fld (R.MOV_CH_DONE c) = (m.fld (R.MOV_CH_DONE c) + 1) % 2 ^ 32 := by
  have hp : (R.MOV_CH_DONE c).addr ≠ R.MOV_PRESV.addr := by simp only [R.MOV_CH_DONE, R.MOV_PRESV]; omega
  obtain ⟨-, -, hdone⟩ := descDone_does m (c := c)
  by_cases h : d.next = 0xFFFF
  · rw [movDone_last m h, showPresv_fld _ hp, hdone]
  · rw [movDone_next m h, showPresv_fld _ hp, (movesCh_movStart _ hc r.req d.next).fld done_notin_startRegs, hdone]

theorem presv_ne_ch {f : Fld} (h : 0xE0100 ≤ f.addr) : f.addr ≠ R.MOV_PRESV.addr := by
  simp only [R.MOV_PRESV]
  omega

/-- The last descriptor of a chain leaves its channel idle. -/
theorem movDone_last_does (h : d.next = 0xFFFF) :
    ((m.movDone c r d).movCh c).run = none ∧ (m.movDone c r d).fld (R.MOV_CH_STAT_STATE c) = 0 ∧
      (m.movDone c r d).fld (R.MOV_CH_RESID_BYTES c) = m.fld (R.MOV_CH_RESID_BYTES c) := by
  obtain ⟨hrun, hst, -⟩ := descDone_does m (c := c)
  rw [movDone_last m h, movCh_congr (showPresv_mov _), showPresv_fld _ (presv_ne_ch (by simp only [R.MOV_CH_STAT_STATE]; omega)),
    showPresv_fld _ (presv_ne_ch (by simp only [R.MOV_CH_RESID_BYTES]; omega))]
  exact ⟨hrun, hst, descDone_resid m⟩

/-- A chain that goes on beyond the descriptors is refused with code 6. -/
theorem movDone_beyond_does (h : 255 < d.next) (hn : d.next ≠ 0xFFFF) :
    ((m.movDone c r d).movCh c).run = none ∧ (m.movDone c r d).fld (R.MOV_CH_ERRINFO_CODE c) = 6 ∧ (m.movDone c r d).flag (R.MOV_CH_STAT_REFUSED c) = true := by
  obtain ⟨hrun, -, -⟩ := descDone_does m (c := c)
  obtain ⟨hcode, href, -⟩ := movRefuse_shows (c := c) ((m.descDone c).descShown c d.next) (show 6 < 8 by decide)
  rw [movDone_next m hn, movStart_beyond _ _ h, movCh_congr (showPresv_mov _), showPresv_fld _ (presv_ne_ch (by simp only [R.MOV_CH_ERRINFO_CODE]; omega)),
    showPresv_flag _ (presv_ne_ch (by simp only [R.MOV_CH_STAT_REFUSED]; omega))]
  refine ⟨?_, hcode, href⟩
  rw [movCh_congr ((movRefuse_mov _ 6).trans (descShown_mov _ _)), hrun]

/-- A chain goes on with its next descriptor when that is accepted. -/
theorem movDone_next_does (hc : c < 16) (h : d.next ≤ 255) (ha : (m.pdesc d.next).refusal (m.flag (R.MOV_CH_CTRL_NOOVL c)) = none) :
    (m.movDone c r d).fld (R.MOV_CH_STAT_STATE c) = 1 ∧ (m.movDone c r d).fld (R.MOV_CH_DESC_INDEX c) = d.next ∧
      ∃ q, ((m.movDone c r d).movCh c).run = some q ∧ q.index = d.next ∧ q.req = r.req ∧ q.row = 0 ∧ q.pos = 0 := by
  have hd := movesCh_descDone m hc
  rw [← hd.pdesc hc, ← hd.noovl] at ha
  obtain ⟨hrun, hst, hidx⟩ := descRuns_does (c := c) ((m.descDone c).descShown c d.next) r.req d.next ((m.descDone c).pdesc d.next)
  rw [descShown_index _ h] at hidx
  rw [movDone_next m (by omega), movStart_of_accepted _ hc _ h ha, movCh_congr (showPresv_mov _),
    showPresv_fld _ (presv_ne_ch (by simp only [R.MOV_CH_STAT_STATE]; omega)), showPresv_fld _ (presv_ne_ch (by simp only [R.MOV_CH_DESC_INDEX]; omega))]
  exact ⟨hst, hidx, _, hrun, rfl, rfl, rfl, rfl⟩

end Sys2Proof.Machine
end

section
/-!
PROOF. The move engine: request lines, bursts and the commands on a channel (O48).
-/
namespace Sys2Proof.Machine
open Sys2Proof

variable (m : Mach) {c : Nat}

/-! ### Request lines (R494, R498) -/

/-- The requests waiting on a channel, and whether it had too many, after another one. -/
def requested (x : Nat × Bool) : Nat × Bool := if 63 ≤ x.1 then (x.1, true) else ((x.1 + 1) % 64, x.2)

/-- The requests that wait on channel `c`, and whether it had too many. -/
def Mach.waiting (m : Mach) (c : Nat) : Nat × Bool := (m.fld (R.MOV_CH_STAT_PEND c), m.flag (R.MOV_CH_STAT_REQOVF c))

theorem movRequest_waiting : (m.movRequest c).waiting c = requested (m.waiting c) := by
  unfold Mach.movRequest requested Mach.waiting
  by_cases h : 63 ≤ m.fld (R.MOV_CH_STAT_PEND c)
  · rw [if_pos h, if_pos h]
    refine Prod.ext ?_ (Mach.flag_setFlag_same _ _ _ (by simp [R.MOV_CH_STAT_REQOVF]) rfl)
    exact Mach.fld_setFld_ne _ _ _ _ (by simp [R.MOV_CH_STAT_REQOVF]) (.inr (.inr (by simp [R.MOV_CH_STAT_REQOVF, R.MOV_CH_STAT_PEND])))
  · rw [if_neg h, if_neg h]
    refine Prod.ext (fld_addFld_same _ _ (by simp [R.MOV_CH_STAT_PEND])) ?_
    exact Mach.flag_setFld_ne _ _ (by simp [R.MOV_CH_STAT_PEND]) (.inr (.inl (by simp [R.MOV_CH_STAT_REQOVF, R.MOV_CH_STAT_PEND])))

theorem Regs.trans {a b x : Mach} {as : List Nat} (h : Regs a b as) (g : Regs b x as) : Regs a x as := by
  refine ⟨?_, fun y hy => (g.regs y hy).trans (h.regs y hy)⟩
  have hx := g.same
  rw [h.same] at hx
  exact hx

theorem Regs.mono {a b : Mach} {as bs : List Nat} (h : Regs a b as) (hs : as ⊆ bs) : Regs a b bs := ⟨h.same, fun y hy => h.regs y (fun hm => hy (hs hm))⟩

theorem regs_setFld (f : Fld) (v : Nat) : Regs m (m.setFld f v) [f.addr] := ⟨rfl, fun _ ha => m.rget_setFld_ne f v (List.ne_of_not_mem_cons ha)⟩

theorem MoveOnly.of_regs {a b : Mach} {as : List Nat} (h : Regs a b as) (ha : ∀ y ∈ as, 0xE0000 ≤ y ∧ y < 0xF0000) : MoveOnly a b := by
  refine .of_own ?_ (fun y hy => h.regs y (fun hm => hy (ha y hm)))
  rw [h.same]

theorem movRequest_regs : Regs m (m.movRequest c) [(R.MOV_CH_STAT c).addr] := by
  unfold Mach.movRequest
  split
  · exact regs_setFld m (R.MOV_CH_STAT_REQOVF c) _
  · exact regs_setFld m (R.MOV_CH_STAT_PEND c) _

theorem chStat_inj {k : Nat} (h : k ≠ c) : (R.MOV_CH_STAT c).addr ≠ (R.MOV_CH_STAT k).addr := by
  simp only [R.MOV_CH_STAT]
  omega

theorem movRequest_waiting_ne {k : Nat} (h : k ≠ c) : (m.movRequest k).waiting c = m.waiting c := by
  have hr := (movRequest_regs m (c := k)).regs (R.MOV_CH_STAT c).addr (by simpa using chStat_inj h)
  have hf : ∀ f : Fld, f.addr = (R.MOV_CH_STAT c).addr → (m.movRequest k).fld f = m.fld f := fun f ha => by simp only [Mach.fld, ha, hr]
  exact Prod.ext (hf _ rfl) (congrArg (· != 0) (hf _ rfl))

theorem lineChannels_nodup (l : Nat) : (lineChannels l).Nodup := by
  unfold lineChannels
  split <;> decide

/-- A rising request line adds a request to each of its channels. -/
theorem requestLine_waiting {l : Nat} (h : c ∈ lineChannels l) : (m.requestLine l).waiting c = requested (m.waiting c) :=
  foldM_of_mem (fun n => n.waiting c) requested (fun k n => n.movRequest k) h (lineChannels_nodup l) (fun n => movRequest_waiting n)
    (fun _ _ hk n => movRequest_waiting_ne n hk) m

theorem requestLine_regs (l : Nat) : Regs m (m.requestLine l) ((lineChannels l).map (fun c => (R.MOV_CH_STAT c).addr)) := by
  refine foldM_inv (fun n => Regs m n ((lineChannels l).map (fun c => (R.MOV_CH_STAT c).addr))) _ _ (fun k hk n hn => ?_) m ⟨rfl, fun _ _ => rfl⟩
  refine hn.trans ((movRequest_regs n).mono (fun a ha => ?_))
  rw [List.mem_singleton.mp ha]
  exact List.mem_map_of_mem hk

theorem requestLine_does {l : Nat} (h : c ∈ lineChannels l) :
    if m.fld (R.MOV_CH_STAT_PEND c) = 63 then (m.requestLine l).flag (R.MOV_CH_STAT_REQOVF c) = true ∧ (m.requestLine l).fld (R.MOV_CH_STAT_PEND c) = 63
      else (m.requestLine l).fld (R.MOV_CH_STAT_PEND c) = m.fld (R.MOV_CH_STAT_PEND c) + 1 := by
  have hlt : m.fld (R.MOV_CH_STAT_PEND c) < 64 := fld_lt m _
  have hw := requestLine_waiting m h
  unfold Mach.waiting requested at hw
  split
  · next h63 =>
    rw [if_pos (by omega)] at hw
    exact ⟨congrArg Prod.snd hw, (congrArg Prod.fst hw).trans h63⟩
  · next h63 =>
    rw [if_neg (by omega)] at hw
    exact (congrArg Prod.fst hw).trans (Nat.mod_eq_of_lt (by dsimp only; omega))

/-! ### The burst of channel 0 (R227, R228) -/

/-- The event unit with another ring, and another account of what the retained journal is to take. -/
def EvUnit.ringed (x : EvUnit) (ring pend : List JEntry) (lost lostT : Nat) : EvUnit := { x with ring := ring, rjPend := pend, ringLost := lost, ringLostT := lostT }

/-- A ring with room takes the entries behind its own. -/
theorem ringPut_room {es : List JEntry} (h : m.ev.ring.length + es.length ≤ 1048576) :
    ∃ pend lost lostT, m.ringPut es = { m with ev := m.ev.ringed (m.ev.ring ++ es) pend lost lostT } := by
  unfold Mach.ringPut
  generalize 1048576 = size at h ⊢
  extract_lets full gone pend lost ev n
  have hlen : full.length - size = 0 := by
    rw [List.length_append]
    omega
  have hgone : gone = [] := by simp only [gone, hlen, List.take_zero]
  have hlost : lost = [] := by simp [lost, hgone]
  have hn : n = { m with ev := m.ev.ringed (full.drop (full.length - size)) n.ev.rjPend n.ev.ringLost n.ev.ringLostT } := rfl
  rw [if_pos (by rw [hlost]; rfl), hn, hlen, List.drop_zero]
  exact ⟨_, _, _, rfl⟩

theorem movWinner_wants (h : m.movWinner = some c) : m.movWants c = true ∧ c < 16 := by
  have hmem : c ∈ (List.range 16).filter m.movWants := by
    unfold Mach.movWinner at h
    extract_lets cs ps at h
    split at h
    · exact List.mem_of_mem_filter (List.mem_of_mem_head? h)
    · exact List.mem_of_mem_head? h
  obtain ⟨hlt, hw⟩ := List.mem_filter.mp hmem
  exact ⟨hw, List.mem_range.mp hlt⟩

/-- Channel 0 has served a request with `k` entries. -/
def Mach.journalServed (m : Mach) (k : Nat) : Mach := (m.addFld (R.MOV_CH_STAT_PEND 0) (2 ^ 6 - 1)).addFld (R.MOV_CH_BYTES 0) (16 * k)

theorem journalServed_does (k : Nat) (hpend : m.fld (R.MOV_CH_STAT_PEND 0) ≠ 0) :
    MoveOnly m (m.journalServed k) ∧ (m.journalServed k).ev = m.ev ∧ (m.journalServed k).fld (R.MOV_CH_STAT_PEND 0) = m.fld (R.MOV_CH_STAT_PEND 0) - 1 ∧
      (m.journalServed k).fld (R.MOV_CH_BYTES 0) = (m.fld (R.MOV_CH_BYTES 0) + 16 * k) % 2 ^ 32 := by
  have hlt : m.fld (R.MOV_CH_STAT_PEND 0) < 64 := fld_lt m _
  have hregs : Regs m (m.journalServed k) [(R.MOV_CH_STAT_PEND 0).addr, (R.MOV_CH_BYTES 0).addr] := by
    rw [Mach.journalServed, Mach.addFld, Mach.addFld]
    exact ((regs_setFld m (R.MOV_CH_STAT_PEND 0) _).mono (by simp)).trans ((regs_setFld _ (R.MOV_CH_BYTES 0) _).mono (by simp))
  refine ⟨.of_regs hregs (by simp [R.MOV_CH_STAT_PEND, R.MOV_CH_BYTES]), by rw [hregs.same], ?_, ?_⟩
  · rw [Mach.journalServed, fld_addFld_of_addr_ne (g := R.MOV_CH_STAT_PEND 0) _ _ (by decide), fld_addFld_same _ _ (by decide)]
    simp only [R.MOV_CH_STAT_PEND] at hlt hpend ⊢
    omega
  · rw [Mach.journalServed, fld_addFld_same _ _ (by decide), fld_addFld_of_addr_ne (g := R.MOV_CH_BYTES 0) _ _ (by decide)]
    simp only [R.MOV_CH_BYTES]

theorem movJournal_eq : m.movJournal =
    ({ m.journalServed (m.ev.fifo.take 4).length with ev := { m.ev with fifo := m.ev.fifo.drop 4 } } : Mach).ringPut (m.ev.fifo.take 4) := rfl

theorem movJournal_does (hroom : m.ev.ring.length + 4 ≤ 1048576) (hpend : m.fld (R.MOV_CH_STAT_PEND 0) ≠ 0) :
    MoveOnly m m.movJournal ∧ m.movJournal.ev.fifo = m.ev.fifo.drop 4 ∧ m.movJournal.ev.ring = m.ev.ring ++ m.ev.fifo.take 4 ∧
      m.movJournal.fld (R.MOV_CH_STAT_PEND 0) = m.fld (R.MOV_CH_STAT_PEND 0) - 1 ∧
      m.movJournal.fld (R.MOV_CH_BYTES 0) = (m.fld (R.MOV_CH_BYTES 0) + 16 * (m.ev.fifo.take 4).length) % 2 ^ 32 := by
  obtain ⟨honly, -, hleft, hbytes⟩ := journalServed_does m (m.ev.fifo.take 4).length hpend
  rw [movJournal_eq]
  generalize m.journalServed (m.ev.fifo.take 4).length = n at honly hleft hbytes
  obtain ⟨pend, lost, lostT, heq⟩ := ringPut_room { n with ev := { m.ev with fifo := m.ev.fifo.drop 4 } } (es := m.ev.fifo.take 4) (by
    have h4 : (m.ev.fifo.take 4).length ≤ 4 := List.length_take_le _ _
    dsimp only
    omega)
  rw [heq]
  exact ⟨honly.trans (.of_rest (Rest.evRec n _)), rfl, rfl, hleft, hbytes⟩

/-! ### A burst boundary (R499) -/

/-- A burst has been counted for the turn of the program channels. -/
def Mach.burstCounted (m : Mach) : Mach := { m with mov := { m.mov with bursts := m.mov.bursts + 1 } }

theorem moveOnly_burstCounted : MoveOnly m m.burstCounted := .of_own rfl (fun _ _ => rfl)

variable {r : MovRun} {bad : Option Nat}

theorem movBoundary_journal (h : m.movWinner = some 0) : m.movBoundary bad = m.burstCounted.movJournal := by
  unfold Mach.movBoundary
  rw [h]
  dsimp only
  rw [if_pos rfl, ← Mach.burstCounted]

theorem movBoundary_runs (h : m.movWinner = some c) (h0 : c ≠ 0) (hrun : (m.movCh c).run = some r) :
    m.movBoundary bad = (m.burstCounted.movBurst c bad).showPresv := by
  have hr : (m.burstCounted.movCh c).run = some r := hrun
  unfold Mach.movBoundary
  rw [h]
  dsimp only
  rw [if_neg h0, ← Mach.burstCounted, hr]
  rfl

theorem movBoundary_takes (h : m.movWinner = some c) (h0 : c ≠ 0) (hrun : (m.movCh c).run = none) :
    m.movBoundary bad = ((m.burstCounted.movTake c 17).movBurst c bad).showPresv := by
  have hr : (m.burstCounted.movCh c).run = none := hrun
  unfold Mach.movBoundary
  rw [h]
  dsimp only
  rw [if_neg h0, ← Mach.burstCounted, hr]
  rfl

/-! ### The burst of a program channel in hand (R501) -/

/-- What a burst moves: the bytes of the row stand in the buffer and count, and nothing else of the buffer changes. -/
theorem burst_moves (hc : c < 16) (hrun : (m.movCh c).run = some r) (hb : m.burstReads r bad) :
    let d := m.pdesc r.index
    let src := d.src + r.row * d.sstride
    let dst := d.dst + r.row * d.dstride
    let at_ := d.dstOf r.pos (d.burst r.pos)
    let x := (m.movBurst c bad).showPresv
    MoveOnly m x ∧ x.fld (R.MOV_CH_BYTES c) = (m.fld (R.MOV_CH_BYTES c) + d.burst r.pos) % 2 ^ 32 ∧
      (∀ j, j < at_.2 → x.pbufByte (dst + at_.1 + j) = m.movDst r d src dst (at_.1 + j)) ∧
      (∀ a, a < dst + at_.1 ∨ dst + at_.1 + at_.2 ≤ a → x.pbufByte a = m.pbufByte a) ∧
      x.fld (R.MOV_CH_STAT_QLEN c) = m.fld (R.MOV_CH_STAT_QLEN c) ∧ (x.movCh c).queue = (m.movCh c).queue := by
  intro d src dst at_ x
  obtain ⟨hbytes, hcount, hbuf⟩ := bytesMoved_does m (c := c) r
  have hx : MovesCh c (runRegs c) (m.bytesMoved c r) x := by
    show MovesCh c (runRegs c) (m.bytesMoved c r) (m.movBurst c bad).showPresv
    rw [movBurst_reads m hrun hb]
    exact (movesCh_goesOn _ hc r _).trans (movesCh_showPresv _)
  clear_value x
  have hq : (R.MOV_CH_STAT_QLEN c).addr ≠ (R.MOV_CH_BYTES c).addr := by simp only [R.MOV_CH_STAT_QLEN, R.MOV_CH_BYTES]; omega
  have hbyte : ∀ a, x.pbufByte a = (m.bytesMoved c r).pbufByte a := fun a => by simp only [Mach.pbufByte, hx.buf]
  refine ⟨(hbytes.moveOnly hc).trans (hx.moveOnly hc), (hx.fld (notin_runRegs (.inr (.inl rfl)))).trans hcount, fun j hj => ?_, fun a ha => ?_,
    hx.qlen.trans (hbytes.fld hq), ?_⟩
  · rw [hbyte, hbuf, if_pos ⟨Nat.le_add_right _ _, Nat.add_lt_add_left hj _⟩, Nat.add_sub_cancel_left]
  · rw [hbyte, hbuf, if_neg (by rintro ⟨h1, h2⟩; rcases ha with ha | ha; exacts [absurd h1 (Nat.not_le.mpr ha), absurd h2 (Nat.not_lt.mpr ha)])]
  · rw [hx.queue, hbytes.movCh]

/-- A burst within a row leaves its channel in the row. -/
theorem burst_part (hrun : (m.movCh c).run = some r) (hb : m.burstReads r bad) (h : (m.pdesc r.index).burst r.pos < (m.pdesc r.index).len - r.pos) :
    let x := (m.movBurst c bad).showPresv
    (x.movCh c).run = some { r with pos := r.pos + (m.pdesc r.index).burst r.pos } ∧
      x.fld (R.MOV_CH_RESID_BYTES c) = (m.pdesc r.index).len - r.pos - (m.pdesc r.index).burst r.pos := by
  intro x
  have hlen := (pdesc_widths m r.index).1
  have hx : x = ((m.bytesMoved c r).runsOn c { r with pos := r.pos + (m.pdesc r.index).burst r.pos } ((m.pdesc r.index).len - r.pos - (m.pdesc r.index).burst r.pos)).showPresv := by
    show (m.movBurst c bad).showPresv = _
    rw [movBurst_reads m hrun hb, goesOn_part _ h]
  rw [hx, movCh_congr (showPresv_mov _), showPresv_fld _ (presv_ne_ch (by simp only [R.MOV_CH_RESID_BYTES]; omega))]
  exact runsOn_does _ _ (by omega)

/-- A burst that ends a row takes its channel to the next one. -/
theorem burst_row (hrun : (m.movCh c).run = some r) (hb : m.burstReads r bad) (h : (m.pdesc r.index).len - r.pos ≤ (m.pdesc r.index).burst r.pos)
    (hr : r.row + 1 < (m.pdesc r.index).rows) :
    let x := (m.movBurst c bad).showPresv
    (x.movCh c).run = some { r with row := r.row + 1, pos := 0 } ∧ x.fld (R.MOV_CH_RESID_BYTES c) = (m.pdesc r.index).len ∧
      x.fld (R.MOV_CH_ROWSLEFT_ROWS c) = (m.pdesc r.index).rows - r.row - 2 := by
  intro x
  obtain ⟨hlen, hrows⟩ := pdesc_widths m r.index
  have hx : x = ((m.bytesMoved c r).goesOn c r (m.pdesc r.index)).showPresv := by
    show (m.movBurst c bad).showPresv = _
    rw [movBurst_reads m hrun hb]
  rw [hx, movCh_congr (showPresv_mov _), showPresv_fld _ (presv_ne_ch (by simp only [R.MOV_CH_RESID_BYTES]; omega)),
    showPresv_fld _ (presv_ne_ch (by simp only [R.MOV_CH_ROWSLEFT_ROWS]; omega))]
  exact goesOn_row_does _ h hr hlen hrows

/-- A burst that ends the last row ends the descriptor: it counts, and its chain ends, is refused or goes on. -/
theorem burst_end (hc : c < 16) (hrun : (m.movCh c).run = some r) (hb : m.burstReads r bad) (h : (m.pdesc r.index).len - r.pos ≤ (m.pdesc r.index).burst r.pos)
    (hr : (m.pdesc r.index).rows ≤ r.row + 1) :
    let d := m.pdesc r.index
    let x := (m.movBurst c bad).showPresv
    x.fld (R.MOV_CH_DONE c) = (m.fld (R.MOV_CH_DONE c) + 1) % 2 ^ 32 ∧
      (d.next = 0xFFFF → (x.movCh c).run = none ∧ x.fld (R.MOV_CH_STAT_STATE c) = 0 ∧ x.fld (R.MOV_CH_RESID_BYTES c) = 0) ∧
      (255 < d.next → d.next ≠ 0xFFFF → (x.movCh c).run = none ∧ x.fld (R.MOV_CH_ERRINFO_CODE c) = 6 ∧ x.flag (R.MOV_CH_STAT_REFUSED c) = true) ∧
      (d.next ≤ 255 → (m.pdesc d.next).refusal (m.flag (R.MOV_CH_CTRL_NOOVL c)) = none → x.fld (R.MOV_CH_STAT_STATE c) = 1 ∧
        x.fld (R.MOV_CH_DESC_INDEX c) = d.next ∧ ∃ q, (x.movCh c).run = some q ∧ q.index = d.next ∧ q.req = r.req ∧ q.row = 0 ∧ q.pos = 0) := by
  intro d x
  obtain ⟨hbytes, -, -⟩ := bytesMoved_does m (c := c) r
  have hx : x = (((m.bytesMoved c r).setFld (R.MOV_CH_RESID_BYTES c) 0).movDone c r d).showPresv := by
    show (m.movBurst c bad).showPresv = _
    rw [movBurst_reads m hrun hb, goesOn_end _ h hr]
  rw [hx, movCh_congr (showPresv_mov _), showPresv_fld _ (presv_ne_ch (by simp only [R.MOV_CH_DONE]; omega)),
    showPresv_fld _ (presv_ne_ch (by simp only [R.MOV_CH_STAT_STATE]; omega)), showPresv_fld _ (presv_ne_ch (by simp only [R.MOV_CH_RESID_BYTES]; omega)),
    showPresv_fld _ (presv_ne_ch (by simp only [R.MOV_CH_ERRINFO_CODE]; omega)), showPresv_flag _ (presv_ne_ch (by simp only [R.MOV_CH_STAT_REFUSED]; omega)),
    showPresv_fld _ (presv_ne_ch (by simp only [R.MOV_CH_DESC_INDEX]; omega))]
  have hn : MovesCh c (runRegs c) (m.bytesMoved c r) ((m.bytesMoved c r).setFld (R.MOV_CH_RESID_BYTES c) 0) := (MovesCh.refl _).setFld _ besideQlen_resid
  have hresid : ((m.bytesMoved c r).setFld (R.MOV_CH_RESID_BYTES c) 0).fld (R.MOV_CH_RESID_BYTES c) = 0 :=
    Mach.fld_setFld_same _ _ _ (by simp [R.MOV_CH_RESID_BYTES])
  have hdone : ((m.bytesMoved c r).setFld (R.MOV_CH_RESID_BYTES c) 0).fld (R.MOV_CH_DONE c) = m.fld (R.MOV_CH_DONE c) := by
    rw [fld_setFld_of_addr_ne (g := R.MOV_CH_DONE c) _ _ (by simp only [R.MOV_CH_DONE, R.MOV_CH_RESID_BYTES]; omega),
      hbytes.fld (by simp only [R.MOV_CH_DONE, R.MOV_CH_BYTES]; omega)]
  have hpdesc : ∀ i, ((m.bytesMoved c r).setFld (R.MOV_CH_RESID_BYTES c) 0).pdesc i = m.pdesc i := fun i => (hn.pdesc hc i).trans (hbytes.pdesc hc i)
  have hnoovl : ((m.bytesMoved c r).setFld (R.MOV_CH_RESID_BYTES c) 0).flag (R.MOV_CH_CTRL_NOOVL c) = m.flag (R.MOV_CH_CTRL_NOOVL c) :=
    hn.noovl.trans (congrArg (· != 0) (hbytes.fld (by simp only [R.MOV_CH_CTRL_NOOVL, R.MOV_CH_BYTES]; omega)))
  generalize (m.bytesMoved c r).setFld (R.MOV_CH_RESID_BYTES c) 0 = n at hresid hdone hpdesc hnoovl ⊢
  refine ⟨by rw [movDone_counts n hc, hdone], fun hlast => ?_, fun hfar hne => movDone_beyond_does n hfar hne, fun hnext ha => ?_⟩
  · obtain ⟨h1, h2, h3⟩ := movDone_last_does n (c := c) (r := r) hlast
    exact ⟨h1, h2, h3.trans hresid⟩
  · exact movDone_next_does n hc hnext (by rw [hpdesc, hnoovl, ha])

end Sys2Proof.Machine
end

section
/-!
PROOF. The move engine: a byte read in vain, requests taken, and the commands on a channel (O48).
-/
namespace Sys2Proof.Machine
open Sys2Proof

variable (m : Mach) {c : Nat} {r : MovRun}

/-! ### A byte that cannot be read (R505) -/

/-- The bit of DIAG.ECCUNC for the DRAM a move reads. -/
def eccMoveBit : Fld := ⟨R.DIAG_ECCUNC.addr, 6, 1⟩

theorem movBurst_bad {j : Nat} (hrun : (m.movCh c).run = some r) (hk : (m.pdesc r.index).kind ≠ 1) (hv : inView (m.pdesc r.index).src = false) :
    m.movBurst c (some j) =
      ((m.movHalt c ((m.pdesc r.index).src + r.row * (m.pdesc r.index).sstride + (m.pdesc r.index).srcOf (r.pos + j)) 3 0).setFlag eccMoveBit true).raise 0x31E3 0 2 := by
  have hsome : (if (m.pdesc r.index).kind = 1 ∨ inView (m.pdesc r.index).src = true then none else some j) = some j := by
    rw [if_neg]
    rw [hv]
    simpa using hk
  unfold Mach.movBurst
  rw [hrun]
  dsimp only
  rw [hsome]
  rfl

/-- A bus error shows its address, its code and the channel halted. -/
theorem movHalt_does (hc : c < 16) (a : Nat) {code : Nat} (h : code < 8) (dir : Nat) :
    let x := m.movHalt c a code dir
    MoveOnly m x ∧ x.mov = m.mov ∧ x.fld (R.MOV_CH_STAT_STATE c) = 2 ∧ x.fld (R.MOV_CH_ERRADDR c) = a % 2 ^ 32 ∧ x.fld (R.MOV_CH_ERRINFO_CODE c) = code ∧
      x.flag (R.MOV_CH_ERRINFO_ERR c) = true := by
  intro x
  have hx : x = ((((m.setFld (R.MOV_CH_ERRADDR c) a).setFld (R.MOV_CH_ERRINFO_CODE c) code).setFld (R.MOV_CH_ERRINFO_DIR c) dir).setFlag (R.MOV_CH_ERRINFO_ERR c) true).movState c 2 := rfl
  have haddr : (R.MOV_CH_ERRADDR c).addr ≠ R.MOV_STAT.addr ∧ (R.MOV_CH_ERRADDR c).addr ≠ (R.MOV_CH_STAT c).addr ∧
      (R.MOV_CH_ERRADDR c).addr ≠ (R.MOV_CH_ERRINFO c).addr ∧ (R.MOV_CH_ERRINFO c).addr ≠ R.MOV_STAT.addr ∧ (R.MOV_CH_ERRINFO c).addr ≠ (R.MOV_CH_STAT c).addr := by
    simp only [R.MOV_CH_ERRADDR, R.MOV_STAT, R.MOV_CH_STAT, R.MOV_CH_ERRINFO]
    omega
  obtain ⟨h1, h2, h3, h4, h5⟩ := haddr
  rw [hx]
  refine ⟨?_, ?_, movState_state _ 2, ?_, ?_, ?_⟩
  · have hregs : Regs m ((((m.setFld (R.MOV_CH_ERRADDR c) a).setFld (R.MOV_CH_ERRINFO_CODE c) code).setFld (R.MOV_CH_ERRINFO_DIR c) dir).setFlag (R.MOV_CH_ERRINFO_ERR c) true)
        [(R.MOV_CH_ERRADDR c).addr, (R.MOV_CH_ERRINFO c).addr] := by
      refine Regs.trans (Regs.trans (Regs.trans ((regs_setFld m (R.MOV_CH_ERRADDR c) a).mono ?_) ((regs_setFld _ (R.MOV_CH_ERRINFO_CODE c) code).mono ?_))
        ((regs_setFld _ (R.MOV_CH_ERRINFO_DIR c) dir).mono ?_)) ((regs_setFld _ (R.MOV_CH_ERRINFO_ERR c) true.toNat).mono ?_) <;>
      simp [R.MOV_CH_ERRINFO, R.MOV_CH_ERRINFO_CODE, R.MOV_CH_ERRINFO_DIR, R.MOV_CH_ERRINFO_ERR]
    refine (MoveOnly.of_regs hregs ?_).trans (((movesCh_movState _ hc 2).mono startRegs_subset_runRegs).moveOnly hc)
    simp only [List.mem_cons, List.not_mem_nil, or_false, R.MOV_CH_ERRADDR, R.MOV_CH_ERRINFO]
    omega
  · rw [movState_mov, Mach.setFlag_mov, Mach.setFld_mov, Mach.setFld_mov, Mach.setFld_mov]
  · rw [movState_fld _ 2 (f := R.MOV_CH_ERRADDR c) h1 (.inl h2), Mach.setFlag, fld_setFld_of_addr_ne (f := R.MOV_CH_ERRINFO_ERR c) _ _ h3,
      fld_setFld_of_addr_ne (f := R.MOV_CH_ERRINFO_DIR c) _ _ h3, fld_setFld_of_addr_ne (f := R.MOV_CH_ERRINFO_CODE c) _ _ h3]
    exact Mach.fld_setFld_same _ _ _ (by simp [R.MOV_CH_ERRADDR])
  · rw [movState_fld _ 2 (f := R.MOV_CH_ERRINFO_CODE c) h4 (.inl h5), Mach.setFlag,
      Mach.fld_setFld_ne _ (R.MOV_CH_ERRINFO_ERR c) _ _ (by simp [R.MOV_CH_ERRINFO_ERR]) (.inr (.inl (by simp [R.MOV_CH_ERRINFO_ERR, R.MOV_CH_ERRINFO_CODE]))),
      Mach.fld_setFld_ne _ (R.MOV_CH_ERRINFO_DIR c) _ _ (by simp [R.MOV_CH_ERRINFO_DIR]) (.inr (.inl (by simp [R.MOV_CH_ERRINFO_DIR, R.MOV_CH_ERRINFO_CODE])))]
    exact (Mach.fld_setFld_same _ _ _ (by simp [R.MOV_CH_ERRINFO_CODE])).trans (Nat.mod_eq_of_lt h)
  · rw [movState_flag _ 2 (f := R.MOV_CH_ERRINFO_ERR c) h4 (.inl h5)]
    exact Mach.flag_setFlag_same _ _ _ (by simp [R.MOV_CH_ERRINFO_ERR]) rfl

theorem fld_bit_set {f : Fld} (hf : f.lsb = 0) {i : Nat} (hi : i < f.width) (hw : f.width ≤ 32) : ((m.setFlag ⟨f.addr, i, 1⟩ true).fld f).testBit i = true := by
  rw [Mach.fld, bitsOf_testBit, Mach.setFlag, Mach.setFld, Mach.rget_rset_same, bitsSet_testBit _ (by dsimp only; omega), hf, Nat.zero_add, if_pos (by dsimp only; omega)]
  simp [hi]

theorem MoveOnly.widen {n : Mach} {as : Nat → Prop} (h : MoveOnly m n) (ha : ∀ a, 0xE0000 ≤ a ∧ a < 0xF0000 → as a) : Events { m with mov := n.mov } n as :=
  ⟨h.same, fun a he hna => h.regs a he (fun hm => hna (ha a hm)), h.faults, h.out⟩

/-- A burst with a byte that cannot be read halts its channel, with the fault. -/
theorem burst_bad (hc : c < 16) {j : Nat} (hrun : (m.movCh c).run = some r) (hk : (m.pdesc r.index).kind ≠ 1) (hv : inView (m.pdesc r.index).src = false) :
    let d := m.pdesc r.index
    let x := (m.movBurst c (some j)).showPresv
    Events { m with mov := x.mov } x (fun a => (0xE0000 ≤ a ∧ a < 0xF0000) ∨ a = R.DIAG_ECCUNC.addr) ∧ x.fld (R.MOV_CH_STAT_STATE c) = 2 ∧
      (x.fld R.DIAG_ECCUNC_REGION).testBit 6 ∧ x.fld (R.MOV_CH_ERRADDR c) = (d.src + r.row * d.sstride + d.srcOf (r.pos + j)) % 2 ^ 32 ∧
      x.fld (R.MOV_CH_ERRINFO_CODE c) = 3 ∧ x.flag (R.MOV_CH_ERRINFO_ERR c) = true ∧ (0x31E3, 0, 2) ∈ x.faults ∧ x.mov = m.mov := by
  intro d x
  obtain ⟨honly, hmov, hst, haddr, hcode, herr⟩ := movHalt_does m hc (d.src + r.row * d.sstride + d.srcOf (r.pos + j)) (show 3 < 8 by decide) 0
  have hx : x = (((m.movHalt c (d.src + r.row * d.sstride + d.srcOf (r.pos + j)) 3 0).setFlag eccMoveBit true).raise 0x31E3 0 2).showPresv := by
    show (m.movBurst c (some j)).showPresv = _
    rw [movBurst_bad m hrun hk hv]
  rw [hx]
  clear_value x
  generalize m.movHalt c (d.src + r.row * d.sstride + d.srcOf (r.pos + j)) 3 0 = n at honly hmov hst haddr hcode herr
  have hr : Rest (n.setFlag eccMoveBit true) ((n.setFlag eccMoveBit true).raise 0x31E3 0 2) := rest_raise _ _ _ _
  have hkeep : ∀ f : Fld, 0xE0100 ≤ f.addr ∧ f.addr < 0x120000 → ((n.setFlag eccMoveBit true).raise 0x31E3 0 2).showPresv.fld f = n.fld f := fun f hf => by
    rw [showPresv_fld _ (presv_ne_ch hf.1), hr.fld (evAddr_beyondPair (by omega) hf.2), Mach.setFlag,
      fld_setFld_of_addr_ne (f := eccMoveBit) _ _ (by simp only [eccMoveBit, R.DIAG_ECCUNC]; omega)]
  refine ⟨?_, ?_, ?_, ?_, ?_, ?_, ?_, ?_⟩
  · have hecc : Events { n with mov := (n.setFlag eccMoveBit true).mov } (n.setFlag eccMoveBit true) (fun a => (0xE0000 ≤ a ∧ a < 0xF0000) ∨ a = R.DIAG_ECCUNC.addr) :=
      Events.rset n _ (.inr rfl)
    refine (((honly.widen _ (fun _ => .inl)).transMov hecc).transMov ((MoveOnly.of_rest hr).widen _ (fun _ => .inl))).transMov (MoveOnly.widen _ ?_ (fun _ => .inl))
    exact (movesCh_showPresv _).moveOnly hc
  · rw [hkeep (R.MOV_CH_STAT_STATE c) (by simp only [R.MOV_CH_STAT_STATE]; omega), hst]
  · rw [showPresv_fld _ (by decide), hr.fld (by decide)]
    exact fld_bit_set n (f := R.DIAG_ECCUNC_REGION) rfl (by decide) (by decide)
  · rw [hkeep (R.MOV_CH_ERRADDR c) (by simp only [R.MOV_CH_ERRADDR]; omega), haddr]
  · rw [hkeep (R.MOV_CH_ERRINFO_CODE c) (by simp only [R.MOV_CH_ERRINFO_CODE]; omega), hcode]
  · exact (congrArg (· != 0) (hkeep (R.MOV_CH_ERRINFO_ERR c) (by simp only [R.MOV_CH_ERRINFO_ERR]; omega))).trans herr
  · exact ((movesCh_showPresv (c := c) _).moveOnly hc).faults _ (raise_mem _ _ _ _)
  · rw [showPresv_mov, hr.mov, Mach.setFlag_mov, hmov]

/-! ### Requests taken (R502, R507) -/

/-- Channel `c` has taken the request in front of its queue, and `qs` are left. -/
def Mach.queueTaken (m : Mach) (c : Nat) (qs : List MovReq) : Mach := (m.setMovCh c { m.movCh c with queue := qs }).movQlen c

theorem movTake_nil (k : Nat) (h : (m.movCh c).queue = []) : m.movTake c k = m := by
  cases k with
  | zero => rfl
  | succ k =>
    unfold Mach.movTake
    rw [h]

theorem movTake_cons {q : MovReq} {qs : List MovReq} (k : Nat) (h : (m.movCh c).queue = q :: qs) :
    m.movTake c (k + 1) = if ((m.queueTaken c qs).movStart c q q.index).1 then ((m.queueTaken c qs).movStart c q q.index).2
      else ((m.queueTaken c qs).movStart c q q.index).2.movTake c k := by
  conv_lhs => unfold Mach.movTake
  rw [h]
  dsimp only
  rw [← Mach.queueTaken]

/-- Beside the queue of channel `c` and its length, a request taken leaves everything as it was. -/
theorem queueTaken_does (qs : List MovReq) (hq : qs.length < 4) :
    let x := m.queueTaken c qs
    Regs { m with mov := x.mov } x [(R.MOV_CH_STAT c).addr] ∧ x.movCh c = { m.movCh c with queue := qs } ∧ x.mov.pbuf = m.mov.pbuf ∧
      x.fld (R.MOV_CH_STAT_QLEN c) = qs.length := by
  intro x
  have hch : (m.setMovCh c { m.movCh c with queue := qs }).movCh c = { m.movCh c with queue := qs } := movCh_setMovCh_same _ _ _
  refine ⟨regs_setFld (m.setMovCh c { m.movCh c with queue := qs }) (R.MOV_CH_STAT_QLEN c) _, hch, rfl, ?_⟩
  refine (Mach.fld_setFld_same _ _ _ (by simp [R.MOV_CH_STAT_QLEN])).trans ?_
  rw [hch]
  exact Nat.mod_eq_of_lt (by simp only [R.MOV_CH_STAT_QLEN]; omega)

theorem refusal_lt {d : MovDesc} {b : Bool} {code : Nat} (h : d.refusal b = some code) : code < 8 := by
  unfold MovDesc.refusal at h
  split_ifs at h <;> simp only [Option.some.injEq] at h <;> omega

theorem movBurst_idle (bad : Option Nat) (h : (m.movCh c).run = none) : m.movBurst c bad = m := by
  unfold Mach.movBurst
  rw [h]

end Sys2Proof.Machine
end

section
/-!
PROOF. The move engine: requests started or refused, and the commands on a channel (O48).
-/
namespace Sys2Proof.Machine
open Sys2Proof

variable (m : Mach) {c : Nat} {q : MovReq} {qs : List MovReq}

/-! ### A request started, or refused (R502) -/

/-- What a request taken leaves as it was. -/
theorem queueTaken_keeps (hc : c < 16) (hq : qs.length < 4) :
    MoveOnly m (m.queueTaken c qs) ∧ (∀ f : Fld, f.addr ≠ (R.MOV_CH_STAT c).addr → (m.queueTaken c qs).fld f = m.fld f) ∧
      ∀ i, (m.queueTaken c qs).pdesc i = m.pdesc i := by
  obtain ⟨hregs, -, -, -⟩ := queueTaken_does m (c := c) qs hq
  have hkeep : ∀ a, a ≠ (R.MOV_CH_STAT c).addr → (m.queueTaken c qs).rget a = m.rget a := fun a ha => hregs.regs a (by simpa using ha)
  have hstat : 0xE0000 ≤ (R.MOV_CH_STAT c).addr ∧ (R.MOV_CH_STAT c).addr < 0xE4000 := by
    simp only [R.MOV_CH_STAT]
    omega
  exact ⟨.of_own hregs.same (fun a ha => hkeep a (by omega)), fun f hf => by simp only [Mach.fld, hkeep _ hf], fun i => pdesc_congr (fun a ha => hkeep a (by omega)) i⟩

theorem runsOn_fld (r : MovRun) (left : Nat) {f : Fld} (h : f.addr ≠ (R.MOV_CH_RESID c).addr) : (m.runsOn c r left).fld f = m.fld f :=
  fld_setFld_of_addr_ne (f := R.MOV_CH_RESID_BYTES c) (m.setMovCh c { m.movCh c with run := some r }) _ h

/-- A request whose descriptor is accepted starts with its first burst. -/
theorem burst_accepted (hc : c < 16) (hqueue : (m.movCh c).queue = q :: qs) (hq : qs.length < 4) (hi : q.index ≤ 255)
    (ha : (m.pdesc q.index).refusal (m.flag (R.MOV_CH_CTRL_NOOVL c)) = none) :
    let x := ((m.movTake c 17).movBurst c none).showPresv
    MoveOnly m x ∧ (x.movCh c).queue = qs ∧ x.fld (R.MOV_CH_STAT_QLEN c) = qs.length ∧
      x.fld (R.MOV_CH_BYTES c) = (m.fld (R.MOV_CH_BYTES c) + min 64 (m.pdesc q.index).len) % 2 ^ 32 ∧
      (64 < (m.pdesc q.index).len → x.fld (R.MOV_CH_DESC_INDEX c) = q.index ∧ x.fld (R.MOV_CH_STAT_STATE c) = 1) := by
  intro x
  obtain ⟨honly, hfld, hpdesc⟩ := queueTaken_keeps m (qs := qs) hc hq
  obtain ⟨-, hch, -, hqlen⟩ := queueTaken_does m (c := c) qs hq
  have hnoovl : (m.queueTaken c qs).flag (R.MOV_CH_CTRL_NOOVL c) = m.flag (R.MOV_CH_CTRL_NOOVL c) :=
    congrArg (· != 0) (hfld _ (by simp only [R.MOV_CH_CTRL_NOOVL, R.MOV_CH_STAT]; omega))
  have htake : m.movTake c 17 = ((m.queueTaken c qs).descShown c q.index).descRuns c q q.index (m.pdesc q.index) := by
    rw [movTake_cons m 16 hqueue, movStart_of_accepted _ hc q hi (by rw [hpdesc, hnoovl, ha]), hpdesc]
    rfl
  have hx : x = ((m.movTake c 17).movBurst c none).showPresv := rfl
  clear_value x
  rw [htake] at hx
  have hn : MovesCh c (runRegs c) (m.queueTaken c qs) (((m.queueTaken c qs).descShown c q.index).descRuns c q q.index (m.pdesc q.index)) :=
    ((movesCh_descShown _ _).trans (movesCh_descRuns _ hc q _ _)).mono startRegs_subset_runRegs
  obtain ⟨hrun, hst, hidx⟩ := descRuns_does (c := c) ((m.queueTaken c qs).descShown c q.index) q q.index (m.pdesc q.index)
  rw [descShown_index _ hi] at hidx
  generalize ((m.queueTaken c qs).descShown c q.index).descRuns c q q.index (m.pdesc q.index) = n at hx hn hrun hst hidx
  have hd : n.pdesc q.index = m.pdesc q.index := (hn.pdesc hc _).trans (hpdesc _)
  obtain ⟨hmoves, hbytes, -, -, hlen, hqs⟩ := burst_moves n (bad := none) hc hrun (.inl rfl)
  rw [← hx] at hmoves hbytes hlen hqs
  refine ⟨honly.trans ((hn.moveOnly hc).trans hmoves), ?_, hlen.trans (hn.qlen.trans hqlen), ?_, fun hlong => ?_⟩
  · rw [hqs, hn.queue, hch]
  · rw [hbytes, hn.fld (notin_runRegs (.inr (.inl rfl))), hfld _ (by simp only [R.MOV_CH_BYTES, R.MOV_CH_STAT]; omega), hd]
    rfl
  · obtain ⟨hmoved, -, -⟩ := bytesMoved_does n (c := c) ⟨q.index, q, 0, 0, ((m.queueTaken c qs).descShown c q.index).copySource (m.pdesc q.index)⟩
    have hpart : (n.pdesc q.index).burst 0 < (n.pdesc q.index).len - 0 := by
      rw [hd, MovDesc.burst]
      omega
    rw [movBurst_reads n hrun (.inl rfl), goesOn_part _ hpart] at hx
    rw [hx, showPresv_fld _ (presv_ne_ch (by simp only [R.MOV_CH_DESC_INDEX]; omega)), showPresv_fld _ (presv_ne_ch (by simp only [R.MOV_CH_STAT_STATE]; omega)),
      runsOn_fld _ _ _ (by simp only [R.MOV_CH_DESC_INDEX, R.MOV_CH_RESID]; omega), runsOn_fld _ _ _ (by simp only [R.MOV_CH_STAT_STATE, R.MOV_CH_RESID]; omega),
      hmoved.fld (by simp only [R.MOV_CH_DESC_INDEX, R.MOV_CH_BYTES]; omega), hmoved.fld (by simp only [R.MOV_CH_STAT_STATE, R.MOV_CH_BYTES]; omega)]
    exact ⟨hidx, hst⟩

/-- The last request of a queue whose descriptor is refused leaves the channel without one. -/
theorem burst_refused (hc : c < 16) (hrun : (m.movCh c).run = none) (hqueue : (m.movCh c).queue = [q]) (hi : q.index ≤ 255) {code : Nat}
    (ha : (m.pdesc q.index).refusal (m.flag (R.MOV_CH_CTRL_NOOVL c)) = some code) :
    let x := ((m.movTake c 17).movBurst c none).showPresv
    MoveOnly m x ∧ (x.movCh c).run = none ∧ (x.movCh c).queue = [] ∧ x.fld (R.MOV_CH_ERRINFO_CODE c) = code ∧ x.flag (R.MOV_CH_STAT_REFUSED c) = true ∧
      x.fld (R.MOV_CH_DROP_REFUSED c) = min (m.fld (R.MOV_CH_DROP_REFUSED c) + 1) (2 ^ 16 - 1) ∧ x.mov.pbuf = m.mov.pbuf := by
  intro x
  obtain ⟨honly, hfld, hpdesc⟩ := queueTaken_keeps m (qs := []) hc (by decide)
  obtain ⟨-, hch, hbuf, -⟩ := queueTaken_does m (c := c) [] (by decide)
  have hnoovl : (m.queueTaken c []).flag (R.MOV_CH_CTRL_NOOVL c) = m.flag (R.MOV_CH_CTRL_NOOVL c) :=
    congrArg (· != 0) (hfld _ (by simp only [R.MOV_CH_CTRL_NOOVL, R.MOV_CH_STAT]; omega))
  have hmov : (((m.queueTaken c []).descShown c q.index).movRefuse c code).mov = (m.queueTaken c []).mov := (movRefuse_mov _ _).trans (descShown_mov _ _)
  have htake : m.movTake c 17 = ((m.queueTaken c []).descShown c q.index).movRefuse c code := by
    rw [movTake_cons m 16 hqueue, movStart_of_refusal _ hc q hi (by rw [hpdesc, hnoovl, ha])]
    exact movTake_nil _ 16 (by rw [movCh_congr hmov, hch])
  have hx : x = ((m.movTake c 17).movBurst c none).showPresv := rfl
  clear_value x
  rw [htake, movBurst_idle _ _ (by rw [movCh_congr hmov, hch]; exact hrun)] at hx
  have hdrop : ((m.queueTaken c []).descShown c q.index).fld (R.MOV_CH_DROP_REFUSED c) = m.fld (R.MOV_CH_DROP_REFUSED c) := by
    rw [Mach.descShown, Mach.setFlag, fld_setFld_of_addr_ne (g := R.MOV_CH_DROP_REFUSED c) _ _ (by simp only [R.MOV_CH_DROP_REFUSED, R.MOV_CH_DESC_PROG]; omega),
      fld_setFld_of_addr_ne (g := R.MOV_CH_DROP_REFUSED c) _ _ (by simp only [R.MOV_CH_DROP_REFUSED, R.MOV_CH_DESC_INDEX]; omega),
      hfld _ (by simp only [R.MOV_CH_DROP_REFUSED, R.MOV_CH_STAT]; omega)]
  obtain ⟨hcode, href, hcount⟩ := movRefuse_shows (c := c) ((m.queueTaken c []).descShown c q.index) (refusal_lt ha)
  have hn : MovesCh c (runRegs c) (m.queueTaken c []) (((m.queueTaken c []).descShown c q.index).movRefuse c code) :=
    ((movesCh_descShown _ _).trans (movesCh_movRefuse _ _)).mono startRegs_subset_runRegs
  rw [hdrop] at hcount
  generalize ((m.queueTaken c []).descShown c q.index).movRefuse c code = n at hx hmov hcode href hcount hn
  have hxch : x.movCh c = { m.movCh c with queue := [] } := by rw [hx, movCh_congr (showPresv_mov n), movCh_congr hmov, hch]
  refine ⟨?_, by rw [hxch]; exact hrun, by rw [hxch], ?_, ?_, ?_, ?_⟩
  · rw [hx]
    exact honly.trans ((hn.trans (movesCh_showPresv n)).moveOnly hc)
  · rw [hx, showPresv_fld _ (presv_ne_ch (by simp only [R.MOV_CH_ERRINFO_CODE]; omega)), hcode]
  · rw [hx, showPresv_flag _ (presv_ne_ch (by simp only [R.MOV_CH_STAT_REFUSED]; omega)), href]
  · rw [hx, showPresv_fld _ (presv_ne_ch (by simp only [R.MOV_CH_DROP_REFUSED]; omega)), hcount]
  · rw [hx, showPresv_mov, hmov, hbuf]

/-! ### Commands on a channel (R505, R506) -/

/-- The registers an abort or a restart of channel `c` writes. -/
def abortRegs (c : Nat) : List Nat := [(R.MOV_CH_STAT c).addr, (R.MOV_CH_ERRINFO c).addr, R.MOV_STAT.addr, R.MOV_PRESV.addr]

theorem regs_movState (s : Nat) : Regs m (m.movState c s) [(R.MOV_CH_STAT c).addr, R.MOV_STAT.addr] := by
  rw [movState_eq]
  exact (((regs_setFld m (R.MOV_CH_STAT_STATE c) s).mono (by simp [R.MOV_CH_STAT, R.MOV_CH_STAT_STATE])).trans
    ((regs_setFld _ (movBusyBit c) _).mono (by simp [movBusyBit]))).trans ((regs_setFld _ (movHaltBit c) _).mono (by simp [movHaltBit]))

theorem regs_showPresv : Regs m m.showPresv [R.MOV_PRESV.addr] := by
  rw [showPresv_eq, Mach.maxFld]
  exact (regs_setFld m R.MOV_PRESV_CUR _).trans (regs_setFld _ R.MOV_PRESV_MAX _)

theorem MoveOnly.of_abort {x : Mach} (hc : c < 16) (h : Regs { m with mov := x.mov } x (abortRegs c)) : MoveOnly m x := by
  refine .of_own h.same (fun a ha => h.regs a (fun hm => ha ?_))
  simp only [abortRegs, List.mem_cons, List.not_mem_nil, or_false, R.MOV_CH_STAT, R.MOV_CH_ERRINFO, R.MOV_STAT, R.MOV_PRESV] at hm
  omega

/-- Channel `c` without an error, in the state `s`, with the reserve it holds. -/
def Mach.chRested (m : Mach) (c s : Nat) : Mach := (m.movState c s).showPresv

theorem chRested_does (s : Nat) :
    Regs m (m.chRested c s) (abortRegs c) ∧ (m.chRested c s).mov = m.mov ∧ (m.chRested c s).fld (R.MOV_CH_STAT_STATE c) = s % 4 ∧
      (m.chRested c s).flag (R.MOV_CH_ERRINFO_ERR c) = m.flag (R.MOV_CH_ERRINFO_ERR c) ∧ (m.chRested c s).fld (R.MOV_CH_STAT_PEND c) = m.fld (R.MOV_CH_STAT_PEND c) := by
  refine ⟨?_, (showPresv_mov _).trans (movState_mov _ _), ?_, ?_, ?_⟩
  · exact ((regs_movState m s).mono (by simp [abortRegs])).trans ((regs_showPresv _).mono (by simp [abortRegs]))
  · rw [Mach.chRested, showPresv_fld _ (presv_ne_ch (by simp only [R.MOV_CH_STAT_STATE]; omega)), movState_state]
  · rw [Mach.chRested, showPresv_flag _ (presv_ne_ch (by simp only [R.MOV_CH_ERRINFO_ERR]; omega))]
    exact movState_flag _ s (by simp only [R.MOV_CH_ERRINFO_ERR, R.MOV_STAT]; omega) (.inl (by simp only [R.MOV_CH_ERRINFO_ERR, R.MOV_CH_STAT]; omega))
  · rw [Mach.chRested, showPresv_fld _ (presv_ne_ch (by simp only [R.MOV_CH_STAT_PEND]; omega))]
    exact movState_fld _ s (by simp only [R.MOV_CH_STAT_PEND, R.MOV_STAT]; omega) (.inr (by simp [R.MOV_CH_STAT_PEND]))

/-- Channel `c` runs nothing, with its queue kept or not. -/
def Mach.chCleared (m : Mach) (c : Nat) (keep : Bool) : Mach :=
  m.setMovCh c { queue := if keep then (m.movCh c).queue else [], run := none }

/-- The requests of a line that wait on channel `c` are kept or not. -/
def Mach.pendCleared (m : Mach) (c : Nat) (keep : Bool) : Mach := if keep then m else m.setFld (R.MOV_CH_STAT_PEND c) 0

theorem movAbort_eq (keep : Bool) :
    m.movAbort c keep = ((((m.chCleared c keep).pendCleared c keep).setFlag (R.MOV_CH_ERRINFO_ERR c) false).movQlen c).chRested c 3 := rfl

theorem pendCleared_does (keep : Bool) :
    Regs m (m.pendCleared c keep) [(R.MOV_CH_STAT c).addr] ∧ (m.pendCleared c keep).mov = m.mov ∧
      (m.pendCleared c keep).fld (R.MOV_CH_STAT_PEND c) = if keep then m.fld (R.MOV_CH_STAT_PEND c) else 0 := by
  cases keep with
  | true => exact ⟨⟨rfl, fun _ _ => rfl⟩, rfl, rfl⟩
  | false => exact ⟨regs_setFld m (R.MOV_CH_STAT_PEND c) 0, rfl, Mach.fld_setFld_same _ _ _ (by simp [R.MOV_CH_STAT_PEND])⟩

theorem movAbort_does (keep : Bool) :
    let x := m.movAbort c keep
    Regs { m with mov := x.mov } x (abortRegs c) ∧ x.mov = (m.chCleared c keep).mov ∧ x.fld (R.MOV_CH_STAT_STATE c) = 3 ∧ x.flag (R.MOV_CH_ERRINFO_ERR c) = false ∧
      x.fld (R.MOV_CH_STAT_PEND c) = if keep then m.fld (R.MOV_CH_STAT_PEND c) else 0 := by
  intro x
  obtain ⟨hregs, hmov, hpend⟩ := pendCleared_does (c := c) (m.chCleared c keep) keep
  have hx : x = ((((m.chCleared c keep).pendCleared c keep).setFlag (R.MOV_CH_ERRINFO_ERR c) false).movQlen c).chRested c 3 := movAbort_eq m keep
  clear_value x
  generalize (m.chCleared c keep).pendCleared c keep = n at hregs hmov hpend hx
  have hn : Regs n ((n.setFlag (R.MOV_CH_ERRINFO_ERR c) false).movQlen c) (abortRegs c) :=
    ((regs_setFld n (R.MOV_CH_ERRINFO_ERR c) _).mono (by simp [abortRegs, R.MOV_CH_ERRINFO_ERR, R.MOV_CH_ERRINFO])).trans
      ((regs_setFld _ (R.MOV_CH_STAT_QLEN c) _).mono (by simp [abortRegs, R.MOV_CH_STAT_QLEN, R.MOV_CH_STAT]))
  have hnm : ((n.setFlag (R.MOV_CH_ERRINFO_ERR c) false).movQlen c).mov = n.mov := rfl
  have herr : ((n.setFlag (R.MOV_CH_ERRINFO_ERR c) false).movQlen c).flag (R.MOV_CH_ERRINFO_ERR c) = false := by
    refine (congrArg (· != 0) (fld_setFld_of_addr_ne (g := R.MOV_CH_ERRINFO_ERR c) (f := R.MOV_CH_STAT_QLEN c) _ _ ?_)).trans
      (Mach.flag_setFlag_same _ _ _ (by simp [R.MOV_CH_ERRINFO_ERR]) rfl)
    simp only [R.MOV_CH_ERRINFO_ERR, R.MOV_CH_STAT_QLEN]
    omega
  have hkeep : ((n.setFlag (R.MOV_CH_ERRINFO_ERR c) false).movQlen c).fld (R.MOV_CH_STAT_PEND c) = n.fld (R.MOV_CH_STAT_PEND c) := by
    rw [Mach.movQlen, Mach.fld_setFld_ne _ (R.MOV_CH_STAT_QLEN c) _ _ (by simp [R.MOV_CH_STAT_QLEN]) (.inr (.inr (by simp [R.MOV_CH_STAT_QLEN, R.MOV_CH_STAT_PEND]))),
      Mach.setFlag, fld_setFld_of_addr_ne (f := R.MOV_CH_ERRINFO_ERR c) _ _ (by simp only [R.MOV_CH_STAT_PEND, R.MOV_CH_ERRINFO_ERR]; omega)]
  obtain ⟨hrest, hrm, hst, hre, hrp⟩ := chRested_does (c := c) ((n.setFlag (R.MOV_CH_ERRINFO_ERR c) false).movQlen c) 3
  rw [← hx] at hrest hrm hst hre hrp
  have hxm : x.mov = (m.chCleared c keep).mov := hrm.trans (hnm.trans hmov)
  refine ⟨?_, hxm, hst, hre.trans herr, hrp.trans (hkeep.trans hpend)⟩
  rw [hxm]
  exact ((hregs.mono (by simp [abortRegs])).trans hn).trans hrest

theorem movAbort_movCh (keep : Bool) (k : Nat) :
    (m.movAbort c keep).movCh k = if k = c then { queue := if keep then (m.movCh c).queue else [], run := none } else m.movCh k := by
  obtain ⟨-, hmov, -⟩ := movAbort_does m (c := c) keep
  rw [movCh_congr hmov, Mach.chCleared]
  by_cases h : k = c
  · rw [if_pos h, h, movCh_setMovCh_same]
  · rw [if_neg h, movCh_setMovCh_ne _ h]

theorem Regs.flagBeside {x : Mach} {v : Mov} {as : List Nat} (h : Regs { m with mov := v } x as) {f : Fld} (hf : f.addr ∉ as) : x.flag f = m.flag f := by
  simp only [Mach.flag, Mach.fld, h.regs _ hf]
  rfl

theorem ctrl_notin_abortRegs : (R.MOV_CH_CTRL_EN c).addr ∉ abortRegs c := by
  simp only [abortRegs, List.mem_cons, List.not_mem_nil, or_false, R.MOV_CH_CTRL_EN, R.MOV_CH_STAT, R.MOV_CH_ERRINFO, R.MOV_STAT, R.MOV_PRESV]
  omega

/-- A channel disabled is aborted, with its queue kept (R506). -/
theorem disable_does (hc : c < 16) :
    let x := (m.setFlag (R.MOV_CH_CTRL_EN c) false).movAbort c true
    MoveOnly m x ∧ x.flag (R.MOV_CH_CTRL_EN c) = false ∧ x.movCh c = { m.movCh c with run := none } ∧ x.fld (R.MOV_CH_STAT_STATE c) = 3 := by
  intro x
  obtain ⟨hregs, -, hst, -, -⟩ := movAbort_does (c := c) (m.setFlag (R.MOV_CH_CTRL_EN c) false) true
  have hen : x.flag (R.MOV_CH_CTRL_EN c) = (m.setFlag (R.MOV_CH_CTRL_EN c) false).flag (R.MOV_CH_CTRL_EN c) := by
    exact Regs.flagBeside _ hregs ctrl_notin_abortRegs
  refine ⟨?_, hen.trans (Mach.flag_setFlag_same _ _ _ (by simp [R.MOV_CH_CTRL_EN]) rfl), ?_, hst⟩
  · refine (MoveOnly.of_regs (regs_setFld m (R.MOV_CH_CTRL_EN c) _) ?_).trans (.of_abort _ hc hregs)
    simp only [List.mem_singleton, R.MOV_CH_CTRL_EN]
    omega
  · exact (movAbort_movCh _ true c).trans (if_pos rfl)

/-- A channel in error restarts with its next request (R505). -/
theorem movRestart_does (hc : c < 16) (h : m.flag (R.MOV_CH_ERRINFO_ERR c) = true) :
    let x := m.movRestart c
    MoveOnly m x ∧ x.flag (R.MOV_CH_ERRINFO_ERR c) = false ∧ x.movCh c = { m.movCh c with run := none } ∧ x.fld (R.MOV_CH_STAT_STATE c) = 0 := by
  intro x
  have hx : x = ((m.chCleared c true).setFlag (R.MOV_CH_ERRINFO_ERR c) false).chRested c 0 := if_pos h
  obtain ⟨hrest, hmov, hst, herr, -⟩ := chRested_does (c := c) ((m.chCleared c true).setFlag (R.MOV_CH_ERRINFO_ERR c) false) 0
  rw [← hx] at hrest hmov hst herr
  have hregs : Regs (m.chCleared c true) ((m.chCleared c true).setFlag (R.MOV_CH_ERRINFO_ERR c) false) (abortRegs c) :=
    (regs_setFld _ (R.MOV_CH_ERRINFO_ERR c) _).mono (by simp [abortRegs, R.MOV_CH_ERRINFO_ERR, R.MOV_CH_ERRINFO])
  refine ⟨.of_abort m hc ?_, herr.trans (Mach.flag_setFlag_same _ _ _ (by simp [R.MOV_CH_ERRINFO_ERR]) rfl), ?_, hst⟩
  · rw [hmov]
    exact hregs.trans hrest
  · rw [movCh_congr hmov]
    exact movCh_setMovCh_same _ _ _

/-! ### The statement -/

theorem burstCounted_fld (f : Fld) : m.burstCounted.fld f = m.fld f := rfl
theorem burstCounted_flag (f : Fld) : m.burstCounted.flag f = m.flag f := rfl
theorem burstCounted_pdesc (i : Nat) : m.burstCounted.pdesc i = m.pdesc i := rfl
theorem burstCounted_pbufByte (a : Nat) : m.burstCounted.pbufByte a = m.pbufByte a := rfl
theorem burstCounted_movDst (r : MovRun) (d : MovDesc) (s t j : Nat) : m.burstCounted.movDst r d s t j = m.movDst r d s t j := rfl

theorem burstCounted_ev : m.burstCounted.ev = m.ev := rfl

theorem exec_burst (s : State) (t : Nat) (bad : Option (Fin 64)) : exec (.burst t bad) s = execBurst t bad s := rfl

/-- A burst answers with what the transport's boundary makes of the module. -/
theorem answers_burst {m : Mach} {s : State} {t : Nat} {bad : Option (Fin 64)} {n : Mach} {P : Mach → Prop}
    (hm : arrive t s = m) (h : m.movBoundary (bad.map (fun x => x.val)) = n) (hP : P n) : Answers (.burst t bad) s P := by
  subst hm h
  exact answers_runAt (exec_burst s t bad) hP

/-- Settles O48: request lines by their channels, bursts by the channel that wins and how its descriptor goes on, and the commands on a channel. -/
theorem moveEngine : Obligations.MoveEngine := by
  unfold Obligations.MoveEngine
  intro s t m
  have hm : arrive t s = m := rfl
  clear_value m
  refine ⟨fun l ha => ?_, fun bad hw hroom => ?_, fun bad c r hw h0 hrun => ?_, fun c q qs hw h0 hrun hqueue hqs => ?_, fun c hon => ?_⟩
  · refine answers_runAt (f := fun m => if m.alive then m.requestLine l else m) rfl ?_
    rw [hm, if_pos ha]
    exact ⟨requestLine_regs m l, fun c hc => requestLine_does m hc⟩
  · have hwants := (movWinner_wants m hw).1
    have hpend : m.fld (R.MOV_CH_STAT_PEND 0) ≠ 0 := by
      simp only [Mach.movWants, ↓reduceIte, Bool.and_eq_true, bne_iff_ne] at hwants
      exact hwants.2.1
    obtain ⟨honly, hdoes⟩ := movJournal_does m.burstCounted hroom hpend
    simp only [burstCounted_fld, burstCounted_ev] at hdoes
    exact answers_burst hm (movBoundary_journal m hw) ⟨(moveOnly_burstCounted m).trans honly, hdoes⟩
  · have hc := (movWinner_wants m hw).2
    intro d n src dst at_
    refine ⟨fun hbad => answers_burst hm (movBoundary_runs m hw h0 hrun) ?_, fun j hbad hk hv => ?_⟩
    · have hb : m.burstCounted.burstReads r (bad.map (fun (x : Fin 64) => x.val)) := hbad.imp_left (fun h => by rw [h]; rfl)
      have hmoves := burst_moves m.burstCounted hc hrun hb
      have hpart := burst_part m.burstCounted hrun hb
      have hrow := burst_row m.burstCounted hrun hb
      have hend := burst_end m.burstCounted hc hrun hb
      simp only [burstCounted_fld, burstCounted_flag, burstCounted_pdesc, burstCounted_pbufByte, burstCounted_movDst] at hmoves hpart hrow hend
      obtain ⟨honly, hbytes, hin, hout, -, -⟩ := hmoves
      exact ⟨(moveOnly_burstCounted m).trans honly, hbytes, hin, hout, hpart, hrow, hend⟩
    · have hruns := movBoundary_runs (bad := bad.map (fun x => x.val)) m hw h0 hrun
      rw [hbad, Option.map_some] at hruns
      have hbadByte := burst_bad m.burstCounted hc (j := j.val) hrun (by rw [burstCounted_pdesc]; exact hk) (by rw [burstCounted_pdesc]; exact hv)
      simp only [burstCounted_pdesc] at hbadByte
      obtain ⟨honly, hst, hecc, haddr, hcode, herr, hfault, hmov⟩ := hbadByte
      rw [hbad]
      exact answers_burst hm hruns ⟨honly, hst, hecc, haddr, hcode, herr, hfault, by rw [hmov]; rfl⟩
  · have hc := (movWinner_wants m hw).2
    have htakes := movBoundary_takes (bad := none) m hw h0 hrun
    intro d
    refine ⟨fun hi ha => ?_, fun code hi ha hlast => ?_⟩
    · have hacc := burst_accepted m.burstCounted hc hqueue hqs hi (by rw [burstCounted_pdesc, burstCounted_flag]; exact ha)
      simp only [burstCounted_fld, burstCounted_pdesc] at hacc
      obtain ⟨honly, hdoes⟩ := hacc
      exact answers_burst hm htakes ⟨(moveOnly_burstCounted m).trans honly, hdoes⟩
    · rw [hlast] at hqueue
      have href := burst_refused m.burstCounted hc hrun hqueue hi (by rw [burstCounted_pdesc, burstCounted_flag]; exact ha)
      simp only [burstCounted_fld] at href
      obtain ⟨honly, hdoes⟩ := href
      exact answers_burst hm htakes ⟨(moveOnly_burstCounted m).trans honly, hdoes⟩
  · intro x
    have hoff : ¬ (m.st == .off) = true := by simpa using hon
    refine ⟨?_, fun hen => ?_, fun keep => ?_, fun herr => ?_⟩
    · refine answers_runAt (f := fun m => if m.st == .off then m else m.movEnable c true) rfl ?_
      rw [hm, if_neg hoff]
      exact ⟨regs_setFld m (R.MOV_CH_CTRL_EN c) _, Mach.flag_setFlag_same _ _ _ (by simp [R.MOV_CH_CTRL_EN]) rfl⟩
    · refine answers_runAt (f := fun m => if m.st == .off then m else m.movEnable c false) rfl ?_
      rw [hm, if_neg hoff, show m.movEnable c false = (m.setFlag (R.MOV_CH_CTRL_EN c) false).movAbort c true from if_pos hen]
      exact disable_does m c.isLt
    · refine answers_runAt (f := fun m => if m.st == .off then m else m.movAbort c keep) rfl ?_
      rw [hm, if_neg hoff]
      obtain ⟨hregs, -, hst, herr, hpend⟩ := movAbort_does m (c := c) keep
      exact ⟨.of_abort m c.isLt hregs, (movAbort_movCh m keep c).trans (if_pos rfl), hst, herr, hpend, fun k hk => (movAbort_movCh m keep k).trans (if_neg hk)⟩
    · refine answers_runAt (f := fun m => m.movRestart c) rfl ?_
      rw [hm]
      exact movRestart_does m c.isLt herr

end Sys2Proof.Machine
end

section
/-!
SUPPORT. The retained store (R441–R468): what its commands touch, where a record is placed, and records queued behind one another.
-/
namespace Sys2Proof.Machine
open Sys2Proof

/-! ### What a command of the retained store touches -/

namespace StoreOnly

variable {m n x : Mach}

theorem refl (m : Mach) : StoreOnly m m := ⟨rfl, fun _ _ _ => rfl, fun _ h => h, List.prefix_rfl⟩

theorem trans (h : StoreOnly m n) (g : StoreOnly n x) : StoreOnly m x := by
  refine ⟨?_, fun a he ha => (g.regs a he ha).trans (h.regs a he ha), fun _ hf => hf, h.out.trans g.out⟩
  have hx := g.same
  rw [h.same] at hx
  exact hx

theorem of_rest (g : Rest m n) : StoreOnly m n := by
  refine ⟨?_, fun a he _ => g.regs a he, fun _ hf => hf, g.out⟩
  have hx := g.same
  rw [hx]

/-- A change of the records of the store and of the supervisor, and of the store's registers. -/
theorem of_own (h : n = { m with regs := n.regs, ret := n.ret, sup := n.sup })
    (hr : ∀ a, ¬ (0xF0000 ≤ a ∧ a < 0x100000) → a ≠ R.WDG_SUSPMAX_COUNT.addr → n.rget a = m.rget a) : StoreOnly m n := by
  refine ⟨?_, fun a _ ha => hr a (fun h1 => ha (.inl h1)) (fun h2 => ha (.inr h2)), fun _ hf => hf, ?_⟩
  · rw [h]
  · rw [h]

theorem rest (h : StoreOnly m n) (g : Rest n x) : StoreOnly m x := h.trans (of_rest g)

theorem setFld (h : StoreOnly m n) {f : Fld} (v : Nat) (ha : 0xF0000 ≤ f.addr ∧ f.addr < 0x100000) : StoreOnly m (n.setFld f v) :=
  h.trans (of_own rfl (fun a hna _ => n.rget_setFld_ne f v (by rintro rfl; exact hna ha)))

theorem setFlag (h : StoreOnly m n) {f : Fld} (b : Bool) (ha : 0xF0000 ≤ f.addr ∧ f.addr < 0x100000) : StoreOnly m (n.setFlag f b) := h.setFld _ ha

theorem setFld64 (h : StoreOnly m n) {f : Fld} (v : Nat) (ha : 0xF0000 ≤ f.addr ∧ f.addr + 4 < 0x100000) : StoreOnly m (n.setFld64 f v) :=
  h.trans (of_own rfl (fun a hna _ => n.rget_setFld64_ne (by rintro rfl; exact hna (by omega)) (by rintro rfl; exact hna (by omega))))

/-- The records of the store are written. -/
theorem store (h : StoreOnly m n) (r : RetStore) : StoreOnly m { n with ret := r } := h.trans (of_own rfl (fun _ _ _ => rfl))

end StoreOnly

variable (m : Mach)

/-! ### Sectors and lines -/

@[simp] theorem sector_setSector_same (s : Nat) (x : Sector) : (m.setSector s x).sector s = x := sget_sset_same _ _ _ _

theorem sector_setSector_ne {s k : Nat} (x : Sector) (h : k ≠ s) : (m.setSector s x).sector k = m.sector k := sget_sset_ne _ _ _ _ h

theorem fld64_setSector (s : Nat) (x : Sector) (f : Fld) : (m.setSector s x).fld64 f = m.fld64 f := rfl

theorem fld64_lt (f : Fld) : m.fld64 f < 2 ^ 64 := by
  have h0 := (m.rget f.addr).isLt
  have h1 := (m.rget (f.addr + 4)).isLt
  rw [Mach.fld64]
  omega

theorem countLines_lines (n : Nat) : (m.countLines n).fld64 R.RET_LINES_LO = (m.fld64 R.RET_LINES_LO + n) % 2 ^ 64 := fld64_setFld64_same m _ _

theorem setFld64_same (f : Fld) (v : Nat) : m.setFld64 f v = { m with regs := (m.setFld64 f v).regs } := rfl

theorem countLines_same (n : Nat) : m.countLines n = { m with regs := (m.countLines n).regs } := by
  rw [Mach.countLines]
  exact setFld64_same m _ _

theorem countLines_ret (n : Nat) : (m.countLines n).ret = m.ret := by rw [countLines_same]

theorem countLines_sector (n s : Nat) : (m.countLines n).sector s = m.sector s := by rw [Mach.sector, countLines_ret, Mach.sector]

theorem countLines_rget (n : Nat) {a : Nat} (h : a ≠ R.RET_LINES_LO.addr) (h' : a ≠ R.RET_LINES_LO.addr + 4) : (m.countLines n).rget a = m.rget a :=
  m.rget_setFld64_ne h h'

/-! ### Where a record is placed (R448) -/

/-- The sector of the append point of bank `b`. -/
def Mach.appendAt (m : Mach) (b : Nat) : Nat := 8 * b + m.openSector b

/-- The module with `n` lines taken in sector `s`. -/
def Mach.extended (m : Mach) (s n : Nat) : Mach := m.setSector s { m.sector s with top := (m.sector s).top + n }

/-- The lines a FILL header takes at the append point of bank `b`. -/
def Mach.fillLines (m : Mach) (b : Nat) : Nat := if (m.sector (m.appendAt b)).top < 2048 ∧ !(m.sector (m.appendAt b)).retired then 1 else 0

/-- The module with the open sector of bank `b` filled up. -/
def Mach.filled (m : Mach) (b : Nat) : Mach := (m.setSector (m.appendAt b) { m.sector (m.appendAt b) with top := 2048 }).countLines (m.fillLines b)

/-- The module with sector `i` of bank `b` as its open one. -/
def Mach.openNext (m : Mach) (b i : Nat) : Mach := { m with ret := { m.ret with opened := sset 0 m.ret.opened b i } }

/-- A record finds its place in the open sector, in the next erased one behind a FILL header, or, where none is left, at the end of the open one. -/
theorem placeIn_cases (b n : Nat) : ∃ s l x, m.placeIn b n = (s, l, x) ∧
    ((s = m.appendAt b ∧ x = m.extended s n) ∨ (s = m.appendAt b ∧ x = m.filled b) ∨
      ∃ i ∈ (m.filled b).erasedAhead b, s = 8 * b + i ∧ x = ((m.filled b).openNext b i).extended s n) := by
  by_cases hfit : (m.sector (m.appendAt b)).top + n ≤ 2048 ∧ !(m.sector (m.appendAt b)).retired
  · exact ⟨_, _, _, if_pos hfit, .inl ⟨rfl, rfl⟩⟩
  · have hplace : m.placeIn b n = (match (m.filled b).erasedAhead b with
        | i :: _ => (8 * b + i, (((m.filled b).openNext b i).sector (8 * b + i)).top, ((m.filled b).openNext b i).extended (8 * b + i) n)
        | [] => (m.appendAt b, (m.sector (m.appendAt b)).top, m.filled b)) := (if_neg hfit).trans rfl
    rw [hplace]
    cases hahead : (m.filled b).erasedAhead b with
    | nil => exact ⟨_, _, _, rfl, .inr (.inl ⟨rfl, rfl⟩)⟩
    | cons i is => exact ⟨_, _, _, rfl, .inr (.inr ⟨i, List.mem_cons_self, rfl, rfl⟩)⟩

/-! ### Records queued (R445) -/

/-- `n` is `m` with the records `rs` queued behind those of its store: lines of its sectors are taken, and FILL headers are counted. -/
structure Queued (m n : Mach) (rs : List Rec) : Prop where
  same : n = { m with regs := n.regs, ret := { m.ret with recs := m.ret.recs ++ rs, seq := m.ret.seq + rs.length, sectors := n.ret.sectors, opened := n.ret.opened } }
  regs : ∀ a, a ≠ R.RET_LINES_LO.addr → a ≠ R.RET_LINES_LO.addr + 4 → n.rget a = m.rget a
  retired : ∀ s, (n.sector s).retired = (m.sector s).retired

namespace Queued

variable {m} {n x : Mach} {rs qs : List Rec}

theorem refl (m : Mach) : Queued m m [] := ⟨by simp, fun _ _ _ => rfl, fun _ => rfl⟩

theorem trans (h : Queued m n rs) (g : Queued n x qs) : Queued m x (rs ++ qs) := by
  refine ⟨?_, fun a h0 h1 => (g.regs a h0 h1).trans (h.regs a h0 h1), fun s => (g.retired s).trans (h.retired s)⟩
  have hx := g.same
  rw [h.same] at hx
  simpa [Nat.add_assoc] using hx

theorem recs (h : Queued m n rs) : n.ret.recs = m.ret.recs ++ rs := by rw [h.same]
theorem seq (h : Queued m n rs) : n.ret.seq = m.ret.seq + rs.length := by rw [h.same]

theorem fld (h : Queued m n rs) {f : Fld} (h0 : f.addr ≠ R.RET_LINES_LO.addr) (h1 : f.addr ≠ R.RET_LINES_LO.addr + 4) : n.fld f = m.fld f := by
  simp only [Mach.fld, h.regs _ h0 h1]

theorem csn (h : Queued m n rs) : n.csn = m.csn := fld64_congr m (h.regs _ (by decide) (by decide)) (h.regs _ (by decide) (by decide))

theorem storeOnly (h : Queued m n rs) : StoreOnly m n := by
  refine .of_own ?_ (fun a ha _ => h.regs a ?_ ?_)
  · rw [h.same]
  · rintro rfl
    exact ha (by decide)
  · rintro rfl
    exact ha (by decide)

end Queued

theorem queued_setSector {s : Nat} {x : Sector} (h : x.retired = (m.sector s).retired) : Queued m (m.setSector s x) [] := by
  refine ⟨by simp [Mach.setSector], fun _ _ _ => rfl, fun k => ?_⟩
  by_cases hk : k = s
  · rw [hk, sector_setSector_same, h]
  · rw [sector_setSector_ne m x hk]

theorem queued_countLines (n : Nat) : Queued m (m.countLines n) [] := by
  refine ⟨?_, fun _ h h' => countLines_rget m n h h', fun s => by rw [countLines_sector]⟩
  rw [countLines_ret]
  simp only [List.append_nil, List.length_nil, Nat.add_zero]
  exact countLines_same m n

theorem queued_filled (b : Nat) : Queued m (m.filled b) [] := by
  have hset : Queued m (m.setSector (m.appendAt b) { m.sector (m.appendAt b) with top := 2048 }) [] := queued_setSector m rfl
  rw [Mach.filled]
  generalize m.setSector (m.appendAt b) { m.sector (m.appendAt b) with top := 2048 } = n at hset
  exact hset.trans (queued_countLines _ _)

theorem fld64_openNext (b i : Nat) (f : Fld) : (m.openNext b i).fld64 f = m.fld64 f := rfl

theorem queued_openNext (b i : Nat) : Queued m (m.openNext b i) [] := ⟨by simp [Mach.openNext], fun _ _ _ => rfl, fun _ => rfl⟩

/-- A place is found without a record being queued. -/
theorem queued_placeIn (b n : Nat) : Queued m (m.placeIn b n).2.2 [] := by
  obtain ⟨s, l, x, hplace, ⟨-, rfl⟩ | ⟨-, rfl⟩ | ⟨i, -, -, rfl⟩⟩ := placeIn_cases m b n
  · rw [hplace]
    exact queued_setSector m rfl
  · rw [hplace]
    exact queued_filled m b
  · rw [hplace]
    exact ((queued_filled m b).trans (queued_openNext _ b i)).trans (queued_setSector _ rfl)

/-- At most a FILL header's line is counted for a place. -/
theorem placeIn_lines (b n : Nat) :
    ∃ k, (k = 0 ∨ k = 1) ∧ (m.placeIn b n).2.2.fld64 R.RET_LINES_LO = (m.fld64 R.RET_LINES_LO + k) % 2 ^ 64 := by
  have hfill : m.fillLines b = 0 ∨ m.fillLines b = 1 := by
    unfold Mach.fillLines
    split <;> simp
  have hlt := fld64_lt m R.RET_LINES_LO
  have hfilled : (m.filled b).fld64 R.RET_LINES_LO = (m.fld64 R.RET_LINES_LO + m.fillLines b) % 2 ^ 64 := by
    rw [Mach.filled, countLines_lines, fld64_setSector]
  obtain ⟨s, l, x, hplace, ⟨-, rfl⟩ | ⟨-, rfl⟩ | ⟨i, -, -, rfl⟩⟩ := placeIn_cases m b n
  · exact ⟨0, .inl rfl, by rw [hplace, Mach.extended, fld64_setSector, Nat.add_zero, Nat.mod_eq_of_lt hlt]⟩
  · refine ⟨_, hfill, ?_⟩
    rw [hplace]
    exact hfilled
  · refine ⟨_, hfill, ?_⟩
    rw [hplace, Mach.extended, fld64_setSector, fld64_openNext]
    exact hfilled

/-- A record as it is queued, with its place. -/
def Mach.recAt (m : Mach) (ty arg key : Nat) (payload : List Byte) (p : Nat × Nat) : Rec :=
  { ty := ty, arg := arg, seq := m.ret.seq, key := key, payload := payload, csn := 0, next := 0, sector := p.1, line := p.2, done := false }

theorem putRec_eq (ty arg key : Nat) (payload : List Byte) : ∃ p x, Queued m x [] ∧ x = (m.placeIn m.chooseBank (recLines payload.length)).2.2 ∧
    m.putRec ty arg key payload = { x with ret := { x.ret with recs := x.ret.recs ++ [m.recAt ty arg key payload p], seq := x.ret.seq + 1 } } := by
  have hq := queued_placeIn m m.chooseBank (recLines payload.length)
  obtain ⟨s, l, x, hplace, -⟩ := placeIn_cases m m.chooseBank (recLines payload.length)
  rw [hplace] at hq ⊢
  refine ⟨(s, l), x, hq, rfl, ?_⟩
  unfold Mach.putRec
  rw [hplace]
  dsimp only
  rw [Mach.recAt, hq.seq]
  rfl

/-- A record is queued behind the others, incomplete, with the next SEQ of the store. -/
theorem queued_putRec (ty arg key : Nat) (payload : List Byte) : ∃ p, Queued m (m.putRec ty arg key payload) [m.recAt ty arg key payload p] := by
  obtain ⟨p, x, hq, -, hput⟩ := putRec_eq m ty arg key payload
  refine ⟨p, ?_⟩
  rw [hput]
  have hown : Queued x { x with ret := { x.ret with recs := x.ret.recs ++ [m.recAt ty arg key payload p], seq := x.ret.seq + 1 } } [m.recAt ty arg key payload p] :=
    ⟨rfl, fun _ _ _ => rfl, fun _ => rfl⟩
  exact hq.trans hown

theorem putRec_lines (ty arg key : Nat) (payload : List Byte) :
    ∃ k, (k = 0 ∨ k = 1) ∧ (m.putRec ty arg key payload).fld64 R.RET_LINES_LO = (m.fld64 R.RET_LINES_LO + k) % 2 ^ 64 := by
  obtain ⟨p, x, -, hx, hput⟩ := putRec_eq m ty arg key payload
  have hlines := placeIn_lines m m.chooseBank (recLines payload.length)
  rw [← hx] at hlines
  rw [hput]
  exact hlines

end Sys2Proof.Machine
end

section
/-!
PROOF. The retained store: its busy bits, the protect level, the flush of its journal and the start of a save (O52).
-/
namespace Sys2Proof.Machine
open Sys2Proof

theorem Rest.ret {m n : Mach} (h : Rest m n) : n.ret = m.ret := by rw [h.same]
theorem Rest.sup {m n : Mach} (h : Rest m n) : n.sup = m.sup := by rw [h.same]

variable (m : Mach)

theorem setFld_same (f : Fld) (v : Nat) : m.setFld f v = { m with regs := (m.setFld f v).regs } := rfl

/-- Events write no register of the retained store. -/
theorem evAddr_store {a : Nat} (h : 0xF0000 ≤ a ∧ a < 0x100000) : evAddr a = false := evAddr_beyondPair (by omega) (by omega)

/-! ### What the store shows of itself (R464) -/

/-- Is a sector of a log bank being erased? -/
def Mach.reclaims (m : Mach) : Bool :=
  match m.ret.erase with
  | some s => decide (16 ≤ s)
  | none => false

/-- The module with the busy bits of its store as they are. -/
def Mach.statShown (m : Mach) : Mach :=
  ((m.setFlag R.RET_STAT_SAVING m.ret.save.isSome).setFlag R.RET_STAT_PSTORE m.ret.pstore.isSome).setFlag R.RET_STAT_RECLAIM m.reclaims

theorem rest_showRet : Rest m.statShown m.showRet := rest_stat _ _ _

theorem statShown_regs : Regs m m.statShown [R.RET_STAT.addr] := by
  unfold Mach.statShown Mach.setFlag
  exact (((regs_setFld m R.RET_STAT_SAVING _).mono (by simp [R.RET_STAT, R.RET_STAT_SAVING])).trans
    ((regs_setFld _ R.RET_STAT_PSTORE _).mono (by simp [R.RET_STAT, R.RET_STAT_PSTORE]))).trans
    ((regs_setFld _ R.RET_STAT_RECLAIM _).mono (by simp [R.RET_STAT, R.RET_STAT_RECLAIM]))

theorem statShown_same : m.statShown = { m with regs := m.statShown.regs } := (statShown_regs m).same

theorem showRet_ret : m.showRet.ret = m.ret := by rw [(rest_showRet m).ret, statShown_same]
theorem showRet_sup : m.showRet.sup = m.sup := by rw [(rest_showRet m).sup, statShown_same]
theorem showRet_faults {f : Nat × Nat × Nat} (h : f ∈ m.faults) : f ∈ m.showRet.faults :=
  (rest_showRet m).faults f (by rw [statShown_same]; exact h)

theorem storeOnly_showRet : StoreOnly m m.showRet := by
  refine StoreOnly.rest (.of_own ?_ (fun a ha _ => (statShown_regs m).regs a ?_)) (rest_showRet m)
  · rw [statShown_same]
  · rintro hm
    rw [List.mem_singleton] at hm
    exact ha (by rw [hm]; decide)

theorem showRet_saving : m.showRet.flag R.RET_STAT_SAVING = m.ret.save.isSome := by
  rw [(rest_showRet m).flag (evAddr_store (by decide)), Mach.statShown, Mach.setFlag, Mach.flag_setFld_ne _ _ (by decide) (by decide), Mach.setFlag,
    Mach.flag_setFld_ne _ _ (by decide) (by decide)]
  exact Mach.flag_setFlag_same _ _ _ (by decide) rfl

theorem showRet_pstore : m.showRet.flag R.RET_STAT_PSTORE = m.ret.pstore.isSome := by
  rw [(rest_showRet m).flag (evAddr_store (by decide)), Mach.statShown, Mach.setFlag, Mach.flag_setFld_ne _ _ (by decide) (by decide)]
  exact Mach.flag_setFlag_same _ _ _ (by decide) rfl

theorem showRet_reclaim : m.showRet.flag R.RET_STAT_RECLAIM = m.reclaims := by
  rw [(rest_showRet m).flag (evAddr_store (by decide)), Mach.statShown]
  exact Mach.flag_setFlag_same _ _ _ (by decide) rfl

/-! ### The protect level (R459) -/

/-- A change of the protect level is recorded. -/
theorem setProtect_does {l : Nat} (hl : l < 4) (hne : m.fld R.RET_PROT_LEVEL ≠ l) :
    StoreOnly m (m.setProtect l) ∧ (m.setProtect l).fld R.RET_PROT_LEVEL = l ∧
      ∃ r, (m.setProtect l).ret.recs = m.ret.recs ++ [r] ∧ r.ty = 0x23 ∧ r.arg = l := by
  obtain ⟨p, hq⟩ := queued_putRec (m.setFld R.RET_PROT_LEVEL l) 0x23 l 0 []
  have hset : (m.setFld R.RET_PROT_LEVEL l).fld R.RET_PROT_LEVEL = l := by
    rw [Mach.fld_setFld_same _ _ _ (by decide)]
    exact Nat.mod_eq_of_lt hl
  have hx : m.setProtect l = ((m.setFld R.RET_PROT_LEVEL l).putRec 0x23 l 0 []).info 0x350B := if_neg hne
  have hrest := rest_info ((m.setFld R.RET_PROT_LEVEL l).putRec 0x23 l 0 []) 0x350B
  rw [hx]
  generalize (m.setFld R.RET_PROT_LEVEL l).putRec 0x23 l 0 [] = n at hq hrest
  refine ⟨((StoreOnly.setFld (.refl m) (f := R.RET_PROT_LEVEL) l (by decide)).trans hq.storeOnly).rest hrest, ?_, (m.setFld R.RET_PROT_LEVEL l).recAt 0x23 l 0 [] p, ?_, rfl, rfl⟩
  · rw [hrest.fld (evAddr_store (by decide)), hq.fld (by decide) (by decide), hset]
  · rw [hrest.ret, hq.recs, Mach.setFld_ret]

/-! ### The flush of the retained journal (R229, R457) -/

theorem entry_bytes_length (j : JEntry) : j.bytes.length = 16 := by simp [JEntry.bytes]

theorem bytes_length (es : List JEntry) : (es.flatMap JEntry.bytes).length = 16 * es.length := by
  induction es with
  | nil => rfl
  | cons e es ih => simp only [List.flatMap_cons, List.length_append, entry_bytes_length, ih, List.length_cons]; omega

/-- Is a record an incomplete JOURNAL record of at most 512 entries? -/
def Rec.journals (r : Rec) : Prop := r.ty = 0x20 ∧ r.done = false ∧ r.payload.length ≤ 8192

theorem putJournal_cons (n : Nat) {es : List JEntry} (h : es ≠ []) : ∃ key,
    m.putJournal (n + 1) es = (m.putRec 0x20 0 key ((es.take 512).flatMap JEntry.bytes)).putJournal n (es.drop 512) := by
  cases es with
  | nil => exact absurd rfl h
  | cons e es => exact ⟨_, rfl⟩

/-- Entries become JOURNAL records that hold their bytes in order. -/
theorem putJournal_queues (n : Nat) (es : List JEntry) (hn : es.length ≤ n) : ∃ rs, Queued m (m.putJournal n es) rs ∧ (∀ r ∈ rs, r.journals) ∧
    rs.flatMap (·.payload) = es.flatMap JEntry.bytes := by
  induction n generalizing m es with
  | zero => exact ⟨[], .refl m, by simp, by simp [List.eq_nil_of_length_eq_zero (Nat.le_zero.mp hn)]⟩
  | succ n ih =>
    by_cases hes : es = []
    · exact ⟨[], by rw [hes]; exact .refl m, by simp, by simp [hes]⟩
    · obtain ⟨key, hcons⟩ := putJournal_cons m n hes
      obtain ⟨p, hput⟩ := queued_putRec m 0x20 0 key ((es.take 512).flatMap JEntry.bytes)
      have hpos := List.length_pos_iff.mpr hes
      obtain ⟨rs, hq, hall, hbytes⟩ := ih (m.putRec 0x20 0 key ((es.take 512).flatMap JEntry.bytes)) (es.drop 512) (by rw [List.length_drop]; omega)
      refine ⟨_ :: rs, hcons ▸ hput.trans hq, ?_, ?_⟩
      · rintro r (_ | ⟨_, hr⟩)
        · refine ⟨rfl, rfl, ?_⟩
          rw [Mach.recAt, bytes_length, List.length_take]
          omega
        · exact hall r hr
      · rw [List.flatMap_cons, hbytes, Mach.recAt, ← List.flatMap_append, List.take_append_drop]

/-- The module with its lost entries told to the retained journal. -/
def Mach.lostTold (m : Mach) : Mach := { m with ev := { m.ev with ringLost := 0 }, ret := { m.ret with rjLost := 0 } }

/-- The number the retained journal shows as its last, behind entries `es`. -/
def Mach.rjLast (m : Mach) (es : List JEntry) : Nat := ((es.findRev? (fun j => !j.isMarker)).map (·.seq)).getD (m.fld R.EVU_RJLAST)

theorem rjWrite_eq {es : List JEntry} (h : es ≠ []) :
    m.rjWrite es = (m.lostTold.putJournal (m.rjMarkers ++ es).length (m.rjMarkers ++ es)).setFld R.EVU_RJLAST (m.lostTold.rjLast es) := by
  unfold Mach.rjWrite
  rw [if_neg (by simpa using h)]
  rfl

/-- Entries are written to the retained journal behind the markers of what was lost. -/
theorem rjWrite_does {es : List JEntry} (h : es ≠ []) : ∃ rs, (∀ r ∈ rs, r.journals) ∧ rs.flatMap (·.payload) = (m.rjMarkers ++ es).flatMap JEntry.bytes ∧
    m.rjWrite es = { m with regs := (m.rjWrite es).regs, ret := (m.rjWrite es).ret, ev := { m.ev with ringLost := 0 } } ∧
    (m.rjWrite es).ret.recs = m.ret.recs ++ rs ∧ (m.rjWrite es).ret.rjLost = 0 ∧
    ∀ l, es.getLast? = some l → l.isMarker = false → (m.rjWrite es).fld R.EVU_RJLAST = l.seq % 2 ^ 32 := by
  obtain ⟨rs, hq, hall, hbytes⟩ := putJournal_queues m.lostTold _ (m.rjMarkers ++ es) (Nat.le_refl _)
  refine ⟨rs, hall, hbytes, ?_⟩
  rw [rjWrite_eq m h]
  have hsame := hq.same
  generalize m.lostTold.putJournal (m.rjMarkers ++ es).length (m.rjMarkers ++ es) = n at hsame
  refine ⟨?_, ?_, ?_, fun l hl hm => ?_⟩
  · rw [setFld_same n, hsame, Mach.lostTold]
  · rw [Mach.setFld_ret, hsame, Mach.lostTold]
  · rw [Mach.setFld_ret, hsame, Mach.lostTold]
  · obtain ⟨ys, rfl⟩ := List.getLast?_eq_some_iff.mp hl
    rw [Mach.fld_setFld_same _ _ _ (by decide), Mach.rjLast]
    simp [hm, R.EVU_RJLAST]

/-- The module without the first `n` pending entries. -/
def Mach.pendTaken (m : Mach) (n : Nat) : Mach := { m with ev := { m.ev with rjPend := m.ev.rjPend.drop n } }

theorem pendTaken_fld (n : Nat) (f : Fld) : (m.pendTaken n).fld f = m.fld f := rfl

/-- Without as many entries as a list holds at most `k` of, the list is without its first `k`. -/
theorem drop_length_take {α : Type} (k : Nat) (xs : List α) : xs.drop (xs.take k).length = xs.drop k := by
  rw [List.length_take]
  rcases Nat.le_total k xs.length with hle | hle
  · rw [Nat.min_eq_left hle]
  · rw [Nat.min_eq_right hle, List.drop_eq_nil_of_le hle, List.drop_eq_nil_of_le (Nat.le_refl _)]

/-- A flush takes the pending entries as JOURNAL records. -/
theorem flushJournal_takes (h : m.ev.rjPend ≠ []) : let x := m.flushJournal
    x = { m with regs := x.regs, ret := x.ret, ev := { m.ev with ringLost := 0, rjPend := m.ev.rjPend.drop 8192 } } ∧ x.ret.rjLost = 0 ∧
      (∀ l, (m.ev.rjPend.take 8192).getLast? = some l → l.isMarker = false → x.fld R.EVU_RJLAST = l.seq % 2 ^ 32) ∧
      ∃ rs, x.ret.recs = m.ret.recs ++ rs ∧ (∀ r ∈ rs, r.journals) ∧ rs.flatMap (·.payload) = (m.rjMarkers ++ m.ev.rjPend.take 8192).flatMap JEntry.bytes := by
  intro x
  have hes : m.ev.rjPend.take 8192 ≠ [] := by simpa using h
  obtain ⟨rs, hall, hbytes, hsame, hrecs, hlost, hlast⟩ := rjWrite_does m hes
  have hx : x = (m.rjWrite (m.ev.rjPend.take 8192)).pendTaken (m.ev.rjPend.take 8192).length := by
    show m.flushJournal = _
    unfold Mach.flushJournal
    exact if_neg (by simpa using h)
  clear_value x
  generalize m.rjWrite (m.ev.rjPend.take 8192) = n at hsame hrecs hlost hlast hx
  refine ⟨?_, ?_, fun l hl hm => ?_, rs, ?_, hall, hbytes⟩
  · rw [hx, hsame, Mach.pendTaken, drop_length_take]
  · rw [hx, Mach.pendTaken, hlost]
  · rw [hx, pendTaken_fld, hlast l hl hm]
  · rw [hx, Mach.pendTaken, hrecs]

/-- A flush with none to take. -/
theorem flushJournal_idle (h : m.ev.rjPend = []) : m.flushJournal =
    if 2 ^ 19 ≤ (m.csn + 2 ^ 48 - m.ret.recCsn % 2 ^ 48) % 2 ^ 48 ∨ 2 ^ 22 ≤ (m.fld R.EVU_SEQ + 2 ^ 32 - m.ret.recSeq % 2 ^ 32) % 2 ^ 32 then m.putRec 0x21 0 m.csn [] else m := by
  unfold Mach.flushJournal advanced
  rw [if_pos (by simp [h])]

end Sys2Proof.Machine
end

section
/-!
PROOF. Retained saves: their chunks, their RETCOMMIT, and their records completed or failed (O52).
-/
namespace Sys2Proof.Machine
open Sys2Proof

variable (m : Mach)

/-! ### The chunks of a save (R451, R453) -/

theorem insertFalling_length (x : Nat × Nat) (xs : List (Nat × Nat)) : (insertFalling x xs).length = xs.length + 1 := by
  induction xs with
  | nil => rfl
  | cons y ys ih =>
    unfold insertFalling
    split
    · rfl
    · rw [List.length_cons, ih, List.length_cons]

theorem foldl_insertFalling_length (xs ys : List (Nat × Nat)) : (xs.foldl (fun l x => insertFalling x l) ys).length = ys.length + xs.length := by
  induction xs generalizing ys with
  | nil => rfl
  | cons x xs ih => rw [List.foldl_cons, ih, insertFalling_length, List.length_cons]; omega

theorem saveOrder_length : m.saveOrder.length = m.ret.dirty.length := by
  rw [Mach.saveOrder, List.length_map, foldl_insertFalling_length, List.length_map, List.length_nil, Nat.zero_add]

/-- The content of a chunk as a save records it. -/
def Mach.chunkData (m : Mach) (c : Nat) : List Byte := (m.chunkBytes c).map m.retByte

theorem Queued.chunkData {n : Mach} {rs : List Rec} (h : Queued m n rs) (c : Nat) : n.chunkData c = m.chunkData c := by
  rw [h.same]
  rfl

/-- The module with a RETCHUNK of generation `g` queued for chunk `c`. -/
def Mach.putChunk (m : Mach) (g c : Nat) : Mach := m.putRec 0x10 0 (g + c * 2 ^ 32) (m.chunkData c)

/-- Chunks become RETCHUNK records with their content. -/
theorem putChunks_queue (g : Nat) (cs : List Nat) : ∃ rs, Queued m (foldM cs (fun c n => n.putChunk g c) m) rs ∧ (∀ r ∈ rs, r.ty = 0x10 ∧ r.done = false) ∧
    rs.map (fun r => (r.key, r.payload)) = cs.map (fun c => (g + c * 2 ^ 32, m.chunkData c)) := by
  induction cs generalizing m with
  | nil => exact ⟨[], .refl m, by simp, rfl⟩
  | cons c cs ih =>
    obtain ⟨p, hput⟩ := queued_putRec m 0x10 0 (g + c * 2 ^ 32) (m.chunkData c)
    rw [← Mach.putChunk] at hput
    obtain ⟨rs, hq, hall, hmap⟩ := ih (m.putChunk g c)
    refine ⟨m.recAt 0x10 0 (g + c * 2 ^ 32) (m.chunkData c) p :: rs, hput.trans hq, ?_, ?_⟩
    · rintro r (_ | ⟨_, hr⟩)
      · exact ⟨rfl, rfl⟩
      · exact hall r hr
    · simp only [List.map_cons, hmap, Mach.recAt, hput.chunkData]

/-! ### The RETCOMMIT of a save (R453) -/

/-- The module with a save in progress. -/
def Mach.saves (m : Mach) (v : Save) : Mach := { m with ret := { m.ret with save := some v } }

theorem saveStep_waits {v : Save} (hs : m.ret.save = some v) (h : v.wait ≠ [] ∨ v.commit = true) : m.saveStep = m := by
  unfold Mach.saveStep
  rw [hs]
  exact if_neg (by simpa using fun hw => h.resolve_left (fun hne => hne hw))

/-- A save whose records are complete queues its RETCOMMIT. -/
theorem saveStep_commits {v : Save} (hs : m.ret.save = some v) (hw : v.wait = []) (hc : v.commit = false) : ∃ n c, Queued m n [c] ∧
    m.saveStep = n.saves { v with wait := [m.ret.seq], commit := true } ∧ c.ty = 0x11 ∧ c.key = v.gen ∧ c.arg = v.kind ∧ c.seq = m.ret.seq ∧
    ∃ k, (k = 0 ∨ k = 1) ∧ n.fld64 R.RET_LINES_LO = (m.fld64 R.RET_LINES_LO + k) % 2 ^ 64 := by
  obtain ⟨p, hq⟩ := queued_putRec m 0x11 v.kind v.gen (retcommitPayload m.ret.layout v.reft v.csn v.chunks.length)
  refine ⟨_, _, hq, ?_, rfl, rfl, rfl, rfl, putRec_lines m _ _ _ _⟩
  unfold Mach.saveStep
  rw [hs]
  exact if_pos (by simp [hw, hc])

/-! ### A periodic save begins (R454) -/

/-- The module with the next generation begun. -/
def Mach.genBegun (m : Mach) : Mach := { m with ret := { m.ret with savePend := none, gens := m.ret.gens + 1 } }

/-- The save of a generation whose records, from SEQ `n0` on, are queued. -/
def Mach.saveOf (m : Mach) (n0 : Nat) : Save :=
  { kind := 2, gen := m.ret.gens, reft := m.now, csn := m.csn, chunks := m.ret.dirty, wait := (List.range (m.ret.seq - n0)).map (n0 + ·), commit := false,
    since := m.now, display := false }

/-- The module with the chunks of its save queued. -/
def Mach.chunksPut (m : Mach) : Mach := foldM m.saveOrder (fun c n => n.putChunk (m.ret.gens + 1) c) m.genBegun

theorem beginSave_eq (h : m.ran = true) : m.beginSave 2 = (m.chunksPut.saves (m.chunksPut.saveOf m.ret.seq)).saveStep.showRet := by
  unfold Mach.beginSave
  extract_lets ran ret m1 gen n0 m2 m3
  have hran : ran = true := h
  have hm1 : m1 = m.genBegun := by
    show { m with ret := { m.ret with savePend := none, gens := if ran then m.ret.gens + 1 else m.ret.gens } } = _
    rw [if_pos hran, Mach.genBegun]
  have hm2 : m2 = m.chunksPut := by
    rw [show m2 = _ from if_pos hran, show gen = m1.ret.gens from rfl, hm1]
    rfl
  have hm3 : m3 = m2 := if_neg (by decide)
  rw [if_pos hran, hm3, hm2, show n0 = m.ret.seq from rfl]
  rfl

theorem startSave_waits {kind : Nat} (h : m.cu.app.isSome = true) : m.startSave kind = { m with ret := { m.ret with savePend := some kind } } := by
  unfold Mach.startSave Mach.saveWaits
  rw [h]
  rfl

theorem startSave_begins (h : m.cu.app = none) : m.startSave 2 = m.beginSave 2 := by
  unfold Mach.startSave Mach.saveWaits
  rw [h]
  rfl

theorem saves_ret (v : Save) : (m.saves v).ret = { m.ret with save := some v } := rfl

/-- A module that shows the save in progress. -/
theorem shown_saves {n : Mach} (h : StoreOnly m n) (v : Save) : StoreOnly m (n.saves v).showRet ∧ (n.saves v).showRet.flag R.RET_STAT_SAVING = true ∧
    (n.saves v).showRet.ret = { n.ret with save := some v } :=
  ⟨(h.store _).trans (storeOnly_showRet _), showRet_saving (n.saves v), showRet_ret (n.saves v)⟩

/-- The next generation of a save begins with its dirty chunks, or with its RETCOMMIT where there are none. -/
theorem beginSave_does (h : m.ran = true) : let x := m.beginSave 2
    StoreOnly m x ∧ x.ret.gens = m.ret.gens + 1 ∧ x.flag R.RET_STAT_SAVING = true ∧
      ∃ v, x.ret.save = some v ∧ v.kind = 2 ∧ v.gen = m.ret.gens + 1 ∧ v.reft = m.now ∧ v.csn = m.csn ∧ v.chunks = m.ret.dirty ∧ v.again = [] ∧
        (m.ret.dirty = [] → v.commit = true ∧ ∃ r, x.ret.recs = m.ret.recs ++ [r] ∧ r.ty = 0x11 ∧ r.key = m.ret.gens + 1) ∧
        (m.ret.dirty ≠ [] → v.commit = false ∧ ∃ rs, x.ret.recs = m.ret.recs ++ rs ∧ (∀ r ∈ rs, r.ty = 0x10 ∧ r.done = false) ∧
          rs.map (fun r => (r.key, r.payload)) = m.saveOrder.map (fun c => (m.ret.gens + 1 + c * 2 ^ 32, m.chunkData c))) := by
  intro x
  obtain ⟨rs, hq, hall, hmap⟩ := putChunks_queue m.genBegun (m.ret.gens + 1) m.saveOrder
  have hx : x = (m.chunksPut.saves (m.chunksPut.saveOf m.ret.seq)).saveStep.showRet := beginSave_eq m h
  clear_value x
  rw [← Mach.chunksPut] at hq
  generalize m.chunksPut = n at hq hx
  have hstore : StoreOnly m n := ((StoreOnly.refl m).store _).trans hq.storeOnly
  have hseq : n.ret.seq = m.ret.seq + rs.length := hq.seq
  have hrecs : n.ret.recs = m.ret.recs ++ rs := hq.recs
  have hgens : n.ret.gens = m.ret.gens + 1 := by rw [hq.same, Mach.genBegun]
  have hdirty : n.ret.dirty = m.ret.dirty := by rw [hq.same, Mach.genBegun]
  have hnow : n.now = m.now := by rw [hq.same, Mach.genBegun]
  have hcsn : n.csn = m.csn := hq.csn
  have hlen : rs.length = m.ret.dirty.length := by rw [← saveOrder_length, ← List.length_map, hmap, List.length_map]
  have hwait : (n.saveOf m.ret.seq).wait = [] ↔ m.ret.dirty = [] := by
    rw [Mach.saveOf, List.map_eq_nil_iff, List.range_eq_nil, hseq, Nat.add_sub_cancel_left, hlen, List.length_eq_zero_iff]
  by_cases hd : m.ret.dirty = []
  · obtain ⟨y, c, hy, hstep, hty, hkey, -⟩ := saveStep_commits (n.saves (n.saveOf m.ret.seq)) rfl (hwait.mpr hd) rfl
    rw [hstep] at hx
    obtain ⟨hs, hsaving, hret⟩ := shown_saves m ((hstore.store _).trans hy.storeOnly) { n.saveOf m.ret.seq with wait := [(n.saves (n.saveOf m.ret.seq)).ret.seq], commit := true }
    rw [← hx] at hs hsaving hret
    have hnil : rs = [] := List.length_eq_zero_iff.mp (by rw [hlen, hd, List.length_nil])
    refine ⟨hs, ?_, hsaving, _, by rw [hret], rfl, hgens, hnow, hcsn, hdirty, rfl, fun _ => ⟨rfl, c, ?_, hty, hkey.trans hgens⟩, fun hne => absurd hd hne⟩
    · rw [hret, hy.same, saves_ret, hgens]
    · rw [hret, hy.recs, saves_ret, hrecs, hnil, List.append_nil]
  · rw [saveStep_waits _ rfl (.inl (fun hw => hd (hwait.mp hw)))] at hx
    obtain ⟨hs, hsaving, hret⟩ := shown_saves m hstore (n.saveOf m.ret.seq)
    rw [← hx] at hs hsaving hret
    refine ⟨hs, ?_, hsaving, _, by rw [hret], rfl, hgens, hnow, hcsn, hdirty, rfl, fun hnil => absurd hnil hd, fun _ => ⟨rfl, rs, ?_, hall, hmap⟩⟩
    · rw [hret, hgens]
    · rw [hret, hrecs]

end Sys2Proof.Machine
end

section
/-!
PROOF. The retained store: its records' markers, a save that counts, and a record that fails verification (O52).
-/
namespace Sys2Proof.Machine
open Sys2Proof

variable (m : Mach)

/-! ### A record's marker (R446) -/

/-- The module with the marker of its incomplete record of SEQ `q` programmed. -/
def Mach.recMarked (m : Mach) (q : Nat) : Mach :=
  { m with ret := { m.ret with
    recs := m.ret.recs.map (fun x => if x.seq = q ∧ x.done = false then { x with csn := m.csn, next := m.fld R.EVU_SEQ, done := true } else x),
    recCsn := m.csn, recSeq := m.fld R.EVU_SEQ } }

theorem markRec_eq {q : Nat} {r : Rec} (h : m.ret.recs.find? (fun x => x.seq == q && !x.done) = some r) :
    m.markRec q = (m.recMarked q).countLines (recLines r.payload.length) := by
  unfold Mach.markRec
  rw [h]
  simp only [Mach.recMarked, Bool.and_eq_true, beq_iff_eq, Bool.not_eq_true']

/-- A marker completes its record, and the record's lines are counted. -/
theorem markRec_does {q : Nat} {r : Rec} (h : m.ret.recs.find? (fun x => x.seq == q && !x.done) = some r) :
    m.markRec q = { m with regs := (m.markRec q).regs, ret := (m.recMarked q).ret } ∧ StoreOnly m (m.markRec q) ∧
      (m.markRec q).fld64 R.RET_LINES_LO = (m.fld64 R.RET_LINES_LO + 2 + (r.payload.length + 31) / 32) % 2 ^ 64 := by
  rw [markRec_eq m h]
  refine ⟨?_, ?_, ?_⟩
  · rw [countLines_same]
    rfl
  · exact ((StoreOnly.refl m).store _).trans (queued_countLines _ _).storeOnly
  · rw [countLines_lines, recLines, ← Nat.add_assoc]
    rfl

theorem saveRec_none {q : Nat} (h : m.ret.save = none) : m.saveRec q = m := by
  unfold Mach.saveRec
  rw [h]

theorem saveRec_last {q : Nat} {v : Save} (h : m.ret.save = some v) (hw : v.wait = [q]) :
    m.saveRec q = if v.commit then m.saveCommitted { v with wait := [] } else (m.saves { v with wait := [] }).saveStep := by
  unfold Mach.saveRec
  rw [h]
  simp [hw, Mach.saves]

/-! ### A save that counts (R453) -/

/-- What follows a store's busy bits leaves its other registers. -/
theorem shown_rget {x : Mach} (h : Rest m.showRet x) {a : Nat} (ha : 0xF0000 ≤ a ∧ a < 0x100000) (hne : a ≠ R.RET_STAT.addr) : x.rget a = m.rget a := by
  rw [h.regs _ (evAddr_store ha), (rest_showRet m).regs _ (evAddr_store ha), (statShown_regs m).regs _ (by simpa using hne)]

/-- The module with a generation shown as its last, saved at an instant. -/
def Mach.genShown (m : Mach) (v : Save) : Mach := (m.setFld R.RET_GEN v.gen).setFld64 R.RET_SAVET_LO v.reft

/-- The module with the time a save has taken shown. -/
def Mach.durShown (m : Mach) (d : Nat) : Mach := (m.setFld R.RET_SAVEDUR_LAST (min d 65535)).maxFld R.RET_SAVEDUR_MAX d

/-- The module whose save counts: the dirty marks it has covered are cleared. -/
def Mach.saveCounted (m : Mach) (v : Save) : Mach :=
  { m with ret := { m.ret with dirty := m.ret.dirty.filter (fun c => !v.chunks.contains c || v.again.contains c), save := none } }

theorem saveCommitted_eq (v : Save) : m.saveCommitted v = (((m.genShown v).durShown ((m.now - v.since) / 10000)).saveCounted v).showRet.info 0x3505 := rfl

/-- A generation that counts shows itself and its instant. -/
theorem genShown_does (v : Save) : (m.genShown v).fld R.RET_GEN = v.gen % 2 ^ 32 ∧ (m.genShown v).fld64 R.RET_SAVET_LO = v.reft % 2 ^ 64 ∧
    (m.genShown v).fld64 R.RET_LINES_LO = m.fld64 R.RET_LINES_LO ∧ StoreOnly m (m.genShown v) ∧ (m.genShown v).ret = m.ret := by
  refine ⟨?_, fld64_setFld64_same _ _ _, ?_, ((StoreOnly.refl m).setFld (f := R.RET_GEN) _ (by decide)).setFld64 (f := R.RET_SAVET_LO) _ (by decide), ?_⟩
  · rw [Mach.genShown, Mach.fld, Mach.rget_setFld64_ne _ (by decide) (by decide), ← Mach.fld, Mach.fld_setFld_same _ _ _ (by decide), R.RET_GEN]
  · rw [Mach.genShown, fld64_setFld64_ne _ _ (.inr (by decide)), fld64_setFld_ne _ _ (by decide) (by decide)]
  · rw [Mach.genShown, Mach.setFld64_ret, Mach.setFld_ret]

theorem durShown_does (d : Nat) : (∀ a, a ≠ R.RET_SAVEDUR.addr → (m.durShown d).rget a = m.rget a) ∧ StoreOnly m (m.durShown d) ∧ (m.durShown d).ret = m.ret := by
  rw [Mach.durShown, Mach.maxFld]
  refine ⟨fun a ha => ?_, ((StoreOnly.refl m).setFld (f := R.RET_SAVEDUR_LAST) _ (by decide)).setFld (f := R.RET_SAVEDUR_MAX) _ (by decide), ?_⟩
  · rw [Mach.rget_setFld_ne _ R.RET_SAVEDUR_MAX _ ha, Mach.rget_setFld_ne _ R.RET_SAVEDUR_LAST _ ha]
  · rw [Mach.setFld_ret, Mach.setFld_ret]

/-- A save that counts shows its generation and clears the dirty marks it has covered. -/
theorem saveCommitted_does (v : Save) : StoreOnly m (m.saveCommitted v) ∧ (m.saveCommitted v).fld R.RET_GEN = v.gen % 2 ^ 32 ∧
    (m.saveCommitted v).fld64 R.RET_SAVET_LO = v.reft % 2 ^ 64 ∧ (m.saveCommitted v).fld64 R.RET_LINES_LO = m.fld64 R.RET_LINES_LO ∧
    (m.saveCommitted v).ret = { m.ret with dirty := m.ret.dirty.filter (fun c => !v.chunks.contains c || v.again.contains c), save := none } := by
  rw [saveCommitted_eq]
  obtain ⟨hgen, htime, hlines, hstore, hret⟩ := genShown_does m v
  obtain ⟨hregs, hstore', hret'⟩ := durShown_does (m.genShown v) ((m.now - v.since) / 10000)
  generalize (m.genShown v).durShown ((m.now - v.since) / 10000) = n at hregs hstore' hret'
  have hinfo := rest_info (n.saveCounted v).showRet 0x3505
  have hkept : ∀ a, 0xF0000 ≤ a ∧ a < 0x100000 → a ≠ R.RET_STAT.addr → a ≠ R.RET_SAVEDUR.addr → ((n.saveCounted v).showRet.info 0x3505).rget a = (m.genShown v).rget a :=
    fun a ha hs hd => (shown_rget (n.saveCounted v) hinfo ha hs).trans (hregs a hd)
  refine ⟨(((hstore.trans hstore').store _).trans (storeOnly_showRet _)).rest hinfo, ?_, ?_, ?_, ?_⟩
  · rw [Mach.fld, hkept _ (by decide) (by decide) (by decide)]
    exact hgen
  · rw [fld64_congr _ (hkept _ (by decide) (by decide) (by decide)) (hkept _ (by decide) (by decide) (by decide)), htime]
  · rw [fld64_congr _ (hkept _ (by decide) (by decide) (by decide)) (hkept _ (by decide) (by decide) (by decide)), hlines]
  · rw [hinfo.ret, showRet_ret, Mach.saveCounted, hret', hret]

/-! ### A record that fails verification (R466) -/

/-- The module with the wear of its sectors shown, and sector `s` retired. -/
def Mach.wornOut (m : Mach) (s : Nat) : Mach := (m.setSector s { m.sector s with retired := true }).showWear

theorem showWear_does : StoreOnly m m.showWear ∧ m.showWear.ret = m.ret ∧ m.showWear.faults = m.faults ∧
    (∀ a, a ≠ R.RET_WEAR.addr → m.showWear.rget a = m.rget a) := by
  unfold Mach.showWear
  extract_lets us n
  refine ⟨((StoreOnly.refl m).setFld (f := R.RET_WEAR_MAXERASE) _ (by decide)).setFld (f := R.RET_WEAR_RETIRED) _ (by decide), ?_, ?_, fun a ha => ?_⟩
  · rw [Mach.setFld_ret, Mach.setFld_ret]
  · rw [Mach.setFld_faults, Mach.setFld_faults]
  · rw [Mach.rget_setFld_ne _ R.RET_WEAR_RETIRED _ ha, Mach.rget_setFld_ne _ R.RET_WEAR_MAXERASE _ ha]

theorem retireSector_rest {s : Nat} (h : (m.sector s).retired = false) :
    Rest (m.wornOut s) (m.retireSector s) ∧ (0x350C, s, 1) ∈ (m.retireSector s).faults := by
  have hraise := rest_raise (m.wornOut s) 0x350C s 1
  have hmem := raise_mem (m.wornOut s) 0x350C s 1
  unfold Mach.retireSector
  rw [if_neg (by rw [h]; decide), ← Mach.wornOut]
  dsimp only
  generalize (m.wornOut s).raise 0x350C s 1 = n at hraise hmem
  split
  · exact ⟨hraise.trans (rest_raise _ _ _ _), (rest_raise _ _ _ _).faults _ hmem⟩
  · exact ⟨hraise, hmem⟩

/-- A sector is retired, with a fault where it was not, and nothing else of the store changes. -/
theorem retireSector_does (s : Nat) : StoreOnly m (m.retireSector s) ∧ (m.retireSector s).ret = { m.ret with sectors := (m.retireSector s).ret.sectors } ∧
    ((m.retireSector s).sector s).retired = true ∧ ((m.sector s).retired = false → (0x350C, s, 1) ∈ (m.retireSector s).faults) ∧
    ∀ a, 0xF0000 ≤ a ∧ a < 0x100000 → a ≠ R.RET_WEAR.addr → (m.retireSector s).rget a = m.rget a := by
  by_cases h : (m.sector s).retired = true
  · have hx : m.retireSector s = m := if_pos h
    rw [hx]
    exact ⟨.refl m, rfl, h, fun hf => absurd (h.symm.trans hf) (by decide), fun _ _ _ => rfl⟩
  · obtain ⟨hrest, hmem⟩ := retireSector_rest m (s := s) (by simpa using h)
    obtain ⟨hstore, hret, -, hregs⟩ := showWear_does (m.setSector s { m.sector s with retired := true })
    rw [← Mach.wornOut] at hstore hret hregs
    have hret' := hrest.ret.trans hret
    refine ⟨(((StoreOnly.refl m).store _).trans hstore).rest hrest, ?_, ?_, fun _ => hmem, fun a ha hne => ?_⟩
    · rw [hret']
      rfl
    · rw [Mach.sector, hret', ← Mach.sector, sector_setSector_same]
    · rw [hrest.regs a (evAddr_store ha), hregs a hne]
      rfl

/-- The module without its incomplete record of SEQ `q`. -/
def Mach.recDropped (m : Mach) (q : Nat) : Mach := { m with ret := { m.ret with recs := m.ret.recs.filter (fun x => !(x.seq == q && !x.done)) } }

/-- The module whose save waits for SEQ `n` in place of `q`. -/
def Mach.waitsFor (m : Mach) (q n : Nat) : Mach :=
  { m with ret := { m.ret with save := m.ret.save.map (fun s => { s with wait := s.wait.map (fun x => if x = q then n else x) }) } }

theorem recFail_eq {q : Nat} {r : Rec} (h : m.ret.recs.find? (fun x => x.seq == q && !x.done) = some r) : m.recFail q =
    (((m.recDropped q).retireSector r.sector).putRec r.ty r.arg r.key r.payload).waitsFor q ((m.recDropped q).retireSector r.sector).ret.seq := by
  unfold Mach.recFail
  rw [h]
  rfl

/-- A record that fails verification retires its sector and is written anew. -/
theorem recFail_does {q : Nat} {r : Rec} (h : m.ret.recs.find? (fun x => x.seq == q && !x.done) = some r) :
    StoreOnly m (m.recFail q) ∧ ((m.recFail q).sector r.sector).retired = true ∧
      ((m.sector r.sector).retired = false → (0x350C, r.sector, 1) ∈ (m.recFail q).faults) ∧ (∀ x ∈ m.ret.recs, x.seq ≠ q → x ∈ (m.recFail q).ret.recs) ∧
      ∃ n, (m.recFail q).ret.recs.getLast? = some n ∧ n.ty = r.ty ∧ n.arg = r.arg ∧ n.key = r.key ∧ n.payload = r.payload ∧ n.done = false ∧ n.seq = m.ret.seq := by
  rw [recFail_eq m h]
  obtain ⟨hstore, hret, hretired, hfault, -⟩ := retireSector_does (m.recDropped q) r.sector
  generalize (m.recDropped q).retireSector r.sector = n at hstore hret hretired hfault
  obtain ⟨p, hq⟩ := queued_putRec n r.ty r.arg r.key r.payload
  have hfaults : (n.putRec r.ty r.arg r.key r.payload).faults = n.faults := by rw [hq.same]
  generalize n.putRec r.ty r.arg r.key r.payload = y at hq hfaults
  have hrecs : y.ret.recs = m.ret.recs.filter (fun x => !(x.seq == q && !x.done)) ++ [n.recAt r.ty r.arg r.key r.payload p] := by
    rw [hq.recs, hret]
    rfl
  refine ⟨((((StoreOnly.refl m).store _).trans hstore).trans hq.storeOnly).store _, (hq.retired _).trans hretired, fun hf => ?_, fun x hx hne => ?_,
    n.recAt r.ty r.arg r.key r.payload p, ?_, rfl, rfl, rfl, rfl, rfl, ?_⟩
  · rw [Mach.waitsFor, hfaults]
    exact hfault hf
  · rw [Mach.waitsFor, hrecs]
    exact List.mem_append_left _ (List.mem_filter.mpr ⟨hx, by simp [hne]⟩)
  · rw [Mach.waitsFor, hrecs]
    exact List.getLast?_concat
  · rw [Mach.recAt, hret]
    rfl

end Sys2Proof.Machine
end

section
/-!
PROOF. The retained store: sectors given up and opened again (O52).
-/
namespace Sys2Proof.Machine
open Sys2Proof

variable (m : Mach)

/-! ### Erasing (R436) -/

/-- The instant an erase that is asked for begins (R436). -/
def Mach.eraseAt (m : Mach) : Nat :=
  match m.sup.suspEnd with
  | some e => max m.now (e + 5000000)
  | none => m.now

/-- The module with sector `s` to be erased: its records are gone. -/
def Mach.erasing (m : Mach) (s : Nat) : Mach := { m with ret := { m.ret with erase := some s, recs := m.ret.recs.filter (fun r => r.sector != s) } }

/-- The module with sector `s` in erase. -/
def Mach.sectorGone (m : Mach) (s : Nat) : Mach := (m.erasing s).setSector s { m.sector s with opened := false, top := 2048, mark := none }

theorem startErase_eq (s : Nat) : m.startErase s = (m.sectorGone s).suspendAt m.eraseAt := rfl

theorem suspendAt_ret (a : Nat) : (m.suspendAt a).ret = m.ret := by
  rw [Mach.suspendAt, Mach.satFld, Mach.setFld_ret]

theorem storeOnly_setSusp {f : Fld} (hf : f.addr = R.WDG_SUSPMAX_COUNT.addr) (v : Nat) : StoreOnly m (m.setFld f v) :=
  .of_own rfl (fun _ _ hx => m.rget_setFld_ne f v (fun h => hx (h.trans hf)))

theorem storeOnly_sup (x : Sup) : StoreOnly m { m with sup := x } := .of_own rfl (fun _ _ _ => rfl)

theorem storeOnly_suspendAt (a : Nat) : StoreOnly m (m.suspendAt a) := by
  rw [Mach.suspendAt, Mach.satFld]
  exact (storeOnly_setSusp m rfl _).trans (storeOnly_sup _ _)

/-- An erase that starts takes the records of its sector and suspends the watchdog. -/
theorem startErase_does (s : Nat) : StoreOnly m (m.startErase s) ∧ (m.startErase s).ret.erase = some s ∧ (m.startErase s).ret.pstore = m.ret.pstore ∧
    (m.startErase s).sup.suspAt = some m.eraseAt ∧ (m.startErase s).ret.recs = m.ret.recs.filter (fun r => r.sector != s) ∧
    ∀ k, k ≠ s → (m.startErase s).sector k = m.sector k := by
  have hgone : StoreOnly m (m.sectorGone s) := .of_own rfl (fun _ _ _ => rfl)
  have hret := suspendAt_ret (m.sectorGone s) m.eraseAt
  rw [startErase_eq]
  refine ⟨hgone.trans (storeOnly_suspendAt _ _), by rw [hret]; rfl, by rw [hret]; rfl, rfl, by rw [hret]; rfl, fun k hk => ?_⟩
  rw [Mach.sector, hret, ← Mach.sector, Mach.sectorGone, sector_setSector_ne _ _ hk]
  rfl

/-! ### Live records copied (R451) -/

theorem chooseBank_lt : m.chooseBank < 16 := by
  have hfold : ∀ (xs : List Nat) (b : Nat), (∀ c ∈ xs, c < 16) → b < 16 → xs.foldl (fun b c => if m.queuedLines c < m.queuedLines b then c else b) b < 16 := by
    intro xs
    induction xs with
    | nil => exact fun _ _ hb => hb
    | cons c xs ih =>
      intro b hxs hb
      refine ih _ (fun d hd => hxs d (List.mem_cons_of_mem _ hd)) ?_
      dsimp only
      split
      · exact hxs c List.mem_cons_self
      · exact hb
  refine hfold _ _ (fun c hc => ?_) (by decide)
  have hlog := (List.mem_filter.mp hc).1
  simp only [logBanks, List.mem_map, List.mem_range] at hlog
  omega

/-- Is a sector erased ahead: opened, in use, and without a record? -/
def Sector.isErased (x : Sector) : Bool := x.opened && !x.retired && x.top == 2

/-- No append point of a bank is in sector `n`, and it is none of the erased ones. -/
structure Away (m : Mach) (n : Nat) : Prop where
  append : ∀ c, c < 16 → m.appendAt c ≠ n
  sector : (m.sector n).isErased = false

theorem Away.congr {m x : Mach} {n : Nat} (h : Away m n) (ho : x.ret.opened = m.ret.opened) (hs : x.sector n = m.sector n) : Away x n := by
  refine ⟨fun c hc => ?_, by rw [hs]; exact h.sector⟩
  rw [Mach.appendAt, Mach.openSector, ho]
  exact h.append c hc

theorem filled_sector_ne {b k : Nat} (h : k ≠ m.appendAt b) : (m.filled b).sector k = m.sector k := by
  rw [Mach.filled, countLines_sector, sector_setSector_ne _ _ h]

theorem filled_opened (b : Nat) : (m.filled b).ret.opened = m.ret.opened := by
  rw [Mach.filled, countLines_ret]
  rfl

theorem extended_opened (s k : Nat) : (m.extended s k).ret.opened = m.ret.opened := rfl

theorem openSector_openNext (b i c : Nat) : (m.openNext b i).openSector c = if c = b then i else m.openSector c := by
  rw [Mach.openSector, Mach.openNext]
  by_cases hc : c = b
  · rw [if_pos hc, hc, sget_sset_same]
  · rw [if_neg hc, sget_sset_ne _ _ _ _ hc, Mach.openSector]

theorem openNext_sector (b i k : Nat) : (m.openNext b i).sector k = m.sector k := rfl

/-- Away from the append points of a bank's next open sector. -/
theorem Away.openNext {m : Mach} {n b i : Nat} (h : Away m n) (hne : 8 * b + i ≠ n) : Away (m.openNext b i) n := by
  refine ⟨fun c hc => ?_, by rw [openNext_sector]; exact h.sector⟩
  rw [Mach.appendAt, openSector_openNext]
  split
  · rename_i hcb
    rw [hcb]
    exact hne
  · exact h.append c hc

theorem Away.extended {m : Mach} {n s k : Nat} (h : Away m n) (hne : s ≠ n) : Away (m.extended s k) n :=
  h.congr (extended_opened m s k) (sector_setSector_ne _ _ hne.symm)

/-- No record is placed in a sector away from the append points. -/
theorem placeIn_away {b n : Nat} (k : Nat) (hb : b < 16) (h : Away m n) : (m.placeIn b k).1 ≠ n ∧ Away (m.placeIn b k).2.2 n := by
  have happ := h.append b hb
  have hfilled : Away (m.filled b) n := h.congr (filled_opened m b) (filled_sector_ne m happ.symm)
  obtain ⟨s, l, x, hplace, ⟨rfl, rfl⟩ | ⟨rfl, rfl⟩ | ⟨i, hi, rfl, rfl⟩⟩ := placeIn_cases m b k
  · rw [hplace]
    exact ⟨happ, h.extended happ⟩
  · rw [hplace]
    exact ⟨happ, hfilled⟩
  · rw [hplace]
    have hne : 8 * b + i ≠ n := by
      rintro rfl
      have herased := (List.mem_filter.mp hi).2
      exact absurd (herased.symm.trans hfilled.sector) (by decide)
    exact ⟨hne, (hfilled.openNext hne).extended hne⟩

/-- The module with record `r` copied to an append point. -/
def Mach.recMoved (m : Mach) (r : Rec) (s l : Nat) : Mach :=
  { m with ret := { m.ret with recs := m.ret.recs.map (fun (x : Rec) => if x = r then { x with sector := s, line := l } else x) } }

/-- The module with record `r` copied, as reclaiming does. -/
def Mach.recCopied (m : Mach) (r : Rec) : Mach :=
  ((m.placeIn m.chooseBank (recLines r.payload.length)).2.2.recMoved r (m.placeIn m.chooseBank (recLines r.payload.length)).1
    (m.placeIn m.chooseBank (recLines r.payload.length)).2.1).countLines (recLines r.payload.length)

theorem copyLive_eq (n : Nat) : m.copyLive n = foldM (m.ret.recs.filter (fun r => r.sector == n && r.done && m.live r)) (fun r m => m.recCopied r) m := rfl

/-- The module holds record `r` as it stands, outside sector `n`. -/
def Mach.holdsCopy (m : Mach) (n : Nat) (r : Rec) : Prop := ∃ x ∈ m.ret.recs, x.sector ≠ n ∧ x = { r with sector := x.sector, line := x.line }

/-- The module `y`, on its way from `m`, gives up sector `n`: what lies outside it stays, and what lies in it stays or has been copied. -/
structure Clears (m : Mach) (n : Nat) (y : Mach) : Prop where
  store : StoreOnly m y
  away : Away y n
  kept : ∀ r ∈ m.ret.recs, r.sector ≠ n → r ∈ y.ret.recs
  held : ∀ r ∈ m.ret.recs, r.sector = n → r ∈ y.ret.recs ∨ y.holdsCopy n r

/-- A copied record lies outside the sector, and every record outside it stays. -/
theorem recCopied_does {n : Nat} {y : Mach} {r : Rec} (hy : Away y n) (hr : r.sector = n) : StoreOnly y (y.recCopied r) ∧ Away (y.recCopied r) n ∧
    (∀ x ∈ y.ret.recs, x.sector ≠ n → x ∈ (y.recCopied r).ret.recs) ∧ (∀ x ∈ y.ret.recs, x ≠ r → x ∈ (y.recCopied r).ret.recs) ∧
    (r ∈ y.ret.recs → (y.recCopied r).holdsCopy n r) := by
  have hq := queued_placeIn y y.chooseBank (recLines r.payload.length)
  obtain ⟨hs, haway⟩ := placeIn_away y (recLines r.payload.length) (chooseBank_lt y) hy
  rw [Mach.recCopied]
  generalize (y.placeIn y.chooseBank (recLines r.payload.length)).1 = s at hs
  generalize (y.placeIn y.chooseBank (recLines r.payload.length)).2.1 = l
  generalize (y.placeIn y.chooseBank (recLines r.payload.length)).2.2 = z at hq haway
  have hrecs : ((z.recMoved r s l).countLines (recLines r.payload.length)).ret.recs =
      y.ret.recs.map (fun (x : Rec) => if x = r then { x with sector := s, line := l } else x) := by
    rw [countLines_ret, Mach.recMoved, hq.recs, List.append_nil]
  have hother : ∀ x ∈ y.ret.recs, x ≠ r → x ∈ ((z.recMoved r s l).countLines (recLines r.payload.length)).ret.recs := by
    intro x hx hne
    rw [hrecs]
    exact List.mem_map.mpr ⟨x, hx, if_neg hne⟩
  refine ⟨(hq.storeOnly.store _).trans (queued_countLines _ _).storeOnly, haway.congr ?_ ?_, fun x hx hn => hother x hx (fun h => hn (h ▸ hr)), hother, fun hmem => ?_⟩
  · rw [countLines_ret, Mach.recMoved]
  · rw [countLines_sector]
    rfl
  · refine ⟨{ r with sector := s, line := l }, ?_, hs, rfl⟩
    rw [hrecs]
    exact List.mem_map.mpr ⟨r, hmem, if_pos rfl⟩

/-- A record copied keeps a sector on its way to be given up. -/
theorem Clears.recCopied {n : Nat} {y : Mach} {r : Rec} (h : Clears m n y) (hr : r.sector = n) : Clears m n (y.recCopied r) ∧
    (∀ q, y.holdsCopy n q → (y.recCopied r).holdsCopy n q) ∧ (r ∈ m.ret.recs → (y.recCopied r).holdsCopy n r) := by
  obtain ⟨hstore, haway, hkept, hother, hcopy⟩ := recCopied_does h.away hr
  have hholds : ∀ q, y.holdsCopy n q → (y.recCopied r).holdsCopy n q := fun q ⟨x, hx, hn, he⟩ => ⟨x, hkept x hx hn, hn, he⟩
  have hlast : r ∈ m.ret.recs → (y.recCopied r).holdsCopy n r := fun hm => (h.held r hm hr).elim hcopy (hholds r)
  refine ⟨⟨h.store.trans hstore, haway, fun q hq hn => hkept q (h.kept q hq hn) hn, fun q hq hn => ?_⟩, hholds, hlast⟩
  by_cases hqr : q = r
  · rw [hqr] at hq ⊢
    exact .inr (hlast hq)
  · exact (h.held q hq hn).imp (fun hmem => hother q hmem hqr) (hholds q)

/-- Every record of a list is copied. -/
theorem Clears.copied {n : Nat} {y : Mach} (h : Clears m n y) (rs : List Rec) (hrs : ∀ r ∈ rs, r.sector = n ∧ r ∈ m.ret.recs) :
    Clears m n (foldM rs (fun r m => m.recCopied r) y) ∧ (∀ q, y.holdsCopy n q → (foldM rs (fun r m => m.recCopied r) y).holdsCopy n q) ∧
      ∀ r ∈ rs, (foldM rs (fun r m => m.recCopied r) y).holdsCopy n r := by
  induction rs generalizing y with
  | nil => exact ⟨h, fun _ hq => hq, fun _ hr => absurd hr List.not_mem_nil⟩
  | cons r rs ih =>
    obtain ⟨hsec, hmem⟩ := hrs r List.mem_cons_self
    obtain ⟨hstep, hholds, hlast⟩ := h.recCopied m hsec
    obtain ⟨hall, hkeep, hcopied⟩ := ih hstep (fun q hq => hrs q (List.mem_cons_of_mem _ hq))
    refine ⟨hall, fun q hq => hkeep q (hholds q hq), ?_⟩
    rintro q (_ | ⟨_, hq⟩)
    · exact hkeep r (hlast hmem)
    · exact hcopied q hq

/-! ### A sector given up (R451) -/

/-- The oldest sector of a bank is away from the append points. -/
theorem oldestSector_away {b n : Nat} (hb : b < 16) (hn : m.oldestSector b = some n) (hopen : ∀ c, c < 16 → m.openSector c < 8) : Away m n ∧ 8 * b ≤ n := by
  have hmem := List.mem_filter.mp (List.mem_of_mem_head? hn)
  obtain ⟨i, hi, rfl⟩ := List.mem_map.mp hmem.1
  have hi7 := List.mem_range.mp hi
  have hob := hopen b hb
  refine ⟨⟨fun c hc => ?_, ?_⟩, Nat.le_add_right _ _⟩
  · have hoc := hopen c hc
    rw [Mach.appendAt]
    by_cases hcb : c = b
    · subst hcb
      omega
    · omega
  · have hcond := hmem.2
    simp only [Bool.and_eq_true, Bool.not_eq_true', Bool.and_eq_false_iff] at hcond
    simp only [Sector.isErased, Bool.and_eq_false_iff, Bool.not_eq_false']
    exact hcond.2.imp_left .inl

theorem reclaim_eq {b n : Nat} (hb : 2 ≤ b) (hst : m.st ≠ .save) (hw : m.warn = none) (he : m.ret.erase = none) (ha : (m.erasedAhead b).length < 2)
    (hn : m.oldestSector b = some n) (hdone : ∀ r ∈ m.ret.recs, r.sector = n → r.done = true) : m.reclaim b = ((m.copyLive n).startErase n).showRet := by
  have hany : m.ret.recs.any (fun r => r.sector == n && !r.done) = false := by
    rw [List.any_eq_false]
    intro r hr
    simpa using hdone r hr
  unfold Mach.reclaim
  rw [if_pos ⟨hb, hst, by rw [hw]; rfl, by rw [he]; rfl, ha⟩, hn]
  dsimp only
  rw [hany, if_neg (by decide)]

end Sys2Proof.Machine
end

section
/-!
PROOF. The retained store: a sector opened, a parameter store ended, and its statement (O52).
-/
namespace Sys2Proof.Machine
open Sys2Proof

variable (m : Mach)

/-- A sector given up leaves no record in it, each live one copied. -/
theorem reclaimed_does {b n : Nat} (hb : b < 16) (h2 : 2 ≤ b) (hn : m.oldestSector b = some n) (hdone : ∀ r ∈ m.ret.recs, r.sector = n → r.done = true)
    (hopen : ∀ c, c < 16 → m.openSector c < 8) : let x := ((m.copyLive n).startErase n).showRet
    StoreOnly m x ∧ x.ret.erase = some n ∧ x.flag R.RET_STAT_RECLAIM = true ∧ x.sup.suspAt.isSome = true ∧ (∀ r ∈ x.ret.recs, r.sector ≠ n) ∧
      (∀ r ∈ m.ret.recs, r.sector ≠ n → r ∈ x.ret.recs) ∧
      ∀ r ∈ m.ret.recs, r.sector = n → m.live r = true → ∃ q ∈ x.ret.recs, q = { r with sector := q.sector, line := q.line } := by
  intro x
  obtain ⟨haway, hle⟩ := oldestSector_away m hb hn hopen
  have hstart : Clears m n m := ⟨.refl m, haway, fun _ hr _ => hr, fun _ hr _ => .inl hr⟩
  have hlist : ∀ r ∈ m.ret.recs.filter (fun r => r.sector == n && r.done && m.live r), r.sector = n ∧ r ∈ m.ret.recs := by
    intro r hr
    obtain ⟨hmem, hcond⟩ := List.mem_filter.mp hr
    simp only [Bool.and_eq_true, beq_iff_eq] at hcond
    exact ⟨hcond.1.1, hmem⟩
  obtain ⟨hcleared, -, hcopied⟩ := hstart.copied m _ hlist
  have hx : x = ((m.copyLive n).startErase n).showRet := rfl
  clear_value x
  rw [copyLive_eq] at hx
  generalize foldM (m.ret.recs.filter (fun r => r.sector == n && r.done && m.live r)) (fun r m => m.recCopied r) m = y at hcleared hcopied hx
  obtain ⟨hstore, herase, -, hsusp, hrecs, -⟩ := startErase_does y n
  have hxrecs : x.ret.recs = y.ret.recs.filter (fun r => r.sector != n) := by rw [hx, showRet_ret, hrecs]
  have hin : ∀ r ∈ y.ret.recs, r.sector ≠ n → r ∈ x.ret.recs := fun r hr hne => by
    rw [hxrecs]
    exact List.mem_filter.mpr ⟨hr, by simpa using hne⟩
  refine ⟨?_, ?_, ?_, ?_, fun r hr => ?_, fun r hr hne => hin r (hcleared.kept r hr hne) hne, fun r hr hs hlive => ?_⟩
  · rw [hx]
    exact (hcleared.store.trans hstore).trans (storeOnly_showRet _)
  · rw [hx, showRet_ret, herase]
  · rw [hx, showRet_reclaim, Mach.reclaims, herase]
    simpa using (by omega : 16 ≤ n)
  · rw [hx, showRet_sup, hsusp]
    rfl
  · rw [hxrecs] at hr
    simpa using (List.mem_filter.mp hr).2
  · obtain ⟨q, hq, hqn, he⟩ := hcopied r (List.mem_filter.mpr ⟨hr, by simp [hs, hdone r hr hs, hlive]⟩)
    exact ⟨q, hin q hq hqn, he⟩

/-! ### A sector opened (R448) -/

theorem showWear_same : m.showWear = { m with regs := m.showWear.regs } := by
  unfold Mach.showWear
  rw [setFld_same _ R.RET_WEAR_RETIRED, setFld_same _ R.RET_WEAR_MAXERASE]

theorem maxFld_same (f : Fld) (v : Nat) : m.maxFld f v = { m with regs := (m.maxFld f v).regs } := rfl

/-- The module with sector `s` open. -/
def Mach.sectorOpened (m : Mach) (s : Nat) : Mach :=
  (m.setSector s { m.sector s with erases := (m.sector s).erases + 1, opened := true, top := 2, mark := some m.marker }).showWear

/-- The module with no erase in hand, behind the SECTOR record of one. -/
def Mach.eraseEnded (m : Mach) : Mach := { m with ret := { m.ret with erase := none, seq := m.ret.seq + 1, recCsn := m.csn, recSeq := m.fld R.EVU_SEQ } }

theorem eraseEnded_sectors : m.eraseEnded.ret.sectors = m.ret.sectors := rfl
theorem eraseEnded_pstore : m.eraseEnded.ret.pstore = m.ret.pstore := rfl

/-- The module with the SECTOR record of an erased sector counted. -/
def Mach.sectorCounted (m : Mach) (s : Nat) : Mach := ((m.sectorOpened s).eraseEnded.resumeWatch).countLines (recLines 0)

theorem eraseDone_eq (s : Nat) : m.eraseDone s = if (m.sector s).erases + 1 = 90000 then (m.sectorCounted s).raise 0x350D s 1 else m.sectorCounted s := rfl

theorem resumeWatch_same {a : Nat} (h : m.sup.suspAt = some a) :
    m.resumeWatch = { m with regs := m.resumeWatch.regs, sup := { m.sup with suspAt := none, suspEnd := some m.now } } := by
  unfold Mach.resumeWatch
  rw [h]
  dsimp only
  rw [maxFld_same]

theorem sectorCounted_same {s a : Nat} (h : m.sup.suspAt = some a) : (m.sectorCounted s).ret = (m.sectorOpened s).eraseEnded.ret ∧
    (m.sectorCounted s).sup = { m.sup with suspAt := none, suspEnd := some m.now } ∧ (m.sectorCounted s).now = m.now := by
  have hopened : (m.sectorOpened s).sup = m.sup ∧ (m.sectorOpened s).now = m.now := by
    rw [Mach.sectorOpened, showWear_same]
    exact ⟨rfl, rfl⟩
  rw [Mach.sectorCounted, countLines_same]
  generalize m.sectorOpened s = n at hopened
  have hsup : n.eraseEnded.sup = m.sup := hopened.1
  have hnow : n.eraseEnded.now = m.now := hopened.2
  generalize n.eraseEnded = y at hsup hnow
  have hsame := resumeWatch_same y (hsup ▸ h)
  rw [hsup, hnow] at hsame
  refine ⟨?_, ?_, ?_⟩
  · rw [hsame]
  · rw [hsame]
  · rw [hsame]

/-- An erase done opens its sector and ends the watchdog's suspension. -/
theorem eraseDone_does {s a : Nat} (h : m.sup.suspAt = some a) : let x := m.eraseDone s
    x.sector s = { m.sector s with erases := (m.sector s).erases + 1, opened := true, top := 2, mark := some m.marker } ∧ x.ret.erase = none ∧
      x.ret.pstore = m.ret.pstore ∧ x.sup.suspAt = none ∧ x.sup.suspEnd = some m.now ∧ x.now = m.now ∧ ((m.sector s).erases + 1 = 90000 → (0x350D, s, 1) ∈ x.faults) := by
  intro x
  obtain ⟨hret, hsup, hnow⟩ := sectorCounted_same m (s := s) h
  have hopened : (m.sectorOpened s).ret = (m.setSector s { m.sector s with erases := (m.sector s).erases + 1, opened := true, top := 2, mark := some m.marker }).ret :=
    (showWear_does _).2.1
  have hrest : Rest (m.sectorCounted s) x ∧ ((m.sector s).erases + 1 = 90000 → (0x350D, s, 1) ∈ x.faults) := by
    rw [show x = _ from eraseDone_eq m s]
    split
    · exact ⟨rest_raise _ _ _ _, fun _ => raise_mem _ _ _ _⟩
    · rename_i hc
      exact ⟨.refl _, fun hc' => absurd hc' hc⟩
  obtain ⟨hx, hfault⟩ := hrest
  clear_value x
  have hxret : x.ret = (m.sectorOpened s).eraseEnded.ret := hx.ret.trans hret
  have hxsup := hx.sup.trans hsup
  refine ⟨?_, by rw [hxret]; rfl, ?_, by rw [hxsup], by rw [hxsup], hx.now.trans hnow, hfault⟩
  · rw [Mach.sector, hxret, eraseEnded_sectors, hopened]
    exact sector_setSector_same _ _ _
  · rw [hxret, eraseEnded_pstore, hopened]
    rfl

/-- The module whose parameter store goes on with the sector behind `n`. -/
def Mach.nextErase (m : Mach) (n : Nat) : Mach :=
  match m.ret.pstore with
  | some p =>
    let left := p.sectors.filter (fun x => x != n)
    let m := { m with ret := { m.ret with pstore := some { p with sectors := left } } }
    match left with
    | x :: _ => m.startErase x
    | [] => m
  | none => m

theorem nextErase_none {n : Nat} (h : m.ret.pstore = none) : m.nextErase n = m := by
  unfold Mach.nextErase
  rw [h]

/-- The module with a parameter store in hand. -/
def Mach.stores (m : Mach) (p : ParStore) : Mach := { m with ret := { m.ret with pstore := some p } }

theorem nextErase_cons {n x : Nat} {xs : List Nat} {p : ParStore} (h : m.ret.pstore = some p) (hl : p.sectors.filter (fun y => y != n) = x :: xs) :
    m.nextErase n = (m.stores { p with sectors := x :: xs }).startErase x := by
  unfold Mach.nextErase
  rw [h]
  dsimp only
  rw [hl]
  rfl

/-- An erase asked for as a suspension ends waits for 5 ms. -/
theorem eraseAt_of_end (h : m.sup.suspEnd = some m.now) : m.eraseAt = m.now + 5000000 := by
  rw [Mach.eraseAt, h]
  exact Nat.max_eq_right (Nat.le_add_right _ _)

theorem showRet_sector (n : Nat) : m.showRet.sector n = m.sector n := by rw [Mach.sector, showRet_ret, Mach.sector]

/-! ### Parameter stores (R460, R466) -/

/-- Showing the newest image leaves the result of the last store. -/
theorem showImage_does : StoreOnly m m.showImage ∧ m.showImage.ret = m.ret ∧ m.showImage.fld R.RET_PSTAT_RESULT = m.fld R.RET_PSTAT_RESULT := by
  unfold Mach.showImage Mach.setFlag
  split
  · refine ⟨(((StoreOnly.refl m).setFld (f := R.RET_PSTAT_VALID) _ (by decide)).setFld (f := R.RET_PIMG) _ (by decide)).setFld (f := R.RET_PSTAT_LAYOUT) _ (by decide), ?_, ?_⟩
    · rw [Mach.setFld_ret, Mach.setFld_ret, Mach.setFld_ret]
    · rw [Mach.fld_setFld_ne _ R.RET_PSTAT_LAYOUT _ _ (by decide) (by decide), Mach.fld_setFld_ne _ R.RET_PIMG _ _ (by decide) (by decide),
        Mach.fld_setFld_ne _ R.RET_PSTAT_VALID _ _ (by decide) (by decide)]
  · refine ⟨((((StoreOnly.refl m).setFld (f := R.RET_PSTAT_HALF) _ (by decide)).setFld (f := R.RET_PSTAT_VALID) _ (by decide)).setFld (f := R.RET_PIMG) _ (by decide)).setFld
      (f := R.RET_PSTAT_LAYOUT) _ (by decide), ?_, ?_⟩
    · rw [Mach.setFld_ret, Mach.setFld_ret, Mach.setFld_ret, Mach.setFld_ret]
    · rw [Mach.fld_setFld_ne _ R.RET_PSTAT_LAYOUT _ _ (by decide) (by decide), Mach.fld_setFld_ne _ R.RET_PIMG _ _ (by decide) (by decide),
        Mach.fld_setFld_ne _ R.RET_PSTAT_VALID _ _ (by decide) (by decide), Mach.fld_setFld_ne _ R.RET_PSTAT_HALF _ _ (by decide) (by decide)]

/-- The image of a store, with the marker of its PIMAGE record. -/
def Mach.imageOf (m : Mach) (p : ParStore) : ParImage := { p.image with mark := (m.ret.seq + 128, m.csn, m.fld R.EVU_SEQ) }

/-- The module with the image of a store in its half. -/
def Mach.imagePut (m : Mach) (p : ParStore) : Mach :=
  { m with ret := { m.ret with pstore := none, seq := m.ret.seq + 129, recCsn := m.csn, recSeq := m.fld R.EVU_SEQ,
                               half0 := if p.half = 0 then some (m.imageOf p) else m.ret.half0,
                               half1 := if p.half = 1 then some (m.imageOf p) else m.ret.half1 } }

theorem parDone_eq (p : ParStore) :
    m.parDone p = (((((m.imagePut p).countLines (128 * recLines 2048 + recLines 32)).setFld R.RET_PSTAT_RESULT 0).showImage).showRet).info 0x3508 := rfl

/-- A store that is complete leaves its image in its half. -/
theorem parDone_does (p : ParStore) : StoreOnly m (m.parDone p) ∧ (m.parDone p).ret = (m.imagePut p).ret ∧ (m.parDone p).fld R.RET_PSTAT_RESULT = 0 ∧
    (m.parDone p).flag R.RET_STAT_PSTORE = false := by
  rw [parDone_eq]
  generalize 128 * recLines 2048 + recLines 32 = k
  have hcount := (queued_countLines (m.imagePut p) k).storeOnly
  have hret := countLines_ret (m.imagePut p) k
  generalize (m.imagePut p).countLines k = n at hcount hret
  obtain ⟨himage, hret', hresult⟩ := showImage_does (n.setFld R.RET_PSTAT_RESULT 0)
  rw [Mach.fld_setFld_same _ _ _ (by decide), Nat.zero_mod] at hresult
  rw [Mach.setFld_ret, hret] at hret'
  have hset : StoreOnly m (n.setFld R.RET_PSTAT_RESULT 0) := StoreOnly.setFld (((StoreOnly.refl m).store (m.imagePut p).ret).trans hcount) (f := R.RET_PSTAT_RESULT) 0 (by decide)
  generalize (n.setFld R.RET_PSTAT_RESULT 0).showImage = y at himage hret' hresult
  have hinfo := rest_info y.showRet 0x3508
  refine ⟨((hset.trans himage).trans (storeOnly_showRet y)).rest hinfo, ?_, ?_, ?_⟩
  · rw [hinfo.ret, showRet_ret, hret']
  · rw [Mach.fld, shown_rget y hinfo (by decide) (by decide)]
    exact hresult
  · rw [hinfo.flag (evAddr_store (by decide)), showRet_pstore, hret']
    rfl

/-- The module with no parameter store. -/
def Mach.storeDropped (m : Mach) : Mach := { m with ret := { m.ret with pstore := none } }

theorem parFailed_eq (s : Nat) : m.parFailed s = (((m.retireSector s).storeDropped.setFld R.RET_PSTAT_RESULT 7).showRet).note 0x3509 := rfl

/-- A store with a sector that fails ends without an image, and the sector is retired. -/
theorem parFailed_does (s : Nat) : StoreOnly m (m.parFailed s) ∧ (m.parFailed s).ret.pstore = none ∧ (m.parFailed s).fld R.RET_PSTAT_RESULT = 7 ∧
    (m.parFailed s).ret.half0 = m.ret.half0 ∧ (m.parFailed s).ret.half1 = m.ret.half1 ∧ ((m.parFailed s).sector s).retired = true ∧
    ((m.sector s).retired = false → (0x350C, s, 1) ∈ (m.parFailed s).faults) := by
  rw [parFailed_eq]
  obtain ⟨hstore, hret, hretired, hfault, -⟩ := retireSector_does m s
  generalize m.retireSector s = n at hstore hret hretired hfault
  have hset : StoreOnly m (n.storeDropped.setFld R.RET_PSTAT_RESULT 7) := StoreOnly.setFld (hstore.store n.storeDropped.ret) (f := R.RET_PSTAT_RESULT) 7 (by decide)
  have hnote := rest_note (n.storeDropped.setFld R.RET_PSTAT_RESULT 7).showRet 0x3509
  have hxret : ((n.storeDropped.setFld R.RET_PSTAT_RESULT 7).showRet.note 0x3509).ret = { n.ret with pstore := none } := by
    rw [hnote.ret, showRet_ret, Mach.setFld_ret, Mach.storeDropped]
  refine ⟨(hset.trans (storeOnly_showRet _)).rest hnote, by rw [hxret], ?_, ?_, ?_, ?_, fun hf => ?_⟩
  · rw [Mach.fld, shown_rget _ hnote (by decide) (by decide), ← Mach.fld, Mach.fld_setFld_same _ _ _ (by decide)]
    rfl
  · rw [hxret, hret]
  · rw [hxret, hret]
  · rw [Mach.sector, hxret]
    exact hretired
  · refine hnote.faults _ (showRet_faults _ ?_)
    rw [Mach.setFld_faults]
    exact hfault hf

/-! ### The statement -/

/-- A command of the retained store, in a module that is supplied, answers with what its meaning makes of the module. -/
theorem answers_runRet {m : Mach} {c : Instr} {s : State} {t : Nat} {f : Mach → Mach} {P : Mach → Prop} (hm : arrive t s = m) (h : exec c s = runRet t f s)
    (ha : m.alive = true) (hP : P (f m)) : Answers c s P := by
  subst hm
  exact answers_runAt (f := fun m => if m.alive then f m else m) h (by rw [if_pos ha]; exact hP)

/-- The marked records stand first where others are queued behind them. -/
theorem take_recMarked {q : Nat} {rs qs : List Rec} (h : rs = (m.recMarked q).ret.recs ++ qs) : rs.take m.ret.recs.length =
    m.ret.recs.map (fun x => if x.seq = q ∧ x.done = false then { x with csn := m.csn, next := m.fld R.EVU_SEQ, done := true } else x) := by
  rw [h]
  exact List.take_left' (List.length_map _)

/-- The last marker before a RETCOMMIT queues it. -/
theorem marked_commits {q : Nat} {r : Rec} {v : Save} (hr : m.ret.recs.find? (fun x => x.seq == q && !x.done) = some r) (hv : m.ret.save = some v)
    (hw : v.wait = [q]) (hc : v.commit = false) : let x := (m.markRec q).saveRec q
    x = { m with regs := x.regs, ret := x.ret } ∧ x.ret.recCsn = m.csn ∧ x.ret.save = some { v with wait := [m.ret.seq], commit := true } ∧
      (∃ k, (k = 0 ∨ k = 1) ∧ x.fld64 R.RET_LINES_LO = (m.fld64 R.RET_LINES_LO + 2 + (r.payload.length + 31) / 32 + k) % 2 ^ 64) ∧
      ∃ c, x.ret.recs = (m.recMarked q).ret.recs ++ [c] ∧ c.ty = 0x11 ∧ c.key = v.gen ∧ c.arg = v.kind ∧ c.seq = m.ret.seq := by
  intro x
  obtain ⟨hsame, -, hlines⟩ := markRec_does m hr
  have hlast := saveRec_last (m.markRec q) (show (m.markRec q).ret.save = some v by rw [hsame, ← hv, Mach.recMarked]) hw
  have hx : x = ((m.markRec q).saves { v with wait := [] }).saveStep := hlast.trans (if_neg (by rw [hc]; decide))
  clear_value x
  generalize m.markRec q = n at hsame hlines hx
  obtain ⟨y, c, hy, hstep, hty, hkey, harg, hseq, k, hk, hfill⟩ := saveStep_commits (n.saves { v with wait := [] }) rfl rfl hc
  have hnseq : (n.saves { v with wait := [] }).ret.seq = m.ret.seq := by rw [saves_ret, hsame, Mach.recMarked]
  rw [hnseq] at hstep hseq
  rw [hstep] at hx
  refine ⟨?_, ?_, ?_, ⟨k, hk, ?_⟩, c, ?_, hty, hkey, harg, hseq⟩
  · rw [hx, Mach.saves, hy.same, Mach.saves, hsame]
  · rw [hx, saves_ret, hy.same, saves_ret, hsame, Mach.recMarked]
  · rw [hx, saves_ret]
  · rw [hx, ← Nat.mod_add_mod, ← hlines]
    exact hfill
  · rw [hx, saves_ret, hy.recs, saves_ret, hsame]

/-- The marker of a RETCOMMIT makes its generation count. -/
theorem marked_counts {q : Nat} {r : Rec} {v : Save} (hr : m.ret.recs.find? (fun x => x.seq == q && !x.done) = some r) (hv : m.ret.save = some v)
    (hw : v.wait = [q]) (hc : v.commit = true) : let x := (m.markRec q).saveRec q
    StoreOnly m x ∧ x.ret = { (m.recMarked q).ret with dirty := m.ret.dirty.filter (fun c => !v.chunks.contains c || v.again.contains c), save := none } ∧
      x.fld64 R.RET_LINES_LO = (m.fld64 R.RET_LINES_LO + 2 + (r.payload.length + 31) / 32) % 2 ^ 64 ∧ x.fld R.RET_GEN = v.gen % 2 ^ 32 ∧
      x.fld64 R.RET_SAVET_LO = v.reft % 2 ^ 64 := by
  intro x
  obtain ⟨hsame, hstore, hlines⟩ := markRec_does m hr
  have hlast := saveRec_last (m.markRec q) (show (m.markRec q).ret.save = some v by rw [hsame, ← hv, Mach.recMarked]) hw
  have hx : x = (m.markRec q).saveCommitted { v with wait := [] } := hlast.trans (if_pos hc)
  clear_value x
  generalize m.markRec q = n at hsame hstore hlines hx
  obtain ⟨hcounts, hgen, htime, hkept, hret⟩ := saveCommitted_does n { v with wait := [] }
  rw [← hx] at hcounts hgen htime hkept hret
  refine ⟨hstore.trans hcounts, ?_, hkept.trans hlines, hgen, htime⟩
  rw [hret, hsame]
  rfl

theorem any_of_find {q : Nat} {r : Rec} (h : m.ret.recs.find? (fun x => x.seq == q && !x.done) = some r) : m.ret.recs.any (fun x => x.seq == q && !x.done) = true :=
  List.any_eq_true.mpr ⟨r, List.mem_of_find?_eq_some h, List.find?_some (p := fun (x : Rec) => x.seq == q && !x.done) h⟩

theorem exec_retainedJournalFlush (s : State) (t : Nat) :
    exec (.retainedJournalFlush t) s = runRet t (fun m => if m.st == .save then m else m.flushJournal) s := rfl

theorem exec_periodicSave (s : State) (t : Nat) : exec (.periodicSave t) s = runRet t (fun m =>
    if m.st == .run && m.fld R.RET_CFG_PSAVE != 0 && m.ret.save.isNone && m.ret.savePend.isNone then m.startSave 2 else m) s := rfl

theorem exec_recordWriteComplete (s : State) (t q : Nat) (fail : Bool) : exec (.recordWriteComplete t q fail) s = runRet t (fun m =>
    if fail then m.recFail q else if m.ret.recs.any (fun r => r.seq == q && !r.done) then (m.markRec q).saveRec q else m) s := rfl

theorem exec_reclaim (s : State) (t : Nat) (b : Fin 16) : exec (.reclaim t b) s = runRet t (fun m => m.reclaim b) s := rfl

theorem exec_protLevelWrite (s : State) (t : Nat) (l : Fin 4) :
    exec (.protLevelWrite t l) s = runRet t (fun m => if m.mayProtect l then m.setProtect l else m) s := rfl

/-- The module with the sector of its erase open. -/
def Mach.eraseServed (m : Mach) : Mach :=
  match m.ret.erase, m.sup.suspAt with
  | some n, some a => if m.now < a then m else ((m.eraseDone n).nextErase n).showRet
  | some n, none => (m.eraseDone n).showRet
  | none, _ => m

theorem exec_sectorEraseDone (s : State) (t : Nat) : exec (.sectorEraseDone t) s = runRet t Mach.eraseServed s := rfl

theorem eraseServed_eq {n a : Nat} (he : m.ret.erase = some n) (hs : m.sup.suspAt = some a) (h : a ≤ m.now) :
    m.eraseServed = ((m.eraseDone n).nextErase n).showRet := by
  unfold Mach.eraseServed
  rw [he, hs]
  exact if_neg (Nat.not_lt.mpr h)

/-- The module with its parameter store ended. -/
def Mach.storeServed (m : Mach) (fail : Option (Fin 8)) : Mach :=
  match m.ret.pstore with
  | some p => if p.sectors.isEmpty then (match fail with
    | some j => m.parFailed (8 * p.half + j.val)
    | none => m.parDone p) else m
  | none => m

theorem storeServed_eq (fail : Option (Fin 8)) {p : ParStore} (hp : m.ret.pstore = some p) (he : p.sectors = []) :
    m.storeServed fail = match fail with
      | some j => m.parFailed (8 * p.half + j.val)
      | none => m.parDone p := by
  unfold Mach.storeServed
  rw [hp]
  dsimp only
  rw [he]
  rfl

theorem exec_paramStoreComplete (s : State) (t : Nat) (fail : Option (Fin 8)) :
    exec (.paramStoreComplete t fail) s = runRet t (fun m => m.storeServed fail) s := rfl

/-- Settles O52: flushes and saves by the records they queue, markers and failures by the records they complete or write anew, erases, and the parameter store. -/
theorem retainedStore : Obligations.RetainedStore := by
  unfold Obligations.RetainedStore
  intro s t m ha
  have hm : arrive t s = m := rfl
  clear_value m
  refine ⟨fun hst => ⟨fun hp => ?_, fun hp => ?_⟩, fun hst hps hsave hpend => ⟨fun happ => ?_, fun happ hran => ?_⟩, fun q r hr => ?_,
    fun b n h2 hst hw he hahead hn hdone hopen => ?_, fun n a he hsusp hle => ?_, fun p hp hempty => ?_, fun l => ?_⟩
  · refine answers_runRet hm (exec_retainedJournalFlush s t) ha ?_
    rw [if_neg (by simpa using hst)]
    exact flushJournal_takes m hp
  · intro moved
    have hidle := flushJournal_idle m hp
    refine ⟨fun hno => answers_runRet hm (exec_retainedJournalFlush s t) ha ?_, fun hyes => answers_runRet hm (exec_retainedJournalFlush s t) ha ?_⟩
    · rw [if_neg (by simpa using hst), hidle]
      exact if_neg hno
    · rw [if_neg (by simpa using hst), hidle, if_pos hyes]
      obtain ⟨p, hq⟩ := queued_putRec m 0x21 0 m.csn []
      exact ⟨by rw [hq.same], _, hq.recs, rfl, rfl, rfl⟩
  · refine answers_runRet hm (exec_periodicSave s t) ha ?_
    rw [if_pos (by simp [hst, hps, hsave, hpend])]
    exact startSave_waits m happ
  · refine answers_runRet hm (exec_periodicSave s t) ha ?_
    rw [if_pos (by simp [hst, hps, hsave, hpend]), startSave_begins m happ]
    exact beginSave_does m hran
  · intro marked lines
    obtain ⟨hsame, hstore, hlines⟩ := markRec_does m hr
    have hsave : (m.markRec q).ret.save = m.ret.save := by rw [hsame, Mach.recMarked]
    have hcompletes : ∀ P : Mach → Prop, P ((m.markRec q).saveRec q) → Answers (.recordWriteComplete t q false) s P := fun P hP =>
      answers_runRet hm (exec_recordWriteComplete s t q false) ha (by rw [if_neg (by decide), if_pos (any_of_find m hr)]; exact hP)
    refine ⟨fun hnone => hcompletes _ ?_, fun v hv hw => ⟨fun hc => hcompletes _ ?_, fun hc => hcompletes _ ?_⟩, ?_⟩
    · rw [saveRec_none _ (hsave.trans hnone)]
      generalize m.markRec q = n at hsame hlines hsave
      refine ⟨?_, ⟨take_recMarked m (qs := []) ?_, ?_⟩, hlines, hsave.trans hnone⟩
      · rw [hsame]
      · rw [hsame, List.append_nil]
      · rw [hsame, Mach.recMarked]
    · obtain ⟨hx, hcsn, hsaves, ⟨k, hk, hcount⟩, c, hrecs, hty, hkey, harg, hseq⟩ := marked_commits m hr hv hw hc
      generalize (m.markRec q).saveRec q = x at hx hcsn hsaves hcount hrecs
      have hfill : lines x 0 ∨ lines x 1 := by
        rcases hk with rfl | rfl
        · exact .inl hcount
        · exact .inr hcount
      refine ⟨hx, ⟨take_recMarked m hrecs, hcsn⟩, hfill, hsaves, c, ?_, hty, hkey, harg, hseq⟩
      rw [hrecs]
      exact List.getLast?_concat
    · obtain ⟨hstore', hret, hcount, hgen, htime⟩ := marked_counts m hr hv hw hc
      generalize (m.markRec q).saveRec q = x at hstore' hret hcount hgen htime
      refine ⟨hstore', ⟨take_recMarked m (qs := []) ?_, ?_⟩, hcount, ?_, hgen, htime, ?_⟩
      · rw [hret, List.append_nil]
      · rw [hret, Mach.recMarked]
      · rw [hret]
      · rw [hret]
    · refine answers_runRet hm (exec_recordWriteComplete s t q true) ha ?_
      rw [if_pos rfl]
      exact recFail_does m hr
  · refine answers_runRet hm (exec_reclaim s t b) ha ?_
    rw [reclaim_eq m h2 hst hw he hahead hn hdone]
    exact reclaimed_does m b.isLt h2 hn hdone hopen
  · intro opens
    obtain ⟨hsector, herase, hpstore, hsuspAt, hsuspEnd, hnow, hfault⟩ := eraseDone_does m (s := n) hsusp
    refine ⟨fun hnone => answers_runRet hm (exec_sectorEraseDone s t) ha ?_, fun p x xs hp hl => answers_runRet hm (exec_sectorEraseDone s t) ha ?_⟩
    · rw [eraseServed_eq m he hsusp hle, nextErase_none _ (hpstore.trans hnone)]
      generalize m.eraseDone n = y at hsector herase hsuspAt hsuspEnd hfault
      refine ⟨(showRet_sector y n).trans hsector, ?_, ?_, ?_, fun hw => showRet_faults y (hfault hw)⟩
      · rw [showRet_ret, herase]
      · rw [showRet_sup, hsuspAt]
      · rw [showRet_sup, hsuspEnd]
    · rw [eraseServed_eq m he hsusp hle, nextErase_cons _ (hpstore.trans hp) hl]
      generalize m.eraseDone n = y at hsector hsuspEnd hnow
      have hne : n ≠ x := by
        have hmem : x ∈ p.sectors.filter (fun y => y != n) := hl ▸ List.mem_cons_self
        exact fun h => bne_iff_ne.mp (List.mem_filter.mp hmem).2 h.symm
      obtain ⟨-, herase', hpstore', hsusp', -, hkept⟩ := startErase_does (y.stores { p with sectors := x :: xs }) x
      have hat := eraseAt_of_end (y.stores { p with sectors := x :: xs }) (hsuspEnd.trans (congrArg some hnow.symm))
      refine ⟨(showRet_sector _ n).trans ((hkept n hne).trans hsector), ?_, ?_, ?_⟩
      · rw [showRet_ret, herase']
      · rw [showRet_ret, hpstore', Mach.stores]
      · rw [showRet_sup, hsusp', hat]
        exact congrArg (fun k => some (k + 5000000)) hnow
  · refine ⟨answers_runRet hm (exec_paramStoreComplete s t none) ha ?_, fun j => answers_runRet hm (exec_paramStoreComplete s t (some j)) ha ?_⟩
    · obtain ⟨hstore, hret, hresult, hflag⟩ := parDone_does m p
      rw [show m.storeServed none = m.parDone p from storeServed_eq m none hp hempty]
      refine ⟨hstore, ?_, hresult, hflag, fun h0 => ?_, fun h1 => ?_⟩
      · rw [hret, Mach.imagePut]
      · rw [hret]
        exact ⟨if_pos h0, if_neg (by omega)⟩
      · rw [hret]
        exact ⟨if_pos h1, if_neg (by omega)⟩
    · rw [show m.storeServed (some j) = m.parFailed (8 * p.half + j.val) from storeServed_eq m (some j) hp hempty]
      exact parFailed_does m _
  · intro old
    refine ⟨fun hlow hst => answers_runRet hm (exec_protLevelWrite s t l) ha ?_, fun heq => answers_runRet hm (exec_protLevelWrite s t l) ha ?_,
      fun hmay => answers_runRet hm (exec_protLevelWrite s t l) ha ?_⟩
    · exact if_neg (by simpa [Mach.mayProtect, hst] using fun _ => hlow)
    · split
      · exact if_pos heq.symm
      · rfl
    · have hl : m.mayProtect l = true := by
        have := l.isLt
        simp only [Mach.mayProtect, Bool.and_eq_true, Bool.or_eq_true, decide_eq_true_eq, beq_iff_eq]
        exact ⟨by omega, hmay.imp Nat.le_of_lt And.right⟩
      rw [if_pos hl]
      exact setProtect_does m l.isLt (show old ≠ l.val by omega)

end Sys2Proof.Machine
end
